-- ==== Sys2Proof/Word.lean ====
section
/-!
DEFINITION. The words of the block: registers are 32 bits and little-endian (03 R98), counters 64, headers in bytes.
-/

namespace Sys2Proof

/-- A byte. -/
abbrev Byte := BitVec 8
/-- A 16-bit field. -/
abbrev Half := BitVec 16
/-- A register word (R98). -/
abbrev Word := BitVec 32
/-- A 64-bit value: counters, host addresses, engine registers. -/
abbrev DWord := BitVec 64

end Sys2Proof
end

