-- ==== Sys2Proof/Syntax.lean ====
section
/-!
DEFINITION. The commands of the block: one constructor of Instr per row of spec/opcode_table.json.
The table gives no row bits. A waybill row carries the waybill (header fields and parameter bytes, 02 R47); the
parameter fields are read at the offsets of the opcode's table by its meaning. An event or register row carries the
operands its rule names. Function numbers: 0 is PF0 of host link 0, 4096 is PF0 of host link 1, 1-4095 are flasks.
-/

namespace Sys2Proof

/-- A transport instance (02 R60): the ring of a function (PF0 link 0 is 0, PF0 link 1 is 4096, flask f is f), a
mailbox pair, a flask mailbox, an MCTP binding (0 SMBus, 1 I3C, 2 VDM) and endpoint, a caravan peer, the AOC command
path of JTAG (20 R650). -/
inductive Instance where
  | ring (fn : Nat)
  | mailbox (pair : Nat)
  | flaskMailbox (flask : Nat)
  | mctp (binding : Nat) (eid : Nat)
  | caravan (peer : Nat)
  | jtag
  deriving DecidableEq, Repr

/-- A waybill beside its opcode (02 R47): the instance it arrived on, the header fields and the parameter bytes. -/
structure Waybill where
  inst : Instance
  flags : Byte
  version : Byte
  tag : Half
  issuer : Word
  epoch : Word
  params : List Byte
  /-- The MCTP message tag the request came with (02 R67); 0 on other transports. -/
  mtag : Nat
  deriving DecidableEq, Repr

/-- Who makes a register access (03 R100, R101, R108). -/
inductive Src where
  | pf0 (link : Nat)
  | flask (f : Nat)
  | debugger
  | aoc
  deriving DecidableEq, Repr

/-- An MCTP packet (02 R67, R68; DSP0236): binding, source endpoint, start and end of message, packet sequence, tag
owner, message tag, payload (of a first packet: integrity check bit and message type first). -/
structure McPacket where
  binding : Nat
  srcEid : Nat
  som : Bool
  eom : Bool
  pktSeq : Nat
  tagOwner : Bool
  tag : Nat
  payload : List Byte
  deriving DecidableEq, Repr

/-- An MCTP control request (02 R68): binding, requester, message tag, instance ID, data bytes after the command. -/
structure McRequest where
  binding : Nat
  srcEid : Nat
  tag : Nat
  instId : Nat
  data : List Byte
  deriving DecidableEq, Repr


/-- What part of a frame arrives at a MAC (01 R25, R26): the whole frame; its head while it still streams in (the bytes are
those it will have); the tail of a frame in flight. -/
inductive RxPart where
  | whole
  | head
  | tail (frame : Nat)
  deriving DecidableEq, Repr

/-- A parity failure found during a step (07 R263, 08 R278, 09 R332, R333). -/
inductive ParFault where
  | node (n : Nat)
  | entry (way : Nat)
  | rule (r : Nat)
  | list (l : Nat)
  | way (table way : Nat)
  | line (line : Nat)
  deriving DecidableEq, Repr

/-- The content of a convoy control message (17 R557-R559, R565, R573), whose encoding the spec does not give (log entry 28): a
forwarded waybill; an ownership request relayed to the arbiter; the arbiter's ownership state for a member, with the home device; its
acknowledgement; the sequence values of SEQ_SYNC; the floor of a VOID notice; a LOST notice; a reply to a request; convoy digests. -/
inductive CvBody where
  | forward (w : List Byte)
  | relay (opcode : Half) (params : List Byte)
  | ownState (st home prio : Nat) (epoch : Word)
  | ownAck (epoch : Word)
  | sync (executed next : Nat)
  | void (floor : Nat)
  | lost (seq : Nat)
  | reply (seq : Nat) (bytes : List Byte)
  | digest (committed current : Word)
  deriving DecidableEq, Repr

/-- What an IDENT flit carries (17 R550): vendor and device, serial number, convoy ID, port, SIZE, link epoch. -/
structure IdentInfo where
  vendor : Nat
  device : Nat
  serial : Nat
  id : Nat
  port : Nat
  size : Nat
  epoch : Nat
  deriving DecidableEq, Repr

/-- Why a network port goes down (18 R577, R578): loss of lock, hi_ber, a local fault, a remote fault, no common mode in negotiation. -/
inductive LinkFault where
  | lock
  | hiBer
  | localFault
  | remoteFault
  | noMode
  deriving DecidableEq, Repr

/-- Who uses a mailbox side (14 R483, R487): a host driver, the debugger or the AOC; an engine thread by hart index; a control core. -/
inductive MbUser where
  | host (src : Src)
  | thread (hart : Nat)
  | core (n : Nat)
  deriving DecidableEq, Repr

/-- A DRAM request (16 R529): its class 1-6, the line of the DRAM offset, the 64 bytes it writes or none for a read. -/
structure DramReq where
  cls : Nat
  line : Nat
  wr : Option (List Byte)
  deriving DecidableEq, Repr

/-- What a lost DRAM line held beside plain bytes (16 R537): cells of a spilled frame; a way of a forwarding table. -/
inductive DramUse where
  | bytes
  | frame (h : Nat)
  | way (table way : Nat)
  deriving DecidableEq, Repr

/-- The components of one channel and how its training ended (16 R522, R533): speed code 0 none, 1-5; x4; density code; ranks
installed; ranks that failed a step; the configuration check passed. -/
structure DramPop where
  speed : Nat
  x4 : Bool
  density : Nat
  ranks : Nat
  failed : List Nat
  checkOk : Bool
  deriving DecidableEq, Repr

/-- A namespace of a drive or target (15 R511): its size in LBAs, its LBA data size, NGUID, and whether its format has no metadata. -/
structure NsInfo where
  nsid : Nat
  size : Nat
  lba : Nat
  nguid : List Byte
  noMeta : Bool
  deriving DecidableEq, Repr

/-- The condition a start step of a drive port waited for (15 R505): power good; link in L0; the wait after link-up, with the CAP.TO
read (in 500 ms); CSTS.RDY; the controller and its namespaces identified. -/
inductive DrvStep where
  | powerGood
  | linkUp (speed width : Nat)
  | waited (capTo : Nat)
  | ready
  | identified (serial model : List Byte) (ns : List NsInfo)
  deriving DecidableEq, Repr

/-- Where an NVMe completion comes from: an I/O queue of a drive, its admin queue, a remote target. -/
inductive NvmeFrom where
  | io (port : Nat)
  | admin (port : Nat)
  | target (t : Nat)
  deriving DecidableEq, Repr

/-- What a connected target answered (15 R516): I/O connections, digests taken ([0] header, [1] data), MAXH2CDATA, namespaces. -/
structure TgtInfo where
  conns : Nat
  digests : Nat
  maxH2c : Nat
  ns : List NsInfo
  deriving DecidableEq, Repr

/-- What a host data read was issued for (13 R463, 15 R514, 02 R61): a mover channel; the buffer of a block entry; a request ring. -/
inductive HostReadWho where
  | mover (chan : Nat)
  | block (q idx : Nat)
  | ring (fn : Nat)
  deriving DecidableEq, Repr

/-- The margin in mV a part's own monitor reports (19 R617). -/
structure PartMargin where
  kind : Nat
  index : Nat
  mv : Nat
  deriving DecidableEq, Repr
/-- The commands (spec/opcode_table.json). -/
inductive Instr where
  /-- WAYBILL_START (R71). -/
  | waybillStart (inst : Instance)
  /-- UNDEFINED_OPCODE (R21). -/
  | undefinedOpcode (opcode : Half) (w : Waybill)
  /-- WB_REQ_PROD (R63). -/
  | wbReqProd (fn : Nat) (v : Word)
  /-- WB_RSP_CONS (R62). -/
  | wbRspCons (fn : Nat) (v : Word)
  /-- WB_REQ_CTRL (R64). -/
  | wbReqCtrl (fn : Nat) (v : Word)
  /-- WB_RSP_CTRL (R64). -/
  | wbRspCtrl (fn : Nat) (v : Word)
  /-- CHAIN_MEMBER_TIMEOUT (R75). -/
  | chainMemberTimeout (inst : Instance)
  /-- PENDING_TIMEOUT (R77). -/
  | pendingTimeout (inst : Instance) (tag : Half)
  /-- ELECTION_WINDOW_CLOSE (R80). -/
  | electionWindowClose
  /-- HEARTBEAT_DEADLINE (R83). -/
  | heartbeatDeadline
  /-- HB_KICK (R83). -/
  | hbKick (src : Src) (v : Word)
  /-- OWN_OVERRIDE (R84). -/
  | ownOverride (src : Src) (compl : Word)
  /-- MCTP_PACKET (R68). -/
  | mctpPacket (p : McPacket)
  /-- MCTP_REASSEMBLY_TIMEOUT (R68). -/
  | mctpReassemblyTimeout (binding : Nat) (eid : Nat) (tag : Nat)
  /-- SET_ENDPOINT_ID (R68). -/
  | setEndpointId (r : McRequest)
  /-- GET_ENDPOINT_ID (R68). -/
  | getEndpointId (r : McRequest)
  /-- GET_ENDPOINT_UUID (R68). -/
  | getEndpointUuid (r : McRequest)
  /-- GET_MCTP_VERSION_SUPPORT (R68). -/
  | getMctpVersionSupport (r : McRequest)
  /-- GET_MESSAGE_TYPE_SUPPORT (R68). -/
  | getMessageTypeSupport (r : McRequest)
  /-- GET_VENDOR_DEFINED_MESSAGE_SUPPORT (R68). -/
  | getVendorDefinedMessageSupport (r : McRequest)
  /-- UNSUPPORTED_CONTROL_COMMAND (R68). -/
  | unsupportedControlCommand (r : McRequest) (cmd : Byte)
  /-- AOC_FORWARD_TIMEOUT (R69). -/
  | aocForwardTimeout
  /-- DEV_INFO (R90). -/
  | devInfo (w : Waybill)
  /-- CLAIM (R80). -/
  | claim (w : Waybill)
  /-- RELEASE (R82). -/
  | release (w : Waybill)
  /-- GRANT (R82). -/
  | grant (w : Waybill)
  /-- HEARTBEAT (R83). -/
  | heartbeat (w : Waybill)
  /-- OWNER_QUERY (R90). -/
  | ownerQuery (w : Waybill)
  /-- SET_HEARTBEAT (R83). -/
  | setHeartbeat (w : Waybill)
  /-- REVOKE (R84). -/
  | revoke (w : Waybill)
  /-- SEAL_COMMIT (R92). -/
  | sealCommit (w : Waybill)
  /-- SEAL_QUERY (R90). -/
  | sealQuery (w : Waybill)
  /-- ECHO (R90). -/
  | echo (w : Waybill)
  /-- SEAL_SWEEP (R118). -/
  | sealSweep (unit : Nat)
  /-- STATUS_CLEAR (R111). -/
  | statusClear (src : Src) (addr : Nat) (v : Word)
  /-- REGISTER_WRITE (R101). -/
  | registerWrite (src : Src) (addr : Nat) (len : Nat) (v : DWord)
  /-- ACCESS_ERROR (R99). -/
  | accessError (src : Src) (write : Bool) (addr : Nat) (len : Nat) (partialBe : Bool)
  /-- DOMAIN_OFF_ACCESS (R36). -/
  | domainOffAccess (src : Src) (write : Bool) (addr : Nat) (len : Nat)
  /-- GUARD_VALUE_WRITE (R107). -/
  | guardValueWrite (src : Src) (addr : Nat) (v : Word)
  /-- GUARD_WINDOW_EXPIRY (R107). -/
  | guardWindowExpiry (unit : Nat)
  /-- COMPLEMENT_WITHOUT_GUARD (R107). -/
  | complementWithoutGuard (src : Src) (addr : Nat) (v : Word)
  /-- RST_CTRL_DEVICE (R635). -/
  | rstCtrlDevice (src : Src) (compl : Word)
  /-- RST_CTRL_UNIT (R636). -/
  | rstCtrlUnit (src : Src) (compl : Word)
  /-- PD_OFF (R629). -/
  | pdOff (src : Src) (hi : Bool) (compl : Word)
  /-- REVOKE_KEY (R652). -/
  | revokeKey (src : Src) (compl : Word)
  /-- RAISE_SVN (R652). -/
  | raiseSvn (src : Src) (compl : Word)
  /-- DEBUG_LOCK (R652). -/
  | debugLock (src : Src) (compl : Word)
  /-- FUSE_PROGRAM_DONE (R652). -/
  | fuseProgramDone
  /-- KS_ZEROIZE (R396). -/
  | ksZeroize (src : Src) (compl : Word)
  /-- KS_ZEROIZE_ALL (R396). -/
  | ksZeroizeAll (src : Src) (compl : Word)
  /-- MB_LOCK_FREE (R496). -/
  | mbLockFree (src : Src) (compl : Word)
  /-- RSV_FORCE (R620). -/
  | rsvForce (src : Src) (compl : Word)
  /-- RSV_FORCE_RESTORE (R620). -/
  | rsvForceRestore (src : Src) (compl : Word)
  /-- PEEK (R126). -/
  | peek (src : Src) (v : Word)
  /-- FLR (R157). -/
  | flr (fn : Nat)
  /-- FLASK_RESET_DONE (R158). -/
  | flaskResetDone (fn : Nat)
  /-- HOST_READ_ERROR (R150). -/
  | hostReadError (fn : Nat) (cause : Nat) (ring : Bool) (queue : Nat) (idx : Option Nat) (addr : Nat)
  /-- FLASK_CTRL_RELEASE (R155). -/
  | flaskCtrlRelease (f : Nat)
  /-- MSIX_VECTOR_UNMASK (R141). -/
  | msixVectorUnmask (fn : Nat) (v : Nat)
  /-- MSIX_ENABLE (R143). -/
  | msixEnable (fn : Nat) (en : Bool)
  /-- INTX_ACK (R143). -/
  | intxAck (link : Nat) (v : Nat)
  /-- HOST_LINK_UP (R129). -/
  | hostLinkUp (link : Nat) (speed : Nat) (width : Nat) (flit : Bool)
  /-- HOT_RESET (R161). -/
  | hotReset (link : Nat)
  /-- HOST_LINK_DOWN (R161). -/
  | hostLinkDown (link : Nat)
  /-- PERST_N (R130). -/
  | perstN (level : Bool) (bootSel : Nat) (convoyId : Nat) (hostBif : Bool)
  /-- PERST1_N (R130). -/
  | perst1N (level : Bool)
  /-- VF_ENABLE_SET (R161). -/
  | vfEnableSet (link : Nat) (numVFs : Nat)
  /-- VF_ENABLE_CLEAR (R161). -/
  | vfEnableClear (link : Nat)
  /-- FUNCTION_SERVICE_STOP (R144). -/
  | functionServiceStop (fn : Nat) (d3hot : Bool)
  /-- FUNCTION_SERVICE_RESUME (R144). -/
  | functionServiceResume (fn : Nat)
  /-- VF_BAR2_SIZE_WRITE (R139). -/
  | vfBar2SizeWrite (link : Nat) (size : Nat)
  /-- BAR2_ACCESS (R138). -/
  | bar2Access (src : Src) (write : Bool) (off : Nat) (len : Nat) (data : List Byte)
  /-- FLASK_QUERY (R165). -/
  | flaskQuery (w : Waybill)
  /-- FLASK_CREATE (R149). -/
  | flaskCreate (w : Waybill)
  /-- FLASK_DESTROY (R149). -/
  | flaskDestroy (w : Waybill)
  /-- FLASK_SET_QUOTA (R148). -/
  | flaskSetQuota (w : Waybill)
  /-- FLASK_RESET (R158). -/
  | flaskReset (w : Waybill)
  /-- FLASK_RELEASE (R155). -/
  | flaskRelease (w : Waybill)
  /-- FLASK_CONTAIN (R150). -/
  | flaskContain (w : Waybill)
  /-- FLASK_LIST (R165). -/
  | flaskList (w : Waybill)
  /-- LINK_QUERY (R165). -/
  | linkQuery (w : Waybill)
  /-- WQ_DOORBELL (R184). -/
  | wqDoorbell (src : Src) (slot : Nat) (len : Nat) (v : DWord)
  /-- CQ_DOORBELL (R196). -/
  | cqDoorbell (src : Src) (slot : Nat) (len : Nat) (v : DWord)
  /-- FETCH (R186). -/
  | fetch
  /-- FETCH_RETURN (R187). -/
  | fetchReturn (q : Nat) (data : List Byte)
  /-- ACCEPT_COMMIT (R206). -/
  | acceptCommit (q : Nat)
  /-- PAYLOAD_READ_RETURN (R28). -/
  | payloadReadReturn (q : Nat) (idx : Nat) (data : List Byte)
  /-- FRAGMENT_TABLE_RETURN (R175). -/
  | fragmentTableReturn (q : Nat) (idx : Nat) (data : List Byte)
  /-- COMPLETION_COMMIT (R215). -/
  | completionCommit (q : Nat) (idx : Nat)
  /-- COMPLETION_WRITE (R181). -/
  | completionWrite (q : Nat)
  /-- MODERATION_TIMER (R195). -/
  | moderationTimer (c : Nat)
  /-- RX_PREFETCH (R190). -/
  | rxPrefetch (q : Nat)
  /-- RX_DELIVERY_CHECK (R192). -/
  | rxDeliveryCheck (q : Nat)
  /-- RX_HOLD_EXPIRY (R193). -/
  | rxHoldExpiry (q : Nat)
  /-- NOP (R172). -/
  | nop (q : Nat) (idx : Nat)
  /-- SEND (R173). -/
  | send (q : Nat) (idx : Nat)
  /-- RECV (R173). -/
  | recv (q : Nat) (idx : Nat)
  /-- BLK_READ (R177). -/
  | blkRead (q : Nat) (idx : Nat)
  /-- BLK_WRITE (R177). -/
  | blkWrite (q : Nat) (idx : Nat)
  /-- BLK_FLUSH (R512). -/
  | blkFlush (q : Nat) (idx : Nat)
  /-- BLK_DEALLOCATE (R514). -/
  | blkDeallocate (q : Nat) (idx : Nat)
  /-- BLK_WRITE_ZEROES (R514). -/
  | blkWriteZeroes (q : Nat) (idx : Nat)
  /-- WQ_CREATE (R204). -/
  | wqCreate (w : Waybill)
  /-- WQ_DESTROY (R201). -/
  | wqDestroy (w : Waybill)
  /-- WQ_MODIFY (R204). -/
  | wqModify (w : Waybill)
  /-- WQ_PAUSE (R198). -/
  | wqPause (w : Waybill)
  /-- WQ_PAUSE_DONE (R198). -/
  | wqPauseDone (q : Nat)
  /-- WQ_RESUME (R198). -/
  | wqResume (w : Waybill)
  /-- WQ_RESIZE (R199). -/
  | wqResize (w : Waybill)
  /-- WQ_SHUTDOWN (R200). -/
  | wqShutdown (w : Waybill)
  /-- WQ_SHUTDOWN_DONE (R200). -/
  | wqShutdownDone (q : Nat)
  /-- WQ_QUERY (R204). -/
  | wqQuery (w : Waybill)
  /-- CQ_CREATE (R196). -/
  | cqCreate (w : Waybill)
  /-- CQ_DESTROY (R201). -/
  | cqDestroy (w : Waybill)
  /-- CQ_MODIFY (R204). -/
  | cqModify (w : Waybill)
  /-- CQ_QUERY (R204). -/
  | cqQuery (w : Waybill)
  /-- QM_SET_PARAMS (R204). -/
  | qmSetParams (w : Waybill)
  /-- MIRROR_ROW_ERROR (R230). -/
  | mirrorRowError (half : Bool) (row : Nat) (uncorr : Bool)
  /-- ROW_REPAIR_DONE (R230). -/
  | rowRepairDone (half : Bool) (row : Nat)
  /-- DOUBLE_FAULT (R231). -/
  | doubleFault (q : Nat) (idx : Option Nat)
  /-- HALF_LOST (R232). -/
  | halfLost (half : Bool)
  /-- FALLBACK_COPY_DONE (R232). -/
  | fallbackCopyDone
  /-- HALF_DOMAIN_RETURN (R233). -/
  | halfDomainReturn (half : Bool)
  /-- HALF_RESTORE_DONE (R233). -/
  | halfRestoreDone (half : Bool)
  /-- FRAME_RECEIVED (R580). -/
  | frameReceived (port : Nat) (part : RxPart) (bytes : List Byte) (fcsOk : Bool)
  /-- MACSEC_RECEIVE (R380). -/
  | macsecReceive (frame : Nat)
  /-- PARSE_PASS (R253). -/
  | parsePass (frame : Nat) (faults : List ParFault)
  /-- PARSE_EXCEPTION_DELIVERY (R261). -/
  | parseExceptionDelivery
  /-- CLASSIFIER_EXCEPTION_DELIVERY (R300). -/
  | classifierExceptionDelivery
  /-- BANK_LOCK_TIMEOUT (R262). -/
  | bankLockTimeout (tx : Bool)
  /-- ENGINE_TIMEOUT (R299). -/
  | engineTimeout (frame : Nat)
  /-- PARSE_GRAPH_LOAD (R262). -/
  | parseGraphLoad (w : Waybill)
  /-- PARSE_GRAPH_ACTIVATE (R262). -/
  | parseGraphActivate (w : Waybill)
  /-- PARSE_GRAPH_READ (R266). -/
  | parseGraphRead (w : Waybill)
  /-- PARSE_SET_DEPTH (R266). -/
  | parseSetDepth (w : Waybill)
  /-- PARSE_SET_EXC (R266). -/
  | parseSetExc (w : Waybill)
  /-- PARSE_SET_GENEVE (R266). -/
  | parseSetGeneve (w : Waybill)
  /-- PARSE_QUERY (R266). -/
  | parseQuery (w : Waybill)
  /-- PARSE_TEST (R266). -/
  | parseTest (w : Waybill)
  /-- CL_QUERY (R304). -/
  | clQuery (w : Waybill)
  /-- GROUP_SET (R269). -/
  | groupSet (w : Waybill)
  /-- GROUP_READ (R304). -/
  | groupRead (w : Waybill)
  /-- TOLL_ALLOC (R280). -/
  | tollAlloc (w : Waybill)
  /-- TOLL_FREE (R283). -/
  | tollFree (w : Waybill)
  /-- TOLL_QUERY (R304). -/
  | tollQuery (w : Waybill)
  /-- ACTION_SET (R287). -/
  | actionSet (w : Waybill)
  /-- ACTION_READ (R304). -/
  | actionRead (w : Waybill)
  /-- RULE_ADD (R277). -/
  | ruleAdd (w : Waybill)
  /-- RULE_DELETE (R276). -/
  | ruleDelete (w : Waybill)
  /-- RULE_MODIFY (R276). -/
  | ruleModify (w : Waybill)
  /-- RULE_QUERY (R304). -/
  | ruleQuery (w : Waybill)
  /-- CL_SET_PARAMS (R304). -/
  | clSetParams (w : Waybill)
  /-- ENGINE_SET_DEFINE (R304). -/
  | engineSetDefine (w : Waybill)
  /-- MIRROR_SET (R304). -/
  | mirrorSet (w : Waybill)
  /-- TEMPLATE_SET (R293). -/
  | templateSet (w : Waybill)
  /-- CL_TEST (R304). -/
  | clTest (w : Waybill)
  /-- CL_CLEAR (R304). -/
  | clClear (w : Waybill)
  /-- CL_CLEAR_DONE (R304). -/
  | clClearDone
  /-- INSERT (R317). -/
  | insert (port : Nat)
  /-- UPDATE (R316). -/
  | update (port : Nat)
  /-- REPLACE (R316). -/
  | replace (port : Nat)
  /-- DELETE (R316). -/
  | delete (port : Nat)
  /-- READ (R316). -/
  | read (port : Nat)
  /-- READ_AT (R316). -/
  | readAt (port : Nat)
  /-- CLEAR_AT (R332). -/
  | clearAt (port : Nat)
  /-- LOOKUP_DRAM_READ (R312). -/
  | lookupDramRead (frame : Nat) (faults : List ParFault)
  /-- COPIER_STEP (R322). -/
  | copierStep (t : Nat)
  /-- TBL_FLIP_DONE (R324). -/
  | tblFlipDone (t : Nat)
  /-- TABLE_BULK_DONE (R336). -/
  | tableBulkDone (t : Nat)
  /-- LEARN_INSERT (R329). -/
  | learnInsert
  /-- AGE_SWEEP (R330). -/
  | ageSweep (t : Nat)
  /-- TBL_QUERY (R336). -/
  | tblQuery (w : Waybill)
  /-- TBL_CREATE (R305). -/
  | tblCreate (w : Waybill)
  /-- TBL_DESTROY (R336). -/
  | tblDestroy (w : Waybill)
  /-- TBL_INSERT (R336). -/
  | tblInsert (w : Waybill)
  /-- TBL_UPDATE (R336). -/
  | tblUpdate (w : Waybill)
  /-- TBL_REPLACE (R336). -/
  | tblReplace (w : Waybill)
  /-- TBL_DELETE (R336). -/
  | tblDelete (w : Waybill)
  /-- TBL_READ (R336). -/
  | tblRead (w : Waybill)
  /-- TBL_WALK (R336). -/
  | tblWalk (w : Waybill)
  /-- TBL_REHASH (R322). -/
  | tblRehash (w : Waybill)
  /-- TBL_FLIP (R324). -/
  | tblFlip (w : Waybill)
  /-- TBL_REHASH_CANCEL (R325). -/
  | tblRehashCancel (w : Waybill)
  /-- TBL_FLUSH (R336). -/
  | tblFlush (w : Waybill)
  /-- TBL_SET_PARAMS (R336). -/
  | tblSetParams (w : Waybill)
  /-- LOOKUP_PROFILE_SET (R310). -/
  | lookupProfileSet (w : Waybill)
  /-- LEARN_PROFILE_SET (R326). -/
  | learnProfileSet (w : Waybill)
  /-- LK_SET_PARAMS (R336). -/
  | lkSetParams (w : Waybill)
  /-- LK_TEST (R336). -/
  | lkTest (w : Waybill)
  /-- TM_ENQUEUE (R355). -/
  | tmEnqueue (frame : Nat)
  /-- TM_DEPARTURE (R342). -/
  | tmDeparture (port : Nat)
  /-- SPILL_READBACK (R357). -/
  | spillReadback (frame : Nat)
  /-- TM_SAMPLE (R360). -/
  | tmSample (q : Nat)
  /-- SAMPLE_FRAME_TIMER (R360). -/
  | sampleFrameTimer (q : Nat)
  /-- TMQ_DESTROY_DONE (R366). -/
  | tmqDestroyDone (q : Nat)
  /-- TM_QUERY (R366). -/
  | tmQuery (w : Waybill)
  /-- TMQ_CREATE (R366). -/
  | tmqCreate (w : Waybill)
  /-- TMQ_DESTROY (R366). -/
  | tmqDestroy (w : Waybill)
  /-- TMQ_MODIFY (R366). -/
  | tmqModify (w : Waybill)
  /-- TMQ_QUERY (R366). -/
  | tmqQuery (w : Waybill)
  /-- NODE_CREATE (R366). -/
  | nodeCreate (w : Waybill)
  /-- NODE_DESTROY (R366). -/
  | nodeDestroy (w : Waybill)
  /-- NODE_MODIFY (R366). -/
  | nodeModify (w : Waybill)
  /-- CLASS_SET (R344). -/
  | classSet (w : Waybill)
  /-- PORT_SET (R348). -/
  | portSet (w : Waybill)
  /-- POLICER_SET (R352). -/
  | policerSet (w : Waybill)
  /-- POLICER_QUERY (R366). -/
  | policerQuery (w : Waybill)
  /-- TM_SET_BUFFER (R364). -/
  | tmSetBuffer (w : Waybill)
  /-- SEGMENT_DISPATCH (R383). -/
  | segmentDispatch (complex : Nat) (lane : Nat)
  /-- SEGMENT_DONE (R385). -/
  | segmentDone (complex : Nat) (lane : Nat)
  /-- BLOCK_PARITY_ERROR (R388). -/
  | blockParityError (complex : Nat) (lane : Nat) (stage : Nat) (again : Bool)
  /-- RESERVE_LANE_READY (R389). -/
  | reserveLaneReady (complex : Nat) (pass : Bool)
  /-- CM_RESEED (R370). -/
  | cmReseed (complex : Nat)
  /-- DRBG_RESEED (R398). -/
  | drbgReseed
  /-- HEALTH_TEST_FAIL (R400). -/
  | healthTestFail (test : Nat)
  /-- RESTART_ATTEMPT_END (R400). -/
  | restartAttemptEnd (fail : Option Nat)
  /-- KEY_DRAIN_DONE (R395). -/
  | keyDrainDone (slot : Nat)
  /-- KEY_ECC_ERROR (R397). -/
  | keyEccError (slot : Nat) (uncorr : Bool)
  /-- CX_QUERY (R404). -/
  | cxQuery (w : Waybill)
  /-- KEY_ALLOC (R393). -/
  | keyAlloc (w : Waybill)
  /-- KEY_LOAD (R394). -/
  | keyLoad (w : Waybill)
  /-- KEY_UPDATE (R404). -/
  | keyUpdate (w : Waybill)
  /-- KEY_FREE (R395). -/
  | keyFree (w : Waybill)
  /-- KEY_ZEROIZE (R396). -/
  | keyZeroize (w : Waybill)
  /-- KEY_QUERY (R404). -/
  | keyQuery (w : Waybill)
  /-- TLS_RESYNC (R378). -/
  | tlsResync (w : Waybill)
  /-- MACSEC_RXSC_SET (R380). -/
  | macsecRxscSet (w : Waybill)
  /-- CX_SET_PARAMS (R404). -/
  | cxSetParams (w : Waybill)
  /-- CX_KAT (R404). -/
  | cxKat (w : Waybill)
  /-- RNG_GET (R399). -/
  | rngGet (w : Waybill)
  /-- RNG_QUERY (R404). -/
  | rngQuery (w : Waybill)
  /-- RNG_SET_PARAMS (R404). -/
  | rngSetParams (w : Waybill)
  /-- RNG_RESTART (R400). -/
  | rngRestart (w : Waybill)
  /-- THREAD_DISPATCH (R415). -/
  | threadDispatch (hart : Nat)
  /-- TIMER_COMPARE (R418). -/
  | timerCompare (hart : Nat)
  /-- RUN_LIMIT_EXPIRY (R420). -/
  | runLimitExpiry (hart : Nat)
  /-- EVENT_LINE_EDGE (R419). -/
  | eventLineEdge (cluster : Nat) (line : Nat)
  /-- WORKER_FAULT (R421). -/
  | workerFault (hart : Nat) (cause : Nat) (sub : Nat) (tval : Nat)
  /-- SAMPLE_OVERFLOW (R443). -/
  | sampleOverflow (hart : Nat) (counter : Nat) (pc : Nat) (truePc : Nat)
  /-- LR_RESERVATION_EXPIRY (R412). -/
  | lrReservationExpiry (hart : Nat)
  /-- ENGINE_HARDWARE_FAULT (R425). -/
  | engineHardwareFault (cluster : Nat) (phys : Nat) (cause : Nat) (selfTest : Bool) (lost : List Nat)
  /-- SUPERVISOR_FAULT (R424). -/
  | supervisorFault (engine : Nat) (cause : Nat) (sub : Nat) (tval : Nat)
  /-- SUPERVISOR_AUTO_RESTART (R424). -/
  | supervisorAutoRestart (engine : Nat)
  /-- EXCHANGE_KILL_TIMEOUT (R447). -/
  | exchangeKillTimeout (cluster : Nat)
  /-- HDR_LD_B (R429). -/
  | hdrLdB (hart : Nat)
  /-- HDR_LD_H (R429). -/
  | hdrLdH (hart : Nat)
  /-- HDR_LD_W (R429). -/
  | hdrLdW (hart : Nat)
  /-- HDR_LD_D (R429). -/
  | hdrLdD (hart : Nat)
  /-- HDR_ST_B (R429). -/
  | hdrStB (hart : Nat)
  /-- HDR_ST_H (R429). -/
  | hdrStH (hart : Nat)
  /-- HDR_ST_W (R429). -/
  | hdrStW (hart : Nat)
  /-- HDR_ST_D (R429). -/
  | hdrStD (hart : Nat)
  /-- PKT_RD (R429). -/
  | pktRd (hart : Nat)
  /-- PKT_WR (R429). -/
  | pktWr (hart : Nat)
  /-- PKT_ADJ (R430). -/
  | pktAdj (hart : Nat)
  /-- META_RD (R430). -/
  | metaRd (hart : Nat)
  /-- META_WR (R430). -/
  | metaWr (hart : Nat)
  /-- DISPOSE (R431). -/
  | dispose (hart : Nat)
  /-- TLK (R432). -/
  | tlk (hart : Nat)
  /-- CT_FIND (R433). -/
  | ctFind (hart : Nat)
  /-- CT_INS (R433). -/
  | ctIns (hart : Nat)
  /-- CT_DEL (R433). -/
  | ctDel (hart : Nat)
  /-- CNT_ADD (R429). -/
  | cntAdd (hart : Nat)
  /-- ENQ (R429). -/
  | enq (hart : Nat)
  /-- RATE_SET (R351). -/
  | rateSet (hart : Nat)
  /-- CRYPT (R434). -/
  | crypt (hart : Nat)
  /-- RAND (R435). -/
  | rand (hart : Nat)
  /-- YIELD (R420). -/
  | yield (hart : Nat)
  /-- WAIT_T (R418). -/
  | waitT (hart : Nat)
  /-- TRES (R423). -/
  | tres (hart : Nat)
  /-- TREG_R (R423). -/
  | tregR (hart : Nat)
  /-- TREG_W (R423). -/
  | tregW (hart : Nat)
  /-- RADD (R438). -/
  | radd (hart : Nat)
  /-- RSUB (R438). -/
  | rsub (hart : Nat)
  /-- RMUL (R438). -/
  | rmul (hart : Nat)
  /-- RDIV (R438). -/
  | rdiv (hart : Nat)
  /-- RMIN (R438). -/
  | rmin (hart : Nat)
  /-- RMAX (R438). -/
  | rmax (hart : Nat)
  /-- RCVT_WU (R440). -/
  | rcvtWu (hart : Nat)
  /-- RCVT_R (R440). -/
  | rcvtR (hart : Nat)
  /-- ECALL (R422). -/
  | ecall (hart : Nat)
  /-- EBREAK (R422). -/
  | ebreak (hart : Nat)
  /-- DEBUG_HALT (R449). -/
  | debugHalt (hart : Nat)
  /-- DEBUG_RESUME (R448). -/
  | debugResume (hart : Nat)
  /-- HARTRESET (R448). -/
  | hartreset (hart : Nat)
  /-- ABSTRACT_ACCESS_REGISTER (R448). -/
  | abstractAccessRegister (hart : Nat) (command : Word)
  /-- ABSTRACT_ACCESS_MEMORY (R450). -/
  | abstractAccessMemory (hart : Nat) (command : Word)
  /-- ENG_QUERY (R453). -/
  | engQuery (w : Waybill)
  /-- ENG_LOAD (R447). -/
  | engLoad (w : Waybill)
  /-- ENG_SWAP (R447). -/
  | engSwap (w : Waybill)
  /-- ENG_READ_BANK (R453). -/
  | engReadBank (w : Waybill)
  /-- ENG_SET_PARAMS (R453). -/
  | engSetParams (w : Waybill)
  /-- ENG_DRAM_WIN (R411). -/
  | engDramWin (w : Waybill)
  /-- ENG_LINE_SET (R419). -/
  | engLineSet (w : Waybill)
  /-- ENG_CT_SET (R433). -/
  | engCtSet (w : Waybill)
  /-- ENG_THREAD_QUERY (R453). -/
  | engThreadQuery (w : Waybill)
  /-- ENG_CNT_READ (R453). -/
  | engCntRead (w : Waybill)
  /-- ENG_MEM_READ (R453). -/
  | engMemRead (w : Waybill)
  /-- ENG_MEM_WRITE (R453). -/
  | engMemWrite (w : Waybill)
  /-- ENG_RESTART_SUP (R424). -/
  | engRestartSup (w : Waybill)
  /-- MV_COPY (R468). -/
  | mvCopy (chan : Nat)
  /-- MV_GATHER (R462). -/
  | mvGather (chan : Nat)
  /-- MV_SCATTER (R462). -/
  | mvScatter (chan : Nat)
  /-- MV_INTERLEAVE (R462). -/
  | mvInterleave (chan : Nat)
  /-- MV_DEINTERLEAVE (R462). -/
  | mvDeinterleave (chan : Nat)
  /-- MV_BITPLANE (R462). -/
  | mvBitplane (chan : Nat)
  /-- MV_BITPLANE_INV (R462). -/
  | mvBitplaneInv (chan : Nat)
  /-- MV_FILL (R461). -/
  | mvFill (chan : Nat)
  /-- MV_RANDOM (R475). -/
  | mvRandom (chan : Nat)
  /-- MOVER_DESCRIPTOR_START (R457). -/
  | moverDescriptorStart (chan : Nat)
  /-- CHUNK_WRITTEN (R463). -/
  | chunkWritten (chan : Nat)
  /-- BARRIER_READ_RETURN (R465). -/
  | barrierReadReturn (chan : Nat)
  /-- MOVER_FAULT (R466). -/
  | moverFault (chan : Nat)
  /-- ENGINE_RING_PROD (R478). -/
  | engineRingProd (cluster : Nat)
  /-- MV_QUERY (R481). -/
  | mvQuery (w : Waybill)
  /-- MV_BIND (R456). -/
  | mvBind (w : Waybill)
  /-- MV_CHAN_SET (R470). -/
  | mvChanSet (w : Waybill)
  /-- MV_SET_PARAMS (R472). -/
  | mvSetParams (w : Waybill)
  /-- MV_ENG_RING (R478). -/
  | mvEngRing (w : Waybill)
  /-- MV_CHAN_QUERY (R481). -/
  | mvChanQuery (w : Waybill)
  /-- MB_TX (R489). -/
  | mbTx (user : MbUser) (key : Nat) (side : Bool) (w : Word)
  /-- MB_TX_EOM (R489). -/
  | mbTxEom (user : MbUser) (key : Nat) (side : Bool) (w : Word)
  /-- MB_RX (R489). -/
  | mbRx (user : MbUser) (key : Nat) (side : Bool)
  /-- MB_LOCK_READ (R492). -/
  | mbLockRead (user : MbUser) (key : Nat) (side : Bool)
  /-- MB_LOCK_WRITE (R492). -/
  | mbLockWrite (user : MbUser) (key : Nat) (side : Bool)
  /-- MB_SEND_TIMEOUT (R490). -/
  | mbSendTimeout (key : Nat) (side : Bool)
  /-- MB_WAKE_DONE (R494). -/
  | mbWakeDone (key : Nat) (side : Bool)
  /-- WAKE_FAIL (R494). -/
  | wakeFail (key : Nat) (side : Bool)
  /-- DRIVE_INSERTED (R505). -/
  | driveInserted (port : Nat)
  /-- DRIVE_START_STEP_DONE (R505). -/
  | driveStartStepDone (port : Nat) (done : DrvStep)
  /-- DRIVE_START_STEP_TIMEOUT (R505). -/
  | driveStartStepTimeout (port : Nat)
  /-- DRIVE_REMOVED (R506). -/
  | driveRemoved (port : Nat)
  /-- DRIVE_LINK_DOWN (R506). -/
  | driveLinkDown (port : Nat)
  /-- DRIVE_POWER_FAULT (R506). -/
  | drivePowerFault (port : Nat)
  /-- ATTENTION_BUTTON (R507). -/
  | attentionButton (port : Nat)
  /-- BLINK_EXPIRY (R505). -/
  | blinkExpiry (port : Nat)
  /-- SHUTDOWN_COMPLETE (R507). -/
  | shutdownComplete (port : Nat)
  /-- DRIVE_CMD_TIMEOUT (R510). -/
  | driveCmdTimeout (port : Nat) (cid : Nat)
  /-- CONTROLLER_FATAL (R510). -/
  | controllerFatal (port : Nat)
  /-- CONTROLLER_RESET_DONE (R510). -/
  | controllerResetDone (port : Nat) (ok : Bool)
  /-- NVME_COMPLETION (R512). -/
  | nvmeCompletion (src : NvmeFrom) (cid : Nat) (cqe : List Byte) (data : List Byte)
  /-- DRIVE_DMA_REQUEST (R503). -/
  | driveDmaRequest (port : Nat) (write : Bool) (addr : Nat) (len : Nat) (data : List Byte)
  /-- C2HDATA (R516). -/
  | c2hdata (t : Nat) (cid : Nat) (off : Nat) (data : List Byte) (last : Bool) (success : Bool)
  /-- READY_TO_TRANSFER (R516). -/
  | readyToTransfer (t : Nat) (cid : Nat) (ttag : Nat) (off : Nat) (len : Nat)
  /-- DATA_DIGEST_ERROR (R517). -/
  | dataDigestError (t : Nat) (cid : Nat)
  /-- CONNECTION_CLOSE (R517). -/
  | connectionClose (t : Nat) (header : Bool)
  /-- TCP_RTO (R516). -/
  | tcpRto (t : Nat) (conn : Nat)
  /-- RECONNECT_TIMEOUT (R517). -/
  | reconnectTimeout (t : Nat)
  /-- DRV_QUERY (R520). -/
  | drvQuery (w : Waybill)
  /-- DRV_POWER (R507). -/
  | drvPower (w : Waybill)
  /-- DRV_ADMIN (R520). -/
  | drvAdmin (w : Waybill)
  /-- TGT_CONNECT (R516). -/
  | tgtConnect (w : Waybill)
  /-- TGT_DISCONNECT (R520). -/
  | tgtDisconnect (w : Waybill)
  /-- TGT_QUERY (R520). -/
  | tgtQuery (w : Waybill)
  /-- VBF_CREATE (R511). -/
  | vbfCreate (w : Waybill)
  /-- VBF_DESTROY (R520). -/
  | vbfDestroy (w : Waybill)
  /-- EXTENT_SET (R520). -/
  | extentSet (w : Waybill)
  /-- VBF_QUERY (R520). -/
  | vbfQuery (w : Waybill)
  /-- DP_SET_PARAMS (R520). -/
  | dpSetParams (w : Waybill)
  /-- DRV_PORT_SET (R520). -/
  | drvPortSet (w : Waybill)
  /-- MB_ASSIGN (R498). -/
  | mbAssign (w : Waybill)
  /-- EF_ROUTE_SET (R495). -/
  | efRouteSet (w : Waybill)
  /-- EF_SET_SAMPLE_VEC (R495). -/
  | efSetSampleVec (w : Waybill)
  /-- DRAM_REQUEST (R529). -/
  | dramRequest (channel : Nat) (reqs : List DramReq)
  /-- REFRESH (R531). -/
  | refresh (channel : Nat) (rank : Nat)
  /-- MR4_READ (R531). -/
  | mr4Read (channel : Nat) (temps : List Nat)
  /-- DRAM_CORRECTABLE_ERROR (R536). -/
  | dramCorrectableError (line : Nat)
  /-- DRAM_UNCORRECTABLE_ERROR (R537). -/
  | dramUncorrectableError (line : Nat) (use : DramUse)
  /-- PATROL_SCRUB (R538). -/
  | patrolScrub (channel : Nat)
  /-- RETRAIN_ROUND (R534). -/
  | retrainRound (channel : Nat) (drifted : List Nat)
  /-- MIGRATION_STEP (R540). -/
  | migrationStep (channel : Nat)
  /-- WITHDRAWAL (R541). -/
  | withdrawal (channel : Nat)
  /-- DC_QUERY (R545). -/
  | dcQuery (w : Waybill)
  /-- DC_SET_PARAMS (R545). -/
  | dcSetParams (w : Waybill)
  /-- DC_RANK_RETIRE (R539). -/
  | dcRankRetire (w : Waybill)
  /-- DC_RETRAIN (R545). -/
  | dcRetrain (w : Waybill)
  /-- DC_ERR_INJECT (R545). -/
  | dcErrInject (w : Waybill)
  /-- CARAVAN_TRAINING_ATTEMPT (R550). -/
  | caravanTrainingAttempt (port : Nat) (ok : Bool)
  /-- IDENT (R549). -/
  | ident (port : Nat) (info : IdentInfo)
  /-- FLIT (R554). -/
  | flit (port : Nat) (bytes : List Byte)
  /-- NAK (R554). -/
  | nak (port : Nat) (last : Nat)
  /-- ACK_TIMEOUT (R554). -/
  | ackTimeout (port : Nat)
  /-- CARAVAN_LANE_FAULT (R555). -/
  | caravanLaneFault (port : Nat) (lane : Nat)
  /-- WIDTH_PROPOSAL (R556). -/
  | widthProposal (port : Nat) (mask : Nat) (id : Nat) (ack : Bool)
  /-- CARAVAN_LINK_DOWN (R557). -/
  | caravanLinkDown (port : Nat)
  /-- RETRAIN_TIMEOUT (R557). -/
  | retrainTimeout (port : Nat)
  /-- ROUTE_RETURN (R560). -/
  | routeReturn (device : Nat)
  /-- SEQ_SYNC (R559). -/
  | seqSync (peer : Nat) (executed : Nat) (next : Nat)
  /-- VOID (R558). -/
  | void (peer : Nat) (floor : Nat)
  /-- CONTROL_REQUEST (R558). -/
  | controlRequest (peer : Nat) (seq : Nat) (body : CvBody)
  /-- CONVOY_FRAME (R564). -/
  | convoyFrame (port : Nat)
  /-- DIGEST_PUBLISH (R569). -/
  | digestPublish
  /-- DIGEST_TIMEOUT (R569). -/
  | digestTimeout (device : Nat)
  /-- OWNERSHIP_ACK_TIMEOUT (R565). -/
  | ownershipAckTimeout
  /-- PARTITION_CHANGE (R566). -/
  | partitionChange (links : Nat)
  /-- AUTO_CLAIM (R568). -/
  | autoClaim
  /-- CV_QUERY (R573). -/
  | cvQuery (w : Waybill)
  /-- CV_SET_PARAMS (R548). -/
  | cvSetParams (w : Waybill)
  /-- CP_SET (R573). -/
  | cpSet (w : Waybill)
  /-- CP_RETRAIN (R556). -/
  | cpRetrain (w : Waybill)
  /-- CV_PORT_BACKUP (R562). -/
  | cvPortBackup (w : Waybill)
  /-- CV_FORWARD (R567). -/
  | cvForward (w : Waybill)
  /-- CV_FORWARD_REPLY (R573). -/
  | cvForwardReply (peer : Nat) (seq : Nat) (bytes : List Byte)
  /-- CV_SEAL_COMMIT (R570). -/
  | cvSealCommit (w : Waybill)
  /-- CV_SEAL_QUERY (R573). -/
  | cvSealQuery (w : Waybill)
  /-- NET_LINK_UP (R578). -/
  | netLinkUp (port : Nat)
  /-- NET_LINK_DOWN (R578). -/
  | netLinkDown (port : Nat) (why : LinkFault)
  /-- AN_RESTART (R577). -/
  | anRestart (port : Nat)
  /-- PAUSE (R581). -/
  | pause (port : Nat) (quanta : Nat)
  /-- PFC (R581). -/
  | pfc (port : Nat) (enable : Nat) (quanta : List Nat)
  /-- PAUSE_EXPIRY (R581). -/
  | pauseExpiry (port : Nat) (cls : Nat)
  /-- PFC_REFRESH (R582). -/
  | pfcRefresh (port : Nat) (prio : Nat)
  /-- FRAME_TX_DONE (R29). -/
  | frameTxDone (port : Nat)
  /-- TX_FAULT_ON_WIRE (R229). -/
  | txFaultOnWire (port : Nat) (sent : Nat) (cellsLost : Bool)
  /-- PPS_OUT (R587). -/
  | ppsOut
  /-- PPS_IN (R587). -/
  | ppsIn
  /-- NP_QUERY (R592). -/
  | npQuery (w : Waybill)
  /-- NP_LANE_SET (R576). -/
  | npLaneSet (w : Waybill)
  /-- NP_PORT_SET (R592). -/
  | npPortSet (w : Waybill)
  /-- NP_RETRAIN (R579). -/
  | npRetrain (w : Waybill)
  /-- PTP_GET (R592). -/
  | ptpGet (w : Waybill)
  /-- PTP_ADJUST (R584). -/
  | ptpAdjust (w : Waybill)
  /-- PTP_PPS_SET (R587). -/
  | ptpPpsSet (w : Waybill)
  /-- TALLY_MARK_TIMER (R594). -/
  | tallyMarkTimer
  /-- TALLY_GATHER (R597). -/
  | tallyGather
  /-- PART_FAULT (R612). -/
  | partFault (kind : Nat) (index : Nat) (cause : Nat)
  /-- HEALTH_SECTOR_WRITE (R613). -/
  | healthSectorWrite
  /-- CONTROL_CORE_FAULT (R615). -/
  | controlCoreFault (core : Nat)
  /-- RESERVE_CORE_READY (R615). -/
  | reserveCoreReady (pass : Bool)
  /-- SRAM_ROW_FAULT (R618). -/
  | sramRowFault (array : Nat) (row : Nat) (lost : List Nat)
  /-- MARGIN_READ (R617). -/
  | marginRead (islands : List Nat) (parts : List PartMargin)
  /-- TALLY_QUERY (R624). -/
  | tallyQuery (w : Waybill)
  /-- TALLY_SET (R600). -/
  | tallySet (w : Waybill)
  /-- TALLY_MARK (R595). -/
  | tallyMark (w : Waybill)
  /-- TALLY_READ (R624). -/
  | tallyRead (w : Waybill)
  /-- LOG_READ (R624). -/
  | logRead (w : Waybill)
  /-- LASTWORD_READ (R610). -/
  | lastwordRead (w : Waybill)
  /-- LASTWORD_CLEAR (R624). -/
  | lastwordClear (w : Waybill)
  /-- FAULT_QUERY (R624). -/
  | faultQuery (w : Waybill)
  /-- FAULT_SET_PARAMS (R624). -/
  | faultSetParams (w : Waybill)
  /-- RESERVE_QUERY (R624). -/
  | reserveQuery (w : Waybill)
  /-- RESERVE_RETIRE (R620). -/
  | reserveRetire (w : Waybill)
  /-- POWER_ON (R634). -/
  | powerOn
  /-- PWR_GOOD_AON (R644). -/
  | pwrGoodAon
  /-- PWR_GOOD_RISE (R644). -/
  | pwrGoodRise
  /-- PWR_GOOD_FALL (R634). -/
  | pwrGoodFall
  /-- RAIL_UNDERVOLTAGE (R672). -/
  | railUndervoltage
  /-- BOOT_STEP_DONE (R644). -/
  | bootStepDone (ok : Bool) (train : List DramPop)
  /-- BOOT_WATCHDOG (R641). -/
  | bootWatchdog
  /-- DOMAIN_SWITCH_DONE (R628). -/
  | domainSwitchDone (domain : Nat)
  /-- PD_SET_DONE (R627). -/
  | pdSetDone (domain : Nat)
  /-- UNIT_RESET_DONE (R636). -/
  | unitResetDone (unit : Nat)
  /-- TEMPERATURE_READ (R633). -/
  | temperatureRead (temps : List Half) (power : Nat)
  /-- THROTTLE_STEP (R633). -/
  | throttleStep
  /-- REFCLK_LOST (R630). -/
  | refclkLost
  /-- AVS_RETRY (R669). -/
  | avsRetry
  /-- DEVICE_RESET_DELAY_EXPIRY (R648). -/
  | deviceResetDelayExpiry
  /-- JTAG_BAR (R650). -/
  | jtagBar (write : Bool) (vf : Nat) (addr : Nat) (v : Word)
  /-- JTAG_AOC_CMD (R650). -/
  | jtagAocCmd (opcode : Half) (w : Waybill)
  /-- JTAG_DMI (R650). -/
  | jtagDmi (write : Bool) (n : Nat) (v : Word)
  /-- PWR_QUERY (R654). -/
  | pwrQuery (w : Waybill)
  /-- CLK_QUERY (R654). -/
  | clkQuery (w : Waybill)
  /-- PD_SET (R627). -/
  | pdSet (w : Waybill)
  /-- PD_FORCE (R629). -/
  | pdForce (w : Waybill)
  /-- DEVICE_RESET (R635). -/
  | deviceReset (w : Waybill)
  /-- UNIT_RESET (R636). -/
  | unitReset (w : Waybill)
  /-- FW_QUERY (R654). -/
  | fwQuery (w : Waybill)
  /-- FW_WRITE (R642). -/
  | fwWrite (w : Waybill)
  /-- FW_SLOT_SWITCH (R642). -/
  | fwSlotSwitch (w : Waybill)
  /-- CLK_SET (R631). -/
  | clkSet (w : Waybill)
  /-- THERM_SET (R633). -/
  | thermSet (w : Waybill)
  /-- DBG_UNLOCK (R651). -/
  | dbgUnlock (w : Waybill)
  /-- COMPLEMENT_MISMATCH (R107). -/
  | complementMismatch (src : Src) (addr : Nat) (v : Word)
  /-- RISCV_INSTRUCTION (R407). -/
  | riscvInstruction (hart : Nat)
  /-- HOST_DATA_READ_RETURN (R463). -/
  | hostDataReadReturn (who : HostReadWho) (data : List Byte)
  /-- TARGET_CONNECTED (R517). -/
  | targetConnected (t : Nat) (info : TgtInfo)
  /-- ZEROIZE_DONE (R396). -/
  | zeroizeDone
  /-- FLASH_WRITE_DONE (R642). -/
  | flashWriteDone
  /-- VOLTAGE_CONFIRMED (R669). -/
  | voltageConfirmed (mv : Nat)
  /-- VDD_AON_LOSS (R672). -/
  | vddAonLoss
  /-- RAIL_RETURN (R672). -/
  | railReturn
  /-- PPS_OUT_END (R587). -/
  | ppsOutEnd
  /-- SETDASA (R69). -/
  | setdasa (addr : Nat)
  /-- ENTDAA (R69). -/
  | entdaa (addr : Nat)
  deriving DecidableEq, Repr

end Sys2Proof
end

