-- ==== Sys2Proof/Machine/Bytes.lean ====
section
/-!
DEFINITION. Byte order and bit fields: every multi-byte field of a structure is little-endian (00 R10), reserved
fields are written as zero (00 R11); CRC-32C with the parameters of 03 R117.
-/

namespace Sys2Proof.Machine

open Sys2Proof

/-- The n bytes of v, low byte first (R10). -/
def leBytes : Nat → Nat → List Byte
  | 0, _ => []
  | n + 1, v => BitVec.ofNat 8 v :: leBytes n (v / 256)

/-- The n bytes of v, high byte first (fields that keep wire order, R10). -/
def beBytes (n v : Nat) : List Byte := (leBytes n v).reverse

/-- The value of bytes, low byte first. -/
def leNat : List Byte → Nat
  | [] => 0
  | b :: bs => b.toNat + 256 * leNat bs

/-- The value of bytes, high byte first. -/
def beNat (bs : List Byte) : Nat := leNat bs.reverse

/-- n zero bytes. -/
def zeros (n : Nat) : List Byte := List.replicate n 0

/-- n bytes from offset off, zeros beyond the end. -/
def slice (l : List Byte) (off n : Nat) : List Byte :=
  let t := (l.drop off).take n
  t ++ zeros (n - t.length)

/-- Little-endian fields of a byte structure. -/
def u8 (l : List Byte) (off : Nat) : Nat := leNat ((l.drop off).take 1)
def u16 (l : List Byte) (off : Nat) : Nat := leNat ((l.drop off).take 2)
def u32 (l : List Byte) (off : Nat) : Nat := leNat ((l.drop off).take 4)
def u64 (l : List Byte) (off : Nat) : Nat := leNat ((l.drop off).take 8)

/-- Bits hi..lo of a value. -/
def bits (v hi lo : Nat) : Nat := (v >>> lo) % 2 ^ (hi + 1 - lo)

/-- Bit i of a value. -/
def bitAt (v i : Nat) : Bool := v.testBit i

/-- A Bool as a bit in place i. -/
def bitVal (b : Bool) (i : Nat) : Nat := if b then 2 ^ i else 0

/-- Bits hi..lo of v replaced by x. -/
def setBits (v hi lo x : Nat) : Nat :=
  let m := (2 ^ (hi + 1 - lo) - 1) <<< lo
  (v - (v &&& m)) + ((x % 2 ^ (hi + 1 - lo)) <<< lo)

/-- A value cut to 32 bits as a register word. -/
def word (n : Nat) : Word := BitVec.ofNat 32 n

/-- The bytes l with the bytes d put at off (l keeps its length). -/
def patch (l : List Byte) (off : Nat) (d : List Byte) : List Byte :=
  (l.take off ++ d ++ l.drop (off + d.length)).take l.length

/-- n-byte pad or cut of a byte list. -/
def fit (n : Nat) (l : List Byte) : List Byte := slice l 0 n

/-- Division rounded up. -/
def ceilDiv (a b : Nat) : Nat := (a + b - 1) / b

/-- One bit step of a reflected CRC with polynomial p (already reflected). -/
def crcBit (p r : Nat) : Nat := if r % 2 = 1 then (r / 2) ^^^ p else r / 2

/-- k bit steps. -/
def crcBits (p : Nat) : Nat → Nat → Nat
  | 0, r => r
  | k + 1, r => crcBits p k (crcBit p r)

/-- The reflected CRC register after the bytes. -/
def crcReg (p : Nat) : List Byte → Nat → Nat
  | [], r => r
  | b :: bs, r => crcReg p bs (crcBits p 8 (r ^^^ b.toNat))

/-- CRC-32C from an initial register value (R117): polynomial 0x1EDC_6F41, reflected, final XOR 0xFFFF_FFFF. -/
def crc32cFrom (init : Nat) (bs : List Byte) : Nat := (crcReg 0x82F63B78 bs init) ^^^ 0xFFFFFFFF

/-- CRC-32C with the parameters of R117. -/
def crc32c (bs : List Byte) : Nat := crc32cFrom 0xFFFFFFFF bs

/-- CRC-32 of IEEE 802.3 (the Ethernet FCS): polynomial 0x04C1_1DB7 reflected. -/
def crc32 (bs : List Byte) : Nat := (crcReg 0xEDB88320 bs 0xFFFFFFFF) ^^^ 0xFFFFFFFF

/-- Ones-complement 16-bit sum of big-endian half-words (Internet checksum, before the complement). -/
def onesSum : List Byte → Nat
  | [] => 0
  | [a] => a.toNat * 256
  | a :: b :: r =>
    let t := onesSum r + a.toNat * 256 + b.toNat
    if 65535 < t then t - 65535 else t

end Sys2Proof.Machine
end

