-- ==== Sys2Proof/Machine/Aes.lean ====
section
/-!
DEFINITION. AES (FIPS 197) and the modes of 11 R372: ECB of one block, CBC, CFB-128, OFB, CTR (SP 800-38A), GCM (SP 800-38D),
XTS (IEEE 1619). Blocks and keys are byte lists; a block inside AES is a list of 16 numbers in column order.
-/

namespace Sys2Proof.Machine

open Sys2Proof

/-- The S-box: 32 entries to a number, the first in its low byte. -/
def sboxRows : List Nat :=
  [0xc072a49cafa2d4adf04759fa7dc982ca76abd7fe2b670130c56f6bf27b777c63,
   0x75b227ebe28012079a059618c323c7041531d871f1e5a534ccf73f362693fdb7,
   0xcf584c4a39becb6a5bb1fc20ed00d153842fe329b3d63b52a05a6e1b1a2c8309,
   0xd2f3ff1021dab6bcf5389d928f40a351a89f3c507f02f94585334d43fbaaefd0,
   0xdb0b5ede14b8ee4688902a22dc4f816073195d643d7ea7c41744975fec130ccd,
   0x8ae7a65eaf4566ca94ed58d6d37c8e779e4959162acd3c25c2406490a3a32e0,
   0x9e1dc186b95735610ef6034866b53e708a8bbd4b1f74dde8c6b4a61c2e2578ba,
   0x16bb54b00f2d99416842e6bf0d89a18cdf2855cee9871e9b948ed9691198f8e1]

/-- The inverse S-box, laid out as the S-box. -/
def invSboxRows : List Nat :=
  [0xcbe9dec444438e3487ff2f9b8239e37cfbd7f3819ea340bf38a53630d56a0952,
   0x25d18b6d49a25b76b224d92866a12e084ec3fa420b954cee3d23c2a632947b54,
   0x849d8da75746155edab9edfd5048706c92b6655dcc5ca4d41698688664f6f872,
   0x6b8a130103bdafc1020f3fca8f1e2cd00645b3b80558e4f70ad3bc8c00abd890,
   0x6edf751ce837f9e28535ade72274ac9673e6b4f0cecff297eadc674f4111913a,
   0xf45acd78fec0db9a2079d2c64b3e56fc1bbe18aa0e62b76f89c5291d711af147,
   0xef9cc9939f7ae52d0d4ab519a97f51605fec8027591012b131c7078833a8dd1f,
   0x7d0c2155631469e126d677ba7e042b17619953833cbbebc8b0f52aae4d3be0a0]

/-- Entry b of a table of 8 numbers of 32 bytes. -/
def tableByte (t : List Nat) (b : Nat) : Nat := (t.getD (b / 32) 0 >>> (8 * (b % 32))) % 256

def subByte (b : Nat) : Nat := tableByte sboxRows b
def invSubByte (b : Nat) : Nat := tableByte invSboxRows b

/-- Multiplication by x in GF(2^8). -/
def xtime (b : Nat) : Nat := if b < 128 then 2 * b else (2 * b) ^^^ 0x11B

/-- Multiplication in GF(2^8) by a number of four bits. -/
def gmul (k b : Nat) : Nat :=
  let b2 := xtime b
  let b4 := xtime b2
  let b8 := xtime b4
  (if k.testBit 0 then b else 0) ^^^ (if k.testBit 1 then b2 else 0) ^^^ (if k.testBit 2 then b4 else 0)
    ^^^ (if k.testBit 3 then b8 else 0)

/-- Bytewise exclusive or. -/
def xorNats (a b : List Nat) : List Nat := List.zipWith (· ^^^ ·) a b

/-- One column times the circulant matrix of a first row. -/
def mixColumn (m c : List Nat) : List Nat :=
  (List.range 4).map (fun r => (List.range 4).foldl (fun x i => x ^^^ gmul (m.getD ((i + 4 - r) % 4) 0) (c.getD i 0)) 0)

/-- MixColumns, or its inverse, of a block. -/
def mixColumns (m b : List Nat) : List Nat :=
  (List.range 4).flatMap (fun c => mixColumn m ((b.drop (4 * c)).take 4))

/-- ShiftRows, or with 3 its inverse. -/
def shiftRows (k : Nat) (b : List Nat) : List Nat :=
  (List.range 16).map (fun i => b.getD ((i + 4 * k * (i % 4)) % 16) 0)

/-- One step of the key expansion: words so far, newest last. -/
def expandStep (nk : Nat) (ws : List (List Nat)) (i : Nat) (rcon : Nat) : List (List Nat) :=
  let t := ws.getD (i - 1) []
  let t1 := if i % nk = 0 then
      let r := (t.drop 1 ++ t.take 1).map subByte
      xorNats r [rcon, 0, 0, 0]
    else if 6 < nk ∧ i % nk = 4 then t.map subByte else t
  ws ++ [xorNats (ws.getD (i - nk) []) t1]

/-- The key expansion of n more words from word i on. -/
def expandKey (nk : Nat) : Nat → Nat → Nat → List (List Nat) → List (List Nat)
  | 0, _, _, ws => ws
  | n + 1, i, rcon, ws =>
    expandKey nk n (i + 1) (if i % nk = 0 then xtime rcon else rcon) (expandStep nk ws i rcon)

/-- The round keys of a key of 16, 24 or 32 bytes, each 16 numbers. -/
def roundKeys (key : List Byte) : List (List Nat) :=
  let k := key.map (·.toNat)
  let nk := key.length / 4
  let ws := expandKey nk (4 * (nk + 7) - nk) nk 1 ((List.range nk).map (fun i => (k.drop (4 * i)).take 4))
  (List.range (nk + 7)).map (fun r => ((ws.drop (4 * r)).take 4).flatten)

/-- The inner rounds of encryption. -/
def encRounds : List (List Nat) → List Nat → List Nat
  | [], b => b
  | [k], b => xorNats (shiftRows 1 (b.map subByte)) k
  | k :: r, b => encRounds r (xorNats (mixColumns [2, 3, 1, 1] (shiftRows 1 (b.map subByte))) k)

/-- The inner rounds of decryption, round keys from the last down. -/
def decRounds : List (List Nat) → List Nat → List Nat
  | [], b => b
  | [k], b => xorNats ((shiftRows 3 b).map invSubByte) k
  | k :: r, b => decRounds r (mixColumns [14, 11, 13, 9] (xorNats ((shiftRows 3 b).map invSubByte) k))

/-- Encrypt one block under round keys. -/
def encBlock (rks : List (List Nat)) (b : List Nat) : List Nat :=
  match rks with
  | [] => b
  | k :: r => encRounds r (xorNats b k)

/-- Decrypt one block under round keys. -/
def decBlock (rks : List (List Nat)) (b : List Nat) : List Nat :=
  match rks.reverse with
  | [] => b
  | k :: r => decRounds r (xorNats b k)

/-! Modes (R372) -/

def toNats (l : List Byte) : List Nat := l.map (·.toNat)
def ofNats (l : List Nat) : List Byte := l.map (BitVec.ofNat 8)

/-- Cut a list into n blocks of 16. -/
def blocks : Nat → List Nat → List (List Nat)
  | 0, _ => []
  | n + 1, l => l.take 16 :: blocks n (l.drop 16)

/-- The blocks of a list, the last possibly short. -/
def blocksOf (l : List Nat) : List (List Nat) := blocks (ceilDiv l.length 16) l

def cbcEnc (k : List (List Nat)) : List (List Nat) → List Nat → List Nat
  | [], _ => []
  | p :: r, iv => let c := encBlock k (xorNats p iv); c ++ cbcEnc k r c

def cbcDec (k : List (List Nat)) : List (List Nat) → List Nat → List Nat
  | [], _ => []
  | c :: r, iv => xorNats (decBlock k c) iv ++ cbcDec k r c

def cfbEnc (k : List (List Nat)) : List (List Nat) → List Nat → List Nat
  | [], _ => []
  | p :: r, iv => let c := xorNats p (encBlock k iv); c ++ cfbEnc k r c

def cfbDec (k : List (List Nat)) : List (List Nat) → List Nat → List Nat
  | [], _ => []
  | c :: r, iv => xorNats c (encBlock k iv) ++ cfbDec k r c

def ofb (k : List (List Nat)) : List (List Nat) → List Nat → List Nat
  | [], _ => []
  | p :: r, iv => let o := encBlock k iv; xorNats p o ++ ofb k r o

/-- A block as a big-endian number and back. -/
def blockNat (b : List Nat) : Nat := b.foldl (fun n x => n * 256 + x) 0
def natBlock (n : Nat) : List Nat := toNats (beBytes 16 n)

/-- CTR with a 128-bit big-endian counter. -/
def ctr (k : List (List Nat)) : List (List Nat) → Nat → List Nat
  | [], _ => []
  | p :: r, c => xorNats p (encBlock k (natBlock c)) ++ ctr k r ((c + 1) % 2 ^ 128)

/-- One bit step of the GHASH product: the accumulator and the shifted operand. -/
def ghashStep (x : Nat) : Nat → Nat → Nat → Nat
  | 0, z, _ => z
  | n + 1, z, v =>
    ghashStep x n (if x.testBit n then z ^^^ v else z) (if v % 2 = 1 then (v / 2) ^^^ (0xE1 <<< 120) else v / 2)

/-- The product in GF(2^128) of GCM. -/
def ghashMul (x h : Nat) : Nat := ghashStep x 128 0 h

/-- GHASH over blocks. -/
def ghash (h : Nat) (bs : List (List Nat)) : Nat :=
  bs.foldl (fun y b => ghashMul (y ^^^ blockNat (b ++ List.replicate (16 - b.length) 0)) h) 0

/-- GCM with a 96-bit nonce: the tag of a ciphertext with its associated data. -/
def gcmTag (k : List (List Nat)) (nonce aad ct : List Nat) : List Nat :=
  let h := blockNat (encBlock k (List.replicate 16 0))
  let lens := natBlock (aad.length * 8 * 2 ^ 64 + ct.length * 8)
  xorNats (natBlock (ghash h (blocksOf aad ++ blocksOf ct ++ [lens]))) (encBlock k (nonce ++ [0, 0, 0, 1]))

/-- GCM's counter mode, its own inverse; the counter's low 32 bits wrap. -/
def gcmCtr (k : List (List Nat)) (nonce : List Nat) : List (List Nat) → Nat → List Nat
  | [], _ => []
  | p :: r, c => xorNats p (encBlock k (nonce ++ toNats (beBytes 4 c))) ++ gcmCtr k nonce r ((c + 1) % 2 ^ 32)

/-- AES-GCM encryption: ciphertext and 16-byte tag. -/
def gcmSeal (key nonce aad pt : List Byte) : List Byte × List Byte :=
  let k := roundKeys key
  let ct := gcmCtr k (toNats nonce) (blocksOf (toNats pt)) 2
  (ofNats ct, ofNats (gcmTag k (toNats nonce) (toNats aad) ct))

/-- AES-GCM decryption: the plaintext and the 16-byte tag the data should carry. -/
def gcmOpen (key nonce aad ct : List Byte) : List Byte × List Byte :=
  let k := roundKeys key
  (ofNats (gcmCtr k (toNats nonce) (blocksOf (toNats ct)) 2), ofNats (gcmTag k (toNats nonce) (toNats aad) (toNats ct)))

/-- Multiplication of the XTS tweak by alpha: a little-endian 128-bit number. -/
def xtsNext (t : List Nat) : List Nat :=
  let n := blockNat t.reverse
  let m := 2 * n
  (natBlock (if n.testBit 127 then (m % 2 ^ 128) ^^^ 0x87 else m)).reverse

def xtsRun (f : List Nat → List Nat) : List (List Nat) → List Nat → List Nat
  | [], _ => []
  | b :: r, t => xorNats (f (xorNats b t)) t ++ xtsRun f r (xtsNext t)

/-- XTS-AES of a data unit with a 16-byte tweak (R381). -/
def xts (enc : Bool) (key1 key2 tweak data : List Byte) : List Byte :=
  let k1 := roundKeys key1
  let t := encBlock (roundKeys key2) (toNats tweak)
  ofNats (xtsRun (if enc then encBlock k1 else decBlock k1) (blocksOf (toNats data)) t)

/-- One block under AES-ECB. -/
def aesBlock (key block : List Byte) : List Byte := ofNats (encBlock (roundKeys key) (toNats block))

/-- The key check value: the first 4 bytes of the encryption of a zero block (R394). -/
def keyCheck (key : List Byte) : List Byte := (aesBlock key (zeros 16)).take 4

/-- A mode of CX_KAT and of raw requests by code: 0 CBC, 1 CFB, 2 OFB, 3 CTR (R404). -/
def blockMode (mode : Nat) (enc : Bool) (key iv data : List Byte) : List Byte :=
  let k := roundKeys key
  let d := blocksOf (toNats data)
  let v := toNats iv
  ofNats (match mode, enc with
    | 0, true => cbcEnc k d v
    | 0, false => cbcDec k d v
    | 1, true => cfbEnc k d v
    | 1, false => cfbDec k d v
    | 2, _ => ofb k d v
    | _, _ => ctr k d (blockNat v))

end Sys2Proof.Machine
end

