-- ==== Sys2Proof/Config.lean ====
section
/-!
DEFINITION. The free values and the constants of the configuration. An opaque constant has no body: nothing can be
proved of its value.
-/

namespace Sys2Proof

/-- Free values, one for each count of State.free (log entry 5). -/
opaque Config.free64 : Nat → BitVec 64

/-- The hash that spreads flows over the clusters of an engine set, of the winning group's masked key (08 R297 names no hash;
log entry 17). -/
opaque Config.flowHash : Nat → Nat

/-- The two hash functions that choose the candidate buckets of a masked key (08 R270 gives no function): seed, which of the two,
group, masked key. -/
opaque Config.clHash : Nat → Nat → Nat → Nat → Nat

/-- Which free way a placement takes and which entry it relocates (08 R277 leaves both open; R270: they depend on the seed and the
placements alone): seed, the key placed, the step. -/
opaque Config.clPlace : Nat → Nat → Nat → Nat

/-- The same of a forwarding table (09 R317): seed, the key placed, the step. -/
opaque Config.lkPlace : Nat → Nat → Nat → Nat

/-- ALT_TPID of 18 R582, which the spec names and does not define (log entry 18). -/
opaque Config.altTpid : BitVec 16

/-- Subchannel, bank group, bank and row of a line within a rank (16 gives the channel and the slice of an offset and leaves the rest of the
layout open; log entry 36): bit 0, bits 3-1, bits 5-4, the rest. -/
opaque Config.dramPlace : Nat → Nat

/-- Redundant rows of an SRAM array, and pool items in a row of it, by array code (19 R614 gives one redundant row per 256 rows, and no
array's rows but the log's). -/
opaque Config.sramSpare : Nat → Nat
opaque Config.sramItems : Nat → Nat

/-- The lowest VDD_CORE setpoint in mV at which every island holds its margin, from the fastest set clock in MHz and the lowest margin
read in mV (20 R632; 19 R617): the spec gives no figures. -/
opaque Config.vcoreFor : Nat → Nat → Nat

end Sys2Proof
end

