-- ==== Sys2Proof/Machine/RegTable.lean ====
section
/-!
DEFINITION. The register map of PF0 BAR0 and of the flask windows (03 R94, R96; the register tables of every chapter).
Register addresses are Nat: an address below 0x0400_0000 is a BAR0 offset, and flask f's window starts at
0x0400_0000 + f * 0x1_0000. Offsets, access masks and reset values are those of the spec's register tables;
R<n> names the rule of the table. "strap", "fused" and "image" reset values are 0 here (log entry 3).
-/

namespace Sys2Proof.Machine

/-- One register or regular array of registers: address base + i * s1 + j * s2 for i < n1, j < n2.
rw: bits a plain write changes (RW); rs: RS bits (R111); w1p: pulse bits; wo: write-only bits; wg: guarded bits (R106). -/
structure RegDesc where
  base : Nat
  n1 : Nat
  s1 : Nat
  n2 : Nat
  s2 : Nat
  rw : Nat
  rs : Nat
  w1p : Nat
  wo : Nat
  wg : Nat
  reset : Nat
  cfg : Bool
  deriving DecidableEq, Repr

/-- The address lies in the array. -/
def RegDesc.covers (d : RegDesc) (a : Nat) : Bool :=
  if a < d.base then false
  else
    let o := a - d.base
    let i := if d.s1 = 0 then 0 else o / d.s1
    let r := if d.s1 = 0 then o else o % d.s1
    let j := if d.s2 = 0 then 0 else r / d.s2
    let q := if d.s2 = 0 then r else r % d.s2
    decide (i < d.n1) && decide (j < d.n2) && q == 0

/-- Base of flask f's window in the register address space (R96). -/
def flaskWin (f : Nat) : Nat := 0x04000000 + f * 0x10000

/-! 02 R63 -/
def Reg.WB_REQ_BASE_LO (i : Nat) : Nat := 0x00001000 + i * 0x100
def Reg.WB_REQ_BASE_HI (i : Nat) : Nat := 0x00001004 + i * 0x100
def Reg.WB_REQ_CTRL (i : Nat) : Nat := 0x00001008 + i * 0x100
def Reg.WB_REQ_PROD (i : Nat) : Nat := 0x0000100C + i * 0x100
def Reg.WB_REQ_CONS (i : Nat) : Nat := 0x00001010 + i * 0x100
def Reg.WB_RSP_BASE_LO (i : Nat) : Nat := 0x00001014 + i * 0x100
def Reg.WB_RSP_BASE_HI (i : Nat) : Nat := 0x00001018 + i * 0x100
def Reg.WB_RSP_CTRL (i : Nat) : Nat := 0x0000101C + i * 0x100
def Reg.WB_RSP_PROD (i : Nat) : Nat := 0x00001020 + i * 0x100
def Reg.WB_RSP_CONS (i : Nat) : Nat := 0x00001024 + i * 0x100
def Reg.WB_STATUS (i : Nat) : Nat := 0x00001028 + i * 0x100
def Reg.WB_FN_EPOCH (i : Nat) : Nat := 0x0000102C + i * 0x100
def Reg.WB_DEV_EPOCH (i : Nat) : Nat := 0x00001030 + i * 0x100
/-! 02 R88 -/
def Reg.OWN_EPOCH : Nat := 0x00010100
def Reg.OWN_DROVER : Nat := 0x00010104
def Reg.OWN_STATE : Nat := 0x00010108
def Reg.HB_PERIOD : Nat := 0x0001010C
def Reg.HB_KICK : Nat := 0x00010110
def Reg.OWN_EVENT : Nat := 0x00010114
def Reg.OWN_OVERRIDE : Nat := 0x00010118
/-! 03 R103 -/
def Reg.ID : Nat := 0x00000000
def Reg.REVISION : Nat := 0x00000004
def Reg.SERIAL_LO : Nat := 0x00000008
def Reg.SERIAL_HI : Nat := 0x0000000C
def Reg.ACC_ERR_ADDR : Nat := 0x00000010
def Reg.ACC_ERR_SRC : Nat := 0x00000014
def Reg.ACC_ERR_STATUS : Nat := 0x00000018
/-! 03 R125 -/
def Reg.PEEK_ADDR : Nat := 0x01900000
def Reg.PEEK_CTRL : Nat := 0x01900004
def Reg.PEEK_DATA : Nat := 0x01900008
def Reg.PEEK_STAT : Nat := 0x0190000C
/-! 04 R162 -/
def Reg.HE_LINK0_STAT : Nat := 0x00100040
def Reg.HE_LINK1_STAT : Nat := 0x00100044
def Reg.HE_EVENT : Nat := 0x00100048
def Reg.HE_LAST_CONTAIN : Nat := 0x0010004C
def Reg.HE_CONTAIN_COUNT : Nat := 0x00100050
def Reg.HE_BAR2_BASE : Nat := 0x00100054
def Reg.HE_VF_BAR2_SIZE : Nat := 0x00100058
def Reg.HE_PF0_EVENT_VEC : Nat := 0x0010005C
def Reg.HE_INTX_ACK0 : Nat := 0x00100060
def Reg.HE_INTX_ACK1 : Nat := 0x00100064
/-! 04 R163 -/
def Reg.FLASK_STATE (i : Nat) : Nat := 0x04002000 + i * 0x10000
def Reg.FLASK_EVENT (i : Nat) : Nat := 0x04002004 + i * 0x10000
def Reg.CONTAIN_CAUSE (i : Nat) : Nat := 0x04002008 + i * 0x10000
def Reg.CONTAIN_ADDR_LO (i : Nat) : Nat := 0x0400200C + i * 0x10000
def Reg.CONTAIN_ADDR_HI (i : Nat) : Nat := 0x04002010 + i * 0x10000
def Reg.FLASK_CTRL (i : Nat) : Nat := 0x04002014 + i * 0x10000
def Reg.CONTAIN_COUNT (i : Nat) : Nat := 0x04002018 + i * 0x10000
/-! 05 R202 -/
def Reg.QM_CTRL : Nat := 0x00200040
def Reg.QM_EVENT : Nat := 0x00200044
def Reg.QM_DB_ERR_INFO : Nat := 0x00200048
def Reg.QM_RX_NO_BUFFER : Nat := 0x00200050
def Reg.QM_RX_NO_BUFFER_HI : Nat := 0x00200054
def Reg.QM_RX_OVERSIZE : Nat := 0x00200058
def Reg.QM_RX_OVERSIZE_HI : Nat := 0x0020005C
def Reg.QM_DB_ERR_COUNT : Nat := 0x00200060
def Reg.QM_CQ_STALL_COUNT : Nat := 0x00200064
def Reg.QM_WQ_FREE : Nat := 0x00200068
def Reg.QM_CQ_FREE : Nat := 0x0020006C
def Reg.QCTX_SEL : Nat := 0x00200080
def Reg.QCTX_DATA (j : Nat) : Nat := 0x00200084 + j * 0x4
/-! 06 R239 -/
def Reg.LG_CTRL : Nat := 0x00300040
def Reg.LG_KIND_CLASSES : Nat := 0x00300044
def Reg.LG_STATE : Nat := 0x00300048
def Reg.LG_EVENT : Nat := 0x0030004C
def Reg.LG_SEQ : Nat := 0x00300050
def Reg.LG_FREE : Nat := 0x00300054
def Reg.LG_LOW_WATER : Nat := 0x00300058
def Reg.LG_CLASS_LIMIT (j : Nat) : Nat := 0x00300060 + j * 0x4
def Reg.LG_CLASS_HELD (j : Nat) : Nat := 0x00300080 + j * 0x4
def Reg.LG_ACCEPTS : Nat := 0x003000A0
def Reg.LG_ACCEPTS_HI : Nat := 0x003000A4
def Reg.LG_COMPLETIONS : Nat := 0x003000A8
def Reg.LG_COMPLETIONS_HI : Nat := 0x003000AC
def Reg.LG_RACE_LOST : Nat := 0x003000B0
def Reg.LG_REPLAYS : Nat := 0x003000B4
def Reg.LG_TX_RESTARTS : Nat := 0x003000B8
def Reg.LG_ECC_CORR : Nat := 0x003000BC
def Reg.LG_DF_COUNT : Nat := 0x003000C0
def Reg.LG_DF_INFO : Nat := 0x003000C4
/-! 07 R265 -/
def Reg.PS_CTRL : Nat := 0x00400040
def Reg.PS_EVENT : Nat := 0x00400044
def Reg.PS_GRAPH_ID_RX : Nat := 0x00400048
def Reg.PS_GRAPH_ID_TX : Nat := 0x0040004C
def Reg.PS_EXC_CTRL : Nat := 0x00400050
def Reg.PS_EXC_RATE_RX : Nat := 0x00400054
def Reg.PS_EXC_RATE_TX : Nat := 0x00400058
def Reg.PS_GENEVE_OPT (j : Nat) : Nat := 0x00400060 + j * 0x4
def Reg.PS_RX_PASSES : Nat := 0x00400080
def Reg.PS_RX_PASSES_HI : Nat := 0x00400084
def Reg.PS_TX_PASSES : Nat := 0x00400088
def Reg.PS_TX_PASSES_HI : Nat := 0x0040008C
def Reg.PS_RX_ERRORS : Nat := 0x00400090
def Reg.PS_TX_ERRORS : Nat := 0x00400094
def Reg.PS_EXC_SENT : Nat := 0x00400098
def Reg.PS_EXC_DROPPED : Nat := 0x0040009C
def Reg.PS_FRAG_STOPS : Nat := 0x004000A0
def Reg.PS_DEPTH_STOPS : Nat := 0x004000A4
def Reg.PS_BANK_LATE : Nat := 0x004000A8
def Reg.PS_LAST_ERR : Nat := 0x004000AC
def Reg.PS_ERR_COUNT (j : Nat) : Nat := 0x004000C0 + j * 0x4
/-! 08 R302 -/
def Reg.CL_CTRL : Nat := 0x00500040
def Reg.CL_EVENT : Nat := 0x00500044
def Reg.CL_MISS : Nat := 0x00500048
def Reg.CL_SEED : Nat := 0x0050004C
def Reg.CL_EXC_CTRL : Nat := 0x00500050
def Reg.CL_EXC_RATE_RX : Nat := 0x00500054
def Reg.CL_EXC_RATE_TX : Nat := 0x00500058
def Reg.CL_ENGINE_SET (j : Nat) : Nat := 0x00500060 + j * 0x4
def Reg.CL_MIRROR (j : Nat) : Nat := 0x005000A0 + j * 0x4
def Reg.CL_TOLL_FREE : Nat := 0x005000E0
def Reg.CL_ENTRIES : Nat := 0x005000E4
def Reg.CL_RULES : Nat := 0x005000E8
def Reg.CL_HITS : Nat := 0x00500100
def Reg.CL_HITS_HI : Nat := 0x00500104
def Reg.CL_MISSES : Nat := 0x00500108
def Reg.CL_MISSES_HI : Nat := 0x0050010C
def Reg.CL_NO_DEST : Nat := 0x00500110
def Reg.CL_DROPS : Nat := 0x00500114
def Reg.CL_SPRUE_LIMIT : Nat := 0x00500118
def Reg.CL_ENGINE_FULL : Nat := 0x0050011C
def Reg.CL_ENGINE_TIMEOUT : Nat := 0x00500120
def Reg.CL_HINT_REJECT : Nat := 0x00500124
def Reg.CL_EDIT_DISCARD : Nat := 0x00500128
def Reg.CL_TTL_DROP : Nat := 0x0050012C
def Reg.CL_AUTH_DROP : Nat := 0x00500130
def Reg.CL_MIRROR_DROP : Nat := 0x00500134
def Reg.CL_EXC_SENT : Nat := 0x00500138
def Reg.CL_EXC_DROPPED : Nat := 0x0050013C
def Reg.TOLL_RANGE (j : Nat) : Nat := 0x00501000 + j * 0x8
def Reg.TOLL_CTRL (j : Nat) : Nat := 0x00501004 + j * 0x8
def Reg.TOLL_REFS (j : Nat) : Nat := 0x00501400 + j * 0x4
/-! 09 R334 -/
def Reg.LK_CTRL : Nat := 0x00600040
def Reg.LK_EVENT : Nat := 0x00600044
def Reg.LK_LAST_FULL : Nat := 0x00600048
def Reg.LK_LAST_FAULT : Nat := 0x0060004C
def Reg.LK_LEARN_RATE : Nat := 0x00600050
def Reg.LK_RESIDENT : Nat := 0x00600054
def Reg.LK_LOOKUPS : Nat := 0x00600060
def Reg.LK_LOOKUPS_HI : Nat := 0x00600064
def Reg.LK_HITS : Nat := 0x00600068
def Reg.LK_HITS_HI : Nat := 0x0060006C
def Reg.LK_CACHE_MISSES : Nat := 0x00600070
def Reg.LK_CACHE_MISSES_HI : Nat := 0x00600074
def Reg.LK_PARITY_MISS : Nat := 0x00600078
def Reg.LK_CACHE_PARITY : Nat := 0x0060007C
def Reg.LK_LEARN_POSTED : Nat := 0x00600080
def Reg.LK_LEARN_FILTERED : Nat := 0x00600084
def Reg.LK_LEARN_DROPPED : Nat := 0x00600088
def Reg.LK_LEARN_FAIL : Nat := 0x0060008C
def Reg.LK_AGED : Nat := 0x00600090
def Reg.LK_STALLS : Nat := 0x00600094
def Reg.LK_COMMANDS : Nat := 0x00600098
def Reg.TB_CMD (i : Nat) : Nat := 0x00601000 + i * 0x100
def Reg.TB_BUCKET (i : Nat) : Nat := 0x00601004 + i * 0x100
def Reg.TB_STAT (i : Nat) : Nat := 0x00601008 + i * 0x100
def Reg.TB_DATA (i : Nat) (j : Nat) : Nat := 0x00601040 + i * 0x100 + j * 0x4
/-! 10 R364 -/
def Reg.TM_CTRL : Nat := 0x00700040
def Reg.TM_EVENT : Nat := 0x00700044
def Reg.TM_STATE : Nat := 0x00700048
def Reg.TM_OCC : Nat := 0x0070004C
def Reg.TM_SPILLED : Nat := 0x00700050
def Reg.TM_MIN_RESERVED : Nat := 0x00700054
def Reg.TM_SPILL_ON : Nat := 0x00700058
def Reg.TM_SPILL_OFF : Nat := 0x0070005C
def Reg.TM_PANIC_ON : Nat := 0x00700060
def Reg.TM_PANIC_OFF : Nat := 0x00700064
def Reg.TM_SPILL_AREA : Nat := 0x00700068
def Reg.TM_ENQ : Nat := 0x00700080
def Reg.TM_ENQ_HI : Nat := 0x00700084
def Reg.TM_DEQ : Nat := 0x00700088
def Reg.TM_DEQ_HI : Nat := 0x0070008C
def Reg.TM_DROP_QUEUE : Nat := 0x00700090
def Reg.TM_DROP_BUF : Nat := 0x00700094
def Reg.TM_DROP_NOQ : Nat := 0x00700098
def Reg.TM_DROP_DOWN : Nat := 0x0070009C
def Reg.TM_DROP_DESTROY : Nat := 0x007000A0
def Reg.TM_SPILL_FRAMES : Nat := 0x007000A4
def Reg.TM_PANIC_COUNT : Nat := 0x007000A8
def Reg.TM_SAMPLE_DROP : Nat := 0x007000AC
def Reg.TM_QSEL_REJECT : Nat := 0x007000B0
def Reg.TM_RATE_REJECT : Nat := 0x007000B4
def Reg.TMCTX_SEL : Nat := 0x007000C0
def Reg.TMCTX_DATA (j : Nat) : Nat := 0x007000C4 + j * 0x4
/-! 11 R401 -/
def Reg.CX_CTRL (i : Nat) : Nat := 0x00800040 + i * 0x40000
def Reg.CX_EVENT (i : Nat) : Nat := 0x00800044 + i * 0x40000
def Reg.CX_LANE_ACTIVE (i : Nat) : Nat := 0x00800048 + i * 0x40000
def Reg.CX_LANE_RETIRED (i : Nat) : Nat := 0x0080004C + i * 0x40000
def Reg.CX_CAP (i : Nat) : Nat := 0x00800050 + i * 0x40000
def Reg.CX_LAST_FAULT (i : Nat) : Nat := 0x00800054 + i * 0x40000
def Reg.CX_LAST_SLOT (i : Nat) : Nat := 0x00800058 + i * 0x40000
def Reg.CX_BLOCKS (i : Nat) : Nat := 0x00800060 + i * 0x40000
def Reg.CX_BLOCKS_HI (i : Nat) : Nat := 0x00800064 + i * 0x40000
def Reg.CX_SEGMENTS (i : Nat) : Nat := 0x00800068 + i * 0x40000
def Reg.CX_SEGMENTS_HI (i : Nat) : Nat := 0x0080006C + i * 0x40000
def Reg.CX_PARITY (i : Nat) : Nat := 0x00800070 + i * 0x40000
def Reg.CX_AUTH_FAIL (i : Nat) : Nat := 0x00800074 + i * 0x40000
def Reg.CX_REPLAY_DROP (i : Nat) : Nat := 0x00800078 + i * 0x40000
def Reg.CX_NO_KEY (i : Nat) : Nat := 0x0080007C + i * 0x40000
def Reg.CX_SEQ_DROP (i : Nat) : Nat := 0x00800080 + i * 0x40000
def Reg.CX_ZEROIZED (i : Nat) : Nat := 0x00800084 + i * 0x40000
def Reg.CX_FORMAT_DROP (i : Nat) : Nat := 0x00800088 + i * 0x40000
def Reg.CX_TLS_PASS (i : Nat) : Nat := 0x0080008C + i * 0x40000
def Reg.CX_NET_STALLS (i : Nat) : Nat := 0x00800090 + i * 0x40000
/-! 11 R402 -/
def Reg.KS_EVENT : Nat := 0x00900040
def Reg.KS_FREE : Nat := 0x00900044
def Reg.KS_LOADED : Nat := 0x00900048
def Reg.KS_LAST_LOST : Nat := 0x0090004C
def Reg.KS_ZEROIZE : Nat := 0x00900100
def Reg.KS_ZEROIZE_STAT : Nat := 0x00900108
def Reg.RNG_CTRL : Nat := 0x00900200
def Reg.RNG_STATE : Nat := 0x00900204
def Reg.RNG_EVENT : Nat := 0x00900208
def Reg.RNG_LAST_FAIL : Nat := 0x0090020C
def Reg.RNG_HELD : Nat := 0x00900210
def Reg.RNG_BYTES : Nat := 0x00900220
def Reg.RNG_BYTES_HI : Nat := 0x00900224
def Reg.RNG_HEALTH_FAILS : Nat := 0x00900228
def Reg.RNG_REQ_FAILED : Nat := 0x0090022C
/-! 12 R451 -/
def Reg.EC_CTRL (i : Nat) : Nat := 0x01000040 + i * 0x40000
def Reg.EC_EVENT (i : Nat) : Nat := 0x01000044 + i * 0x40000
def Reg.EC_STATE (i : Nat) : Nat := 0x01000048 + i * 0x40000
def Reg.EC_ENGINE_MAP (i : Nat) : Nat := 0x0100004C + i * 0x40000
def Reg.EC_RETIRED (i : Nat) : Nat := 0x01000050 + i * 0x40000
def Reg.EC_IMAGE_ID (i : Nat) : Nat := 0x01000054 + i * 0x40000
def Reg.EC_ALT_IMAGE_ID (i : Nat) : Nat := 0x01000058 + i * 0x40000
def Reg.EC_QUEUES (i : Nat) : Nat := 0x0100005C + i * 0x40000
def Reg.EC_DRAM_WIN_W0 (i : Nat) (j : Nat) : Nat := 0x01000060 + i * 0x40000 + j * 0x8
def Reg.EC_DRAM_WIN_W1 (i : Nat) (j : Nat) : Nat := 0x01000064 + i * 0x40000 + j * 0x8
def Reg.EC_LINE_VEC (i : Nat) (j : Nat) : Nat := 0x01000080 + i * 0x40000 + j * 0x4
def Reg.EC_CT_DESC (i : Nat) (j : Nat) : Nat := 0x010000A0 + i * 0x40000 + j * 0x4
def Reg.EC_DISPATCHED (i : Nat) : Nat := 0x01000100 + i * 0x40000
def Reg.EC_DISPATCHED_HI (i : Nat) : Nat := 0x01000104 + i * 0x40000
def Reg.EC_SLOT_RETIRED (i : Nat) : Nat := 0x01000108 + i * 0x40000
def Reg.EC_SLOT_RETIRED_HI (i : Nat) : Nat := 0x0100010C + i * 0x40000
def Reg.EC_SLOT_WASTED (i : Nat) : Nat := 0x01000110 + i * 0x40000
def Reg.EC_SLOT_WASTED_HI (i : Nat) : Nat := 0x01000114 + i * 0x40000
def Reg.EC_SLOT_FRONT (i : Nat) : Nat := 0x01000118 + i * 0x40000
def Reg.EC_SLOT_FRONT_HI (i : Nat) : Nat := 0x0100011C + i * 0x40000
def Reg.EC_SLOT_BACK (i : Nat) : Nat := 0x01000120 + i * 0x40000
def Reg.EC_SLOT_BACK_HI (i : Nat) : Nat := 0x01000124 + i * 0x40000
def Reg.EC_FAULTS (i : Nat) : Nat := 0x01000130 + i * 0x40000
def Reg.EC_SUP_FAULTS (i : Nat) : Nat := 0x01000134 + i * 0x40000
def Reg.EC_NO_DISP (i : Nat) : Nat := 0x01000138 + i * 0x40000
def Reg.EC_NO_VECTOR (i : Nat) : Nat := 0x0100013C + i * 0x40000
def Reg.EC_WATCHDOG (i : Nat) : Nat := 0x01000140 + i * 0x40000
def Reg.EC_EXCH_KILLS (i : Nat) : Nat := 0x01000144 + i * 0x40000
def Reg.EC_MSG_DROP (i : Nat) : Nat := 0x01000148 + i * 0x40000
def Reg.EC_LINE_OVERFLOW (i : Nat) : Nat := 0x0100014C + i * 0x40000
def Reg.EC_ECC_POISON (i : Nat) : Nat := 0x01000150 + i * 0x40000
def Reg.CNT (i : Nat) (j : Nat) : Nat := 0x01010000 + i * 0x40000 + j * 0x8
def Reg.CNT_HI (i : Nat) (j : Nat) : Nat := 0x01010004 + i * 0x40000 + j * 0x8
def Reg.FLASK_SLOTS (i : Nat) (j : Nat) : Nat := 0x01018000 + i * 0x40000 + j * 0x8
def Reg.FLASK_SLOTS_HI (i : Nat) (j : Nat) : Nat := 0x01018004 + i * 0x40000 + j * 0x8
/-! 13 R479 -/
def Reg.MV_CTRL : Nat := 0x00A00040
def Reg.MV_EVENT : Nat := 0x00A00044
def Reg.MV_BYTES : Nat := 0x00A00050
def Reg.MV_BYTES_HI : Nat := 0x00A00054
def Reg.MV_DESCRIPTORS : Nat := 0x00A00058
def Reg.MV_DESCRIPTORS_HI : Nat := 0x00A0005C
def Reg.MV_OVERLAP : Nat := 0x00A00060
def Reg.MV_BAD_DESC : Nat := 0x00A00064
def Reg.MV_ABORTED : Nat := 0x00A00068
def Reg.MV_REPLAYS : Nat := 0x00A0006C
def Reg.MV_SRC_ECC : Nat := 0x00A00070
def Reg.MV_ENTROPY_FAIL : Nat := 0x00A00074
def Reg.MV_CHAN_W0 (j : Nat) : Nat := 0x00A00100 + j * 0x8
def Reg.MV_CHAN_W1 (j : Nat) : Nat := 0x00A00104 + j * 0x8
def Reg.MV_ERING (j : Nat) : Nat := 0x00A00500 + j * 0x4
/-! 14 R496 -/
def Reg.MB_EVENT : Nat := 0x00B00040
def Reg.EF_SAMPLE_VEC : Nat := 0x00B00044
def Reg.MB_PAIR_CFG (j : Nat) : Nat := 0x00B00080 + j * 0x4
def Reg.MB_LOCK_FREE : Nat := 0x00B00800
/-! 15 R518 -/
def Reg.DP_CTRL : Nat := 0x00C00040
def Reg.DP_STAGE : Nat := 0x00C00044
def Reg.DP_EVENT : Nat := 0x00C00048
def Reg.DP_LAST : Nat := 0x00C0004C
def Reg.DP_PORT_CTRL (i : Nat) : Nat := 0x00C00100 + i * 0x20
def Reg.DP_PORT_STAT (i : Nat) : Nat := 0x00C00104 + i * 0x20
def Reg.DP_PORT_OUT (i : Nat) : Nat := 0x00C00108 + i * 0x20
def Reg.DP_DMA_BLOCKED (i : Nat) : Nat := 0x00C0010C + i * 0x20
def Reg.DP_PORT_BYTES (i : Nat) : Nat := 0x00C00110 + i * 0x20
def Reg.DP_PORT_BYTES_HI (i : Nat) : Nat := 0x00C00114 + i * 0x20
def Reg.DP_PORT_IOS (i : Nat) : Nat := 0x00C00118 + i * 0x20
def Reg.DP_PORT_RESETS (i : Nat) : Nat := 0x00C0011C + i * 0x20
/-! 16 R543 -/
def Reg.DC_CTRL (i : Nat) : Nat := 0x00D00040 + i * 0x40000
def Reg.DC_CTRL2 (i : Nat) : Nat := 0x00D00044 + i * 0x40000
def Reg.DC_CFG (i : Nat) : Nat := 0x00D00048 + i * 0x40000
def Reg.DC_EVENT (i : Nat) : Nat := 0x00D0004C + i * 0x40000
def Reg.DC_STATE (i : Nat) : Nat := 0x00D00050 + i * 0x40000
def Reg.DC_MIG (i : Nat) : Nat := 0x00D00054 + i * 0x40000
def Reg.DC_LAST_UE (i : Nat) : Nat := 0x00D00058 + i * 0x40000
def Reg.DC_LAST_UE_LINE (i : Nat) : Nat := 0x00D0005C + i * 0x40000
def Reg.DC_RD_BYTES (i : Nat) : Nat := 0x00D00060 + i * 0x40000
def Reg.DC_RD_BYTES_HI (i : Nat) : Nat := 0x00D00064 + i * 0x40000
def Reg.DC_WR_BYTES (i : Nat) : Nat := 0x00D00068 + i * 0x40000
def Reg.DC_WR_BYTES_HI (i : Nat) : Nat := 0x00D0006C + i * 0x40000
def Reg.DC_CE_COUNT (i : Nat) : Nat := 0x00D00070 + i * 0x40000
def Reg.DC_UE_COUNT (i : Nat) : Nat := 0x00D00074 + i * 0x40000
def Reg.DC_NREF (i : Nat) : Nat := 0x00D00078 + i * 0x40000
def Reg.DC_RETRAINS (i : Nat) : Nat := 0x00D0007C + i * 0x40000
def Reg.DC_REF_POSTPONED (i : Nat) : Nat := 0x00D00080 + i * 0x40000
def Reg.DC_PANIC_US (i : Nat) : Nat := 0x00D00084 + i * 0x40000
def Reg.DC_SCRUB_PASSES (i : Nat) : Nat := 0x00D00088 + i * 0x40000
def Reg.DC_INJECTED (i : Nat) : Nat := 0x00D0008C + i * 0x40000
def Reg.DC_CAP (i : Nat) : Nat := 0x00D00090 + i * 0x40000
/-! 17 R571 -/
def Reg.CV_CTRL : Nat := 0x00E00040
def Reg.CV_STATE : Nat := 0x00E00044
def Reg.CV_EVENT : Nat := 0x00E00048
def Reg.CV_SEAL_SET_LO : Nat := 0x00E0004C
def Reg.CV_SEAL_SET_HI : Nat := 0x00E00050
def Reg.CV_DRIFT : Nat := 0x00E00054
def Reg.CV_DIGEST : Nat := 0x00E00058
def Reg.CP_CTRL (i : Nat) : Nat := 0x00E00100 + i * 0x40
def Reg.CP_STAT (i : Nat) : Nat := 0x00E00104 + i * 0x40
def Reg.CP_EPOCH (i : Nat) : Nat := 0x00E00108 + i * 0x40
def Reg.CP_FLITS_TX (i : Nat) : Nat := 0x00E00110 + i * 0x40
def Reg.CP_FLITS_TX_HI (i : Nat) : Nat := 0x00E00114 + i * 0x40
def Reg.CP_FLITS_RX (i : Nat) : Nat := 0x00E00118 + i * 0x40
def Reg.CP_FLITS_RX_HI (i : Nat) : Nat := 0x00E0011C + i * 0x40
def Reg.CP_CRC_ERR (i : Nat) : Nat := 0x00E00120 + i * 0x40
def Reg.CP_REPLAYS (i : Nat) : Nat := 0x00E00124 + i * 0x40
def Reg.CP_RETRAINS (i : Nat) : Nat := 0x00E00128 + i * 0x40
def Reg.CP_WIDTH_CHANGES (i : Nat) : Nat := 0x00E0012C + i * 0x40
def Reg.CP_LOST_REQS (i : Nat) : Nat := 0x00E00130 + i * 0x40
def Reg.CP_DUP_DISCARD (i : Nat) : Nat := 0x00E00134 + i * 0x40
def Reg.CP_TRANSIT (i : Nat) : Nat := 0x00E00138 + i * 0x40
def Reg.CP_PROTO_ERR (i : Nat) : Nat := 0x00E0013C + i * 0x40
/-! 18 R590 -/
def Reg.NP_LANE_CFG : Nat := 0x00F00040
def Reg.NP_EVENT : Nat := 0x00F00044
def Reg.NP_LAST : Nat := 0x00F00048
def Reg.PTP_TIME_NS : Nat := 0x00F00060
def Reg.PTP_TIME_SEC : Nat := 0x00F00064
def Reg.PTP_TIME_SEC_HI : Nat := 0x00F00068
def Reg.PTP_CTRL : Nat := 0x00F0006C
def Reg.PTP_PPS_IN_NS : Nat := 0x00F00070
def Reg.PTP_PPS_IN_SEC : Nat := 0x00F00074
def Reg.PTP_FREQ : Nat := 0x00F00078
def Reg.NP_PORT_CTRL (i : Nat) : Nat := 0x00F00100 + i * 0x80
def Reg.NP_PORT_STAT (i : Nat) : Nat := 0x00F00104 + i * 0x80
def Reg.NP_FLOW_CFG (i : Nat) : Nat := 0x00F00108 + i * 0x80
def Reg.NP_TS_ADJ (i : Nat) : Nat := 0x00F0010C + i * 0x80
def Reg.NP_RX_FRAMES (i : Nat) : Nat := 0x00F00110 + i * 0x80
def Reg.NP_RX_FRAMES_HI (i : Nat) : Nat := 0x00F00114 + i * 0x80
def Reg.NP_RX_BYTES (i : Nat) : Nat := 0x00F00118 + i * 0x80
def Reg.NP_RX_BYTES_HI (i : Nat) : Nat := 0x00F0011C + i * 0x80
def Reg.NP_TX_FRAMES (i : Nat) : Nat := 0x00F00120 + i * 0x80
def Reg.NP_TX_FRAMES_HI (i : Nat) : Nat := 0x00F00124 + i * 0x80
def Reg.NP_TX_BYTES (i : Nat) : Nat := 0x00F00128 + i * 0x80
def Reg.NP_TX_BYTES_HI (i : Nat) : Nat := 0x00F0012C + i * 0x80
def Reg.NP_RX_FCS_ERR (i : Nat) : Nat := 0x00F00130 + i * 0x80
def Reg.NP_RX_RUNT (i : Nat) : Nat := 0x00F00134 + i * 0x80
def Reg.NP_RX_TOOLONG (i : Nat) : Nat := 0x00F00138 + i * 0x80
def Reg.NP_RX_PAUSE (i : Nat) : Nat := 0x00F0013C + i * 0x80
def Reg.NP_TX_PAUSE (i : Nat) : Nat := 0x00F00140 + i * 0x80
def Reg.NP_TX_ERR (i : Nat) : Nat := 0x00F00144 + i * 0x80
def Reg.NP_FEC_CORR (i : Nat) : Nat := 0x00F00148 + i * 0x80
def Reg.NP_FEC_UNCORR (i : Nat) : Nat := 0x00F0014C + i * 0x80
def Reg.NP_MACSEC_REQ_DROP (i : Nat) : Nat := 0x00F00150 + i * 0x80
def Reg.NP_MAC_CTRL_DROP (i : Nat) : Nat := 0x00F00154 + i * 0x80
def Reg.NP_LINK_DOWNS (i : Nat) : Nat := 0x00F00158 + i * 0x80
/-! 19 R606 -/
def Reg.TLR_EPOCH_LO (i : Nat) : Nat := 0x04005000 + i * 0x10000
def Reg.TLR_EPOCH_HI (i : Nat) : Nat := 0x04005004 + i * 0x10000
def Reg.TLR_FLAGS (i : Nat) : Nat := 0x04005008 + i * 0x10000
def Reg.TLR_REC (i : Nat) (j : Nat) : Nat := 0x04005040 + i * 0x10000 + j * 0x4
/-! 19 R621 -/
def Reg.TL_CTRL : Nat := 0x01800040
def Reg.TL_EVENT : Nat := 0x01800044
def Reg.TL_EPOCH_LO : Nat := 0x01800048
def Reg.TL_EPOCH_HI : Nat := 0x0180004C
def Reg.TL_AREA : Nat := 0x01800050
def Reg.TL_NEXT_MS : Nat := 0x01800054
def Reg.EV_WRITTEN : Nat := 0x01800060
def Reg.EV_WRITTEN_HI : Nat := 0x01800064
def Reg.EV_CAP : Nat := 0x01800068
def Reg.EV_OVERWRITTEN : Nat := 0x0180006C
def Reg.EV_LOST : Nat := 0x01800070
def Reg.FT_CTRL : Nat := 0x01800080
def Reg.FT_CAP : Nat := 0x01800084
def Reg.FT_LAST : Nat := 0x01800088
def Reg.FT_TRANSIENT : Nat := 0x0180008C
def Reg.FT_PERMANENT : Nat := 0x01800090
def Reg.RSV_FORCE : Nat := 0x01800200
def Reg.AG_MARGIN (j : Nat) : Nat := 0x01800400 + j * 0x4
/-! 20 R652 -/
def Reg.AO_STATE : Nat := 0x00010040
def Reg.AO_EVENT : Nat := 0x00010044
def Reg.RST_CAUSE : Nat := 0x00010048
def Reg.FW_VERSION : Nat := 0x0001004C
def Reg.FW_SVN : Nat := 0x00010050
def Reg.TEMP : Nat := 0x00010054
def Reg.PWR_NOW : Nat := 0x00010058
def Reg.THERM_CTRL : Nat := 0x0001005C
def Reg.PD_STATE_LO : Nat := 0x00010060
def Reg.PD_STATE_HI : Nat := 0x00010064
def Reg.MCTP_IC_DROP : Nat := 0x00010068
def Reg.MCTP_REASM_DROP : Nat := 0x0001006C
def Reg.MCTP_NO_EID_DROP : Nat := 0x00010070
def Reg.RST_CTRL : Nat := 0x00010200
def Reg.PD_OFF_LO : Nat := 0x00010300
def Reg.PD_OFF_HI : Nat := 0x00010308
def Reg.FUSE_PROG : Nat := 0x00010400
def Reg.FUSE_STAT : Nat := 0x00010408
def Reg.CLK_ISLAND (j : Nat) : Nat := 0x00010500 + j * 0x4
/-! 02 R63 -/
def Reg.FWB_REQ_BASE_LO (i : Nat) : Nat := 0x04003000 + i * 0x10000
def Reg.FWB_REQ_BASE_HI (i : Nat) : Nat := 0x04003004 + i * 0x10000
def Reg.FWB_REQ_CTRL (i : Nat) : Nat := 0x04003008 + i * 0x10000
def Reg.FWB_REQ_PROD (i : Nat) : Nat := 0x0400300C + i * 0x10000
def Reg.FWB_REQ_CONS (i : Nat) : Nat := 0x04003010 + i * 0x10000
def Reg.FWB_RSP_BASE_LO (i : Nat) : Nat := 0x04003014 + i * 0x10000
def Reg.FWB_RSP_BASE_HI (i : Nat) : Nat := 0x04003018 + i * 0x10000
def Reg.FWB_RSP_CTRL (i : Nat) : Nat := 0x0400301C + i * 0x10000
def Reg.FWB_RSP_PROD (i : Nat) : Nat := 0x04003020 + i * 0x10000
def Reg.FWB_RSP_CONS (i : Nat) : Nat := 0x04003024 + i * 0x10000
def Reg.FWB_STATUS (i : Nat) : Nat := 0x04003028 + i * 0x10000
def Reg.FWB_FN_EPOCH (i : Nat) : Nat := 0x0400302C + i * 0x10000
def Reg.FWB_DEV_EPOCH (i : Nat) : Nat := 0x04003030 + i * 0x10000
/-! 14 R495 -/
def Reg.EF_ROUTE0 (i : Nat) : Nat := 0x00B02000 + i * 0x8
def Reg.EF_ROUTE1 (i : Nat) : Nat := 0x00B02004 + i * 0x8
/-! 04 R140 -/
def Reg.MSIX_ADDR_LO (i : Nat) (j : Nat) : Nat := 0x00110000 + i * 0x10000 + j * 0x10
def Reg.FMSIX_ADDR_LO (i : Nat) (j : Nat) : Nat := 0x04002800 + i * 0x10000 + j * 0x10
def Reg.MSIX_ADDR_HI (i : Nat) (j : Nat) : Nat := 0x00110004 + i * 0x10000 + j * 0x10
def Reg.FMSIX_ADDR_HI (i : Nat) (j : Nat) : Nat := 0x04002804 + i * 0x10000 + j * 0x10
def Reg.MSIX_DATA (i : Nat) (j : Nat) : Nat := 0x00110008 + i * 0x10000 + j * 0x10
def Reg.FMSIX_DATA (i : Nat) (j : Nat) : Nat := 0x04002808 + i * 0x10000 + j * 0x10
def Reg.MSIX_CTRL (i : Nat) (j : Nat) : Nat := 0x0011000C + i * 0x10000 + j * 0x10
def Reg.FMSIX_CTRL (i : Nat) (j : Nat) : Nat := 0x0400280C + i * 0x10000 + j * 0x10

def regDescs0 : List RegDesc := [
  ⟨0x1000, 2, 0x100, 1, 0, 0xFFFFFFC0, 0, 0, 0, 0, 0, false⟩,
  ⟨0x1004, 2, 0x100, 1, 0, 0xFFFFFFFF, 0, 0, 0, 0, 0, false⟩,
  ⟨0x1008, 2, 0x100, 1, 0, 0x8000000F, 0, 0, 0, 0, 6, false⟩,
  ⟨0x100C, 2, 0x100, 1, 0, 0x1FFF, 0, 0, 0, 0, 0, false⟩,
  ⟨0x1010, 2, 0x100, 1, 0, 0, 0, 0, 0, 0, 0, false⟩,
  ⟨0x1014, 2, 0x100, 1, 0, 0xFFFFFFC0, 0, 0, 0, 0, 0, false⟩,
  ⟨0x1018, 2, 0x100, 1, 0, 0xFFFFFFFF, 0, 0, 0, 0, 0, false⟩,
  ⟨0x101C, 2, 0x100, 1, 0, 0x8000FFFF, 0, 0, 0, 0, 6, false⟩,
  ⟨0x1020, 2, 0x100, 1, 0, 0, 0, 0, 0, 0, 0, false⟩,
  ⟨0x1024, 2, 0x100, 1, 0, 0x1FFF, 0, 0, 0, 0, 0, false⟩,
  ⟨0x1028, 2, 0x100, 1, 0, 0, 0xFF00000F, 0, 0, 0, 0, false⟩,
  ⟨0x102C, 2, 0x100, 1, 0, 0, 0, 0, 0, 0, 0, false⟩,
  ⟨0x1030, 2, 0x100, 1, 0, 0, 0, 0, 0, 0, 0, false⟩,
  ⟨0x10100, 1, 0, 1, 0, 0, 0, 0, 0, 0, 0, false⟩,
  ⟨0x10104, 1, 0, 1, 0, 0, 0, 0, 0, 0, 0xFFFFFFFF, false⟩,
  ⟨0x10108, 1, 0, 1, 0, 0, 0, 0, 0, 0, 0, false⟩,
  ⟨0x1010C, 1, 0, 1, 0, 0, 0, 0, 0, 0, 0x64, false⟩,
  ⟨0x10110, 1, 0, 1, 0, 0, 0, 0, 0xFFFFFFFF, 0, 0, false⟩,
  ⟨0x10114, 1, 0, 1, 0, 0, 0xFF00001F, 0, 0, 0, 0, false⟩,
  ⟨0x10118, 1, 0, 1, 0, 0, 0, 0, 0, 0xFFFFFFFF, 0, false⟩,
  ⟨0, 1, 0, 1, 0, 0, 0, 0, 0, 0, 0x81401F1A, false⟩,
  ⟨4, 1, 0, 1, 0, 0, 0, 0, 0, 0, 0x100, false⟩,
  ⟨8, 1, 0, 1, 0, 0, 0, 0, 0, 0, 0, false⟩,
  ⟨0xC, 1, 0, 1, 0, 0, 0, 0, 0, 0, 0, false⟩,
  ⟨0x10, 1, 0, 1, 0, 0, 0, 0, 0, 0, 0, false⟩,
  ⟨0x14, 1, 0, 1, 0, 0, 0, 0, 0, 0, 0, false⟩,
  ⟨0x18, 1, 0, 1, 0, 0, 0xFF00001F, 0, 0, 0, 0, false⟩,
  ⟨0x1900000, 1, 0, 1, 0, 0x3FFFFFC, 0, 0, 0, 0, 0, false⟩,
  ⟨0x1900004, 1, 0, 1, 0, 0xFFF0000, 0, 0x80000000, 0, 0, 0, false⟩,
  ⟨0x1900008, 1, 0, 1, 0, 0, 0, 0, 0, 0, 0, false⟩]

def regDescs1 : List RegDesc := [
  ⟨0x190000C, 1, 0, 1, 0, 0, 0, 0, 0, 0, 0, false⟩,
  ⟨0x100040, 1, 0, 1, 0, 0, 0, 0, 0, 0, 0, false⟩,
  ⟨0x100044, 1, 0, 1, 0, 0, 0, 0, 0, 0, 0, false⟩,
  ⟨0x100048, 1, 0, 1, 0, 0, 0xFF00003F, 0, 0, 0, 0, false⟩,
  ⟨0x10004C, 1, 0, 1, 0, 0, 0, 0, 0, 0, 0, false⟩,
  ⟨0x100050, 1, 0, 1, 0, 0, 0, 0, 0, 0, 0, false⟩,
  ⟨0x100054, 1, 0, 1, 0, 0x3FF, 0, 0, 0, 0, 0, true⟩,
  ⟨0x100058, 1, 0, 1, 0, 0xF, 0, 0, 0, 0, 4, true⟩,
  ⟨0x10005C, 1, 0, 1, 0, 0x7FF07FF, 0, 0, 0, 0, 0, false⟩,
  ⟨0x100060, 1, 0, 1, 0, 0, 0, 0, 0x7FF, 0, 0, false⟩,
  ⟨0x100064, 1, 0, 1, 0, 0, 0, 0, 0x7FF, 0, 0, false⟩,
  ⟨0x4002000, 4096, 0x10000, 1, 0, 0, 0, 0, 0, 0, 0, false⟩,
  ⟨0x4002004, 4096, 0x10000, 1, 0, 0, 0xFF00001F, 0, 0, 0, 0, false⟩,
  ⟨0x4002008, 4096, 0x10000, 1, 0, 0, 0, 0, 0, 0, 0, false⟩,
  ⟨0x400200C, 4096, 0x10000, 1, 0, 0, 0, 0, 0, 0, 0, false⟩,
  ⟨0x4002010, 4096, 0x10000, 1, 0, 0, 0, 0, 0, 0, 0, false⟩,
  ⟨0x4002014, 4096, 0x10000, 1, 0, 0x3F, 0, 0x80000000, 0, 0, 0, false⟩,
  ⟨0x4002018, 4096, 0x10000, 1, 0, 0, 0, 0, 0, 0, 0, false⟩,
  ⟨0x200040, 1, 0, 1, 0, 0xFFFF00, 0, 0, 0, 0, 0x200800, true⟩,
  ⟨0x200044, 1, 0, 1, 0, 0, 0xFF00003F, 0, 0, 0, 0, false⟩,
  ⟨0x200048, 1, 0, 1, 0, 0, 0, 0, 0, 0, 0, false⟩,
  ⟨0x200050, 1, 0, 1, 0, 0, 0, 0, 0, 0, 0, false⟩,
  ⟨0x200054, 1, 0, 1, 0, 0, 0, 0, 0, 0, 0, false⟩,
  ⟨0x200058, 1, 0, 1, 0, 0, 0, 0, 0, 0, 0, false⟩,
  ⟨0x20005C, 1, 0, 1, 0, 0, 0, 0, 0, 0, 0, false⟩,
  ⟨0x200060, 1, 0, 1, 0, 0, 0, 0, 0, 0, 0, false⟩,
  ⟨0x200064, 1, 0, 1, 0, 0, 0, 0, 0, 0, 0, false⟩,
  ⟨0x200068, 1, 0, 1, 0, 0, 0, 0, 0, 0, 0x10000, false⟩,
  ⟨0x20006C, 1, 0, 1, 0, 0, 0, 0, 0, 0, 0x10000, false⟩,
  ⟨0x200080, 1, 0, 1, 0, 0x8000FFFF, 0, 0, 0, 0, 0, false⟩]

def regDescs2 : List RegDesc := [
  ⟨0x200084, 1, 0, 8, 4, 0, 0, 0, 0, 0, 0, false⟩,
  ⟨0x300040, 1, 0, 1, 0, 1, 0, 0, 0, 0, 1, true⟩,
  ⟨0x300044, 1, 0, 1, 0, 0xFFFFFFFF, 0, 0, 0, 0, 0xFFFFFFFF, true⟩,
  ⟨0x300048, 1, 0, 1, 0, 0, 0, 0, 0, 0, 0, false⟩,
  ⟨0x30004C, 1, 0, 1, 0, 0, 0xFF0000FF, 0, 0, 0, 0, false⟩,
  ⟨0x300050, 1, 0, 1, 0, 0, 0, 0, 0, 0, 1, false⟩,
  ⟨0x300054, 1, 0, 1, 0, 0, 0, 0, 0, 0, 0x1C000, false⟩,
  ⟨0x300058, 1, 0, 1, 0, 0x1FFFF, 0, 0, 0, 0, 0x2000, true⟩,
  ⟨0x300060, 1, 0, 8, 4, 0x1FFFF, 0, 0, 0, 0, 0x1C000, true⟩,
  ⟨0x300080, 1, 0, 8, 4, 0, 0, 0, 0, 0, 0, false⟩,
  ⟨0x3000A0, 1, 0, 1, 0, 0, 0, 0, 0, 0, 0, false⟩,
  ⟨0x3000A4, 1, 0, 1, 0, 0, 0, 0, 0, 0, 0, false⟩,
  ⟨0x3000A8, 1, 0, 1, 0, 0, 0, 0, 0, 0, 0, false⟩,
  ⟨0x3000AC, 1, 0, 1, 0, 0, 0, 0, 0, 0, 0, false⟩,
  ⟨0x3000B0, 1, 0, 1, 0, 0, 0, 0, 0, 0, 0, false⟩,
  ⟨0x3000B4, 1, 0, 1, 0, 0, 0, 0, 0, 0, 0, false⟩,
  ⟨0x3000B8, 1, 0, 1, 0, 0, 0, 0, 0, 0, 0, false⟩,
  ⟨0x3000BC, 1, 0, 1, 0, 0, 0, 0, 0, 0, 0, false⟩,
  ⟨0x3000C0, 1, 0, 1, 0, 0, 0, 0, 0, 0, 0, false⟩,
  ⟨0x3000C4, 1, 0, 1, 0, 0, 0, 0, 0, 0, 0, false⟩,
  ⟨0x400040, 1, 0, 1, 0, 0x80000F0F, 0, 0, 0, 0, 0x80000404, true⟩,
  ⟨0x400044, 1, 0, 1, 0, 0, 0xFF00001F, 0, 0, 0, 0, false⟩,
  ⟨0x400048, 1, 0, 1, 0, 0, 0, 0, 0, 0, 0, false⟩,
  ⟨0x40004C, 1, 0, 1, 0, 0, 0, 0, 0, 0, 0, false⟩,
  ⟨0x400050, 1, 0, 1, 0, 0xFFFF007F, 0, 0, 0, 0, 0xFFFF0004, true⟩,
  ⟨0x400054, 1, 0, 1, 0, 0xFFFFFFFF, 0, 0, 0, 0, 0x186A0400, true⟩,
  ⟨0x400058, 1, 0, 1, 0, 0xFFFFFFFF, 0, 0, 0, 0, 0x186A0400, true⟩,
  ⟨0x400060, 1, 0, 4, 4, 0xFFFFFFBF, 0, 0, 0, 0, 0, true⟩,
  ⟨0x400080, 1, 0, 1, 0, 0, 0, 0, 0, 0, 0, false⟩,
  ⟨0x400084, 1, 0, 1, 0, 0, 0, 0, 0, 0, 0, false⟩]

def regDescs3 : List RegDesc := [
  ⟨0x400088, 1, 0, 1, 0, 0, 0, 0, 0, 0, 0, false⟩,
  ⟨0x40008C, 1, 0, 1, 0, 0, 0, 0, 0, 0, 0, false⟩,
  ⟨0x400090, 1, 0, 1, 0, 0, 0, 0, 0, 0, 0, false⟩,
  ⟨0x400094, 1, 0, 1, 0, 0, 0, 0, 0, 0, 0, false⟩,
  ⟨0x400098, 1, 0, 1, 0, 0, 0, 0, 0, 0, 0, false⟩,
  ⟨0x40009C, 1, 0, 1, 0, 0, 0, 0, 0, 0, 0, false⟩,
  ⟨0x4000A0, 1, 0, 1, 0, 0, 0, 0, 0, 0, 0, false⟩,
  ⟨0x4000A4, 1, 0, 1, 0, 0, 0, 0, 0, 0, 0, false⟩,
  ⟨0x4000A8, 1, 0, 1, 0, 0, 0, 0, 0, 0, 0, false⟩,
  ⟨0x4000AC, 1, 0, 1, 0, 0, 0, 0, 0, 0, 0, false⟩,
  ⟨0x4000C0, 1, 0, 13, 4, 0, 0, 0, 0, 0, 0, false⟩,
  ⟨0x500040, 1, 0, 1, 0, 0x8000FFFF, 0, 0, 0, 0, 0x80000064, true⟩,
  ⟨0x500044, 1, 0, 1, 0, 0, 0xFF00003F, 0, 0, 0, 0, false⟩,
  ⟨0x500048, 1, 0, 1, 0, 0x9FFF9FFF, 0, 0, 0, 0, 0, true⟩,
  ⟨0x50004C, 1, 0, 1, 0, 0, 0, 0, 0, 0, 0, true⟩,
  ⟨0x500050, 1, 0, 1, 0, 0xFFFF007F, 0, 0, 0, 0, 0xFFFF0004, true⟩,
  ⟨0x500054, 1, 0, 1, 0, 0xFFFFFFFF, 0, 0, 0, 0, 0x186A0400, true⟩,
  ⟨0x500058, 1, 0, 1, 0, 0xFFFFFFFF, 0, 0, 0, 0, 0x186A0400, true⟩,
  ⟨0x500060, 1, 0, 16, 4, 0xFFFFFFFF, 0, 0, 0, 0, 0, true⟩,
  ⟨0x5000A0, 1, 0, 16, 4, 0xFFFF80FF, 0, 0, 0, 0, 0, true⟩,
  ⟨0x5000E0, 1, 0, 1, 0, 0, 0, 0, 0, 0, 0x60, false⟩,
  ⟨0x5000E4, 1, 0, 1, 0, 0, 0, 0, 0, 0, 0, false⟩,
  ⟨0x5000E8, 1, 0, 1, 0, 0, 0, 0, 0, 0, 0, false⟩,
  ⟨0x500100, 1, 0, 1, 0, 0, 0, 0, 0, 0, 0, false⟩,
  ⟨0x500104, 1, 0, 1, 0, 0, 0, 0, 0, 0, 0, false⟩,
  ⟨0x500108, 1, 0, 1, 0, 0, 0, 0, 0, 0, 0, false⟩,
  ⟨0x50010C, 1, 0, 1, 0, 0, 0, 0, 0, 0, 0, false⟩,
  ⟨0x500110, 1, 0, 1, 0, 0, 0, 0, 0, 0, 0, false⟩,
  ⟨0x500114, 1, 0, 1, 0, 0, 0, 0, 0, 0, 0, false⟩,
  ⟨0x500118, 1, 0, 1, 0, 0, 0, 0, 0, 0, 0, false⟩]

def regDescs4 : List RegDesc := [
  ⟨0x50011C, 1, 0, 1, 0, 0, 0, 0, 0, 0, 0, false⟩,
  ⟨0x500120, 1, 0, 1, 0, 0, 0, 0, 0, 0, 0, false⟩,
  ⟨0x500124, 1, 0, 1, 0, 0, 0, 0, 0, 0, 0, false⟩,
  ⟨0x500128, 1, 0, 1, 0, 0, 0, 0, 0, 0, 0, false⟩,
  ⟨0x50012C, 1, 0, 1, 0, 0, 0, 0, 0, 0, 0, false⟩,
  ⟨0x500130, 1, 0, 1, 0, 0, 0, 0, 0, 0, 0, false⟩,
  ⟨0x500134, 1, 0, 1, 0, 0, 0, 0, 0, 0, 0, false⟩,
  ⟨0x500138, 1, 0, 1, 0, 0, 0, 0, 0, 0, 0, false⟩,
  ⟨0x50013C, 1, 0, 1, 0, 0, 0, 0, 0, 0, 0, false⟩,
  ⟨0x501000, 1, 0, 96, 8, 0, 0, 0, 0, 0, 0, true⟩,
  ⟨0x501004, 1, 0, 96, 8, 0, 0, 0, 0, 0, 0, true⟩,
  ⟨0x501400, 1, 0, 96, 4, 0, 0, 0, 0, 0, 0, false⟩,
  ⟨0x600040, 1, 0, 1, 0, 0xFFFF0003, 0, 0, 0, 0, 0x3E80003, true⟩,
  ⟨0x600044, 1, 0, 1, 0, 0, 0xFF0001FF, 0, 0, 0, 0, false⟩,
  ⟨0x600048, 1, 0, 1, 0, 0, 0, 0, 0, 0, 0, false⟩,
  ⟨0x60004C, 1, 0, 1, 0, 0, 0, 0, 0, 0, 0, false⟩,
  ⟨0x600050, 1, 0, 1, 0, 0xFFFFFFFF, 0, 0, 0, 0, 0xF4240400, true⟩,
  ⟨0x600054, 1, 0, 1, 0, 0, 0, 0, 0, 0, 0, false⟩,
  ⟨0x600060, 1, 0, 1, 0, 0, 0, 0, 0, 0, 0, false⟩,
  ⟨0x600064, 1, 0, 1, 0, 0, 0, 0, 0, 0, 0, false⟩,
  ⟨0x600068, 1, 0, 1, 0, 0, 0, 0, 0, 0, 0, false⟩,
  ⟨0x60006C, 1, 0, 1, 0, 0, 0, 0, 0, 0, 0, false⟩,
  ⟨0x600070, 1, 0, 1, 0, 0, 0, 0, 0, 0, 0, false⟩,
  ⟨0x600074, 1, 0, 1, 0, 0, 0, 0, 0, 0, 0, false⟩,
  ⟨0x600078, 1, 0, 1, 0, 0, 0, 0, 0, 0, 0, false⟩,
  ⟨0x60007C, 1, 0, 1, 0, 0, 0, 0, 0, 0, 0, false⟩,
  ⟨0x600080, 1, 0, 1, 0, 0, 0, 0, 0, 0, 0, false⟩,
  ⟨0x600084, 1, 0, 1, 0, 0, 0, 0, 0, 0, 0, false⟩,
  ⟨0x600088, 1, 0, 1, 0, 0, 0, 0, 0, 0, 0, false⟩,
  ⟨0x60008C, 1, 0, 1, 0, 0, 0, 0, 0, 0, 0, false⟩]

def regDescs5 : List RegDesc := [
  ⟨0x600090, 1, 0, 1, 0, 0, 0, 0, 0, 0, 0, false⟩,
  ⟨0x600094, 1, 0, 1, 0, 0, 0, 0, 0, 0, 0, false⟩,
  ⟨0x600098, 1, 0, 1, 0, 0, 0, 0, 0, 0, 0, false⟩,
  ⟨0x601000, 2, 0x100, 1, 0, 0xF3FC0000, 0, 0, 0, 0, 0, false⟩,
  ⟨0x601004, 2, 0x100, 1, 0, 0x3FFFFFF, 0, 0, 0, 0, 0, false⟩,
  ⟨0x601008, 2, 0x100, 1, 0, 0, 0, 0, 0, 0, 0, false⟩,
  ⟨0x601040, 2, 0x100, 16, 4, 0xFFFFFFFF, 0, 0, 0, 0, 0, false⟩,
  ⟨0x700040, 1, 0, 1, 0, 0xC0000000, 0, 0, 0, 0, 0xC0000000, true⟩,
  ⟨0x700044, 1, 0, 1, 0, 0, 0xFF0000FF, 0, 0, 0, 0, false⟩,
  ⟨0x700048, 1, 0, 1, 0, 0, 0, 0, 0, 0, 0, false⟩,
  ⟨0x70004C, 1, 0, 1, 0, 0, 0, 0, 0, 0, 0, false⟩,
  ⟨0x700050, 1, 0, 1, 0, 0, 0, 0, 0, 0, 0, false⟩,
  ⟨0x700054, 1, 0, 1, 0, 0, 0, 0, 0, 0, 0, false⟩,
  ⟨0x700058, 1, 0, 1, 0, 0x3FFFF, 0, 0, 0, 0, 0x24000, true⟩,
  ⟨0x70005C, 1, 0, 1, 0, 0x3FFFF, 0, 0, 0, 0, 0x20000, true⟩,
  ⟨0x700060, 1, 0, 1, 0, 0x3FFFF, 0, 0, 0, 0, 0x2A000, true⟩,
  ⟨0x700064, 1, 0, 1, 0, 0x3FFFF, 0, 0, 0, 0, 0x28000, true⟩,
  ⟨0x700068, 1, 0, 1, 0, 0xFF00FF, 0, 0, 0, 0, 0, true⟩,
  ⟨0x700080, 1, 0, 1, 0, 0, 0, 0, 0, 0, 0, false⟩,
  ⟨0x700084, 1, 0, 1, 0, 0, 0, 0, 0, 0, 0, false⟩,
  ⟨0x700088, 1, 0, 1, 0, 0, 0, 0, 0, 0, 0, false⟩,
  ⟨0x70008C, 1, 0, 1, 0, 0, 0, 0, 0, 0, 0, false⟩,
  ⟨0x700090, 1, 0, 1, 0, 0, 0, 0, 0, 0, 0, false⟩,
  ⟨0x700094, 1, 0, 1, 0, 0, 0, 0, 0, 0, 0, false⟩,
  ⟨0x700098, 1, 0, 1, 0, 0, 0, 0, 0, 0, 0, false⟩,
  ⟨0x70009C, 1, 0, 1, 0, 0, 0, 0, 0, 0, 0, false⟩,
  ⟨0x7000A0, 1, 0, 1, 0, 0, 0, 0, 0, 0, 0, false⟩,
  ⟨0x7000A4, 1, 0, 1, 0, 0, 0, 0, 0, 0, 0, false⟩,
  ⟨0x7000A8, 1, 0, 1, 0, 0, 0, 0, 0, 0, 0, false⟩,
  ⟨0x7000AC, 1, 0, 1, 0, 0, 0, 0, 0, 0, 0, false⟩]

def regDescs6 : List RegDesc := [
  ⟨0x7000B0, 1, 0, 1, 0, 0, 0, 0, 0, 0, 0, false⟩,
  ⟨0x7000B4, 1, 0, 1, 0, 0, 0, 0, 0, 0, 0, false⟩,
  ⟨0x7000C0, 1, 0, 1, 0, 0xE000FFFF, 0, 0, 0, 0, 0, false⟩,
  ⟨0x7000C4, 1, 0, 16, 4, 0, 0, 0, 0, 0, 0, false⟩,
  ⟨0x800040, 2, 0x40000, 1, 0, 0xFF07, 0, 0, 0, 0, 0x1400, true⟩,
  ⟨0x800044, 2, 0x40000, 1, 0, 0, 0xFF0001FF, 0, 0, 0, 0, false⟩,
  ⟨0x800048, 2, 0x40000, 1, 0, 0, 0, 0, 0, 0, 0xFFFFF, false⟩,
  ⟨0x80004C, 2, 0x40000, 1, 0, 0, 0, 0, 0, 0, 0, false⟩,
  ⟨0x800050, 2, 0x40000, 1, 0, 0, 0, 0, 0, 0, 0x142800, false⟩,
  ⟨0x800054, 2, 0x40000, 1, 0, 0, 0, 0, 0, 0, 0, false⟩,
  ⟨0x800058, 2, 0x40000, 1, 0, 0, 0, 0, 0, 0, 0, false⟩,
  ⟨0x800060, 2, 0x40000, 1, 0, 0, 0, 0, 0, 0, 0, false⟩,
  ⟨0x800064, 2, 0x40000, 1, 0, 0, 0, 0, 0, 0, 0, false⟩,
  ⟨0x800068, 2, 0x40000, 1, 0, 0, 0, 0, 0, 0, 0, false⟩,
  ⟨0x80006C, 2, 0x40000, 1, 0, 0, 0, 0, 0, 0, 0, false⟩,
  ⟨0x800070, 2, 0x40000, 1, 0, 0, 0, 0, 0, 0, 0, false⟩,
  ⟨0x800074, 2, 0x40000, 1, 0, 0, 0, 0, 0, 0, 0, false⟩,
  ⟨0x800078, 2, 0x40000, 1, 0, 0, 0, 0, 0, 0, 0, false⟩,
  ⟨0x80007C, 2, 0x40000, 1, 0, 0, 0, 0, 0, 0, 0, false⟩,
  ⟨0x800080, 2, 0x40000, 1, 0, 0, 0, 0, 0, 0, 0, false⟩,
  ⟨0x800084, 2, 0x40000, 1, 0, 0, 0, 0, 0, 0, 0, false⟩,
  ⟨0x800088, 2, 0x40000, 1, 0, 0, 0, 0, 0, 0, 0, false⟩,
  ⟨0x80008C, 2, 0x40000, 1, 0, 0, 0, 0, 0, 0, 0, false⟩,
  ⟨0x800090, 2, 0x40000, 1, 0, 0, 0, 0, 0, 0, 0, false⟩,
  ⟨0x900040, 1, 0, 1, 0, 0, 0xFF00001F, 0, 0, 0, 0, false⟩,
  ⟨0x900044, 1, 0, 1, 0, 0, 0, 0, 0, 0, 0x4000, false⟩,
  ⟨0x900048, 1, 0, 1, 0, 0, 0, 0, 0, 0, 0, false⟩,
  ⟨0x90004C, 1, 0, 1, 0, 0, 0, 0, 0, 0, 0, false⟩,
  ⟨0x900100, 1, 0, 1, 0, 0, 0, 0, 0, 0x80003FFF, 0, false⟩,
  ⟨0x900108, 1, 0, 1, 0, 0, 0, 0, 0, 0, 0, false⟩]

def regDescs7 : List RegDesc := [
  ⟨0x900200, 1, 0, 1, 0, 0x3FF, 0, 0, 0, 0, 1, true⟩,
  ⟨0x900204, 1, 0, 1, 0, 0, 0, 0, 0, 0, 0, false⟩,
  ⟨0x900208, 1, 0, 1, 0, 0, 0xFF00001F, 0, 0, 0, 0, false⟩,
  ⟨0x90020C, 1, 0, 1, 0, 0, 0, 0, 0, 0, 0, false⟩,
  ⟨0x900210, 1, 0, 1, 0, 0, 0, 0, 0, 0, 0, false⟩,
  ⟨0x900220, 1, 0, 1, 0, 0, 0, 0, 0, 0, 0, false⟩,
  ⟨0x900224, 1, 0, 1, 0, 0, 0, 0, 0, 0, 0, false⟩,
  ⟨0x900228, 1, 0, 1, 0, 0, 0, 0, 0, 0, 0, false⟩,
  ⟨0x90022C, 1, 0, 1, 0, 0, 0, 0, 0, 0, 0, false⟩,
  ⟨0x1000040, 32, 0x40000, 1, 0, 0xC0003FFF, 0, 0, 0, 0, 0xC0000000, true⟩,
  ⟨0x1000044, 32, 0x40000, 1, 0, 0, 0xFF0003FF, 0, 0, 0, 0, false⟩,
  ⟨0x1000048, 32, 0x40000, 1, 0, 0, 0, 0, 0, 0, 0x800, false⟩,
  ⟨0x100004C, 32, 0x40000, 1, 0, 0, 0, 0, 0, 0, 0x76543210, false⟩,
  ⟨0x1000050, 32, 0x40000, 1, 0, 0, 0, 0, 0, 0, 0, false⟩,
  ⟨0x1000054, 32, 0x40000, 1, 0, 0, 0, 0, 0, 0, 0, false⟩,
  ⟨0x1000058, 32, 0x40000, 1, 0, 0, 0, 0, 0, 0, 0, false⟩,
  ⟨0x100005C, 32, 0x40000, 1, 0, 0, 0, 0, 0, 0, 0, false⟩,
  ⟨0x1000060, 32, 0x40000, 4, 8, 0xC003FFFF, 0, 0, 0, 0, 0, true⟩,
  ⟨0x1000064, 32, 0x40000, 4, 8, 0x3FFFF, 0, 0, 0, 0, 0, true⟩,
  ⟨0x1000080, 32, 0x40000, 8, 4, 0xFFFFFFFF, 0, 0, 0, 0, 0, true⟩,
  ⟨0x10000A0, 32, 0x40000, 8, 4, 0, 0, 0, 0, 0, 0, true⟩,
  ⟨0x1000100, 32, 0x40000, 1, 0, 0, 0, 0, 0, 0, 0, false⟩,
  ⟨0x1000104, 32, 0x40000, 1, 0, 0, 0, 0, 0, 0, 0, false⟩,
  ⟨0x1000108, 32, 0x40000, 1, 0, 0, 0, 0, 0, 0, 0, false⟩,
  ⟨0x100010C, 32, 0x40000, 1, 0, 0, 0, 0, 0, 0, 0, false⟩,
  ⟨0x1000110, 32, 0x40000, 1, 0, 0, 0, 0, 0, 0, 0, false⟩,
  ⟨0x1000114, 32, 0x40000, 1, 0, 0, 0, 0, 0, 0, 0, false⟩,
  ⟨0x1000118, 32, 0x40000, 1, 0, 0, 0, 0, 0, 0, 0, false⟩,
  ⟨0x100011C, 32, 0x40000, 1, 0, 0, 0, 0, 0, 0, 0, false⟩,
  ⟨0x1000120, 32, 0x40000, 1, 0, 0, 0, 0, 0, 0, 0, false⟩]

def regDescs8 : List RegDesc := [
  ⟨0x1000124, 32, 0x40000, 1, 0, 0, 0, 0, 0, 0, 0, false⟩,
  ⟨0x1000130, 32, 0x40000, 1, 0, 0, 0, 0, 0, 0, 0, false⟩,
  ⟨0x1000134, 32, 0x40000, 1, 0, 0, 0, 0, 0, 0, 0, false⟩,
  ⟨0x1000138, 32, 0x40000, 1, 0, 0, 0, 0, 0, 0, 0, false⟩,
  ⟨0x100013C, 32, 0x40000, 1, 0, 0, 0, 0, 0, 0, 0, false⟩,
  ⟨0x1000140, 32, 0x40000, 1, 0, 0, 0, 0, 0, 0, 0, false⟩,
  ⟨0x1000144, 32, 0x40000, 1, 0, 0, 0, 0, 0, 0, 0, false⟩,
  ⟨0x1000148, 32, 0x40000, 1, 0, 0, 0, 0, 0, 0, 0, false⟩,
  ⟨0x100014C, 32, 0x40000, 1, 0, 0, 0, 0, 0, 0, 0, false⟩,
  ⟨0x1000150, 32, 0x40000, 1, 0, 0, 0, 0, 0, 0, 0, false⟩,
  ⟨0x1010000, 32, 0x40000, 4096, 8, 0, 0, 0, 0, 0, 0, false⟩,
  ⟨0x1010004, 32, 0x40000, 4096, 8, 0, 0, 0, 0, 0, 0, false⟩,
  ⟨0x1018000, 32, 0x40000, 4096, 8, 0, 0, 0, 0, 0, 0, false⟩,
  ⟨0x1018004, 32, 0x40000, 4096, 8, 0, 0, 0, 0, 0, 0, false⟩,
  ⟨0xA00040, 1, 0, 1, 0, 0x807F007F, 0, 0, 0, 0, 0x80140040, true⟩,
  ⟨0xA00044, 1, 0, 1, 0, 0, 0xFF00003F, 0, 0, 0, 0, false⟩,
  ⟨0xA00050, 1, 0, 1, 0, 0, 0, 0, 0, 0, 0, false⟩,
  ⟨0xA00054, 1, 0, 1, 0, 0, 0, 0, 0, 0, 0, false⟩,
  ⟨0xA00058, 1, 0, 1, 0, 0, 0, 0, 0, 0, 0, false⟩,
  ⟨0xA0005C, 1, 0, 1, 0, 0, 0, 0, 0, 0, 0, false⟩,
  ⟨0xA00060, 1, 0, 1, 0, 0, 0, 0, 0, 0, 0, false⟩,
  ⟨0xA00064, 1, 0, 1, 0, 0, 0, 0, 0, 0, 0, false⟩,
  ⟨0xA00068, 1, 0, 1, 0, 0, 0, 0, 0, 0, 0, false⟩,
  ⟨0xA0006C, 1, 0, 1, 0, 0, 0, 0, 0, 0, 0, false⟩,
  ⟨0xA00070, 1, 0, 1, 0, 0, 0, 0, 0, 0, 0, false⟩,
  ⟨0xA00074, 1, 0, 1, 0, 0, 0, 0, 0, 0, 0, false⟩,
  ⟨0xA00100, 1, 0, 128, 8, 0x8FF07FFF, 0, 0, 0, 0, 0x81C00000, true⟩,
  ⟨0xA00104, 1, 0, 128, 8, 0, 0, 0, 0, 0, 0xFFFF, false⟩,
  ⟨0xA00500, 1, 0, 32, 4, 0, 0, 0, 0, 0, 0, true⟩,
  ⟨0xB00040, 1, 0, 1, 0, 0, 0xFF000007, 0, 0, 0, 0, false⟩]

def regDescs9 : List RegDesc := [
  ⟨0xB00044, 1, 0, 1, 0, 0x3F, 0, 0, 0, 0, 0, true⟩,
  ⟨0xB00080, 1, 0, 28, 4, 0, 0, 0, 0, 0, 0, true⟩,
  ⟨0xB00800, 1, 0, 1, 0, 0, 0, 0, 0, 0x8FFF00BF, 0, false⟩,
  ⟨0xC00040, 1, 0, 1, 0, 0xFFFF00, 0, 0, 0, 0, 0x1E1400, true⟩,
  ⟨0xC00044, 1, 0, 1, 0, 0x1F00FF, 0, 0, 0, 0, 0, true⟩,
  ⟨0xC00048, 1, 0, 1, 0, 0, 0xFF0001FF, 0, 0, 0, 0, false⟩,
  ⟨0xC0004C, 1, 0, 1, 0, 0, 0, 0, 0, 0, 0, false⟩,
  ⟨0xC00100, 4, 0x20, 1, 0, 0xF00000FF, 0, 0, 0, 0, 0xF0000000, true⟩,
  ⟨0xC00104, 4, 0x20, 1, 0, 0, 0, 0, 0, 0, 0, false⟩,
  ⟨0xC00108, 4, 0x20, 1, 0, 0, 0, 0, 0, 0, 0, false⟩,
  ⟨0xC0010C, 4, 0x20, 1, 0, 0, 0, 0, 0, 0, 0, false⟩,
  ⟨0xC00110, 4, 0x20, 1, 0, 0, 0, 0, 0, 0, 0, false⟩,
  ⟨0xC00114, 4, 0x20, 1, 0, 0, 0, 0, 0, 0, 0, false⟩,
  ⟨0xC00118, 4, 0x20, 1, 0, 0, 0, 0, 0, 0, 0, false⟩,
  ⟨0xC0011C, 4, 0x20, 1, 0, 0, 0, 0, 0, 0, 0, false⟩,
  ⟨0xD00040, 4, 0x40000, 1, 0, 0xFFFFFFFF, 0, 0, 0, 0, 0xC41807D0, true⟩,
  ⟨0xD00044, 4, 0x40000, 1, 0, 0xFFFF07FF, 0, 0, 0, 0, 0x40, true⟩,
  ⟨0xD00048, 4, 0x40000, 1, 0, 0, 0, 0, 0, 0, 0, false⟩,
  ⟨0xD0004C, 4, 0x40000, 1, 0, 0, 0xFF0007FF, 0, 0, 0, 0, false⟩,
  ⟨0xD00050, 4, 0x40000, 1, 0, 0, 0, 0, 0, 0, 0, false⟩,
  ⟨0xD00054, 4, 0x40000, 1, 0, 0, 0, 0, 0, 0, 0, false⟩,
  ⟨0xD00058, 4, 0x40000, 1, 0, 0, 0, 0, 0, 0, 0, false⟩,
  ⟨0xD0005C, 4, 0x40000, 1, 0, 0, 0, 0, 0, 0, 0, false⟩,
  ⟨0xD00060, 4, 0x40000, 1, 0, 0, 0, 0, 0, 0, 0, false⟩,
  ⟨0xD00064, 4, 0x40000, 1, 0, 0, 0, 0, 0, 0, 0, false⟩,
  ⟨0xD00068, 4, 0x40000, 1, 0, 0, 0, 0, 0, 0, 0, false⟩,
  ⟨0xD0006C, 4, 0x40000, 1, 0, 0, 0, 0, 0, 0, 0, false⟩,
  ⟨0xD00070, 4, 0x40000, 1, 0, 0, 0, 0, 0, 0, 0, false⟩,
  ⟨0xD00074, 4, 0x40000, 1, 0, 0, 0, 0, 0, 0, 0, false⟩,
  ⟨0xD00078, 4, 0x40000, 1, 0, 0, 0, 0, 0, 0, 0, false⟩]

def regDescs10 : List RegDesc := [
  ⟨0xD0007C, 4, 0x40000, 1, 0, 0, 0, 0, 0, 0, 0, false⟩,
  ⟨0xD00080, 4, 0x40000, 1, 0, 0, 0, 0, 0, 0, 0, false⟩,
  ⟨0xD00084, 4, 0x40000, 1, 0, 0, 0, 0, 0, 0, 0, false⟩,
  ⟨0xD00088, 4, 0x40000, 1, 0, 0, 0, 0, 0, 0, 0, false⟩,
  ⟨0xD0008C, 4, 0x40000, 1, 0, 0, 0, 0, 0, 0, 0, false⟩,
  ⟨0xD00090, 4, 0x40000, 1, 0, 0, 0, 0, 0, 0, 0, false⟩,
  ⟨0xE00040, 1, 0, 1, 0, 0xFF00FF07, 0, 0, 0, 0, 0x1000200, true⟩,
  ⟨0xE00044, 1, 0, 1, 0, 0, 0, 0, 0, 0, 0, false⟩,
  ⟨0xE00048, 1, 0, 1, 0, 0, 0xFF0007FF, 0, 0, 0, 0, false⟩,
  ⟨0xE0004C, 1, 0, 1, 0, 0xFFFFFFFF, 0, 0, 0, 0, 0x60, true⟩,
  ⟨0xE00050, 1, 0, 1, 0, 0x7FFFFF, 0, 0, 0, 0, 0, true⟩,
  ⟨0xE00054, 1, 0, 1, 0, 0, 0, 0, 0, 0, 0, false⟩,
  ⟨0xE00058, 1, 0, 1, 0, 0, 0, 0, 0, 0, 0, false⟩,
  ⟨0xE00100, 2, 0x40, 1, 0, 0x80000007, 0, 0, 0, 0, 0x80000001, true⟩,
  ⟨0xE00104, 2, 0x40, 1, 0, 0, 0, 0, 0, 0, 0, false⟩,
  ⟨0xE00108, 2, 0x40, 1, 0, 0, 0, 0, 0, 0, 0, false⟩,
  ⟨0xE00110, 2, 0x40, 1, 0, 0, 0, 0, 0, 0, 0, false⟩,
  ⟨0xE00114, 2, 0x40, 1, 0, 0, 0, 0, 0, 0, 0, false⟩,
  ⟨0xE00118, 2, 0x40, 1, 0, 0, 0, 0, 0, 0, 0, false⟩,
  ⟨0xE0011C, 2, 0x40, 1, 0, 0, 0, 0, 0, 0, 0, false⟩,
  ⟨0xE00120, 2, 0x40, 1, 0, 0, 0, 0, 0, 0, 0, false⟩,
  ⟨0xE00124, 2, 0x40, 1, 0, 0, 0, 0, 0, 0, 0, false⟩,
  ⟨0xE00128, 2, 0x40, 1, 0, 0, 0, 0, 0, 0, 0, false⟩,
  ⟨0xE0012C, 2, 0x40, 1, 0, 0, 0, 0, 0, 0, 0, false⟩,
  ⟨0xE00130, 2, 0x40, 1, 0, 0, 0, 0, 0, 0, 0, false⟩,
  ⟨0xE00134, 2, 0x40, 1, 0, 0, 0, 0, 0, 0, 0, false⟩,
  ⟨0xE00138, 2, 0x40, 1, 0, 0, 0, 0, 0, 0, 0, false⟩,
  ⟨0xE0013C, 2, 0x40, 1, 0, 0, 0, 0, 0, 0, 0, false⟩,
  ⟨0xF00040, 1, 0, 1, 0, 0, 0, 0, 0, 0, 0, true⟩,
  ⟨0xF00044, 1, 0, 1, 0, 0, 0xFF00007F, 0, 0, 0, 0, false⟩]

def regDescs11 : List RegDesc := [
  ⟨0xF00048, 1, 0, 1, 0, 0, 0, 0, 0, 0, 0, false⟩,
  ⟨0xF00060, 1, 0, 1, 0, 0, 0, 0, 0, 0, 0, false⟩,
  ⟨0xF00064, 1, 0, 1, 0, 0, 0, 0, 0, 0, 0, false⟩,
  ⟨0xF00068, 1, 0, 1, 0, 0, 0, 0, 0, 0, 0, false⟩,
  ⟨0xF0006C, 1, 0, 1, 0, 0xC00000FF, 0, 0, 0, 0, 0x64, true⟩,
  ⟨0xF00070, 1, 0, 1, 0, 0, 0, 0, 0, 0, 0, false⟩,
  ⟨0xF00074, 1, 0, 1, 0, 0, 0, 0, 0, 0, 0, false⟩,
  ⟨0xF00078, 1, 0, 1, 0, 0, 0, 0, 0, 0, 0, false⟩,
  ⟨0xF00100, 8, 0x80, 1, 0, 0xFFE07FFF, 0, 0, 0, 0, 0x2400, true⟩,
  ⟨0xF00104, 8, 0x80, 1, 0, 0, 0, 0, 0, 0, 0, false⟩,
  ⟨0xF00108, 8, 0x80, 1, 0, 0xFFFFFFFF, 0, 0, 0, 0, 0x400300, true⟩,
  ⟨0xF0010C, 8, 0x80, 1, 0, 0xFFFFFFFF, 0, 0, 0, 0, 0, true⟩,
  ⟨0xF00110, 8, 0x80, 1, 0, 0, 0, 0, 0, 0, 0, false⟩,
  ⟨0xF00114, 8, 0x80, 1, 0, 0, 0, 0, 0, 0, 0, false⟩,
  ⟨0xF00118, 8, 0x80, 1, 0, 0, 0, 0, 0, 0, 0, false⟩,
  ⟨0xF0011C, 8, 0x80, 1, 0, 0, 0, 0, 0, 0, 0, false⟩,
  ⟨0xF00120, 8, 0x80, 1, 0, 0, 0, 0, 0, 0, 0, false⟩,
  ⟨0xF00124, 8, 0x80, 1, 0, 0, 0, 0, 0, 0, 0, false⟩,
  ⟨0xF00128, 8, 0x80, 1, 0, 0, 0, 0, 0, 0, 0, false⟩,
  ⟨0xF0012C, 8, 0x80, 1, 0, 0, 0, 0, 0, 0, 0, false⟩,
  ⟨0xF00130, 8, 0x80, 1, 0, 0, 0, 0, 0, 0, 0, false⟩,
  ⟨0xF00134, 8, 0x80, 1, 0, 0, 0, 0, 0, 0, 0, false⟩,
  ⟨0xF00138, 8, 0x80, 1, 0, 0, 0, 0, 0, 0, 0, false⟩,
  ⟨0xF0013C, 8, 0x80, 1, 0, 0, 0, 0, 0, 0, 0, false⟩,
  ⟨0xF00140, 8, 0x80, 1, 0, 0, 0, 0, 0, 0, 0, false⟩,
  ⟨0xF00144, 8, 0x80, 1, 0, 0, 0, 0, 0, 0, 0, false⟩,
  ⟨0xF00148, 8, 0x80, 1, 0, 0, 0, 0, 0, 0, 0, false⟩,
  ⟨0xF0014C, 8, 0x80, 1, 0, 0, 0, 0, 0, 0, 0, false⟩,
  ⟨0xF00150, 8, 0x80, 1, 0, 0, 0, 0, 0, 0, 0, false⟩,
  ⟨0xF00154, 8, 0x80, 1, 0, 0, 0, 0, 0, 0, 0, false⟩]

def regDescs12 : List RegDesc := [
  ⟨0xF00158, 8, 0x80, 1, 0, 0, 0, 0, 0, 0, 0, false⟩,
  ⟨0x4005000, 4096, 0x10000, 1, 0, 0, 0, 0, 0, 0, 0, false⟩,
  ⟨0x4005004, 4096, 0x10000, 1, 0, 0, 0, 0, 0, 0, 0, false⟩,
  ⟨0x4005008, 4096, 0x10000, 1, 0, 0, 0, 0, 0, 0, 0, false⟩,
  ⟨0x4005040, 4096, 0x10000, 32, 4, 0, 0, 0, 0, 0, 0, false⟩,
  ⟨0x1800040, 1, 0, 1, 0, 0x80000FFF, 0, 0, 0, 0, 0x8000003C, true⟩,
  ⟨0x1800044, 1, 0, 1, 0, 0, 0xFF0007FF, 0, 0, 0, 0, false⟩,
  ⟨0x1800048, 1, 0, 1, 0, 0, 0, 0, 0, 0, 0, false⟩,
  ⟨0x180004C, 1, 0, 1, 0, 0, 0, 0, 0, 0, 0, false⟩,
  ⟨0x1800050, 1, 0, 1, 0, 0xFF03FFFF, 0, 0, 0, 0, 0, true⟩,
  ⟨0x1800054, 1, 0, 1, 0, 0, 0, 0, 0, 0, 0, false⟩,
  ⟨0x1800060, 1, 0, 1, 0, 0, 0, 0, 0, 0, 0, false⟩,
  ⟨0x1800064, 1, 0, 1, 0, 0, 0, 0, 0, 0, 0, false⟩,
  ⟨0x1800068, 1, 0, 1, 0, 0, 0, 0, 0, 0, 0x4000, false⟩,
  ⟨0x180006C, 1, 0, 1, 0, 0, 0, 0, 0, 0, 0, false⟩,
  ⟨0x1800070, 1, 0, 1, 0, 0, 0, 0, 0, 0, 0, false⟩,
  ⟨0x1800080, 1, 0, 1, 0, 0xFFFFFFEF, 0, 0, 0, 0, 0x3E8BCA3, true⟩,
  ⟨0x1800084, 1, 0, 1, 0, 0, 0, 0, 0, 0, 0x80529000, false⟩,
  ⟨0x1800088, 1, 0, 1, 0, 0, 0, 0, 0, 0, 0, false⟩,
  ⟨0x180008C, 1, 0, 1, 0, 0, 0, 0, 0, 0, 0, false⟩,
  ⟨0x1800090, 1, 0, 1, 0, 0, 0, 0, 0, 0, 0, false⟩,
  ⟨0x1800200, 1, 0, 1, 0, 0, 0, 0, 0, 0xF8FFFFFF, 0, false⟩,
  ⟨0x1800400, 1, 0, 52, 4, 0, 0, 0, 0, 0, 0, false⟩,
  ⟨0x10040, 1, 0, 1, 0, 0, 0, 0, 0, 0, 0, false⟩,
  ⟨0x10044, 1, 0, 1, 0, 0, 0xFF00007F, 0, 0, 0, 0, false⟩,
  ⟨0x10048, 1, 0, 1, 0, 0, 0, 0, 0, 0, 0, false⟩,
  ⟨0x1004C, 1, 0, 1, 0, 0, 0, 0, 0, 0, 0, false⟩,
  ⟨0x10050, 1, 0, 1, 0, 0, 0, 0, 0, 0, 0, false⟩,
  ⟨0x10054, 1, 0, 1, 0, 0, 0, 0, 0, 0, 0, false⟩,
  ⟨0x10058, 1, 0, 1, 0, 0, 0, 0, 0, 0, 0, false⟩]

def regDescs13 : List RegDesc := [
  ⟨0x1005C, 1, 0, 1, 0, 0xFF, 0, 0, 0, 0, 0x64, true⟩,
  ⟨0x10060, 1, 0, 1, 0, 0, 0, 0, 0, 0, 1, false⟩,
  ⟨0x10064, 1, 0, 1, 0, 0, 0, 0, 0, 0, 0, false⟩,
  ⟨0x10068, 1, 0, 1, 0, 0, 0, 0, 0, 0, 0, false⟩,
  ⟨0x1006C, 1, 0, 1, 0, 0, 0, 0, 0, 0, 0, false⟩,
  ⟨0x10070, 1, 0, 1, 0, 0, 0, 0, 0, 0, 0, false⟩,
  ⟨0x10200, 1, 0, 1, 0, 0, 0, 0, 0, 0xC000003F, 0, false⟩,
  ⟨0x10300, 1, 0, 1, 0, 0, 0, 0, 0, 0xFFFFFFFE, 0, false⟩,
  ⟨0x10308, 1, 0, 1, 0, 0, 0, 0, 0, 0xFFF, 0, false⟩,
  ⟨0x10400, 1, 0, 1, 0, 0, 0, 0, 0, 0xF0000003, 0, false⟩,
  ⟨0x10408, 1, 0, 1, 0, 0, 0, 0, 0, 0, 0, false⟩,
  ⟨0x10500, 1, 0, 52, 4, 0xFFFF0000, 0, 0, 0, 0, 0, true⟩,
  ⟨0x4003000, 4096, 0x10000, 1, 0, 0xFFFFFFC0, 0, 0, 0, 0, 0, false⟩,
  ⟨0x4003004, 4096, 0x10000, 1, 0, 0xFFFFFFFF, 0, 0, 0, 0, 0, false⟩,
  ⟨0x4003008, 4096, 0x10000, 1, 0, 0x8000000F, 0, 0, 0, 0, 6, false⟩,
  ⟨0x400300C, 4096, 0x10000, 1, 0, 0x1FFF, 0, 0, 0, 0, 0, false⟩,
  ⟨0x4003010, 4096, 0x10000, 1, 0, 0, 0, 0, 0, 0, 0, false⟩,
  ⟨0x4003014, 4096, 0x10000, 1, 0, 0xFFFFFFC0, 0, 0, 0, 0, 0, false⟩,
  ⟨0x4003018, 4096, 0x10000, 1, 0, 0xFFFFFFFF, 0, 0, 0, 0, 0, false⟩,
  ⟨0x400301C, 4096, 0x10000, 1, 0, 0x8000FFFF, 0, 0, 0, 0, 6, false⟩,
  ⟨0x4003020, 4096, 0x10000, 1, 0, 0, 0, 0, 0, 0, 0, false⟩,
  ⟨0x4003024, 4096, 0x10000, 1, 0, 0x1FFF, 0, 0, 0, 0, 0, false⟩,
  ⟨0x4003028, 4096, 0x10000, 1, 0, 0, 0xFF00000F, 0, 0, 0, 0, false⟩,
  ⟨0x400302C, 4096, 0x10000, 1, 0, 0, 0, 0, 0, 0, 0, false⟩,
  ⟨0x4003030, 4096, 0x10000, 1, 0, 0, 0, 0, 0, 0, 0, false⟩,
  ⟨0xB02000, 440, 8, 1, 0, 0xFFC007FF, 0, 0, 0, 0, 0, true⟩,
  ⟨0xB02004, 440, 8, 1, 0, 0xFFC007FF, 0, 0, 0, 0, 0, true⟩,
  ⟨0x110000, 2, 0x10000, 2048, 0x10, 0xFFFFFFFF, 0, 0, 0, 0, 0, false⟩,
  ⟨0x4002800, 4096, 0x10000, 64, 0x10, 0xFFFFFFFF, 0, 0, 0, 0, 0, false⟩,
  ⟨0x110004, 2, 0x10000, 2048, 0x10, 0xFFFFFFFF, 0, 0, 0, 0, 0, false⟩]

def regDescs14 : List RegDesc := [
  ⟨0x4002804, 4096, 0x10000, 64, 0x10, 0xFFFFFFFF, 0, 0, 0, 0, 0, false⟩,
  ⟨0x110008, 2, 0x10000, 2048, 0x10, 0xFFFFFFFF, 0, 0, 0, 0, 0, false⟩,
  ⟨0x4002808, 4096, 0x10000, 64, 0x10, 0xFFFFFFFF, 0, 0, 0, 0, 0, false⟩,
  ⟨0x11000C, 2, 0x10000, 2048, 0x10, 1, 0, 0, 0, 0, 1, false⟩,
  ⟨0x400280C, 4096, 0x10000, 64, 0x10, 1, 0, 0, 0, 0, 1, false⟩]

/-- Every register of the map (03 R95: any other address is reserved). -/
def regDescs : List RegDesc :=
  regDescs0 ++ regDescs1 ++ regDescs2 ++ regDescs3 ++ regDescs4 ++ regDescs5 ++ regDescs6 ++ regDescs7 ++ regDescs8 ++ regDescs9 ++ regDescs10 ++ regDescs11 ++ regDescs12 ++ regDescs13 ++ regDescs14

/-- The descriptor of a register address; none: reserved (R95). -/
def findReg (a : Nat) : Option RegDesc := regDescs.find? (fun d => d.covers a)

end Sys2Proof.Machine
end

