-- ==== Sys2Proof/Machine/Maps.lean ====
section
/-!
DEFINITION. Sparse data in one canonical form: a list of (key, value) pairs with strictly rising keys. Byte arrays
list no zero byte (an unlisted address reads 0).
-/

namespace Sys2Proof.Machine

open Sys2Proof

/-- A sparse map from numbers, keys strictly rising. -/
abbrev SMap (α : Type) := List (Nat × α)

/-- The value at a key. -/
def SMap.get? {α : Type} : SMap α → Nat → Option α
  | [], _ => none
  | (j, v) :: r, k => if j = k then some v else SMap.get? r k

/-- The value at a key, or a default. -/
def SMap.getD {α : Type} (m : SMap α) (k : Nat) (d : α) : α := (SMap.get? m k).getD d

/-- Put a value at a key, keeping the keys rising. -/
def SMap.put {α : Type} : SMap α → Nat → α → SMap α
  | [], k, v => [(k, v)]
  | (j, u) :: r, k, v =>
    if k < j then (k, v) :: (j, u) :: r
    else if k = j then (k, v) :: r
    else (j, u) :: SMap.put r k v

/-- Remove a key. -/
def SMap.del {α : Type} : SMap α → Nat → SMap α
  | [], _ => []
  | (j, u) :: r, k => if j = k then SMap.del r k else (j, u) :: SMap.del r k

/-- Keys strictly rising, each above lo. -/
def SMap.risingFrom {α : Type} : Option Nat → SMap α → Bool
  | _, [] => true
  | none, (j, _) :: r => SMap.risingFrom (some j) r
  | some l, (j, _) :: r => decide (l < j) && SMap.risingFrom (some j) r

/-- The canonical form of a sparse map. -/
def SMap.wf {α : Type} (m : SMap α) : Bool := SMap.risingFrom none m

/-- A sparse byte array; an unlisted address reads 0. -/
abbrev Mem := List Host.Cell

/-- One byte. -/
def Mem.rd (m : Mem) (a : Nat) : Byte := SMap.getD m a 0

/-- Write one byte; a zero is not listed. -/
def Mem.wr (m : Mem) (a : Nat) (b : Byte) : Mem := if b = 0 then SMap.del m a else SMap.put m a b

/-- n bytes from a. -/
def Mem.rdN (m : Mem) (a : Nat) : Nat → List Byte
  | 0 => []
  | n + 1 => Mem.rd m a :: Mem.rdN m (a + 1) n

/-- Write bytes from a upward. -/
def Mem.wrN : Mem → Nat → List Byte → Mem
  | m, _, [] => m
  | m, a, b :: bs => Mem.wrN (Mem.wr m a b) (a + 1) bs

/-- Set the n bytes from a to zero. -/
def Mem.clear (m : Mem) (a n : Nat) : Mem := m.filter (fun c => decide (c.1 < a) || decide (a + n ≤ c.1))

/-- The canonical form: keys strictly rising and no zero byte listed. -/
def Mem.wf (m : Mem) : Bool := SMap.wf m && m.all (fun c => c.2 != 0)

end Sys2Proof.Machine
end

