-- ==== Sys2Proof/Machine/TypesBase.lean ====
section
/-!
DEFINITION. The types of the waybill framework, ownership, guards, seal, host endpoint, mailboxes, event log and
power state (02, 03, 04, 14, 19, 20).
-/

namespace Sys2Proof.Machine

open Sys2Proof

/-- Waybill statuses (00 R15). -/
inductive Status where
  | ok | pending | busy | notOwner | staleEpoch | badOpcode | badParam | badLength | noResource
  | tollgatesExhausted | rehashNeeded | keySlotsExhausted | aborted | alreadyComplete | contained
  | entropyFail | authFail | linkLost | timeout | sealMismatch | guardError | unitRetired | internal
  deriving DecidableEq, Repr

/-- Opcode classes (02 R55). -/
inductive Cls where
  | r | f | d
  deriving DecidableEq, Repr

/-- The kinds of named target objects a PENDING waybill can hold (02 R76). -/
inductive ObjKind where
  | flask | workQueue | compQueue | ruleSet | table | tmQueue | keySlot | drbg | cluster | drivePort | target
  | rank | caravanPort | lanes | domain | unit | flash | reserve | sealRef | member
  deriving DecidableEq, Repr

/-- A named target object (02 R76). -/
structure Obj where
  kind : ObjKind
  idx : Nat
  deriving DecidableEq, Repr

/-- What ends a PENDING waybill. -/
inductive Wait where
  | claim
  | sealCommit (check : Bool) (expected : Nat)
  | flaskReset (fn : Nat)
  | flaskDestroy (f : Nat)
  | wqPause (q : Nat)
  | wqShutdown (q : Nat)
  | clClear
  | tblDestroy (t : Nat)
  | tblRehash (t : Nat)
  | tblFlip (t : Nat)
  | tblFlush (t : Nat) (filter : Nat) (owner : Nat)
  | tmqDestroy (q : Nat)
  | keyLoad (slot : Nat) (rcd : List Byte) (byFlask : Bool)
  | keyFree (slot : Nat)
  | rngGet (len : Nat)
  | rngRestart
  | engSwap (seq : Nat)
  | drvPower (port : Nat)
  | drvAdmin (port : Nat) (cid : Nat)
  | tgtConnect (t : Nat)
  | tgtDisconnect (t : Nat)
  | reserveRetire (kind : Nat) (index : Nat)
  | rankRetire (channel : Nat) (rank : Nat)
  | cpRetrain (port : Nat)
  | cvForward (seq : Nat)
  | cvSealCommit
  | npLaneSet
  | pdSet (d : Nat) (on : Bool)
  | unitReset (u : Nat)
  | flashWrite
  | slotSwitch
  deriving DecidableEq, Repr

/-- A PENDING waybill (02 R72, R73, R76, R77): where its replies go, what it holds, when it times out (ns). -/
structure PendWb where
  inst : Instance
  opcode : Half
  tag : Half
  flags : Byte
  issuer : Word
  cls : Cls
  obj : Option Obj
  mtag : Nat
  chain : Bool
  slots : Nat
  deadline : Nat
  wait : Wait
  deriving DecidableEq, Repr

/-- What a chain waits for or how it stopped (02 R74, R75). -/
inductive ChainSt where
  | member                     -- a member is running
  | next (deadline : Nat)      -- the next member is due by this time
  | late                       -- the next member did not arrive in 1 ms
  | failed (tag : Half) (st : Status)
  deriving DecidableEq, Repr

/-- A chain of one transport instance (02 R74, R75). -/
structure Chain where
  inst : Instance
  issuer : Word
  len : Nat
  hasD : Bool
  st : ChainSt
  deriving DecidableEq, Repr

/-- A waybill that has arrived and not been started (02 R71). -/
structure Arrived where
  inst : Instance
  opcode : Half
  wb : Waybill
  deadline : Option Nat := none
  badLen : Bool := false
  deriving DecidableEq, Repr

/-- The device's side of a waybill ring pair (02 R61-R64): request slots read ahead, reply
slots reserved, stopped by INDEX_ERR or RING_ERR. -/
structure RingDyn where
  fetched : List Byte := []
  asked : Nat := 0
  reserved : Nat := 0
  stopped : Bool := false
  deriving DecidableEq, Repr

/-- A reply held for a disabled ring, a cut reservation or a contained function (02 R62, R64; 04 R151). -/
structure HeldReply where
  inst : Instance
  bytes : List Byte
  slots : Nat
  final : Bool
  deriving DecidableEq, Repr

/-- A partial MCTP message in a reassembly slot (02 R68). -/
structure Reasm where
  binding : Nat
  eid : Nat
  tag : Nat
  bytes : List Byte
  nextSeq : Nat
  deadline : Nat
  deriving DecidableEq, Repr

/-- The waybill framework (02). -/
structure WbState where
  arrived : List Arrived := []
  served : List Instance := []
  pend : List PendWb := []
  chains : List Chain := []
  rings : SMap RingDyn := []
  held : List HeldReply := []
  bmcLast : Option (Nat × Nat) := none
  eids : SMap Nat := []
  i3cDyn : Option Nat := none
  reasm : List Reasm := []
  deriving DecidableEq, Repr

/-- A claim in the election window (02 R80). -/
structure Claim where
  issuer : Word
  prio : Nat
  deriving DecidableEq, Repr

/-- Ownership beside its registers (02 R79-R83): the window's end, its claims, the last counted heartbeat. -/
structure OwnState where
  window : Option Nat := none
  claims : List Claim := []
  lastHb : Nat := 0
  deriving DecidableEq, Repr

/-- An armed guard (03 R107). -/
structure Guard where
  addr : Nat
  value : Word
  src : Src
  until_ : Nat
  deriving DecidableEq, Repr

/-- The running seal of one unit (03 R117-R123): committed page CRCs (all bits, live bits); a configuration write has landed in the
sweep under way; a commit waits for the unit, its first whole sweep has begun, sweeps it gave up, done with the page CRCs and image
CRC taken; the pages that differed in the latest sweep. -/
structure SealUnit where
  refAll : List Nat := []
  refLive : List Nat := []
  dirty : Bool := false
  committing : Bool := false
  fresh : Bool := false
  tries : Nat := 0
  done : Bool := false
  newAll : List Nat := []
  newLive : List Nat := []
  newRef : Nat := 0
  lastDiff : List Nat := []
  deriving DecidableEq, Repr

/-- The device seal (03 R92, R117-R124). -/
structure SealState where
  units : SMap SealUnit := []
  digest : Nat := 0
  deriving DecidableEq, Repr

/-- Flask states (04 R145). -/
inductive FlaskSt where
  | unprovisioned | offline | active | contained | resetting
  deriving DecidableEq, Repr

/-- A function: PF0 of a link or a flask (04 R134-R164). -/
structure Fn where
  st : FlaskSt := .unprovisioned
  quota : List Byte := zeros 32
  dramBase : Nat := 0
  d3hot : Bool := false
  busMaster : Bool := false
  msixEn : Bool := false
  fnMask : Bool := false
  pendVec : List Nat := []
  aer : List Nat := []
  cause : Nat := 0
  causeAddr : Nat := 0
  containCount : Nat := 0
  resetStart : Nat := 0
  discardReplies : Bool := false
  thenOffline : Bool := false
  thenDestroy : Bool := false
  flrEvent : Bool := true
  cfgReset : Bool := false
  errCorEn : Bool := false
  generation : Nat := 0
  created : Bool := false
  destroyed : Bool := false
  deriving DecidableEq, Repr

/-- A host link's PCI configuration state (04 R129-R143, R156). -/
structure HostLink where
  numVFs : Nat := 0
  vfEnable : Bool := false
  intDisable : Bool := false
  intxOn : Bool := false
  cto : Nat := 0
  bar2Size : Nat := 0
  vfBar2Size : Nat := 4
  held : Bool := true
  deriving DecidableEq, Repr

/-- The host endpoint (04). -/
structure HostState where
  fns : SMap Fn := []
  link0 : HostLink := {}
  link1 : HostLink := {}
  deriving DecidableEq, Repr

/-- One side of a mailbox pair (14 R486-R494): its send timer's deadline, or what is left of it while a wake pauses it; its own wake's
deadline; a notification held for it. -/
structure MbSide where
  stat : Word := 0
  ctrl : Word := 0xD0000000
  timeoutUs : Word := 0x2710
  lock : Option Nat := none
  timer : Option Nat := none
  paused : Option Nat := none
  wake : Option Nat := none
  held : Bool := false
  deriving DecidableEq, Repr

/-- A mailbox pair or flask mailbox: the queue from A to B, the queue from B to A (each word with its end-of-message
mark), the two sides (14 R483, R484, R489). -/
structure MbPair where
  ab : List (Word × Bool) := []
  ba : List (Word × Bool) := []
  a : MbSide := {}
  b : MbSide := {}
  deriving DecidableEq, Repr

/-- An entry of the control complex's event queue (14 R495, 01 R33). -/
structure CtlEvent where
  unit : Nat
  r : Nat
  value : Word
  deriving DecidableEq, Repr

/-- The mailbox unit and the event fabric (14). Pair p is at key p, flask f's mailbox at key 64 + f. -/
structure MbState where
  pairs : SMap MbPair := []
  skip : List Nat := []
  ctlEvents : List CtlEvent := []
  aocEvents : List CtlEvent := []
  fwNotices : List Nat := []
  deriving DecidableEq, Repr

/-- An event-log entry (19 R607). -/
structure LogEntry where
  time : Nat
  code : Nat
  unit : Nat
  info : Nat
  issuer : Nat
  value : Nat
  data : List Byte
  deriving DecidableEq, Repr

/-- An entry of the last-word file (19 R610). -/
structure LastWord where
  entry : LogEntry
  frozen : Bool
  deriving DecidableEq, Repr

end Sys2Proof.Machine
end

