-- ==== Sys2Proof/Machine/TypesCipher.lean ====
section
/-!
DEFINITION. The types of the cipher complexes, the key store and random numbers (11).
-/

namespace Sys2Proof.Machine

open Sys2Proof

/-- A key-store slot (11 R391, R392, R397): state 0 FREE, 1 EMPTY, 2 LOADED, 3 DRAINING; owner; the 64-byte record, whose SEQ
and TCP_NEXT move; the key bytes; who allocated the slot and loaded its key; the count of loads, which tells associations
apart; the replay window (bit i: number SEQ - i was verified); TLS resync (R378); KEY_SOFT and SEQ_EXHAUSTED raised (R386);
the counts of KEY_QUERY. -/
structure KeySlot where
  st : Nat := 0
  owner : Nat := 0
  rcd : List Byte := zeros 64
  key : List Byte := []
  allocFlask : Bool := false
  loadFlask : Bool := false
  gen : Nat := 0
  win : Nat := 1
  resync : Bool := false
  soft : Bool := false
  exhausted : Bool := false
  frames : Nat := 0
  bytes : Nat := 0
  authFails : Nat := 0
  replayDrops : Nat := 0
  deriving DecidableEq, Repr

/-- Who asked for a raw or storage operation (11 R368). -/
inductive BulkWho where
  | engine (cluster thread : Nat)
  | mover (chan : Nat)
  | drive (io : Nat)
  deriving DecidableEq, Repr

/-- A BULK request of a complex (11 R382, R383): who asked, the slot, segments in all and done, the slot as it stood when the
first segment was dispatched, the lane a segment runs on, abandoned by a zeroize (R396). -/
structure BulkReq where
  who : BulkWho
  slot : Nat
  total : Nat
  done : Nat := 0
  bytes : Nat
  snap : Option KeySlot := none
  zeroized : Bool := false
  deriving DecidableEq, Repr

/-- What a lane holds. -/
inductive LaneWork where
  | net (frame : Nat)
  | bulk (who : BulkWho)
  deriving DecidableEq, Repr

/-- A cipher complex (11 R368-R390): frames waiting for a lane, frames in the complex in the order they came (R385), BULK
requests (each waiting or on a lane), the BULK requests waiting, since when the first waits, what each lane holds, the retired lane
a reserve lane is starting for, whether CM_STALE was raised (R370). -/
structure Complex where
  net : List Nat := []
  order : List Nat := []
  reqs : List BulkReq := []
  wait : List BulkWho := []
  headAt : Nat := 0
  lanes : SMap LaneWork := []
  substFor : Option Nat := none
  stale : Bool := false
  deriving DecidableEq, Repr

/-- Who waits for random bytes (11 R399). -/
inductive RngWho where
  | waybill (inst : Instance) (tag : Half)
  | mover (chan : Nat)
  | engine (cluster thread : Nat)
  deriving DecidableEq, Repr

/-- The DRBG beside its registers (11 R398-R400): requests held in order with their lengths, generate requests since the last reseed,
when that was, when the running attempt started. -/
structure Drbg where
  held : List (RngWho × Nat) := []
  count : Nat := 0
  reseedAt : Nat := 0
  attemptAt : Nat := 0
  deriving DecidableEq, Repr

/-- The cipher complexes, the receive channel table (11 R380), the key store, the running KS_ZEROIZE (the slot, or all), the DRBG. -/
structure CipherState where
  slots : SMap KeySlot := []
  in_ : Complex := {}
  eg : Complex := {}
  rxsc : SMap (List Byte) := []
  zeroing : Option (Option Nat) := none
  rng : Drbg := {}
  deriving DecidableEq, Repr

end Sys2Proof.Machine
end

