-- ==== Sys2Proof/Machine/TypesConvoy.lean ====
section
/-!
DEFINITION. The types of the convoy and the caravan ports (17).
-/

namespace Sys2Proof.Machine

open Sys2Proof

/-- A flit held for retry (17 R554): sequence, TYPE (1 data, 2 control), payload, the member it is bound for. -/
structure Flit where
  seq : Nat
  type : Nat
  payload : List Byte
  target : Nat
  deriving DecidableEq, Repr

/-- A caravan port's link layer beside its registers (17 R550-R557): trained; the next sequence and the retry buffer; the last sequence
received in order; credits left of each class; a NAK is out; the end of RETRAIN_MS while it retrains; when the oldest held flit
left; the own lane mask proposed and the lane it removes; the frame being assembled and the frames received; came up before. -/
structure CpPort where
  trained : Bool := false
  tx : Nat := 0
  retry : List Flit := []
  rx : Nat := 4095
  dataCr : Nat := 2048
  ctrlCr : Nat := 256
  naked : Bool := false
  downAt : Option Nat := none
  heldAt : Nat := 0
  proposal : Option Nat := none
  unwanted : List Nat := []
  part : List Byte := []
  frames : List (List Byte) := []
  peerEpoch : Nat := 0
  deriving DecidableEq, Repr

/-- What a control request of this device is for (17 R557, R565, R573): a waybill forwarded, an ownership request relayed, the
ownership state of the arbiter, a member's part of CV_SEAL_COMMIT. -/
inductive CvWhat where
  | forward (inst : Instance) (tag : Half)
  | relay (inst : Instance) (tag : Half)
  | ownState
  | sealPart
  deriving DecidableEq, Repr

/-- A control request awaiting its reply: its target and sequence, the caravan port it left by (none: held for SEQ_SYNC). -/
structure CvReq where
  target : Nat
  seq : Nat
  what : CvWhat
  body : CvBody
  via : Option Nat
  deriving DecidableEq, Repr

/-- A member's convoy digests and when they came (17 R569). -/
structure CvDigest where
  committed : Nat
  current : Nat
  at_ : Nat
  deriving DecidableEq, Repr

/-- A target's record of one requesting member (17 R559): the floor, the sequences executed. -/
structure CvPeer where
  floor : Nat := 0
  known : Bool := false
  done : List Nat := []
  deriving DecidableEq, Repr

/-- The convoy (17): the own caravan port each member is reached by, the port backup table by device × 8 + port, the ports of other
members known to be administratively down, the two caravan ports, the ring links known to be up beyond the own ones, members treated as
unreachable, the last sequence used to each target, the targets whose SEQ_SYNC has arrived, the requesters' records, requests out,
members' digests, the members whose acknowledgement is awaited and until when, the issuer whose claim was relayed, since when
the state is NONE, CV_SEAL_COMMIT in progress with the replies so far. -/
structure ConvoyState where
  routes : SMap Nat := []
  backup : SMap Nat := []
  adminDown : List (Nat × Nat) := []
  cp0 : CpPort := {}
  cp1 : CpPort := {}
  links : Nat := 0xF
  cut : List Nat := []
  lastSeq : SMap Nat := []
  synced : List Nat := []
  peers : SMap CvPeer := []
  reqs : List CvReq := []
  digests : SMap CvDigest := []
  acks : List Nat := []
  ackAt : Nat := 0
  claimant : Option Nat := none
  noneSince : Nat := 0
  sealReplies : SMap (List Byte) := []
  sealCheck : Bool := false
  deriving DecidableEq, Repr

end Sys2Proof.Machine
end

