-- ==== Sys2Proof/Machine/TypesDram.lean ====
section
/-!
DEFINITION. The types of the DRAM controller (16).
-/

namespace Sys2Proof.Machine

open Sys2Proof

/-- A migration (16 R540, R541): the rank its slices leave, the slices still to copy with the rank and slice that take each (the first
is being copied), the slices copied, the lines of the first copied, the capacity withdrawn for it in GiB, whether a spare takes them. -/
structure Mig where
  from_ : Nat
  todo : List (Nat × Nat × Nat)
  done : List (Nat × Nat × Nat) := []
  line : Nat := 0
  gib : Nat := 0
  spare : Bool
  deriving DecidableEq, Repr

/-- One channel (16): its slice map (slice number to rank and slice in the rank), the activate tables and open rows by
rank * 32 + bank group * 4 + bank, the refresh intervals passed in the window and the refreshes owed by rank, ranks in 2x refresh and
above 95 C, the corrected errors of the last 60 s by rank, the last CE event, the scrub pointer, the next retraining round and the
periods it was deferred, a migration, a rank that waits for its withdrawal, waiting requests, the timing record. -/
structure DramChan where
  map : SMap (Nat × Nat) := []
  acts : SMap (List (Nat × Nat)) := []
  opened : SMap Nat := []
  intervals : SMap Nat := []
  owed : SMap Nat := []
  x2 : List Nat := []
  hot : List Nat := []
  ces : List (Nat × Nat) := []
  lastCe : Option Nat := none
  scrub : Nat := 0
  retrainAt : Nat := 0
  deferred : Nat := 0
  mig : Option Mig := none
  withdrawing : Option Nat := none
  reqs : List DramReq := []
  timing : List Byte := zeros 256
  deriving DecidableEq, Repr

/-- The DRAM channels (16): whether DRAM is out of service, the channels in use, the offsets laid out at start-up in bytes, the segments
withdrawn, poisoned lines, injections waiting for the next write of their line (1 correctable, 2 uncorrectable, 3 uncorrectable with
FULL) and lines corrupted by one. -/
structure DramState where
  down : Bool := false
  used : List Nat := []
  span : Nat := 0
  withdrawn : List Nat := []
  ch : SMap DramChan := []
  poison : List Nat := []
  inject : SMap Nat := []
  bad : SMap Nat := []
  deriving DecidableEq, Repr

end Sys2Proof.Machine
end

