-- ==== Sys2Proof/Machine/TypesDrive.lean ====
section
/-!
DEFINITION. The types of drive ports and storage (15).
-/

namespace Sys2Proof.Machine

open Sys2Proof

/-- A virtual block function (15 R511); `extents` are its 48-byte records by index. -/
structure Vbf where
  owner : Nat
  num : Nat
  blockSize : Nat
  key : Option Nat
  extents : List (List Byte) := []
  deriving DecidableEq, Repr

/-- What the blink of a power indicator leads to (15 R505, R507). -/
inductive Blink where
  | start
  | remove
  deriving DecidableEq, Repr

/-- A drive port beside its registers (15 R504-R510): the start step it waits in (1 power, 2 link, 3 wait, 4 ready, 5 identify; 0 none)
and when that runs out, a blink with its end, the end of a quiescing phase, a controller reset running with its end, CAP.TO in 500 ms,
identity and namespaces, the admin command running, power indicator 0 off, 1 on, 2 blink. -/
structure Drive where
  step : Nat := 0
  deadline : Nat := 0
  blink : Option (Blink × Nat) := none
  quiesceAt : Nat := 0
  resetting : Option Nat := none
  capTo : Nat := 0
  serial : List Byte := zeros 20
  model : List Byte := zeros 40
  ns : List NsInfo := []
  adm : Option Nat := none
  led : Nat := 0
  deriving DecidableEq, Repr

/-- A remote target (15 R516, R517): its record as connected, state 0 DOWN, 1 CONNECTING, 2 CONNECTED, what it answered, counts, the
RTO runs of its connections, the end of a connect or reconnect, whether it is a reconnect. -/
structure Target where
  rcd : List Byte := zeros 56
  st : Nat := 0
  info : TgtInfo := ⟨0, 0, 0, []⟩
  bytes : Nat := 0
  digestErrs : Nat := 0
  reconnects : Nat := 0
  rto : SMap Nat := []
  deadline : Nat := 0
  again : Bool := false
  deriving DecidableEq, Repr

/-- Where a backend command stands: waiting for data from the host; in a cipher complex before it is issued; ready to issue; issued;
in a cipher complex after its data came; waiting to write host memory; done. -/
inductive IoSt where
  | staging
  | encrypt
  | ready
  | issued
  | decrypt
  | toHost
  | done
  deriving DecidableEq, Repr

/-- A backend command (15 R512): the entry it is part of and its place there in LBA order, the VBF and extent, the entry's opcode, drive
port or target, namespace, backing LBA, first virtual LBA, blocks and their size, its bytes' place in the entry's buffer and in the
staging area, key slot, device status, its reissues after digest errors and its timeout. -/
structure Io where
  id : Nat
  g : Nat
  idx : Nat
  part : Nat
  owner : Nat
  vbf : Nat
  extent : Nat
  op : Nat
  remote : Bool
  port : Nat
  nsid : Nat
  lba : Nat
  vlba : Nat
  blocks : Nat
  bs : Nat
  off : Nat
  stage : Nat := 0
  len : Nat := 0
  key : Option Nat := none
  st : IoSt
  status : Nat := 0
  tries : Nat := 0
  deadline : Nat := 0
  deriving DecidableEq, Repr

/-- Drive ports, remote targets, VBFs and backend commands (15). -/
structure DriveState where
  vbfs : List Vbf := []
  drives : SMap Drive := []
  tgts : SMap Target := []
  ios : List Io := []
  next : Nat := 0
  deriving DecidableEq, Repr

end Sys2Proof.Machine
end

