-- ==== Sys2Proof/Machine/TypesFrame.lean ====
section
/-!
DEFINITION. The types of the frame path: frames in flight (01 R22-R30), the parser (07), the classifier (08), the
forwarding tables (09), the traffic manager (10).
-/

namespace Sys2Proof.Machine

open Sys2Proof

/-- Arrays of fixed-size records by index; an unlisted record is all zero. -/
abbrev Recs := SMap (List Byte)

/-- What a parser pass leaves (07 R256, R257): the key and the fields of the summary. -/
structure ParseSt where
  key : List Byte := zeros 64
  slots : List Nat := List.replicate 8 0xFFFF
  tolls : List Nat := List.replicate 16 0
  tollValid : Nat := 0
  userFlags : Nat := 0
  l3Off : Nat := 0xFFFF
  l4Off : Nat := 0xFFFF
  l3 : Nat := 0
  l4 : Nat := 0
  extShort : Bool := false
  vlans : Nat := 0
  mpls : Nat := 0
  exts : Nat := 0
  tunnels : Nat := 0
  pass : Nat := 0
  bank : Nat := 0
  lastNode : Nat := 0
  visits : Nat := 0
  found : Nat := 0
  stop : Nat := 0
  err : Nat := 0
  profile : Nat := 0
  errStart : Nat := 0
  exc : Bool := false
  ip4 : List Nat := []
  espOff : Nat := 0xFFFF
  deriving DecidableEq, Repr

/-- A destination (08 R286, R289): a network port of this device; a port of a peer; a host RX queue of this device by
global number; a queue of a peer. -/
inductive Dest where
  | port (p : Nat)
  | remotePort (dev p : Nat)
  | queue (g : Nat)
  | remoteQueue (dev fn q : Nat)
  | caravan (p : Nat)
  deriving DecidableEq, Repr

/-- A recorded edit (08 R293). -/
inductive Edit where
  | encap (tmpl value : Nat)
  | vlan (op tci tpid : Nat)
  | rewrite (tmpl : Nat) (slots ip4 : List Nat)
  deriving DecidableEq, Repr

/-- Where a frame in flight stands. -/
inductive Stage where
  | macsec
  | parse (node off : Nat) (keep badStart : Bool)
  | lookup
  | cipher
  | engine (cluster : Nat)
  | thread (cluster : Nat) (thread : Nat)
  | enqueue
  | queued (q : Nat)
  | wire (port : Nat)
  | held (g : Nat)
  | reread
  deriving DecidableEq, Repr

/-- The rest of an action list, waiting on a lookup, a cipher pass or an engine (08 R276, R287, R291): the actions left,
the fallback list that may still run, the list that runs after, the key slot a lookup gave. -/
structure Cont where
  acts : List (List Byte) := []
  fallback : Option Nat := none
  after : Option Nat := none
  keySlot : Option Nat := none
  deriving DecidableEq, Repr

/-- A cipher operation on a frame (08 R292, 11): key slot, encrypt, framing, ON_AUTH_FAIL; from its dispatch on the slot as it
stood then and the number assigned (R386); whether its segment has left the lane. -/
structure CxJob where
  complex : Nat
  slot : Nat
  encrypt : Bool
  framing : Nat
  onFail : Nat
  snap : Option KeySlot := none
  seq : Nat := 0
  ready : Bool := false
  deriving DecidableEq, Repr

/-- A frame in flight with its metadata (01, 07 R244, 08 R297); `wire` holds its bytes as the MAC sends them, `txTs` its transmit timestamp,
`badFcs` a bad FCS found after its transmission began, `back` that it goes back to the head of its queue (06 R223), `spillLost` that spilled cells of it were lost
(06 R220); `bank` is the graph activation its pass 0 began under. -/
structure Frame where
  bytes : List Byte
  tx : Bool
  src : Nat
  flask : Nat := 0
  entry : Option (Nat × Nat) := none
  ingress : Option (Nat × Nat) := none
  rxPrio : Nat := 0
  ts : Nat := 0
  stage : Stage := .parse 0 0 false false
  tail : Bool := false
  ps : ParseSt := {}
  bank : Option Nat := none
  dest : Option Dest := none
  tmq : Option Nat := none
  sendTmq : Option Nat := none
  wqTmq : Nat := 0xFFFF
  edits : List Edit := []
  mark : Option Nat := none
  color : Nat := 0
  tc : Nat := 0
  levels : Nat := 0
  decrypted : Bool := false
  authFail : Nat := 0
  macsec : Option Nat := none
  macsecNo : Option Nat := none
  mirrored : Bool := false
  copy : Bool := false
  stored : Bool := false
  rule : Option Nat := none
  ruleId : Nat := 0
  owner : Nat := 0
  group : Nat := 0
  hint : Nat := 0
  csum : Bool := false
  wantTs : Bool := false
  engMeta : Nat := 0
  engVec : Nat := 0
  assoc : Option Nat := none
  replayed : Bool := false
  cont : Cont := {}
  job : Option CxJob := none
  engDeadline : Nat := 0
  handAt : Nat := 0
  lkTag : Option Nat := none
  cells : Nat := 0
  acct : Nat := 0
  charge : Option Nat := none
  spilled : Bool := false
  enqAt : Nat := 0
  convoy : Option (Nat × Nat) := none
  csumRes : Option Nat := none
  transit : Option (List Byte) := none
  wire : List Byte := []
  txTs : Option Nat := none
  badFcs : Bool := false
  back : Bool := false
  spillLost : Bool := false
  deriving DecidableEq, Repr

/-- A token bucket in 10^-9 tokens with the time it was last brought up to date (07 R260). -/
structure Bucket where
  tok : Nat := 1024000000000
  t : Nat := 0
  lastDrop : Option Nat := none
  deriving DecidableEq, Repr

/-- One direction of the parser (07 R245, R262): node records and graph IDs of banks 0 and 1, the activations made (the active
bank is their number modulo 2), bad nodes by bank, the end of the old bank's lock, the exception bucket. -/
structure ParseDir where
  bank0 : Recs := []
  bank1 : Recs := []
  id0 : Nat := 0
  id1 : Nat := 0
  gen : Nat := 0
  bad : List (Nat × Nat) := []
  lock : Option Nat := none
  bucket : Bucket := {}
  deriving DecidableEq, Repr

/-- The parser (07): both directions, exceptions sent to the control cores with the RX queue they go to. -/
structure ParserState where
  rx : ParseDir := {}
  tx : ParseDir := {}
  exc : List (Nat × List Byte) := []
  deriving DecidableEq, Repr

/-- The classifier (08). -/
structure ClassState where
  groups : Recs := []
  entries : Recs := []
  rules : Recs := []
  lists : Recs := []
  templates : Recs := []
  tmplOwner : SMap Nat := []
  hits : SMap (Nat × Nat) := []
  holds : SMap (SMap Nat) := []
  badEntries : List Nat := []
  badRules : List Nat := []
  badLists : List Nat := []
  tollFailed : Bool := false
  high : Bool := false
  clearing : Bool := false
  rxBucket : Bucket := {}
  txBucket : Bucket := {}
  exc : List (Nat × List Byte) := []
  deriving DecidableEq, Repr

/-- A generation of a table (09 R307): ways by bucket * 2 + way, those that fail parity; the tag tells the cache lines of a table's
two generations apart. -/
structure Gen where
  sizeLog2 : Nat
  seed : Nat
  tag : Nat := 0
  ways : Recs := []
  bad : List Nat := []
  deriving DecidableEq, Repr

/-- A learn record waiting for the firmware (09 R328, R329): the record and the learn profile it came through. -/
structure LearnRec where
  profile : Nat
  record : List Byte
  deriving DecidableEq, Repr

/-- A forwarding table (09 R305-R325); rebuild state 0 NONE, 1 BUILDING, 2 READY. -/
structure Table where
  desc : List Byte
  act : Gen
  shadow : Option Gen := none
  old : Option Gen := none
  rebuild : Nat := 0
  copied : Nat := 0
  highOff : Bool := false
  lookups : Nat := 0
  sweepAt : Nat := 0
  fresh : Bool := false
  heldFull : List LearnRec := []
  bulk : Option (Nat × Nat) := none
  deriving DecidableEq, Repr

/-- The lookup engine (09): tables, profiles, the issuer of each command port's running command (R315, R318), the learn
filter, bucket and queue, the cache lines held, the entries charged to each owner (R319). -/
structure LookupState where
  tables : SMap Table := []
  profiles : Recs := []
  learns : Recs := []
  ports : SMap Nat := []
  filter : List (Nat × List Byte × Nat) := []
  bucket : Bucket := {}
  queue : List LearnRec := []
  cache : List Nat := []
  charge : SMap Nat := []
  deriving DecidableEq, Repr

/-- A dual-rate shaper's tokens in 10^-6 bits, and the time they were brought up to date (10 R347). -/
structure Shaper where
  c : Int := 0
  p : Int := 0
  t : Nat := 0
  deriving DecidableEq, Repr

/-- A traffic-manager queue (10 R339, R362): its record, frames in order, tokens, deficit, engine rate, sample, counts. -/
structure TmQ where
  rcd : List Byte
  frames : List Nat := []
  cells : Nat := 0
  sh : Shaper := {}
  deficit : Int := 0
  engRate : Option Nat := none
  sample : List Byte := zeros 16
  sojourn : Nat := 0
  peak : Nat := 0
  admitted : Nat := 0
  drops : List Nat := [0, 0, 0]
  destroying : Bool := false
  sampleAt : Nat := 0
  dropped : Nat := 0
  deriving DecidableEq, Repr

/-- A flask node, class or port of the scheduler (10 R363): record, tokens, deficit, the child served last, the child
whose quantum runs. -/
structure TmNode where
  rcd : List Byte
  sh : Shaper := {}
  deficit : Int := 0
  lastC : Option Nat := none
  lastP : Option Nat := none
  deriving DecidableEq, Repr

/-- A policer (10 R352): record, buckets, frames and bytes by colour. -/
structure Policer where
  rcd : List Byte
  c : Nat := 0
  e : Nat := 0
  t : Nat := 0
  counts : List Nat := [0, 0, 0, 0, 0, 0]
  deriving DecidableEq, Repr

/-- The traffic manager (10). -/
structure TmState where
  queues : SMap TmQ := []
  nodes : SMap TmNode := []
  classes : SMap TmNode := []
  ports : SMap TmNode := []
  policers : SMap Policer := []
  sampleBuf : SMap (List (List Byte)) := []
  deriving DecidableEq, Repr

/-- An unlimited shaper record with no committed service (10 R340, R346): PIR 0xFFFF_FFFF. -/
def shaperUnlimited : List Byte := zeros 4 ++ [0xFF, 0xFF, 0xFF, 0xFF] ++ zeros 8

/-- The default queue p's record (10 R340, R362): OWNER 0 VALID, NODE p, WEIGHT 1, SPILL_OK, YEL and RED 100,
MAX_CELLS 24,576 cells in units of 8. -/
def defaultQueueRec (p : Nat) : List Byte :=
  leBytes 2 0x8000 ++ leBytes 2 p ++ leBytes 2 1 ++ [2, 0, 0, 0, 100, 100] ++ leBytes 2 0 ++ leBytes 2 24576
    ++ shaperUnlimited

/-- The default node p's record (10 R340, R363): OWNER 0 VALID, PORT p, CLASS 0, WEIGHT 1. -/
def defaultNodeRec (p : Nat) : List Byte :=
  leBytes 2 0x8000 ++ [BitVec.ofNat 8 p, 0] ++ leBytes 2 1 ++ zeros 10 ++ shaperUnlimited

/-- A class record after cold reset (10 R363): SHARED, WEIGHT 1, unlimited. -/
def defaultClassRec : List Byte := [1, 0, 1, 0] ++ zeros 12 ++ shaperUnlimited

/-- A port record after cold reset (10 R348, R363): OVERHEAD +24 for ports 0-7, 0 for ports 8-11. -/
def defaultPortRec (p : Nat) : List Byte := [if p < 8 then 24 else 0] ++ zeros 15 ++ shaperUnlimited

/-- Both buckets full at the least burst, 2,048 bytes (10 R346, R347). -/
def fullMin : Shaper := { c := 16384000000, p := 16384000000 }

/-- The traffic manager after cold reset (10 R340). -/
def TmState.initial : TmState :=
  { queues := (List.range 12).map (fun p => (p, { rcd := defaultQueueRec p, sh := fullMin })),
    nodes := (List.range 12).map (fun p => (p, { rcd := defaultNodeRec p, sh := fullMin })),
    classes := (List.range 96).map (fun i => (i, { rcd := defaultClassRec, sh := fullMin })),
    ports := (List.range 12).map (fun p => (p, { rcd := defaultPortRec p, sh := fullMin })) }

/-- The frames in flight by handle, the next handle, the per-ingress-port sequence numbers given (01 R27). -/
structure FrameState where
  frames : SMap Frame := []
  next : Nat := 0
  seqs : SMap Nat := []
  deriving DecidableEq, Repr

end Sys2Proof.Machine
end

