-- ==== Sys2Proof/Machine/TypesEngine.lean ====
section
/-!
DEFINITION. The types of the packet engines (12).
-/

namespace Sys2Proof.Machine

open Sys2Proof

/-- A message of a cluster's message queue (12 R419): its 32 bytes, vector and flask tag. -/
structure EngMsg where
  vec : Nat
  flask : Nat
  bytes : List Byte
  deriving DecidableEq, Repr

/-- Thread states (12 R413). -/
inductive ThSt where
  | idle | running | waiting | faulted | service | debug | unavailable
  deriving DecidableEq, Repr

/-- The work of a run, as it was dispatched (12 R415): a hand-off with the frame as it stood then, a timer with its vector and tag, an
event line, a message, a fault record, a supervisor's start. -/
inductive EngRun where
  | none
  | handoff (h : Nat) (snap : Frame)
  | timer (vec tag : Nat)
  | line (n : Nat)
  | message (m : EngMsg)
  | fault
  | init
  deriving DecidableEq, Repr

/-- A coprocessor result a thread waits for, with the register it goes to (12 R434, R435): random bytes; a cipher request block. -/
inductive CoWait where
  | rand (rd : Nat)
  | crypt (rd : Nat) (req : List Byte)
  deriving DecidableEq, Repr

/-- A hardware thread (12 R408-R423, R448): state, registers and CSRs, the tag kept with its timer; its run with tag, frame, destination
written to the metadata, slots charged and the part charged already, and start; whether it runs in the old image of an exchange;
LR reservation (block, end); coprocessor wait; a fault record waiting for room in the ring; timer runs to replay; slot counters RETIRED,
WASTED, FRONT, BACK; counters that wrapped with their PCs; debug state: the state when it halted, dcsr, havereset, resumeack, a halt
waiting for a coprocessor, triggers, step. -/
structure Hart where
  st : ThSt := .idle
  pc : DWord := 0
  x : List DWord := List.replicate 32 0
  f : List Word := List.replicate 32 0
  fcsr : Nat := 0
  rflags : Nat := 0
  tcmp : Nat := 0
  tctl : Nat := 0
  timerTag : Nat := 0
  run : EngRun := .none
  tag : Nat := 0
  frame : Option Nat := none
  dest : Option Nat := none
  slots : Nat := 0
  charged : Nat := 0
  runAt : Nat := 0
  old : Bool := false
  resv : Option (Nat × Nat × Nat) := none
  wait : Option CoWait := none
  posting : Option (List Byte) := none
  again : Option (Nat × Nat) := none
  counts : List Nat := [0, 0, 0, 0]
  samples : List (Nat × Nat) := []
  prior : ThSt := .idle
  dcsr : Nat := 0
  haveReset : Bool := false
  resumeAck : Bool := false
  haltReq : Bool := false
  trigs : List (Nat × Nat) := List.replicate 4 (0, 0)
  tselect : Nat := 0
  deriving DecidableEq, Repr

/-- A logical engine (12 R409, R410): its 128 KiB of local memory by offset with the poisoned 8-byte words, the fault ring's indices,
counters and their configuration, SLOT_UEN, TAG0; when its supervisor last faulted and when it restarts by itself. -/
structure Engine where
  mem : Mem := []
  poison : List Nat := []
  prod : Nat := 0
  cons : Nat := 0
  hpcCfg : List Nat := [0, 0, 0, 0]
  hpc : List Nat := [0, 0, 0, 0]
  slotUen : Bool := false
  tag0 : Nat := 0
  supFault : Option Nat := none
  supAuto : Option Nat := none
  deriving DecidableEq, Repr

/-- A program exchange on a cluster (12 R447): the ENG_SWAP it belongs to, when its kill timeout ends. -/
structure Exchange where
  seq : Nat
  killAt : Nat
  deriving DecidableEq, Repr

/-- One engine cluster (12): counts of event lines, message queue, hand-off queue, instruction banks, the end of what is written to the
alternate one, shared memory with its poisoned words, an exchange, drops by reason. -/
structure Cluster where
  lines : SMap Nat := []
  msgs : List EngMsg := []
  queue : List Nat := []
  bank0 : Mem := []
  bank1 : Mem := []
  altEnd : Nat := 0
  shared : Mem := []
  poison : List Nat := []
  exch : Option Exchange := none
  drops : SMap Nat := []
  deriving DecidableEq, Repr

/-- An ENG_SWAP that runs: its number, clusters still exchanging, threads killed, the previous image of the lowest cluster. -/
structure Swap where
  seq : Nat
  left : List Nat
  killed : Nat := 0
  prevId : Nat
  deriving DecidableEq, Repr

/-- The debug module's registers (12 R448): dmcontrol's hart selection and bits, data, program buffer, abstractcs.cmderr, hart array mask
(window and words). -/
structure DebugModule where
  active : Bool := false
  hartsel : Nat := 0
  hasel : Bool := false
  data : List Nat := [0, 0, 0, 0]
  progbuf : List Nat := List.replicate 8 0
  cmderr : Nat := 0
  window : Nat := 0
  mask : SMap Nat := []
  deriving DecidableEq, Repr

/-- The packet engines (12): clusters, harts by hart index, logical engines by cluster × 8 + engine, exchanges, the debug module. -/
structure EngState where
  clusters : SMap Cluster := []
  harts : SMap Hart := []
  engines : SMap Engine := []
  swaps : List Swap := []
  swapSeq : Nat := 0
  dm : DebugModule := {}
  deriving DecidableEq, Repr

end Sys2Proof.Machine
end

