-- ==== Sys2Proof/Machine/TypesMover.lean ====
section
/-!
DEFINITION. The types of the bulk movers (13).
-/

namespace Sys2Proof.Machine

open Sys2Proof

/-- Where a descriptor comes from (13 R456, R478): entry idx of work queue g; a slot of the engine ring of a cluster. -/
inductive MvOrigin where
  | queue (g idx : Nat)
  | ring (c slot : Nat)
  deriving DecidableEq, Repr

/-- How far a descriptor is: waiting for n barrier reads; taken; its index array asked for; moving chunks. -/
inductive MvPhase where
  | barrier (n : Nat)
  | taken
  | index
  | run
  deriving DecidableEq, Repr

/-- The descriptor a channel runs (13 R457-R478): origin, 64 bytes, function of its host addresses, phase, index array, chunks written, the
source of the next chunk (none: not there yet), the cipher input so far, the key slot as its first segment saw it, the segment of the next
chunk (0 none, 1 in the complex, 2 done), random bytes in hand, whether it waits for random bytes, bytes written. -/
structure MvJob where
  org : MvOrigin
  raw : List Byte
  fn : Nat
  phase : MvPhase := .taken
  idxs : List Nat := []
  k : Nat := 0
  buf : Option (List Byte) := none
  acc : List Byte := []
  snap : Option KeySlot := none
  seg : Nat := 0
  rnd : List Byte := []
  rndWait : Bool := false
  bytes : Nat := 0
  deriving DecidableEq, Repr

/-- A mover channel (13 R456, R465, R481): its descriptor, the queue served last, host addresses whose writes may not have arrived, bytes
and descriptors. -/
structure MvChan where
  job : Option MvJob := none
  lastQ : Option Nat := none
  unarrived : List (Nat × Nat) := []
  bytes : Nat := 0
  descs : Nat := 0
  deriving DecidableEq, Repr

/-- An engine ring's indices as the mover has them (13 R478). -/
structure MvRing where
  prod : Nat := 0
  cons : Nat := 0
  deriving DecidableEq, Repr

/-- The bulk movers (13): channels, engine rings by cluster. The channel of a queue stands in WorkQ.chan. -/
structure MvState where
  chans : SMap MvChan := []
  rings : SMap MvRing := []
  deriving DecidableEq, Repr

end Sys2Proof.Machine
end

