-- ==== Sys2Proof/Machine/TypesNet.lean ====
section
/-!
DEFINITION. The types of the network ports (18).
-/

namespace Sys2Proof.Machine

open Sys2Proof

/-- The network ports beside their registers (18): the PTP clock in 1/65,536,000,000,000 ns as it stood at model time `ptpAt`
(R584), the ends of the partner's pauses by port × 8 + class (R581), when a flow-control frame is repeated next by port × 8 + priority
(R582), when negotiation restarts by port (R577), the end of the PPS pulse (R587), the second of the last pulse. -/
structure NetState where
  ptp : Nat := 0
  ptpAt : Nat := 0
  pauseEnd : SMap Nat := []
  refresh : SMap Nat := []
  anAt : SMap Nat := []
  ppsEnd : Option Nat := none
  ppsSec : Nat := 0
  deriving DecidableEq, Repr

end Sys2Proof.Machine
end

