-- ==== Sys2Proof/Machine/TypesPower.lean ====
section
/-!
DEFINITION. The types of tallies, event log, faults (19) and of power, reset and boot (20).
-/

namespace Sys2Proof.Machine

open Sys2Proof

/-- The tally counters of one flask, cumulative since FLASK_CREATE (19 R603). -/
structure FlaskCnt where
  rxFrames : Nat := 0
  rxBytes : Nat := 0
  txFrames : Nat := 0
  txBytes : Nat := 0
  rxDrops : Nat := 0
  cipherBytes : Nat := 0
  moverBytes : Nat := 0
  driveBytes : Nat := 0
  driveIos : Nat := 0
  engineSlots : Nat := 0
  tableEntries : Nat := 0
  keySlots : Nat := 0
  deriving DecidableEq, Repr

/-- A flask at a mark (19 R603): its counters with the gauges, STATE, CREATED and DESTROYED, GENERATION. -/
structure FlaskShadow where
  cnt : FlaskCnt := {}
  st : Nat := 0
  created : Bool := false
  destroyed : Bool := false
  generation : Nat := 0
  deriving DecidableEq, Repr

/-- A mark injected and not yet gathered (19 R594-R597). -/
structure Mark where
  epoch : Nat
  etime : Nat
  ptp : Nat
  period : Nat
  forced : Bool
  deriving DecidableEq, Repr

/-- A retirable part (19 R611, R622): kind 1 engine, 2 cipher lane, 3 caravan lane, 4 control core, 5 DRAM rank,
6 SRAM row. -/
structure Part where
  kind : Nat
  index : Nat
  deriving DecidableEq, Repr

/-- A retirement waiting or running (19 R613). -/
structure Retirement where
  part : Part
  reason : Nat
  deriving DecidableEq, Repr

/-- Tallies, event log, faults and reserve (19): the log and the last-word file, log rows given up, events the AOC holds; the marks (whether
mark 0 was, when the last was, the next number and time, the epoch's EPOCH_S, those not gathered); shadow banks and the firmware's bases by
unit, of the flasks, of FLASK_SLOTS, of unclaimed slots; units that lost counts, the last page's epoch; flask counters; the latest page's header
and records; faults in a window, retired parts, those to return, those to be recorded and those recorded in the health sector,
retirements waiting and running, control cores, SRAM rows by array, islands warned of and islands being stepped. -/
structure TallyState where
  log : SMap LogEntry := []
  lastWord : List LastWord := []
  skipped : List Nat := []
  aocHeld : List LogEntry := []
  marksOn : Bool := false
  lastMark : Nat := 0
  nextEpoch : Nat := 1
  nextMark : Nat := 0
  period : Nat := 60
  marks : List Mark := []
  shadow : SMap (List Nat) := []
  shadowFlask : SMap FlaskShadow := []
  shadowSlots : SMap Word := []
  base : SMap (List Nat) := []
  lostUnits : Nat := 0
  prevPage : Nat := 0
  unclaimed : Nat := 0
  shadowUnclaimed : Nat := 0
  flasks : SMap FlaskCnt := []
  header : List Byte := []
  records : SMap (List Byte) := []
  faults : List (Part × Nat) := []
  retired : List Part := []
  restore : List Part := []
  health : List Part := []
  sector : List Part := []
  queue : List Retirement := []
  running : List Retirement := []
  cores : List Nat := [0, 1, 2, 3]
  coreReserve : Bool := true
  coreStarting : Option Nat := none
  sramUsed : SMap Nat := []
  sramRetired : SMap Nat := []
  warned : List Nat := []
  stepping : List Nat := []
  marginsRead : Bool := false
  deriving DecidableEq, Repr

/-- Power-domain states (20 R628). -/
inductive PdSt where
  | off | ramping | restoring | on
  deriving DecidableEq, Repr

/-- A fuse operation in progress (20 R652): 1 revoke key, 2 raise SVN, 3 debug lock. -/
structure FuseOp where
  op : Nat
  key : Nat
  deriving DecidableEq, Repr

/-- A write to the boot flash in progress (20 R642): bytes to a slot with an optional erase, or the boot record. -/
inductive FlashOp where
  | data (addr : Nat) (erase : Bool) (bytes : List Byte)
  | record (slot : Nat) (resetNow : Bool)
  deriving DecidableEq, Repr

/-- Power, clocks, reset and start-up (20, 21): the domains' states, those a wake is powering, those switched off by waybill (their
configuration is saved), those powered up again after a force-off; the start-up step being worked; the slot being tried is B, those
tried, watchdog restarts; latched straps; pin levels; the subsystem IDs of the image. -/
structure PowerState where
  pd : SMap PdSt := [(0, .on)]
  wake : List Nat := []
  savedOff : List Nat := []
  subsys : Nat := 0
  step : Nat := 0
  ready : Bool := false
  recovery : Bool := false
  fallback : Bool := false
  slotB : Bool := false
  debugOpen : Bool := false
  convoyId : Nat := 0
  bootSel : Nat := 0
  hostBif : Bool := false
  perstSeen : Bool := false
  pwrGoodAon : Bool := false
  pwrGood : Bool := false
  perst : Bool := true
  perst1 : Bool := true
  tried : List Nat := []
  attempt : Nat := 0
  watchdog : Option Nat := none
  refclkLost : Bool := false
  tripped : Bool := false
  hotC8 : Nat := 0
  temps : SMap Nat := []
  thermalMhz : Nat := 2000
  aging : SMap Nat := []
  vcoreTarget : Nat := 800
  vcoreOk : Bool := true
  clkWait : List (Nat × Nat) := []
  fuse : Option FuseOp := none
  keyHash : SMap Nat := []
  devReset : Option (Nat × Nat) := none
  flash : Mem := []
  flashOp : Option FlashOp := none
  bootRecord : Option Nat := none
  railHold : Bool := false
  coldAt : Nat := 0
  pdWait : List (Nat × Nat) := []
  deriving DecidableEq, Repr

/-- The levels of the output pins; none: high-impedance (20 R646, R647). -/
structure Pins where
  thermtripN : Option Bool := none
  avs : Option Bool := none
  flash : Option Bool := none
  drvPwren : List (Option Bool) := [none, none, none, none]
  drvPerstN : List (Option Bool) := [none, none, none, none]
  drvAttnLedN : List (Option Bool) := [none, none, none, none]
  drvPwrLedN : List (Option Bool) := [none, none, none, none]
  ddrResetN : List (Option Bool) := [none, none, none, none]
  ppsOut : Option Bool := none
  deriving DecidableEq, Repr

/-- An output of the block: what leaves it, in the order it leaves (newest first in State.out). -/
inductive Out where
  | hostWrite (fn : Nat) (addr : Nat) (data : List Byte) (ro : Bool)
  | hostRead (fn : Nat) (addr : Nat) (len : Nat)
  | msix (fn : Nat) (vector : Nat) (addr : Nat) (data : Nat)
  | intx (link : Nat) (assert : Bool)
  | errCor (fn : Nat) (cause : Nat)
  | mctp (binding : Nat) (eid : Nat) (tag : Nat) (body : List Byte)
  | caravan (peer : Nat) (bytes : List Byte)
  | jtag (bytes : List Byte)
  | readData (src : Src) (data : List Byte)
  | mbWord (user : MbUser) (key : Nat) (w : Word)
  | linkDrop (link : Nat)
  | avs (mv : Nat)
  | netFrame (port : Nat) (bytes : List Byte) (badFcs : Bool)
  | netPause (port : Nat) (pfc : Bool) (classes quanta : Nat)
  | netTrain (port : Nat)
  | flit (port : Nat) (bytes : List Byte)
  | ident (port : Nat) (info : IdentInfo)
  | width (port mask id : Nat) (ack : Bool)
  | convoy (peer : Nat) (seq : Option Nat) (body : CvBody)
  | nvme (port : Nat) (queue : Nat) (bytes : List Byte)
  | nvmeReg (port : Nat) (what : Nat) (value : Nat)
  | tcp (target : Nat) (conn : Nat) (bytes : List Byte)
  | flash (addr : Nat) (bytes : List Byte)
  | dramCmd (channel : Nat) (rank : Nat) (what : Nat) (arg : Nat)
  | dramData (channel line : Nat) (data : List Byte) (poison : Bool)
  deriving DecidableEq, Repr

end Sys2Proof.Machine
end

