-- ==== Sys2Proof/Machine/TypesQueue.lean ====
section
/-!
DEFINITION. The types of the queue manager (05) and of the ledger (06).
-/

namespace Sys2Proof.Machine

open Sys2Proof

/-- Record a completion or abort request puts into the ledger (06 R211): the completion entry's fields. -/
structure Req where
  status : Nat
  flags : Nat := 0
  bytes : Nat := 0
  aux : Nat := 0
  rxInfo : Nat := 0
  vlan : Nat := 0
  ts : Nat := 0
  deriving DecidableEq, Repr

/-- A work queue entry read from host memory and not yet written as completed, with its ledger record (05 R171,
06 R211): acc is the acceptance commit, seq the ledger sequence, reqs the completion and abort requests in their serial
order, won the committed one. -/
structure Entry where
  idx : Nat
  raw : List Byte
  slot : Nat
  acc : Bool := false
  seq : Nat := 0
  cls : Nat := 0
  badCls : Bool := false
  replays : Nat := 0
  started : Bool := false
  frags : List (Nat × Nat) := []
  wantTable : Bool := false
  want : Nat := 0
  got : List Byte := []
  frame : Option Nat := none
  reqs : List Req := []
  won : Option Req := none
  lost : Bool := false
  rxUsed : Bool := false
  deriving DecidableEq, Repr

/-- A receive frame handed to an RX queue and not yet decided (05 R192, R193): its bytes as delivered, the fields of its
completion entries, the end of its hold time, the frame it came from. -/
structure RxFrame where
  bytes : List Byte
  req : Req
  deadline : Nat
  fid : Option Nat := none
  deriving DecidableEq, Repr

/-- A fetch read outstanding (05 R185-R187): its first index and length, discarded on return after a shutdown. -/
structure FetchRead where
  first : Nat
  count : Nat
  slots : List Nat
  discard : Bool := false
  deadline : Nat := 0
  deriving DecidableEq, Repr

/-- A work queue (05 R167-R205). State codes of R197: 1 ENABLED, 2 PAUSED, 3 SHUTTING, 4 SHUT. -/
structure WorkQ where
  fn : Nat
  localNo : Nat
  kind : Nat
  st : Nat := 1
  sizeLog2 : Nat
  base : Nat
  mirror : Nat
  cq : Nat
  weight : Nat
  burst : Nat
  holdUs : Nat
  mode : Nat
  tmq : Nat
  prod : Nat := 0
  fetched : Nat := 0
  accepted : Nat := 0
  completed : Nat := 0
  reads : List FetchRead := []
  entries : List Entry := []
  rx : List RxFrame := []
  stalled : Bool := false
  allowance : Nat := 0
  rburst : Nat := 0
  chan : Nat := 0
  noBuffer : Nat := 0
  oversize : Nat := 0
  aborted : Nat := 0
  shutAt : Nat := 0
  pauseAt : Nat := 0
  deriving DecidableEq, Repr

/-- A completion queue (05 R169, R178-R180, R195, R196). -/
structure CompQ where
  fn : Nat
  localNo : Nat
  sizeLog2 : Nat
  base : Nat
  vector : Nat
  modCount : Nat
  modTimeUs : Nat
  autoArm : Bool
  armed : Bool := true
  widx : Nat := 0
  cidx : Nat := 0
  since : Nat := 0
  oldest : Nat := 0
  stalls : Nat := 0
  deriving DecidableEq, Repr

/-- The queue manager (05): work queues and completion queues by global number, the arbiter. -/
structure QueueState where
  wqs : SMap WorkQ := []
  cqs : SMap CompQ := []
  last : Option Nat := none
  deriving DecidableEq, Repr

/-- A ledger row that failed in one mirror: half A (false) or B, the row, and whether its repair ends the case
(06 R210, R230). -/
structure RowFault where
  half : Bool
  row : Nat
  until_ : Nat
  deriving DecidableEq, Repr

/-- The ledger beside its registers and the records in the queue entries (06): the free record numbers are those no
entry or read holds; rows under repair; whether the fallback area holds a whole copy and of which half; a copy or restore
in progress. -/
structure LedgerState where
  used : List Nat := []
  rows : List RowFault := []
  copying : Option Bool := none
  inDram : Option Bool := none
  restoring : Option Bool := none
  fallbackWhole : Bool := false
  pausedBy : Bool := false
  deriving DecidableEq, Repr

end Sys2Proof.Machine
end

