-- ==== Sys2Proof/Machine/State.lean ====
section
/-!
DEFINITION. The state of the block, the reasons a step can stop, and the state after reset.
-/

namespace Sys2Proof.Machine

open Sys2Proof

/-- Why a step stops with a fault. No meaning of this model faults: every error of the block is a status, an event, a
counter or a log entry (INVENTORY.md, Faults). `none` is raised by nobody; safe. -/
inductive Fault where
  | none
  deriving DecidableEq, Repr

/-- Why a step refuses. -/
inductive Refusal where
  /-- The command has no meaning yet; raised by the dispatch only; safe. -/
  | notModelled (mnemonic : String)
  deriving DecidableEq, Repr

/-- The state of the block. -/
structure State where
  /-- Registers of BAR0 and the flask windows that differ from their reset value, by register address. -/
  regs : SMap Word := []
  /-- Waybill framework (02). -/
  wb : WbState := {}
  /-- Ownership beside its registers (02). -/
  own : OwnState := {}
  /-- Armed guards by unit (03 R107). -/
  guards : SMap Guard := []
  /-- The running seal (03 R117). -/
  sealSt : SealState := {}
  /-- Host endpoint and flasks (04). -/
  host : HostState := {}
  /-- Work queues and completion queues (05). -/
  qm : QueueState := {}
  /-- The ledger (06). -/
  lg : LedgerState := {}
  /-- Frames in flight (01). -/
  fr : FrameState := {}
  /-- The parser (07). -/
  parser : ParserState := {}
  /-- The classifier (08). -/
  cl : ClassState := {}
  /-- The forwarding tables (09). -/
  lk : LookupState := {}
  /-- The traffic manager (10); default queues, nodes, classes and ports as R340, R362, R363 reset them. -/
  tm : TmState := TmState.initial
  /-- Cipher complexes, key store, DRBG (11). -/
  cx : CipherState := {}
  /-- Drive ports and storage (15). -/
  dp : DriveState := {}
  /-- DRAM channels (16). -/
  dr : DramState := {}
  /-- The convoy and the caravan ports (17). -/
  cv : ConvoyState := {}
  /-- Network ports (18). -/
  np : NetState := {}
  /-- Packet engines (12). -/
  eng : EngState := {}
  /-- Bulk movers (13). -/
  mv : MvState := {}
  /-- Mailboxes and event fabric (14). -/
  mb : MbState := {}
  /-- Tallies, event log, faults and reserve (19). -/
  tally : TallyState := {}
  /-- Power, clocks, reset and start-up (20). -/
  pwr : PowerState := {}
  /-- Device DRAM by byte offset (16, 04 R138). -/
  dram : Mem := []
  /-- Status-register bits whose cause is present now (03 R113, R114): register address and bit. -/
  causes : List (Nat × Nat) := []
  /-- Output pins (20 R646, R647). -/
  pins : Pins := {}
  /-- The model's clock in nanoseconds (log entry 2). -/
  now : Nat := 0
  /-- What has left the block, newest first (log entry 4). -/
  out : List Out := []
  /-- The counter free values are drawn with (log entry 5). -/
  free : Nat := 0
  /-- Commands waiting, first in, first out. -/
  pending : List Instr := []
  deriving DecidableEq, Repr

/-- The block right after a power-on reset (20 R634): only PD0 is on, nothing has run (log entries 1, 3). -/
def State.reset : State := {}

end Sys2Proof.Machine
end

