-- ==== Sys2Proof/Machine/Ops.lean ====
section
/-!
DEFINITION. The shared operations: registers, domains, events, event log, interrupts, outputs.
-/

namespace Sys2Proof.Machine

open Sys2Proof

/-! Units (03 R94, R105, R681; 14 R495; 01 R22) -/

/-- Header address of unit u, numbered as in R495. -/
def unitHdr (u : Nat) : Nat :=
  if u = 0 then 0x40
  else if u = 1 then 0x10000
  else if u ≤ 9 then (u - 1) * 0x100000
  else if u = 10 then 0x840000
  else if u ≤ 14 then (u - 2) * 0x100000
  else if u ≤ 18 then 0xD00000 + (u - 15) * 0x40000
  else if u = 19 then 0xE00000
  else if u = 20 then 0xF00000
  else if u ≤ 52 then 0x1000000 + (u - 21) * 0x40000
  else if u = 53 then 0x1800000
  else 0x1900040

/-- UNIT_KIND (R681). -/
def unitKind (u : Nat) : Nat :=
  if u ≤ 9 then u + 1
  else if u = 10 then 0x0A
  else if u ≤ 14 then u
  else if u ≤ 18 then 0x0F
  else if u = 19 then 0x10
  else if u = 20 then 0x11
  else if u ≤ 52 then 0x12
  else if u = 53 then 0x13
  else 0x14

/-- Power domain of unit u's home island (01 R22). The ledger's home is PD1. -/
def unitDomain (u : Nat) : Nat :=
  if u ≤ 1 then 0
  else if u ≤ 3 then 34
  else if u = 4 then 1
  else if u ≤ 6 then 40
  else if u = 7 then 43
  else if u = 8 then 41
  else if u ≤ 11 then 39
  else if u ≤ 13 then 42
  else if u = 14 then 35
  else if u ≤ 18 then 38
  else if u = 19 then 37
  else if u = 20 then 36
  else if u ≤ 52 then u - 19
  else if u = 53 then 1
  else 0

/-- The unit whose block holds a BAR0 offset (R94). -/
def unitOfAddr (a : Nat) : Option Nat :=
  if a < 0x10000 then some 0
  else if a < 0x100000 then some 1
  else if a < 0x800000 then some (a / 0x100000 + 1)
  else if a < 0x840000 then some 9
  else if a < 0x900000 then some 10
  else if a < 0xD00000 then some (a / 0x100000 + 2)
  else if a < 0xE00000 then some (15 + (a - 0xD00000) / 0x40000 % 4)
  else if a < 0xF00000 then some 19
  else if a < 0x1000000 then some 20
  else if a < 0x1800000 then some (21 + (a - 0x1000000) / 0x40000)
  else if a < 0x1900000 then some 53
  else if a < 0x1A00000 then some 54
  else none

/-- Nominal clock of island i in MHz (20 R630). -/
def clkNominal (i : Nat) : Nat :=
  if i < 32 then 2000
  else if i = 32 then 2400
  else if i = 33 then 400
  else if i = 34 then 1000
  else if i = 35 ∨ i = 48 ∨ i = 50 then 1000
  else if i = 36 ∨ i = 37 then 1600
  else if i < 44 then 1600
  else if i = 44 ∨ i = 45 ∨ i = 49 then 1200
  else if i = 46 then 2400
  else if i = 47 then 1600
  else 200

/-- The header register offset of an address, when it lies in a unit header (R105). -/
def hdrOf (a : Nat) : Option (Nat × Nat) :=
  match unitOfAddr a with
  | none => none
  | some u => if unitHdr u ≤ a ∧ a < unitHdr u + 0x40 then some (u, a - unitHdr u) else none

/-! Registers -/

/-- Reset value of a register: the table's value, with the values that depend on an index (R105 UNIT_KIND, 15 R518
SLOT_NUM, 20 R652 CLK_ISLAND, 04 R163 FLASK_STATE). -/
def regReset (a : Nat) : Word :=
  match hdrOf a with
  | some (u, 0) => word (unitKind u * 256)
  | some _ => 0
  | none =>
    if Reg.CLK_ISLAND 0 ≤ a ∧ a < Reg.CLK_ISLAND 52 then
      let i := (a - Reg.CLK_ISLAND 0) / 4
      word (clkNominal i * 65536 + clkNominal i)
    else if 0x00C00100 ≤ a ∧ a < 0x00C00180 ∧ a % 32 = 0 then word (0xF0000000 + (a - 0x00C00100) / 32 + 1)
    else match findReg a with
      | some d => word d.reset
      | none => 0

/-- The stored value of a register. -/
def State.reg (s : State) (a : Nat) : Word := SMap.getD s.regs a (regReset a)

/-- The stored value as a number. -/
def State.regN (s : State) (a : Nat) : Nat := (s.reg a).toNat

/-- Store a register; a register at its reset value is not listed. -/
def State.setReg (s : State) (a : Nat) (v : Word) : State :=
  { s with regs := if v = regReset a then SMap.del s.regs a else SMap.put s.regs a v }

/-- Store a register from a number. -/
def State.setRegN (s : State) (a n : Nat) : State := s.setReg a (word n)

/-- Change bits hi..lo of a register. -/
def State.setFld (s : State) (a hi lo x : Nat) : State := s.setRegN a (setBits (s.regN a) hi lo x)

/-- Bits hi..lo of a register. -/
def State.fld (s : State) (a hi lo : Nat) : Nat := bits (s.regN a) hi lo

/-- Bit i of a register. -/
def State.flag (s : State) (a i : Nat) : Bool := (s.regN a).testBit i

/-- Count n on a saturating 32-bit counter. -/
def State.bumpN (s : State) (a n : Nat) : State := s.setRegN a (min 0xFFFFFFFF (s.regN a + n))

/-- Count one on a saturating 32-bit counter. -/
def State.bump (s : State) (a : Nat) : State := s.bumpN a 1

/-- The 64-bit counter at a and a + 4. -/
def State.reg64 (s : State) (a : Nat) : Nat := s.regN a + s.regN (a + 4) * 2 ^ 32

/-- Store a 64-bit pair. -/
def State.setReg64 (s : State) (a n : Nat) : State :=
  (s.setRegN a (n % 2 ^ 32)).setRegN (a + 4) (n / 2 ^ 32 % 2 ^ 32)

/-- Count n on a 64-bit counter pair. -/
def State.bump64 (s : State) (a n : Nat) : State := s.setReg64 a (s.reg64 a + n)

/-! Outputs, time, free values -/

/-- Something leaves the block. -/
def State.emit (s : State) (o : Out) : State := { s with out := o :: s.out }

/-- A fresh free value of 64 bits (log entry 5). -/
def State.draw (s : State) : Nat × State := ((Config.free64 s.free).toNat, { s with free := s.free + 1 })

/-- The clock reaches a deadline. -/
def State.at (s : State) (t : Nat) : State := { s with now := max s.now t }

/-- Engine time: nanoseconds since cold reset (12 R417). -/
def State.etime (s : State) : Nat := s.now - s.pwr.coldAt

/-! Power domains (20 R628) -/

/-- The state of domain d. -/
def State.pdSt (s : State) (d : Nat) : PdSt := SMap.getD s.pwr.pd d .off

/-- Domain d is ON. -/
def State.pdOn (s : State) (d : Nat) : Bool := s.pdSt d == .on

/-- Unit u's domain is ON; of the ledger either half's domain suffices (01 R24). -/
def State.unitOn (s : State) (u : Nat) : Bool :=
  if u = 4 then s.pdOn 1 || s.pdOn 43 else s.pdOn (unitDomain u)

/-- UNIT_STATE of unit u: 0 RESET, 1 START, 2 SERVICE, 3 RECOVERY (03 R105). -/
def State.unitState (s : State) (u : Nat) : Nat := s.fld (unitHdr u) 3 2

/-- Unit u's island is fed from CLK_REF, which is lost (20 R630); CI33 has its oscillator, CI34, CI36 and CI37 have sources of their own. -/
def State.clockStopped (s : State) (u : Nat) : Bool := s.pwr.refclkLost && !([0, 1, 2, 3, 19, 20].contains u)

/-- Unit u is powered, clocked and in SERVICE. -/
def State.inService (s : State) (u : Nat) : Bool := s.unitOn u && s.unitState u == 2 && !s.clockStopped u

/-- New work reaches unit u: it is in service and PD_SET is not taking its domain out of service (20 R627 step 1). -/
def State.accepting (s : State) (u : Nat) : Bool :=
  s.inService u && !s.pwr.pdWait.any (fun x => x.1 == unitDomain u)

/-- The control complex runs firmware: PD1 on, a control core in service, its clock running, not in recovery
(19 R616; 20 R630, R643). -/
def State.ctlUp (s : State) : Bool :=
  s.pdOn 1 && !s.tally.cores.isEmpty && !s.pwr.refclkLost && !s.pwr.recovery

/-- The firmware serves waybills: the control complex runs and READY is set (20 R645). -/
def State.fwServes (s : State) : Bool := s.ctlUp && s.pwr.ready

/-! Event log and last-word file (19 R607-R610) -/

/-- The last-word file holds 16 entries; a new entry replaces the oldest frozen one (R610). -/
def lastWordAdd (l : List LastWord) (e : LastWord) : List LastWord :=
  if l.length < 16 then l ++ [e]
  else match l.findIdx? (fun x => x.frozen) with
    | some i => l.eraseIdx i ++ [e]
    | none => l.drop 1 ++ [e]

/-- Count a loss on the open kind 0x40 entry, or open one (R609). -/
def lastWordLoss (l : List LastWord) (t code : Nat) : List LastWord :=
  if l.any (fun x => !x.frozen) then
    l.map (fun x => if x.frozen then x else
      { x with entry := { x.entry with data := patch x.entry.data 2 (leBytes 4 (u32 x.entry.data 2 + 1)) } })
  else lastWordAdd l
    { frozen := false,
      entry := { time := t, code := 0x0F40, unit := 0xFF, info := 0x20, issuer := 0, value := 0,
                 data := leBytes 2 code ++ leBytes 4 1 ++ zeros 6 } }

/-- The slots the log can use: a row of 512 that cannot be repaired is skipped (R609). -/
def logSlot (skipped : List Nat) (w : Nat) : Nat :=
  let rows := (List.range 32).filter (fun r => !skipped.contains r)
  match rows with
  | [] => 0
  | _ => rows.getD (w / 512 % rows.length) 0 * 512 + w % 512

/-- Write one entry into the ring (R607). -/
def State.logWrite (s : State) (e : LogEntry) : State :=
  let w := s.reg64 Reg.EV_WRITTEN
  let slot := logSlot s.tally.skipped w
  let s1 := if (SMap.get? s.tally.log slot).isSome then s.bump Reg.EV_OVERWRITTEN else s
  { s1.bump64 Reg.EV_WRITTEN 1 with tally := { s1.tally with log := SMap.put s1.tally.log slot e } }

/-- Log an event: into the ring, or held by the AOC before the firmware starts, or lost into the last-word file; an
entry of severity 3 also goes to the last-word file (R609, R610; 20 R645). -/
def State.logEntry (s : State) (e : LogEntry) : State :=
  let s0 := if bits e.info 5 4 = 3 then
      { s with tally := { s.tally with lastWord := lastWordAdd s.tally.lastWord { entry := e, frozen := true } } } else s
  if s0.ctlUp && decide (s0.tally.skipped.length < 32) then
    let s1 := s0.logWrite e
    match s1.tally.lastWord.find? (fun x => !x.frozen) with
    | none => s1
    | some x =>
      let n := u32 x.entry.data 2
      let s2 := s1.logWrite { time := s.etime, code := 0x0F41, unit := 53, info := 0x10, issuer := 0, value := 0,
                              data := leBytes 4 n ++ zeros 8 }
      { s2 with tally := { s2.tally with lastWord := s2.tally.lastWord.map (fun y => { y with frozen := true }) } }
  else if e.unit = 1 && !s0.pwr.ready && decide (s0.tally.aocHeld.length < 64) then
    { s0 with tally := { s0.tally with aocHeld := s0.tally.aocHeld ++ [e] } }
  else
    let s1 := s0.bump Reg.EV_LOST
    { s1 with tally := { s1.tally with lastWord := lastWordLoss s1.tally.lastWord s.etime e.code } }

/-- Log an entry of a kind of R608 for unit u. -/
def State.logKind (s : State) (sub kind u sev : Nat) (issuer : Nat) (data : List Byte) : State :=
  s.logEntry { time := s.etime, code := sub * 256 + kind, unit := u, info := sev * 16, issuer := issuer, value := 0,
               data := fit 12 data }

/-- The waybill range of unit u (R607 CODE; the ledger, which has no range, takes the queues' one: log entry 8). -/
def unitRange (u : Nat) : Nat :=
  if u = 0 then 1 else if u = 1 then 0x10 else if u ≤ 3 then u else if u = 4 then 3
  else if u ≤ 8 then u - 1 else if u ≤ 11 then 8 else if u = 12 then 0x0A else if u ≤ 14 then 0x0B
  else if u ≤ 18 then 0x0C else if u = 19 then 0x0D else if u = 20 then 0x0E else if u ≤ 52 then 9
  else if u = 53 then 0x0F else 1

/-! Interrupts (04 R140-R144) -/

/-- PF0 of link 0 or 1. -/
def isPf0 (fn : Nat) : Bool := fn == 0 || fn == 4096

/-- Host link of a function (04 R131). -/
def State.linkOf (s : State) (fn : Nat) : Nat :=
  if fn = 4096 then 1 else if fn = 0 then 0 else if s.pwr.hostBif && decide (2048 ≤ fn) then 1 else 0

/-- PF0's function number of a link. -/
def pf0Fn (link : Nat) : Nat := if link = 1 then 4096 else 0

/-- A function; PF0 is always ACTIVE unless contained or resetting. -/
def State.fn (s : State) (n : Nat) : Fn :=
  match SMap.get? s.host.fns n with
  | some f => f
  | none => if isPf0 n then { st := .active } else {}

/-- The code of a flask's state (04 R145). -/
def FlaskSt.code : FlaskSt → Nat
  | .unprovisioned => 0 | .offline => 1 | .active => 2 | .contained => 3 | .resetting => 4

/-- Store a function. -/
def State.setFn (s : State) (n : Nat) (f : Fn) : State :=
  { s with host := { s.host with fns := SMap.put s.host.fns n f } }

/-- A host link's configuration state. -/
def State.link (s : State) (l : Nat) : HostLink := if l = 1 then s.host.link1 else s.host.link0

/-- Store a host link's configuration state. -/
def State.setLink (s : State) (l : Nat) (x : HostLink) : State :=
  if l = 1 then { s with host := { s.host with link1 := x } } else { s with host := { s.host with link0 := x } }

/-- The function may issue memory requests (R144, R151, R158). -/
def Fn.canIssue (f : Fn) : Bool := f.busMaster && !f.d3hot && f.st == .active

/-- Base of vector v's MSI-X table entry (R140). -/
def vecBase (fn v : Nat) : Nat :=
  if fn = 0 then Reg.MSIX_ADDR_LO 0 v else if fn = 4096 then Reg.MSIX_ADDR_LO 1 v else Reg.FMSIX_ADDR_LO fn v

/-- The MSI-X message of vector v leaves. -/
def State.sendMsix (s : State) (fn v : Nat) : State :=
  let b := vecBase fn v
  s.emit (.msix fn v (s.reg64 b) (s.regN (b + 8)))

/-- Vector v is enabled and unmasked (R141). -/
def State.vecOpen (s : State) (fn v : Nat) : Bool :=
  let f := s.fn fn
  f.msixEn && !f.fnMask && !(s.flag (vecBase fn v + 12) 0)

/-- Insert into an ascending list without repeats. -/
def insertNat (n : Nat) : List Nat → List Nat
  | [] => [n]
  | m :: r => if n < m then n :: m :: r else if n = m then m :: r else m :: insertNat n r

/-- An event on vector v of a function (R141-R144; R151, R158). -/
def State.signal (s : State) (fn v : Nat) : State :=
  let f := s.fn fn
  if f.st == .resetting then s
  else if s.vecOpen fn v && f.canIssue then s.sendMsix fn v
  else
    let s1 := s.setFn fn { f with pendVec := insertNat v f.pendVec }
    let l := s.linkOf fn
    let k := s.link l
    if isPf0 fn && !f.msixEn && !k.intDisable && !k.intxOn then
      (s1.setLink l { k with intxOn := true }).emit (.intx l true)
    else s1

/-! Engine event lines and messages (12 R419) -/

/-- A cluster. -/
def State.cluster (s : State) (c : Nat) : Cluster := SMap.getD s.eng.clusters c {}

/-- Store a cluster. -/
def State.setCluster (s : State) (c : Nat) (x : Cluster) : State :=
  { s with eng := { s.eng with clusters := SMap.put s.eng.clusters c x } }

/-! Status-register events (03 R110-R114, 14 R495) -/

/-- A status register as an event source: its address, unit and register index r (R495). -/
structure EvSrc where
  addr : Nat
  unit : Nat
  r : Nat
  deriving DecidableEq, Repr

namespace Ev
def unitStatus (u : Nat) : EvSrc := ⟨unitHdr u + 4, u, 0⟩
def accErr : EvSrc := ⟨Reg.ACC_ERR_STATUS, 0, 1⟩
def own : EvSrc := ⟨Reg.OWN_EVENT, 1, 2⟩
def ao : EvSrc := ⟨Reg.AO_EVENT, 1, 1⟩
def he : EvSrc := ⟨Reg.HE_EVENT, 2, 1⟩
def flask (f : Nat) : EvSrc := ⟨Reg.FLASK_EVENT f, 2, 6⟩
def wbStatus (fn : Nat) : EvSrc :=
  if fn = 0 then ⟨Reg.WB_STATUS 0, 0, 2⟩ else if fn = 4096 then ⟨Reg.WB_STATUS 1, 0, 3⟩ else ⟨Reg.FWB_STATUS fn, 2, 7⟩
def qm : EvSrc := ⟨Reg.QM_EVENT, 3, 1⟩
def lg : EvSrc := ⟨Reg.LG_EVENT, 4, 1⟩
def ps : EvSrc := ⟨Reg.PS_EVENT, 5, 1⟩
def cl : EvSrc := ⟨Reg.CL_EVENT, 6, 1⟩
def lk : EvSrc := ⟨Reg.LK_EVENT, 7, 1⟩
def tm : EvSrc := ⟨Reg.TM_EVENT, 8, 1⟩
def cx (c : Nat) : EvSrc := ⟨Reg.CX_EVENT c, 9 + c, 1⟩
def ks : EvSrc := ⟨Reg.KS_EVENT, 11, 1⟩
def rng : EvSrc := ⟨Reg.RNG_EVENT, 11, 2⟩
def mv : EvSrc := ⟨Reg.MV_EVENT, 12, 1⟩
def mb : EvSrc := ⟨Reg.MB_EVENT, 13, 1⟩
def dp : EvSrc := ⟨Reg.DP_EVENT, 14, 1⟩
def dc (c : Nat) : EvSrc := ⟨Reg.DC_EVENT c, 15 + c, 1⟩
def cv : EvSrc := ⟨Reg.CV_EVENT, 19, 1⟩
def np : EvSrc := ⟨Reg.NP_EVENT, 20, 1⟩
def ec (c : Nat) : EvSrc := ⟨Reg.EC_EVENT c, 21 + c, 1⟩
def tl : EvSrc := ⟨Reg.TL_EVENT, 53, 1⟩
end Ev

/-- Subsystem of a source's log entries: OWN_EVENT belongs to the 0x01xx range (02 R90). -/
def EvSrc.range (e : EvSrc) : Nat := if e.addr = Reg.OWN_EVENT then 1 else unitRange e.unit

/-- SEQ moves one step (R110). -/
def nextSeq (v : Nat) : Nat := setBits v 31 24 ((bits v 31 24 + 1) % 256)

/-- STATUS_MODE of unit u is SEQUENCE (R105). -/
def State.seqMode (s : State) (u : Nat) : Bool := s.flag (unitHdr u) 0

/-- The highest RS bit of a status register is STALE_SEQ in every status register of the spec. -/
def staleBit (rs : Nat) : Nat := Nat.log2 rs

/-- The value of a status register after a write-back v in SEQUENCE mode (R111). -/
def clearedStatus (rs cur v : Nat) : Nat :=
  if bits v 31 24 = bits cur 31 24 then cur ^^^ (cur &&& v &&& rs) else cur ||| 2 ^ staleBit rs

/-- The control complex's event queue takes an event (01 R33). -/
def State.ctlEvent (s : State) (e : CtlEvent) : State :=
  if s.ctlUp then { s with mb := { s.mb with ctlEvents := s.mb.ctlEvents ++ [e] } } else s

/-- The log entry and the control complex's event queue entry of an event (03 R112, 14 R495). -/
def State.record (s : State) (e : EvSrc) (sev issuer : Nat) (data : List Byte) : State :=
  let v := s.regN e.addr
  let s1 := s.logEntry { time := s.etime, code := e.range * 256, unit := e.unit, info := sev * 16 + e.r,
                         issuer := issuer, value := v, data := fit 12 data }
  s1.ctlEvent { unit := e.unit, r := e.r, value := word v }

/-- The register change of an instantaneous event: SEQ increments; in SEQUENCE mode its bit sets, in LEVEL mode the bit
stays as it is (R110, R111, R113). -/
def State.setEvent (s : State) (e : EvSrc) (bit : Nat) : State :=
  let v := nextSeq (s.regN e.addr)
  s.setRegN e.addr (if s.seqMode e.unit then v ||| 2 ^ bit else v)

/-- One edge on an event line: the pending count rises; at 65,535 the edge is lost and counted, and LINE_OVERFLOW is
raised (12 R419). An edge bound for a cluster out of service is dropped (01 R36). LINE_OVERFLOW and MSG_DROP raised here
are logged and queued but run no routes of their own (log entry 9). -/
def State.lineEdge (s : State) (c line : Nat) : State :=
  if !s.inService (21 + c) then s else
  let k := s.cluster c
  let n := SMap.getD k.lines line 0
  if n < 65535 then s.setCluster c { k with lines := SMap.put k.lines line (n + 1) }
  else ((s.bump (Reg.EC_LINE_OVERFLOW c)).setEvent (Ev.ec c) 5).record (Ev.ec c) 1 0 []

/-- A message enters a cluster's message queue of 256, or is dropped, counted and MSG_DROP raised (12 R419). -/
def State.postMsg (s : State) (c : Nat) (m : EngMsg) : State :=
  if !s.inService (21 + c) then s else
  let k := s.cluster c
  if k.msgs.length < 256 then s.setCluster c { k with msgs := k.msgs ++ [m] }
  else ((s.bump (Reg.EC_MSG_DROP c)).setEvent (Ev.ec c) 6).record (Ev.ec c) 1 0 []

/-- Deliver an event to one route word (14 R495). -/
def State.route (s : State) (w : Nat) (e : EvSrc) (value : Nat) : State :=
  if !w.testBit 31 then s
  else match bits w 30 28 with
    | 1 => s.signal (pf0Fn (bits w 22 22)) (bits w 10 0)
    | 2 => s.lineEdge (bits w 27 23) (bits w 4 0)
    | 3 => s.postMsg (bits w 27 23)
        { vec := bits w 5 0, flask := 0,
          bytes := leBytes 2 e.unit ++ [BitVec.ofNat 8 e.r, 0] ++ leBytes 4 value ++ leBytes 8 s.etime ++ zeros 16 }
    | _ => s

/-- The sources with a fixed index have no routes (R495). -/
def EvSrc.routed (e : EvSrc) : Bool :=
  !((e.unit == 2 && decide (6 ≤ e.r)) || (e.unit == 13 && decide (6 ≤ e.r)))

/-- What every event of a status register does beside its bit: the log entry, the control complex's event queue and
the routes (03 R112, 14 R495). -/
def State.publish (s : State) (e : EvSrc) (sev issuer : Nat) (data : List Byte) : State :=
  let v := s.regN e.addr
  let s2 := s.record e sev issuer data
  if e.routed then
    let i := e.unit * 8 + e.r
    (s2.route (s2.regN (Reg.EF_ROUTE0 i)) e v).route (s2.regN (Reg.EF_ROUTE1 i)) e v
  else s2

/-- An instantaneous event of a status register. -/
def State.raiseX (s : State) (e : EvSrc) (bit sev issuer : Nat) (data : List Byte) : State :=
  (s.setEvent e bit).publish e sev issuer data

/-- An event with no more to say. -/
def State.raise (s : State) (e : EvSrc) (bit : Nat) : State := s.raiseX e bit 0 0 []

/-- An event of a given severity. -/
def State.raiseSev (s : State) (e : EvSrc) (bit sev : Nat) : State := s.raiseX e bit sev 0 []

/-- An event of a per-flask source names the flask in DATA (R608). -/
def State.raiseFlask (s : State) (f bit : Nat) : State :=
  (s.raiseX (Ev.flask f) bit 0 0 (leBytes 2 f)).signal f (s.fld (Reg.FLASK_CTRL f) 5 0)

/-- An access is refused or discarded (R608 kind 0x02). -/
def State.logAccess (s : State) (u issuer off len : Nat) : State :=
  s.logKind (unitRange u) 2 u 1 issuer (leBytes 4 off ++ leBytes 1 len)

end Sys2Proof.Machine
end

