-- ==== Sys2Proof/Machine/OpsMb.lean ====
section
/-!
DEFINITION. Mailbox pairs: queues, locks, notification, wake (14 R483-R494). Pair p is key p; flask f's mailbox is
key 64 + f, its side A the flask, its side B the firmware.
-/

namespace Sys2Proof.Machine

open Sys2Proof

/-- Who owns a side of a pair (R483, R484). -/
inductive MbOwner where
  | cluster (c : Nat)
  | firmware
  | pf0 (link : Nat)
  | aoc
  | debugger
  | flask (f : Nat)
  | nobody
  deriving DecidableEq, Repr

/-- The owner of side A (b = false) or B of a pair. -/
def State.mbOwner (s : State) (key : Nat) (b : Bool) : MbOwner :=
  if 64 ≤ key then (if b then .firmware else .flask (key - 64))
  else if key < 32 then (if b then .firmware else .cluster key)
  else if key = 32 then (if b then .firmware else .pf0 0)
  else if key = 33 then (if b then .firmware else .pf0 1)
  else if key = 34 then (if b then .firmware else .aoc)
  else if key = 35 then (if b then .firmware else .debugger)
  else
    let w := s.regN (Reg.MB_PAIR_CFG (key - 36))
    if !w.testBit 31 then .nobody
    else if b then .cluster (bits w 4 0) else .pf0 (bits w 30 30)

/-- A pair. -/
def State.mbPair (s : State) (key : Nat) : MbPair := SMap.getD s.mb.pairs key {}

/-- Store a pair. -/
def State.setMbPair (s : State) (key : Nat) (p : MbPair) : State :=
  { s with mb := { s.mb with pairs := SMap.put s.mb.pairs key p } }

/-- A side of a pair. -/
def MbPair.side (p : MbPair) (b : Bool) : MbSide := if b then p.b else p.a

/-- Store a side. -/
def MbPair.setSide (p : MbPair) (b : Bool) (x : MbSide) : MbPair := if b then { p with b := x } else { p with a := x }

/-- The queue a side sends on. -/
def MbPair.sendQ (p : MbPair) (b : Bool) : List (Word × Bool) := if b then p.ba else p.ab

/-- Store the queue a side sends on. -/
def MbPair.setSendQ (p : MbPair) (b : Bool) (q : List (Word × Bool)) : MbPair :=
  if b then { p with ba := q } else { p with ab := q }

/-- Change a side of a pair. -/
def State.modSide (s : State) (key : Nat) (b : Bool) (f : MbSide → MbSide) : State :=
  let p := s.mbPair key
  s.setMbPair key (p.setSide b (f (p.side b)))

/-- An event of MB_STAT of a side: SEQ, the bit in SEQUENCE mode, the log entry naming pair or flask and side
(R486, R495, 19 R608). -/
def State.mbEvent (s : State) (key : Nat) (b : Bool) (bit : Nat) : State :=
  let seq := s.seqMode 13
  let s1 := s.modSide key b (fun x =>
    let v := nextSeq x.stat.toNat
    { x with stat := word (if seq then v ||| 2 ^ bit else v) })
  let v := ((s1.mbPair key).side b).stat.toNat
  let r := if 64 ≤ key then 7 else 6
  let num := if 64 ≤ key then key - 64 else key
  let s2 := s1.logEntry { time := s1.etime, code := 0x0B00, unit := 13, info := r, issuer := 0, value := v,
                          data := leBytes 2 num ++ leBytes 1 (if b then 1 else 0) ++ zeros 9 }
  s2.ctlEvent { unit := 13, r := r, value := word v }

/-- The domain of a side's receiver, for the wake of R494 (cluster and firmware sides only). -/
def mbDomain : MbOwner → Option Nat
  | .cluster c => some (c + 2)
  | .firmware => some 1
  | _ => none

/-- The receiving unit of a side is in service. -/
def State.mbInService (s : State) : MbOwner → Bool
  | .cluster c => s.inService (21 + c)
  | .firmware => s.ctlUp
  | .nobody => false
  | _ => true

/-- The notification of a side (R491). -/
def State.mbDeliver (s : State) (key : Nat) (b : Bool) : State :=
  let t := ((s.mbPair key).side b).ctrl.toNat
  match s.mbOwner key b with
  | .pf0 l => s.signal (pf0Fn l) (bits t 10 0)
  | .flask f => if bits t 10 0 < u8 (s.fn f).quota 4 then s.signal f (bits t 10 0) else s
  | .cluster c => s.lineEdge c (bits t 4 0)
  | .firmware => s.ctlEvent { unit := 13, r := if 64 ≤ key then 7 else 6, value := word key }
  | .aoc => { s with mb := { s.mb with aocEvents := s.mb.aocEvents ++ [⟨13, 6, word key⟩] } }
  | .debugger => s
  | .nobody => s

/-- Domain d enters a state: PD_STATE shows 1 in ON only, PD_CHANGE is raised (20 R628, R652). -/
def State.setPd (s : State) (d : Nat) (st : PdSt) : State :=
  let s1 := { s with pwr := { s.pwr with pd := (if st = PdSt.off then SMap.del s.pwr.pd d else SMap.put s.pwr.pd d st) } }
  let a := if d < 32 then Reg.PD_STATE_LO else Reg.PD_STATE_HI
  (s1.setFld a (d % 32) (d % 32) (if st = PdSt.on then 1 else 0)).raise Ev.ao 2

/-- Domain d is held off by its PD_OFF bit (20 R629). -/
def State.forcedOff (s : State) (d : Nat) : Bool := s.flag (if d < 32 then Reg.PD_OFF_LO else Reg.PD_OFF_HI) (d % 32)

/-- The AOC is asked to power a domain (R494). -/
def State.wakeDomain (s : State) (d : Nat) : State :=
  if s.pdSt d == .off && !s.forcedOff d then
    let s1 := s.setPd d .ramping
    { s1 with pwr := { s1.pwr with wake := insertNat d s1.pwr.wake } }
  else s

/-- Notify a side, or wake its receiver, or hold the condition (R491, R494). The sender's timer is paused from the
wake request. -/
def State.mbNotify (s : State) (key : Nat) (b : Bool) : State :=
  let o := s.mbOwner key b
  if s.mbInService o then s.mbDeliver key b
  else
    let x := (s.mbPair key).side b
    let s1 := s.modSide key b (fun x => { x with held := true })
    match mbDomain o with
    | none => s1
    | some d =>
      if x.ctrl.toNat.testBit 28 && x.wake.isNone && !s.pdOn d then
        let s2 := s1.modSide key b (fun x => { x with wake := some (s.now + 5000000) })
        (s2.modSide key (!b) (fun y => { y with timer := none, paused := y.timer.map (fun t => t - s.now) })).wakeDomain d
      else s1

/-- A side's lock is held by another owner. -/
def MbSide.lockedFor (x : MbSide) (owner : Nat) : Bool :=
  match x.lock with
  | none => false
  | some o => o != owner

/-- An error notification under INT_ERR (R486). -/
def State.mbErr (s : State) (key : Nat) (b : Bool) (bit : Nat) : State :=
  let s1 := s.mbEvent key b bit
  if ((s1.mbPair key).side b).ctrl.toNat.testBit 29 then s1.mbNotify key b else s1

/-- A side's send timer starts at 0: it runs while the queue holds a word and TIMEOUT_US is not 0, and stands still while its receiver
wakes (R490, R494). -/
def State.mbArm (s : State) (key : Nat) (b : Bool) : State :=
  let p := s.mbPair key
  let us := (p.side b).timeoutUs.toNat % 65536
  let off := (p.sendQ b).isEmpty || us == 0
  let wakes := (p.side (!b)).wake.isSome
  s.modSide key b (fun x =>
    { x with timer := if off || wakes then none else some (s.now + us * 1000),
             paused := if !off && wakes then some (us * 1000) else none })

/-- The wake of receiver b ends: its sender's timer goes on (R494). -/
def State.mbWakeEnd (s : State) (key : Nat) (b : Bool) : State :=
  (s.modSide key b (fun x => { x with wake := none })).modSide key (!b) (fun y =>
    { y with timer := (match y.paused with | some r => some (s.now + r) | none => y.timer), paused := none })

/-- Side b pushes a word, marked end of message or not (R489, R493). -/
def State.mbPush (s : State) (key : Nat) (b : Bool) (owner : Nat) (w : Word) (eom : Bool) : State :=
  let p := s.mbPair key
  if (p.side b).lockedFor owner then s.mbErr key b 6
  else
    let q := p.sendQ b
    if 8 ≤ q.length then s.mbEvent key b 2
    else
      let s1 := s.setMbPair key (p.setSendQ b (q ++ [(w, eom)]))
      let s2 := if q.isEmpty then s1.mbArm key b else s1
      let ctrl := (p.side (!b)).ctrl.toNat
      let s3 := if eom then
          let t := s2.mbEvent key (!b) 1
          if ctrl.testBit 30 then t.mbNotify key (!b) else t else s2
      if q.length = 7 then
        let t := s3.mbEvent key (!b) 0
        if ctrl.testBit 31 then t.mbNotify key (!b) else t
      else s3

/-- Side b pops the head word of its receive queue: the word (0 if none or locked out) and the state (R489, R493). -/
def State.mbPop (s : State) (key : Nat) (b : Bool) (owner : Nat) : Word × State :=
  let p := s.mbPair key
  if (p.side b).lockedFor owner then (0, s.mbErr key b 6)
  else match p.sendQ (!b) with
    | [] => (0, s.mbEvent key b 3)
    | (w, _) :: q =>
      (w, (s.setMbPair key (p.setSendQ (!b) q)).mbArm key (!b))

/-- The words of a message, then the rest: up to and with the first end-of-message word. -/
def takeMsg : List (Word × Bool) → Option (List Word × List (Word × Bool))
  | [] => none
  | (w, true) :: r => some ([w], r)
  | (w, false) :: r => (takeMsg r).map (fun x => (w :: x.1, x.2))

/-- Words of a byte list, low byte first. -/
def toWords : Nat → List Byte → List Word
  | 0, _ => []
  | n + 1, l => word (leNat (l.take 4)) :: toWords n (l.drop 4)

/-- Bytes of words. -/
def ofWords : List Word → List Byte
  | [] => []
  | w :: r => leBytes 4 w.toNat ++ ofWords r

/-- The firmware sends an eight-word message on side B of a pair (02 R66). -/
def State.mbSendMsg (s : State) (key : Nat) (ws : List Word) : State :=
  match ws with
  | [] => s
  | [w] => s.mbPush key true 0x3000 w true
  | w :: r => (s.mbPush key true 0x3000 w false).mbSendMsg key r

/-- Flush the send queue of side b: its words are lost, FLUSHED rises on the far side (R490, R493). -/
def State.mbFlush (s : State) (key : Nat) (b : Bool) : State :=
  let p := s.mbPair key
  let s1 := s.setMbPair key (p.setSendQ b [])
  (s1.modSide key b (fun x => { x with timer := none, paused := none })).mbErr key (!b) 5

/-- The reset of a function that owns sides releases its locks and flushes both queues of each side (R493). -/
def State.mbFnReset (s : State) (fn : Nat) : State :=
  let keys := if isPf0 fn then
      (32 + s.linkOf fn) :: (List.range 28).filterMap (fun i =>
        if s.mbOwner (36 + i) false == .pf0 (s.linkOf fn) then some (36 + i) else none)
    else [64 + fn]
  keys.foldl (fun t k =>
    let t1 := t.modSide k false (fun x => { x with lock := none })
    let p := t1.mbPair k
    let t2 := (t1.setMbPair k { p with ab := [], ba := [] }).modSide k false (fun x => { x with timer := none, paused := none })
    (t2.modSide k true (fun x => { x with timer := none, paused := none })).mbErr k true 5) s

/-! Users of a side (R483-R485, R487, R488, R492, R493) -/

/-- Owner ID of a user (R487). -/
def mbOwnerId : MbUser → Nat
  | .host (.pf0 l) => l
  | .host (.flask f) => 0x1000 + f
  | .thread h => 0x2000 + h
  | .core n => 0x3000 + n
  | .host .aoc => 0x4000
  | .host .debugger => 0x5000

/-- The user is an owner of the side (R483). -/
def State.mbOwns (s : State) (user : MbUser) (key : Nat) (b : Bool) : Bool :=
  match user with
  | .host (.pf0 l) => s.mbOwner key b == .pf0 l
  | .host (.flask f) => s.mbOwner key b == .flask f
  | .host .aoc => s.mbOwner key b == .aoc
  | .host .debugger => s.mbOwner key b == .debugger
  | .thread h => s.mbOwner key b == .cluster (h / 64)
  | .core _ => s.mbOwner key b == .firmware

/-- BAR0 or flask-window address of a side's view (R484, R488). -/
def mbViewAddr (key : Nat) (b : Bool) : Nat :=
  if 64 ≤ key then flaskWin (key - 64) + 0x4000 else 0xB01000 + key * 0x40 + (if b then 0x20 else 0)

/-- A discarded access to a side: a host access of a side it does not own is logged (R488); one that finds the unit's domain off is
logged too (01 R36). -/
def State.mbDiscard (s : State) (user : MbUser) (key : Nat) (b : Bool) (off : Nat) : State :=
  match user with
  | .host src => s.logAccess 13 (match src with
      | .pf0 l => l * 0x1000 | .flask f => 0x10000000 + f | .debugger => 0x50000000 | .aoc => 0x60000000)
      (mbViewAddr key b + off) 4
  | _ => s

/-- The unit takes the access: its domain is on and the user owns the side. -/
def State.mbTakes (s : State) (user : MbUser) (key : Nat) (b : Bool) : Bool := s.unitOn 13 && s.mbOwns user key b

/-- MB_TX or MB_TX_EOM (R489). -/
def State.mbTx (s : State) (user : MbUser) (key : Nat) (b : Bool) (w : Word) (eom : Bool) : State :=
  if s.mbTakes user key b then s.mbPush key b (mbOwnerId user) w eom
  else s.mbDiscard user key b (if eom then 4 else 0)

/-- The head word of a side's receive queue, as a peek sees it (03 R126). -/
def State.mbHead (s : State) (key : Nat) (b : Bool) : Word :=
  match (s.mbPair key).sendQ (!b) with
  | [] => 0
  | (w, _) :: _ => w

/-- MB_RX: the word read and the state; PF0's read of a side it does not own is a peek (R488). -/
def State.mbRx (s : State) (user : MbUser) (key : Nat) (b : Bool) : Word × State :=
  if s.mbTakes user key b then s.mbPop key b (mbOwnerId user)
  else if !s.unitOn 13 then (0, s.mbDiscard user key b 8)
  else match user with
    | .host (.pf0 _) => (s.mbHead key b, s)
    | _ => (0, s)

/-- MB_LOCK as a reader sees it: WON only for the holder (R492). -/
def State.mbLockWord (s : State) (key : Nat) (b : Bool) (reader : Option Nat) : Word :=
  match ((s.mbPair key).side b).lock with
  | none => 0
  | some o => word ((if reader = some o then 2 ^ 31 else 0) + 2 ^ 30 + o)

/-- A read of MB_LOCK takes a free lock (R492). -/
def State.mbLockRead (s : State) (user : MbUser) (key : Nat) (b : Bool) : Word × State :=
  if s.mbTakes user key b then
    let me := mbOwnerId user
    let s1 := s.modSide key b (fun x => { x with lock := some (x.lock.getD me) })
    (s1.mbLockWord key b (some me), s1)
  else if !s.unitOn 13 then (0, s.mbDiscard user key b 0x14)
  else match user with
    | .host (.pf0 _) => (s.mbLockWord key b none, s)
    | _ => (0, s)

/-- A write of MB_LOCK: the holder's releases it; another's raises LOCK_ERR while it is held (R492, R493). -/
def State.mbLockWrite (s : State) (user : MbUser) (key : Nat) (b : Bool) : State :=
  if !s.mbTakes user key b then s.mbDiscard user key b 0x14
  else if ((s.mbPair key).side b).lockedFor (mbOwnerId user) then s.mbErr key b 6
  else s.modSide key b (fun x => { x with lock := none })

/-- MB_CTRL and MB_TIMEOUT of a side as written (R486); TIMEOUT_US changed under a running timer takes effect at its next start. -/
def State.mbSetCtrl (s : State) (user : MbUser) (key : Nat) (b : Bool) (v : Nat) : State :=
  if s.mbTakes user key b then s.modSide key b (fun x => { x with ctrl := word (setBits v 27 11 0) })
  else s.mbDiscard user key b 0x10
def State.mbSetTimeout (s : State) (user : MbUser) (key : Nat) (b : Bool) (v : Nat) : State :=
  if s.mbTakes user key b then s.modSide key b (fun x => { x with timeoutUs := word (v % 65536) })
  else s.mbDiscard user key b 0x18

/-- MB_STAT of a side with its queue levels (R486). -/
def State.mbStat (s : State) (key : Nat) (b : Bool) : Nat :=
  let p := s.mbPair key
  let rx := p.sendQ (!b)
  let tx := p.sendQ b
  (p.side b).stat.toNat + rx.length * 2 ^ 20 + tx.length * 2 ^ 16 + (rx.filter (fun x => x.2)).length * 2 ^ 12
    + bitVal (rx.length == 8) 9 + bitVal (tx.length == 8) 8

/-- A clear of MB_STAT (R486; 03 R111). -/
def State.mbClear (s : State) (user : MbUser) (key : Nat) (b : Bool) (v : Nat) : State :=
  if !s.mbTakes user key b then s.mbDiscard user key b 0x0C
  else if !s.seqMode 13 then s
  else s.modSide key b (fun x => { x with stat := word (clearedStatus 0xFF x.stat.toNat v) })

/-- The pair behind view v of cluster c: side A of pair c, then side B of the pairs assigned to it (R485). -/
def State.mbView (s : State) (c v : Nat) : Option (Nat × Bool) :=
  if v = 0 then some (c, false)
  else
    let ps := (List.range 28).filter (fun i => s.mbOwner (36 + i) true == .cluster c)
    (ps[v - 1]?).map (fun i => (36 + i, true))

/-- A killed thread holds no lock any more (R493). -/
def State.mbKillThread (s : State) (hart : Nat) : State :=
  let f := fun (x : MbSide) => if x.lock = some (0x2000 + hart) then { x with lock := none } else x
  { s with mb := { s.mb with pairs := s.mb.pairs.map (fun kp => (kp.1, { kp.2 with a := f kp.2.a, b := f kp.2.b })) } }

end Sys2Proof.Machine
end

