-- ==== Sys2Proof/Machine/OpsWb.lean ====
section
/-!
DEFINITION. The waybill framework: issuers, epochs, the checks of 00 R17, replies, PENDING waybills, chains
(02 R47-R77).
-/

namespace Sys2Proof

open Sys2Proof.Machine

/-- PRIV (R47). -/
def Waybill.priv (w : Waybill) : Bool := w.flags.toNat.testBit 2

/-- CHAIN (R47). -/
def Waybill.chain (w : Waybill) : Bool := w.flags.toNat.testBit 1

/-- Parameter fields. -/
def Waybill.u8 (w : Waybill) (o : Nat) : Nat := Machine.u8 w.params o
def Waybill.u16 (w : Waybill) (o : Nat) : Nat := Machine.u16 w.params o
def Waybill.u32 (w : Waybill) (o : Nat) : Nat := Machine.u32 w.params o
def Waybill.u64 (w : Waybill) (o : Nat) : Nat := Machine.u64 w.params o
def Waybill.bytes (w : Waybill) (o n : Nat) : List Byte := slice w.params o n

end Sys2Proof

namespace Sys2Proof.Machine

open Sys2Proof

/-- The code of a status (00 R15). -/
def Status.code : Status → Nat
  | .ok => 0x0000 | .pending => 0x0001 | .busy => 0x0010 | .notOwner => 0x0011 | .staleEpoch => 0x0012
  | .badOpcode => 0x0020 | .badParam => 0x0021 | .badLength => 0x0022 | .noResource => 0x0030
  | .tollgatesExhausted => 0x0031 | .rehashNeeded => 0x0032 | .keySlotsExhausted => 0x0033 | .aborted => 0x0040
  | .alreadyComplete => 0x0041 | .contained => 0x0042 | .entropyFail => 0x0050 | .authFail => 0x0051
  | .linkLost => 0x0060 | .timeout => 0x0061 | .sealMismatch => 0x0070 | .guardError => 0x0071
  | .unitRetired => 0x0080 | .internal => 0x00FF

/-! Issuers and epochs (R49, R55, R56) -/

/-- The issuer ID the firmware derives from the transport (R49; the AOC's and the debugger's mailbox pairs: log
entry 10). -/
def derivedIssuer : Instance → Nat
  | .ring fn => if fn = 0 then 0 else if fn = 4096 then 0x1000 else 0x10000000 + fn
  | .mailbox p => if p = 32 then 0 else if p = 33 then 0x1000 else if p < 32 then 0x40000000 else 0x50000000
  | .flaskMailbox f => 0x10000000 + f
  | .mctp b e => 0x20000000 + b * 256 + e
  | .caravan p => 0x30000000 + p
  | .jtag => 0x50000000

/-- The function of the issuer, when it has one (R55). -/
def issuerFn : Instance → Option Nat
  | .ring fn => some fn
  | .mailbox p => if p = 32 then some 0 else if p = 33 then some 4096 else none
  | .flaskMailbox f => some f
  | _ => none

/-- The flask of a flask driver. -/
def issuerFlask (i : Instance) : Option Nat :=
  match issuerFn i with
  | some fn => if isPf0 fn then none else some fn
  | none => none

/-- Base of a function's waybill ring registers (R63). -/
def wbBase (fn : Nat) : Nat := if fn = 0 then 0x1000 else if fn = 4096 then 0x1100 else flaskWin fn + 0x3000

/-- The device ownership epoch (R56). -/
def State.devEpoch (s : State) : Nat := s.regN Reg.OWN_EPOCH

/-- A function's epoch (R56). -/
def State.fnEpoch (s : State) (fn : Nat) : Nat := s.regN (wbBase fn + 0x2C)

/-- An epoch's next value: from 0xFFFF_FFFF it goes to 1 (R56). -/
def nextEpoch (e : Nat) : Nat := if e = 0xFFFFFFFF then 1 else e + 1

/-- The epoch a waybill is checked against and its replies carry (R56). -/
def State.scopeEpoch (s : State) (inst : Instance) (flags : Byte) : Nat :=
  match issuerFn inst with
  | none => s.devEpoch
  | some fn => if flags.toNat.testBit 2 then s.devEpoch else s.fnEpoch fn

/-! Replies (R51-R54, R61-R66) -/

/-- The waybill that bytes spell (R47), as it arrives on a transport instance; `badLen`: fewer bytes than PARAM_LEN names, or more than
R47 allows. -/
def waybillOf (inst : Instance) (mtag : Nat) (b : List Byte) : Arrived :=
  let n := u16 b 4
  { inst := inst, opcode := BitVec.ofNat 16 (u16 b 0),
    wb := { inst := inst, flags := BitVec.ofNat 8 (u8 b 2), version := BitVec.ofNat 8 (u8 b 3), tag := BitVec.ofNat 16 (u16 b 6),
            issuer := word (u32 b 8), epoch := word (u32 b 12), params := (b.drop 16).take n, mtag := mtag },
    badLen := decide (4080 < n) || decide (b.length < 16 + n) }

/-- A waybill has arrived (R71). -/
def State.arrive (s : State) (a : Arrived) : State := { s with wb := { s.wb with arrived := s.wb.arrived ++ [a] } }

/-- The bytes of a reply (R51). -/
def replyBytes (opcode flags len tag status failTag epoch : Nat) (res : List Byte) : List Byte :=
  leBytes 2 opcode ++ leBytes 1 flags ++ leBytes 1 1 ++ leBytes 2 len ++ leBytes 2 tag ++ leBytes 2 status
    ++ leBytes 2 failTag ++ leBytes 4 epoch ++ res

/-- Slots of a waybill or reply with n bytes after its header (R61). -/
def slotsFor (n : Nat) : Nat := ceilDiv (16 + n) 64

/-- The number of slots of a ring from its CTRL word; none: not 6-12 (R63). -/
def ringSize (ctrl : Nat) : Option Nat :=
  let k := bits ctrl 3 0
  if 6 ≤ k ∧ k ≤ 12 then some (2 ^ k) else none

/-- The device's side of a function's ring pair. -/
def State.ring (s : State) (fn : Nat) : RingDyn := SMap.getD s.wb.rings fn {}

/-- Store the device's side of a ring pair. -/
def State.setRing (s : State) (fn : Nat) (r : RingDyn) : State :=
  { s with wb := { s.wb with rings := SMap.put s.wb.rings fn r } }

/-- Free slots of the reply ring, when it is in service (R61-R63). -/
def State.replyRoom (s : State) (fn : Nat) : Option Nat :=
  let b := wbBase fn
  let c := s.regN (b + 0x1C)
  match ringSize c with
  | none => none
  | some n => if c.testBit 31 then
      some (n - (s.regN (b + 0x20) + 2 * n - s.regN (b + 0x24) % (2 * n)) % (2 * n)) else none

/-- Write a reply's slots into the reply ring with its PHASE, advance WB_RSP_PROD, signal VECTOR (R62, R63). -/
def State.writeReply (s : State) (fn : Nat) (bytes : List Byte) : State :=
  let b := wbBase fn
  let c := s.regN (b + 0x1C)
  match ringSize c with
  | none => s
  | some n =>
    let prod := s.regN (b + 0x20)
    let slot := prod % n
    let phase := prod / n % 2 = 0
    let k := ceilDiv bytes.length 64
    let data := fit (k * 64) (patch bytes 2 [BitVec.ofNat 8 (setBits (u8 bytes 2) 7 7 (if phase then 1 else 0))])
    let addr := s.reg64 (b + 0x14)
    let first := min k (n - slot)
    let s1 := s.emit (.hostWrite fn (addr + slot * 64) (data.take (first * 64)) false)
    let s2 := if first < k then s1.emit (.hostWrite fn addr (data.drop (first * 64)) false) else s1
    (s2.setRegN (b + 0x20) ((prod + k) % (2 * n))).signal fn (bits c 15 4)

/-- A reply goes to a ring now: the ring is in service, the function may write, there is room. -/
def State.canReply (s : State) (fn : Nat) (slots : Nat) : Bool :=
  match s.replyRoom fn with
  | none => false
  | some r => decide (slots ≤ r) && (s.fn fn).canIssue

/-- Send a reply on its instance (R60, R66, R67, R70); a mailbox carries final replies only, cut to 16 result bytes
with TRUNC (R54). -/
def State.sendReply (s : State) (inst : Instance) (mtag : Nat) (bytes : List Byte) (final : Bool) : State :=
  match inst with
  | .ring fn =>
    let k := ceilDiv bytes.length 64
    if s.canReply fn k && !(s.wb.held.any (fun h => h.inst == inst)) then s.writeReply fn bytes
    else { s with wb := { s.wb with held := s.wb.held ++ [⟨inst, bytes, k, final⟩] } }
  | .mailbox p => if final then s.mbSendMsg p (toWords 8 (fit 32 (truncReply bytes))) else s
  | .flaskMailbox f => if final then s.mbSendMsg (64 + f) (toWords 8 (fit 32 (truncReply bytes))) else s
  | .mctp b e => s.emit (.mctp b e mtag ([0x7E, 0x1F, 0x1A, 0x01, 0x00] ++ bytes))
  | .caravan p => if mtag < 2 then s.emit (.caravan p bytes) else s.emit (.convoy p none (.reply (mtag / 2 - 1) bytes))
  | .jtag => s.emit (.jtag bytes)
where
  /-- TRUNC is set when the result exceeds 16 bytes (R66). -/
  truncReply (bytes : List Byte) : List Byte :=
    if 32 < bytes.length then patch bytes 2 [BitVec.ofNat 8 (u8 bytes 2 ||| 2)] else bytes

/-- Write the held replies that can be written now, in order (R64, R155). -/
def State.flushHeld (s : State) : State :=
  let step := fun (acc : State × List HeldReply) (h : HeldReply) =>
    match h.inst with
    | .ring fn =>
      if acc.1.canReply fn h.slots && !(acc.2.any (fun x => x.inst == h.inst)) then (acc.1.writeReply fn h.bytes, acc.2)
      else (acc.1, acc.2 ++ [h])
    | _ => (acc.1, acc.2 ++ [h])
  let r := s.wb.held.foldl step ({ s with wb := { s.wb with held := [] } }, [])
  { r.1 with wb := { r.1.wb with held := r.2 } }

/-! Opcodes and their checks (R17, R55-R58, R73, R76) -/

/-- What the framework needs of an opcode: code, class, parameter lengths (by
number and by the counts in the parameters), longest result, whether it can reply
PENDING, whether a flask driver may send it, the function its parameters name, whether a flask driver's parameters name
something outside the flask, the target object, and the exemptions of R57, R153, R17 step 7 and R648. -/
structure OpMeta where
  opcode : Nat
  cls : Cls
  lenOk : Nat → Bool
  lenW : Waybill → Bool := fun _ => true
  maxRes : Nat
  canPend : Bool := false
  flaskMay : Bool := false
  fnOf : State → Waybill → Option Nat := fun _ _ => none
  outside : State → Waybill → Nat → Bool := fun _ _ _ => false
  obj : State → Waybill → Option Obj := fun _ _ => none
  touches : State → Waybill → Option Nat := fun _ _ => none
  ownerExempt : Nat → Bool := fun _ => false
  containExempt : Bool := false
  stateExempt : Bool := false
  wedged : Bool := false
  recovery : Bool := false

/-- The result of carrying out a waybill: a final status with its result, or PENDING with what it waits for, its time
limit (ns) and the object it holds. -/
inductive WbOut where
  | done (st : Status) (res : List Byte) (s : State)
  | pend (wait : Wait) (limit : Nat) (obj : Option Obj) (s : State)

/-- The meaning of an opcode beside the framework. -/
abbrev WbBody := Waybill → State → WbOut

/-- A failing body changes nothing (R17). -/
def fail (st : Status) (s : State) : WbOut := .done st [] s

/-- The class a waybill is treated as: F becomes D when it names another function or its issuer has none (R55). -/
def effCls (m : OpMeta) (s : State) (w : Waybill) : Cls :=
  match m.cls with
  | .f =>
    match issuerFn w.inst with
    | none => .d
    | some g => match m.fnOf s w with
      | some x => if x = g then .f else .d
      | none => .f
  | c => c

/-- The longest parameter list of a transport (R60). -/
def maxParams : Instance → Nat
  | .mailbox _ => 16
  | .flaskMailbox _ => 16
  | _ => 4080

/-- Issuer kinds of R49. -/
def issuerKind (i : Nat) : Nat := i / 2 ^ 28

/-- The ownership check of R57 fails. -/
def ownerFails (m : OpMeta) (s : State) (w : Waybill) : Bool :=
  let iss := derivedIssuer w.inst
  let d := effCls m s w == .d
  (d && !w.priv) || (d && s.regN Reg.OWN_DROVER != iss && !m.ownerExempt iss)
    || (w.priv && (issuerFlask w.inst).isSome) || w.issuer.toNat != iss

/-- The function is contained (R153). -/
def State.isContained (s : State) (fn : Nat) : Bool := (s.fn fn).st == .contained

/-- The containment check of R153. -/
def containedFails (m : OpMeta) (s : State) (w : Waybill) : Bool :=
  !m.containExempt &&
  ((match issuerFn w.inst with | some fn => s.isContained fn | none => false) ||
   (effCls m s w == .d && (match m.touches s w with | some fn => s.isContained fn | none => false)))

/-- A PENDING waybill of another issuer holds the target object (R76). -/
def heldByOther (m : OpMeta) (s : State) (w : Waybill) : Bool :=
  m.cls != .r && (match m.obj s w with
    | none => false
    | some o => s.wb.pend.any (fun p => p.obj == some o && p.issuer.toNat != derivedIssuer w.inst))

/-- A PENDING TBL_REHASH: what its issuer may do to the table meanwhile is given by 09 R322-R325 (log entry 22). -/
def Wait.isRehash : Wait → Bool
  | .tblRehash _ => true
  | _ => false

/-- A PENDING waybill of the same issuer holds the target object: the waybill waits (R76). -/
def heldBySame (m : OpMeta) (s : State) (w : Waybill) : Bool :=
  m.cls != .r && (match m.obj s w with
    | none => false
    | some o => s.wb.pend.any (fun p =>
        p.obj == some o && p.issuer.toNat == derivedIssuer w.inst && !p.wait.isRehash))

/-- A tag in use by a PENDING waybill of the instance, or 0xFFFF (R73). -/
def tagFails (s : State) (w : Waybill) : Bool :=
  w.tag == 0xFFFF || s.wb.pend.any (fun p => p.inst == w.inst && p.tag == w.tag)

/-- Step 7 of R17: the state of the issuing flask. -/
def flaskStateCheck (m : OpMeta) (s : State) (w : Waybill) : Option Status :=
  match issuerFlask w.inst with
  | none => none
  | some f =>
    if m.stateExempt then none
    else match (s.fn f).st with
      | .unprovisioned => some .noResource
      | .resetting => some .busy
      | _ => none

/-- Step 8 of R17: a flask driver's opcode or operands outside its flask (R58). -/
def flaskScopeFails (m : OpMeta) (s : State) (w : Waybill) : Bool :=
  match issuerFlask w.inst with
  | none => false
  | some f => !m.flaskMay || m.outside s w f

/-- The revocation deadline of the drover has passed (R83): three heartbeat periods since the last counted heartbeat. -/
def State.revocationDue (s : State) : Bool :=
  s.fld Reg.OWN_STATE 1 0 == 2 && decide (s.own.lastHb + 3 * s.regN Reg.HB_PERIOD * 1000000 ≤ s.now)

/-- The epoch check of R17 step 3 (R56); a revocation that is due already outdates the device epoch (R83). -/
def epochFails (m : OpMeta) (s : State) (w : Waybill) : Bool :=
  m.cls != .r &&
  (w.epoch.toNat != s.scopeEpoch w.inst w.flags ||
   (s.revocationDue && (w.priv || (issuerFn w.inst).isNone) && m.opcode != 0x0107))

/-- Steps 1-9 of R17, in order; none: all pass. -/
def checks (m : OpMeta) (s : State) (w : Waybill) : Option Status :=
  if maxParams w.inst < w.params.length then some .badLength
  else if w.version != 1 then some .badOpcode
  else if !m.lenOk w.params.length || !m.lenW w then some .badLength
  else if epochFails m s w then some .staleEpoch
  else if m.cls != .r && ownerFails m s w then some .notOwner
  else if containedFails m s w then some .contained
  else if tagFails s w then some .badParam
  else match flaskStateCheck m s w with
    | some st => some st
    | none =>
      if flaskScopeFails m s w then some .badParam
      else if heldByOther m s w then some .busy
      else none

/-! Chains (R74, R75) -/

/-- The chain of an instance. -/
def State.chainOf (s : State) (i : Instance) : Option Chain := s.wb.chains.find? (fun c => c.inst == i)

/-- Replace or remove the chain of an instance. -/
def State.setChain (s : State) (i : Instance) (c : Option Chain) : State :=
  let r := s.wb.chains.filter (fun c => c.inst != i)
  { s with wb := { s.wb with chains := match c with | none => r | some c => r ++ [c] } }

/-- A chain with a D-class member of another issuer runs (R75). -/
def dExcluded (s : State) (issuer : Nat) : Bool :=
  s.wb.chains.any (fun c => c.hasD && c.issuer.toNat != issuer &&
    (match c.st with | .member => true | .next _ => true | _ => false))

/-- The final status of a chain member moves its chain on (R74, R75). -/
def State.chainFinal (s : State) (inst : Instance) (chainBit : Bool) (tag : Half) (st : Status) : State :=
  match s.chainOf inst with
  | none => s
  | some c =>
    if !chainBit then s.setChain inst none
    else if st = .ok then s.setChain inst (some { c with st := .next (s.now + 1000000) })
    else s.setChain inst (some { c with st := .failed tag st })

/-! Carrying out a waybill -/

/-- A reply that R53 suppresses. -/
def suppressed (cls : Cls) (flags : Byte) (st : Status) : Bool :=
  cls != .r && !flags.toNat.testBit 0 && (st == .ok || st == .pending)

/-- Give up part of a ring's reservation (R62). -/
def State.unreserve (s : State) (inst : Instance) (n : Nat) : State :=
  match inst with
  | .ring fn => let r := s.ring fn; s.setRing fn { r with reserved := r.reserved - n }
  | _ => s

/-- Reserve reply slots of a ring (R62). -/
def State.reserve (s : State) (inst : Instance) (n : Nat) : State :=
  match inst with
  | .ring fn => let r := s.ring fn; s.setRing fn { r with reserved := r.reserved + n }
  | _ => s

/-- The reservation of an opcode on an instance (R62). -/
def reservation (s : State) (inst : Instance) (maxRes : Nat) (canPend : Bool) : Nat :=
  match inst with
  | .ring fn =>
    let want := slotsFor maxRes + (if canPend then 1 else 0)
    (match ringSize (s.regN (wbBase fn + 0x1C)) with | some n => min want n | none => want)
  | _ => 0

/-- The final reply of a waybill and what follows it: suppression, reservation, chain (R52, R53, R62, R74). -/
def State.finalReply (s : State) (inst : Instance) (mtag : Nat) (opcode : Nat) (flags : Byte) (tag : Half) (cls : Cls)
    (slots : Nat) (inChain : Bool) (st : Status) (res : List Byte) : State :=
  let res := res.take 4080
  let s1 := s.unreserve inst slots
  let s2 := if suppressed cls flags st then s1
    else s1.sendReply inst mtag
      (replyBytes opcode 1 res.length tag.toNat st.code 0 (s1.scopeEpoch inst flags) res) true
  if inChain then s2.chainFinal inst (flags.toNat.testBit 1) tag st else s2

/-- A reply of a member that does not run: CHAIN_FAIL and FAIL_TAG (R74, R75). -/
def State.chainFailReply (s : State) (m : OpMeta) (w : Waybill) (st : Status) (failTag : Half) : State :=
  if suppressed m.cls w.flags st then s
  else s.sendReply w.inst w.mtag
    (replyBytes m.opcode 9 0 w.tag.toNat st.code failTag.toNat (s.scopeEpoch w.inst w.flags) []) true

/-- A waybill that cannot start yet goes back to the front of what has arrived (R71, R76). -/
def State.deferWb (s : State) (opcode : Nat) (w : Waybill) : State :=
  { s with wb := { s.wb with arrived := { inst := w.inst, opcode := BitVec.ofNat 16 opcode, wb := w } :: s.wb.arrived } }

/-- PENDING waybills of an instance (R72). -/
def State.pendCount (s : State) (i : Instance) : Nat := (s.wb.pend.filter (fun p => p.inst == i)).length

/-- Check and carry out one waybill that starts now. -/
def carryOut (m : OpMeta) (body : WbBody) (w : Waybill) (inChain : Bool) (interim : Bool) (s : State) : State :=
  let slots := reservation s w.inst m.maxRes m.canPend
  let s0 := s.reserve w.inst slots
  let fin := fun (st : Status) (res : List Byte) (t : State) =>
    t.finalReply w.inst w.mtag m.opcode w.flags w.tag m.cls slots inChain st res
  match checks m s0 w with
  | some st => fin st [] s0
  | none =>
    match body w s0 with
    | .done st res t => fin st res t
    | .pend wait limit obj t =>
      if 64 ≤ s0.pendCount w.inst then fin .busy [] s0
      else
        let sup := suppressed m.cls w.flags .pending || !interim || !m.canPend
        let t1 := if sup then t
          else (t.unreserve w.inst 1).sendReply w.inst w.mtag
            (replyBytes m.opcode 0 0 w.tag.toNat Status.pending.code 0 (t.scopeEpoch w.inst w.flags) []) false
        let p : PendWb :=
          { inst := w.inst, opcode := BitVec.ofNat 16 m.opcode, tag := w.tag, flags := w.flags,
            issuer := word (derivedIssuer w.inst), cls := effCls m s0 w, obj := obj, mtag := w.mtag, chain := inChain,
            slots := if sup then slots else slots - 1, deadline := t1.now + limit, wait := wait }
        { t1 with wb := { t1.wb with pend := t1.wb.pend ++ [p] } }

/-- The AOC carries out a wedged-state operation itself, or answers TIMEOUT (R69; 20 R643, R648): chains are ignored,
no interim reply is written (R93). -/
def aocRun (m : OpMeta) (body : WbBody) (w : Waybill) (s : State) : State :=
  if m.wedged || (m.recovery && s.pwr.recovery) then carryOut m body w false false s
  else s.sendReply w.inst w.mtag
    (replyBytes m.opcode 1 0 w.tag.toNat Status.timeout.code 0 (s.scopeEpoch w.inst w.flags) []) true

/-- The instance ends in the AOC (R69, 20 R648): SMBus, I3C and JTAG. -/
def aocInstance : Instance → Bool
  | .mctp b _ => decide (b < 2)
  | .jtag => true
  | _ => false

/-- The MCTP endpoint a waybill came from is the one the controller last used (R85). -/
def State.noteBmc (s : State) (i : Instance) : State :=
  match i with
  | .mctp b e => { s with wb := { s.wb with bmcLast := some (b, e) } }
  | _ => s

/-- Start one waybill: the AOC's path while the firmware does not serve, chains, the D-class exclusion, waiting behind
the issuer's own PENDING waybill, then the checks and the opcode itself (R69, R74-R76). -/
def runWb (m : OpMeta) (body : WbBody) (w : Waybill) (s0 : State) : State :=
  let s := s0.noteBmc w.inst
  if !s.fwServes then
    if aocInstance w.inst then aocRun m body w s else s.deferWb m.opcode w
  else
    let iss := derivedIssuer w.inst
    let isD := effCls m s w == .d
    let start := fun (t : State) (inChain : Bool) => carryOut m body w inChain true t
    let blocked := (isD && dExcluded s iss) || heldBySame m s w
    match s.chainOf w.inst with
    | none =>
      if blocked then s.deferWb m.opcode w
      else if w.chain then
        start (s.setChain w.inst (some ⟨w.inst, word iss, 1, isD, .member⟩)) true
      else start s false
    | some c =>
      let lateReply := (s.chainFailReply m w .timeout w.tag).setChain w.inst
        (if w.chain then some { c with st := .failed w.tag .timeout } else none)
      match c.st with
      | .member => s.deferWb m.opcode w
      | .late => lateReply
      | .failed t st => (s.chainFailReply m w st t).setChain w.inst (if w.chain then some c else none)
      | .next dl =>
        if dl < s.now then lateReply
        else if 16 ≤ c.len then
          (s.chainFailReply m w .badParam w.tag).setChain w.inst
            (if w.chain then some { c with st := .failed w.tag .badParam } else none)
        else if blocked then s.deferWb m.opcode w
        else start (s.setChain w.inst (some { c with len := c.len + 1, hasD := c.hasD || isD, st := .member })) true

/-! Ending PENDING waybills -/

/-- The final reply of one PENDING waybill (R52, R77). -/
def State.completeOne (s : State) (p : PendWb) (st : Status) (res : List Byte) : State :=
  let s1 := { s with wb := { s.wb with pend := s.wb.pend.filter (fun q => !(q.inst == p.inst && q.tag == p.tag)) } }
  s1.finalReply p.inst p.mtag p.opcode.toNat p.flags p.tag p.cls p.slots p.chain st res

/-- The final replies of the PENDING waybills that a test picks, oldest first. -/
def State.complete (s : State) (f : PendWb → Bool) (st : Status) (res : List Byte) : State :=
  (s.wb.pend.filter f).foldl (fun t p => t.completeOne p st res) s

/-- The final replies of the PENDING waybills that wait for w. -/
def State.completeWait (s : State) (w : Wait) (st : Status) (res : List Byte) : State :=
  s.complete (fun p => p.wait == w) st res

/-- Some PENDING waybill waits for w. -/
def State.waits (s : State) (w : Wait) : Bool := s.wb.pend.any (fun p => p.wait == w)

/-! Parameter helpers -/

/-- Exact parameter length. -/
def len (n : Nat) : Nat → Bool := fun k => k == n

/-- The function number named by FLASK and LINK fields (R682): 0 names PF0 of the issuer's link, of LINK otherwise. -/
def State.namedFn (_s : State) (inst : Instance) (flask link : Nat) : Nat :=
  if flask % 4096 = 0 then
    (match issuerFn inst with
     | some fn => if isPf0 fn then fn else (if link = 1 then 4096 else 0)
     | none => if link = 1 then 4096 else 0)
  else flask

/-- LINK 1 while HOST_BIF is 0, or above 1, from an issuer that is not a PF0 driver (R682). -/
def State.linkBad (s : State) (inst : Instance) (flask link : Nat) : Bool :=
  flask == 0 && (match issuerFn inst with | some fn => !isPf0 fn | none => true) &&
    (decide (1 < link) || (link == 1 && !s.pwr.hostBif))

/-! The end of every command -/

/-- The level of an output that is driven while a condition holds. -/
def driven (on level : Bool) : Option Bool := if on then some level else none

/-- The levels of the output pins: each is high-impedance until what drives it is out of reset (20 R646, R647); of a drive port power,
reset and indicators (15 R505); THERMTRIP_N low after a trip (R633); the PPS pulse (18 R587). -/
def State.pinsOf (s : State) : Pins :=
  let ports := List.range 4
  let drv := s.inService 14
  let x := fun p => SMap.getD s.dp.drives p {}
  let pwr := fun p => s.flag (Reg.DP_PORT_STAT p) 30
  { thermtripN := driven s.pwr.pwrGoodAon (!s.pwr.tripped)
    avs := driven s.pwr.pwrGoodAon true
    flash := driven (s.pwr.recovery || decide (2 ≤ s.pwr.step)) true
    drvPwren := ports.map (fun p => driven drv (pwr p))
    drvPerstN := ports.map (fun p => driven drv (pwr p && (x p).step != 1))
    drvAttnLedN := ports.map (fun p => driven drv (s.fld (Reg.DP_PORT_CTRL p) 29 28 % 3 == 0))
    drvPwrLedN := ports.map (fun p => driven drv ((x p).led == 0))
    ddrResetN := ports.map (fun c => driven (decide (6 ≤ s.pwr.step) && s.unitOn (15 + c)) true)
    ppsOut := driven (s.inService 20) s.np.ppsEnd.isSome }

/-- The levels of the output pins follow the state of their units. -/
def State.settle (s : State) : State := { s with pins := s.pinsOf }

/-- A command ends in a next state with the output pins settled. -/
def finish (s : State) : Host.Outcome State Fault Refusal := .next s.settle

/-- A waybill command. -/
def waybillCmd (m : OpMeta) (body : WbBody) (w : Waybill) (s : State) : Host.Outcome State Fault Refusal :=
  finish (runWb m body w s)

end Sys2Proof.Machine
end

