-- ==== Sys2Proof/Machine/OpsOwn.lean ====
section
/-!
DEFINITION. Ownership: the states of 02 R79, changes of drover, election windows, revocation, notices (R78-R87).
-/

namespace Sys2Proof.Machine

open Sys2Proof

/-- Ownership states (R79): 0 NONE, 1 ELECTING, 2 HELD. -/
def State.ownSt (s : State) : Nat := s.fld Reg.OWN_STATE 1 0

/-- The drover's issuer ID (R88). -/
def State.drover (s : State) : Nat := s.regN Reg.OWN_DROVER

/-- The claim priorities an issuer kind may use (R78); none: not a candidate. -/
def prioRange (issuer : Nat) : Option (Nat × Nat) :=
  match issuerKind issuer with
  | 0 => some (1, 191)
  | 2 => some (1, 254)
  | 3 => some (1, 127)
  | 5 => some (255, 255)
  | _ => none

/-- Convoy SIZE as it acts, and the device's own convoy ID (17 R571). -/
def State.cvSize (s : State) : Nat :=
  let n := s.fld Reg.CV_CTRL 2 0
  if n = 0 ∨ 4 < n then 1 else n
def State.cvId (s : State) : Nat := s.pwr.convoyId

/-- An issuer ID of a candidate that can exist on this device, every other bit zero (R84, R90). -/
def State.validCandidate (s : State) (i : Nat) : Bool :=
  match issuerKind i with
  | 0 => i == 0 || (i == 0x1000 && s.pwr.hostBif)
  | 2 => decide (i % 2 ^ 28 < 0x300)
  | 3 => let p := i % 2 ^ 28; decide (p < s.cvSize) && decide (p < 4) && p != s.cvId
  | 5 => i == 0x50000000
  | _ => false

/-- Milliseconds since the last counted heartbeat, 0xFFFF_FFFF without a drover (R90). -/
def State.msSinceHb (s : State) : Nat :=
  if s.ownSt = 2 then min 0xFFFFFFFE ((s.now - s.own.lastHb) / 1000000) else 0xFFFFFFFF

/-- The OWNER_QUERY result (R90). -/
def State.ownerQuery (s : State) : List Byte :=
  leBytes 4 s.devEpoch ++ leBytes 4 s.drover ++ leBytes 1 s.ownSt ++ leBytes 1 (s.fld Reg.OWN_STATE 15 8) ++ zeros 2
    ++ leBytes 4 s.msSinceHb

/-- The CLAIM result (R90). -/
def State.claimResult (s : State) : List Byte :=
  leBytes 4 s.devEpoch ++ leBytes 4 s.drover ++ leBytes 1 (s.fld Reg.OWN_STATE 15 8) ++ zeros 3

/-- An unsolicited ownership notice (R85). -/
def State.notice (s : State) : List Byte := replyBytes 0x0105 5 16 0xFFFF 0 0 s.devEpoch s.ownerQuery

/-- The convoy peers that are members, other than this device (17 R571 CV_STATE.MEMBERS). -/
def State.peers (s : State) : List Nat :=
  (List.range 4).filter (fun p => (s.fld Reg.CV_STATE 11 8).testBit p && p != s.cvId)

/-- Send a control request to a member (17 R558, R559): numbered one above the last, or held until the member's SEQ_SYNC. -/
def State.cvSend (s : State) (target : Nat) (what : CvWhat) (body : CvBody) : State :=
  if s.cv.synced.contains target then
    let n := (SMap.getD s.cv.lastSeq target 0 + 1) % 2 ^ 32
    let r : CvReq := { target := target, seq := n, what := what, body := body, via := SMap.get? s.cv.routes target }
    { s with cv := { s.cv with lastSeq := SMap.put s.cv.lastSeq target n, reqs := s.cv.reqs ++ [r] } }.emit
      (.convoy target (some n) body)
  else
    let r : CvReq := { target := target, seq := 0, what := what, body := body, via := none }
    { s with cv := { s.cv with reqs := s.cv.reqs ++ [r] } }

/-- The members of this device's partition, this device included (17 R566). -/
def State.cvMembers (s : State) : List Nat := insertNat s.cvId s.peers

/-- The partition holds ownership (17 R566). -/
def State.quorum (s : State) : Bool :=
  let n := s.cvSize
  let m := s.cvMembers.length
  decide (n < 2 * m) || (n == 2 * m && s.cvMembers.contains 0) || n == 1

/-- The arbiter is the lowest member (17 R565). -/
def State.arbiter (s : State) : Nat := s.cvMembers.headD s.cvId

/-- The drover's home device: of a peer's drover the peer, otherwise this device (17 R567). -/
def State.droverHome (s : State) : Nat := if issuerKind s.drover = 3 then s.drover % 4 else s.cvId

/-- The arbiter sends its ownership state to every reachable member, which acknowledges it (17 R565). -/
def State.cvTell (s : State) : State :=
  if s.arbiter ≠ s.cvId ∨ s.peers.isEmpty = true then s
  else
    let body := CvBody.ownState s.ownSt s.droverHome (s.fld Reg.OWN_STATE 15 8) (word s.devEpoch)
    let s1 := s.peers.foldl (fun t p => t.cvSend p .ownState body) s
    { s1 with cv := { s1.cv with acks := s.peers, ackAt := s.now } }

/-- Post the notice to the clusters that a kind-3 route of OWN_EVENT names, with the vector of EF_SAMPLE_VEC
(14 R495; log entry 11). -/
def State.noticeMsgs (s : State) : State :=
  [Reg.EF_ROUTE0 10, Reg.EF_ROUTE1 10].foldl (fun t a =>
    let w := t.regN a
    if w.testBit 31 && bits w 30 28 == 3 then
      t.postMsg (bits w 27 23) { vec := t.fld Reg.EF_SAMPLE_VEC 5 0, flask := 0, bytes := s.notice }
    else t) s

/-- Send the ownership notices of R85: PF0 reply rings in service, the controller's last endpoint, every peer. -/
def State.notify (s : State) : State :=
  let ring := fun (t : State) (fn : Nat) =>
    if (t.replyRoom fn).isSome then t.sendReply (.ring fn) 0 s.notice true else t
  let s1 := ring s 0
  let s2 := if s.pwr.hostBif then ring s1 4096 else s1
  let s3 := match s.wb.bmcLast with
    | none => s2
    | some (b, e) => s2.sendReply (.mctp b e) 0 s.notice true
  (s.peers.foldl (fun t p => t.sendReply (.caravan p) 0 s.notice true) s3).noticeMsgs.cvTell

/-- Write drover, priority, state and the epoch (R56, R88); CV_STATE.HOME follows (17 R571), and the time since which the state
is NONE (17 R568). -/
def State.setOwner (s : State) (st issuer prio epoch : Nat) : State :=
  let s1 := ((s.setRegN Reg.OWN_DROVER issuer).setRegN Reg.OWN_STATE (prio * 256 + st)).setRegN Reg.OWN_EPOCH epoch
  let s2 := s1.setFld Reg.CV_STATE 12 12 (if st = 2 ∧ s1.droverHome = s1.cvId then 1 else 0)
  if st = 0 ∧ s.ownSt ≠ 0 then { s2 with cv := { s2.cv with noneSince := s.now } } else s2

/-- A counted heartbeat (R83). -/
def State.heartbeat (s : State) : State := { s with own := { s.own with lastHb := s.now } }

/-- An issuer becomes drover: the epoch increments once, the state is HELD, its heartbeat clock starts, the notices go
out (R80-R85). -/
def State.takeOwner (s : State) (issuer prio : Nat) : State :=
  ((s.setOwner 2 issuer prio (nextEpoch s.devEpoch)).heartbeat).notify

/-- The state becomes NONE with no drover; the epoch moves when asked (R82, R83). -/
def State.dropOwner (s : State) (bumpEpoch : Bool) : State :=
  s.setOwner 0 0xFFFFFFFF 0 (if bumpEpoch then nextEpoch s.devEpoch else s.devEpoch)

/-- Open an election window of 10 ms (R80, R83). -/
def State.openWindow (s : State) : State :=
  { s.setOwner 1 0xFFFFFFFF 0 s.devEpoch with own := { s.own with window := some (s.now + 10000000), claims := [] } }

/-- The highest priority wins; a tie goes to the lower issuer ID (R80). -/
def bestClaim : List Claim → Option Claim
  | [] => none
  | c :: r => match bestClaim r with
    | none => some c
    | some d => if d.prio < c.prio || (d.prio == c.prio && decide (c.issuer.toNat < d.issuer.toNat)) then some c else some d

/-- Every CLAIM pending in the window gets its final reply: OK for the winner, BUSY for the others (R80, R84). -/
def State.answerClaims (s : State) (winner : Option Nat) : State :=
  let ps := s.wb.pend.filter (fun p => p.wait == .claim)
  ps.foldl (fun t p =>
    t.completeOne p (if winner == some p.issuer.toNat then .ok else .busy) s.claimResult) s

/-- The election window closes (R80, R83, R88). -/
def State.closeWindow (s : State) : State :=
  let c := bestClaim s.own.claims
  let s1 := { s with own := { s.own with window := none, claims := [] } }
  match c with
  | some w => ((s1.takeOwner w.issuer.toNat w.prio).raise Ev.own 0).answerClaims (some w.issuer.toNat)
  | none => (s1.dropOwner false).raise Ev.own 0

/-- The AOC revokes the drover: the epoch increments, a window opens, notices go out, REVOKED is raised with severity 3
(R83, R84; 19 R608). -/
def State.revoke (s : State) : State :=
  let s1 := (s.setOwner 1 0xFFFFFFFF 0 (nextEpoch s.devEpoch)).openWindow
  (s1.notify).raiseX Ev.own 2 3 0x60000000 []

/-- OWN_OVERRIDE takes effect (R84): the candidate is drover at priority 255 and any window closes with BUSY. -/
def State.override (s : State) (issuer : Nat) : State :=
  if s.validCandidate issuer then
    let s1 := { s with own := { s.own with window := none, claims := [] } }
    (((s1.takeOwner issuer 255).raise Ev.own 3)).answerClaims none
  else s.logKind 0x10 1 1 1 0 (leBytes 4 Reg.OWN_OVERRIDE ++ leBytes 4 issuer)

end Sys2Proof.Machine
end

