-- ==== Sys2Proof/Machine/OpsReg.lean ====
section
/-!
DEFINITION. Register accesses: access errors, guarded writes, status clears, configuration writes (03 R98-R121).
-/

namespace Sys2Proof.Machine

open Sys2Proof

/-- The issuer ID of a register access (03 R101, R108; 02 R49). -/
def srcIssuer : Src → Nat
  | .pf0 l => l * 0x1000
  | .flask f => 0x10000000 + f
  | .debugger => 0x50000000
  | .aoc => 0x60000000

/-- Host link of an access, as ACC_ERR_SRC.LINK gives it. -/
def State.srcLink (s : State) : Src → Nat
  | .pf0 l => l
  | .flask f => s.linkOf f
  | _ => 0

/-- The register address an access reaches: a flask reaches its own window only (R100). -/
def srcAddr (src : Src) (off : Nat) : Nat :=
  match src with
  | .flask f => flaskWin f + off
  | _ => off

/-- Record an access in ACC_ERR_ADDR, ACC_ERR_SRC and ACC_ERR_STATUS and in the event log (R99, R101, R103). -/
def State.accErr (s : State) (src : Src) (write : Bool) (off len bit : Nat) : State :=
  let s1 := s.setRegN Reg.ACC_ERR_ADDR (off % 2 ^ 26)
  let s2 := s1.setRegN Reg.ACC_ERR_SRC
    (bitVal write 31 + s.srcLink src % 2 * 2 ^ 12 + (if 16 ≤ len then 0 else len))
  let u := (unitOfAddr off).getD 0
  (s2.raiseX Ev.accErr bit 1 (srcIssuer src) []).logAccess u (srcIssuer src) off len

/-- The unit a register address belongs to; flask-window registers belong to the host endpoint (unit 2), the mailbox
(unit 13) or the tallies (unit 53) by their offset (R96). -/
def unitOfReg (a : Nat) : Nat :=
  if a < 0x04000000 then (unitOfAddr a).getD 0
  else
    let o := (a - 0x04000000) % 0x10000
    if o < 0x2000 then 3 else if o < 0x4000 then 2 else if o < 0x5000 then 13 else 53

/-! Configuration writes (R101, R117, R119) -/

/-- A configuration write to unit u took effect: WRITTEN sets, and a sweep under way sees it (R105, R118, R119). -/
def State.cfgWritten (s : State) (u : Nat) : State :=
  let x := SMap.getD s.sealSt.units u {}
  { s.setFld (unitHdr u + 0x10) 29 29 1 with
    sealSt := { s.sealSt with units := SMap.put s.sealSt.units u { x with dirty := true } } }

/-- Set a configuration register of unit u. -/
def State.setCfg (s : State) (u a v : Nat) : State := (s.setRegN a v).cfgWritten u

/-! Guarded writes (R106-R109) -/

/-- The guarded registers (R109). -/
def guardedRegs : List Nat :=
  [Reg.RST_CTRL, Reg.PD_OFF_LO, Reg.PD_OFF_HI, Reg.FUSE_PROG, Reg.OWN_OVERRIDE, Reg.KS_ZEROIZE, Reg.MB_LOCK_FREE,
   Reg.RSV_FORCE]

/-- Island of unit u's home, for the guard window (01 R22). -/
def unitIsland (u : Nat) : Nat :=
  if u ≤ 1 then 33 else if u ≤ 3 then 34 else if u = 4 then 50 else if u ≤ 6 then 44 else if u = 7 then 49
  else if u = 8 then 46 else if u = 9 then 42 else if u = 10 then 43 else if u = 11 then 42 else if u ≤ 13 then 48
  else if u = 14 then 35 else if u ≤ 18 then u + 23 else if u = 19 then 37 else if u = 20 then 36
  else if u ≤ 52 then u - 21 else if u = 53 then 32 else 51

/-- 64 cycles of unit u's island clock in ns, rounded down (R106). -/
def State.guardWindow (s : State) (u : Nat) : Nat := 64000 / max 1 (s.fld (Reg.CLK_ISLAND (unitIsland u)) 15 0)

/-- A guarded write is discarded: GUARD_ERROR in UNIT_STATUS and the log (R107). -/
def State.guardError (s : State) (u addr value : Nat) (src : Src) : State :=
  (s.raiseX (Ev.unitStatus u) 2 1 (srcIssuer src) []).logKind (unitRange u) 1 u 1 (srcIssuer src)
    (leBytes 4 addr ++ leBytes 4 value)

/-- Disarm unit u's guard. -/
def State.disarm (s : State) (u : Nat) : State := { s with guards := SMap.del s.guards u }

/-- A value write to guarded register X arms the guard; an armed value is discarded first (R107). A unit whose domain
is off discards and logs it (R128). -/
def State.armGuard (s : State) (src : Src) (addr : Nat) (v : Word) : State :=
  match unitOfAddr addr with
  | none => s
  | some u =>
    if !guardedRegs.contains addr then s
    else if !s.unitOn u then s.logAccess u (srcIssuer src) addr 4
    else
      let s1 := match SMap.get? s.guards u with
        | some g => s.guardError u g.addr g.value.toNat g.src
        | none => s
      { s1 with guards := SMap.put s1.guards u ⟨addr, v, src, s1.now + s1.guardWindow u⟩ }

/-- A write of a word to X + 4: the value when it completes the armed guard of X by the same issuer in time, and the
state; otherwise the armed value, if any, is discarded with GUARD_ERROR (R106, R107). -/
def State.complementWrite (s : State) (src : Src) (addr : Nat) (compl : Word) : Option Word × State :=
  match unitOfAddr addr with
  | none => (none, s)
  | some u =>
    if !s.unitOn u then (none, s.logAccess u (srcIssuer src) (addr + 4) 4)
    else match SMap.get? s.guards u with
      | none => (none, s.guardError u (addr + 4) compl.toNat src)
      | some g =>
        let s1 := s.disarm u
        if g.addr = addr ∧ g.src = src ∧ g.value = ~~~compl ∧ s.now ≤ g.until_ then
          (some g.value, s1.logKind (unitRange u) 1 u 0 (srcIssuer src) (leBytes 4 addr ++ leBytes 4 g.value.toNat))
        else (none, s1.guardError u g.addr g.value.toNat src)

/-- Carry out the effect of a completed guarded write of register X. -/
def State.guarded (s : State) (src : Src) (addr : Nat) (compl : Word) (f : Nat → State → State) : State :=
  match s.complementWrite src addr compl with
  | (some v, t) => f v.toNat t
  | (none, t) => t

/-! Status clears (R111, R113) -/

/-- RS bits of a status register, SEQ apart; none: not a status register. -/
def statusBits (a : Nat) : Option Nat :=
  match hdrOf a with
  | some (_, 4) => some 0xE
  | some _ => none
  | none => match findReg a with
    | none => none
    | some d => if d.rs / 2 ^ 24 = 255 then some (d.rs % 2 ^ 24) else none

/-- Write-back to a status register (R111, R113, R128). -/
def State.statusClear (s : State) (a v : Nat) : State :=
  match statusBits a with
  | none => s
  | some rs => if s.seqMode (unitOfReg a) then s.setRegN a (clearedStatus rs (s.regN a) v) else s

/-! Lasting causes (R113, R114) -/

/-- A lasting cause of a status bit appears: a new event, the bit set in either mode (R113). -/
def State.causeOn (s : State) (e : EvSrc) (bit : Nat) : State :=
  if s.causes.contains (e.addr, bit) then s
  else
    let s1 := { s with causes := (e.addr, bit) :: s.causes }
    (s1.setRegN e.addr (nextSeq (s1.regN e.addr) ||| 2 ^ bit)).publish e 0 0 []

/-- A lasting cause goes away: in LEVEL mode the bit clears (R113). -/
def State.causeOff (s : State) (e : EvSrc) (bit : Nat) : State :=
  let s1 := { s with causes := s.causes.filter (fun c => c != (e.addr, bit)) }
  if s.seqMode e.unit then s1
  else s1.setRegN e.addr (setBits (s1.regN e.addr) bit bit 0)

/-- The status registers of unit u: their addresses (R495). -/
def unitStatusRegs (u : Nat) : List Nat :=
  let own := if u = 0 then [Reg.ACC_ERR_STATUS, Reg.WB_STATUS 0, Reg.WB_STATUS 1]
    else if u = 1 then [Reg.AO_EVENT, Reg.OWN_EVENT] else if u = 2 then [Reg.HE_EVENT]
    else if u = 3 then [Reg.QM_EVENT] else if u = 4 then [Reg.LG_EVENT] else if u = 5 then [Reg.PS_EVENT]
    else if u = 6 then [Reg.CL_EVENT] else if u = 7 then [Reg.LK_EVENT] else if u = 8 then [Reg.TM_EVENT]
    else if u ≤ 10 then [Reg.CX_EVENT (u - 9)] else if u = 11 then [Reg.KS_EVENT, Reg.RNG_EVENT]
    else if u = 12 then [Reg.MV_EVENT] else if u = 13 then [Reg.MB_EVENT] else if u = 14 then [Reg.DP_EVENT]
    else if u ≤ 18 then [Reg.DC_EVENT (u - 15)] else if u = 19 then [Reg.CV_EVENT] else if u = 20 then [Reg.NP_EVENT]
    else if u ≤ 52 then [Reg.EC_EVENT (u - 21)] else if u = 53 then [Reg.TL_EVENT] else []
  (unitHdr u + 4) :: own

/-- The value of a status register when its unit changes mode: only bits whose cause is present stay; on entry to
SERVICE SEQ increments once if any stays (R114). RL bits are kept. -/
def State.modeStatus (s : State) (toSeq : Bool) (a : Nat) : State :=
  let v := s.regN a
  let rs := (statusBits a).getD 0
  let keep := (s.causes.filter (fun c => c.1 == a)).foldl (fun m c => m ||| 2 ^ c.2) 0
  let w := (v - (v &&& rs)) ||| (keep &&& rs)
  s.setRegN a (if toSeq && keep != 0 then nextSeq w else w)

/-- Unit u enters a UNIT_STATE; STATUS_MODE is SEQUENCE in SERVICE and LEVEL otherwise (R105, R114). -/
def State.setUnitState (s : State) (u st : Nat) : State :=
  let toSeq := st == 2
  let wasSeq := s.seqMode u
  let s1 := (s.setFld (unitHdr u) 3 2 st).setFld (unitHdr u) 0 0 (if toSeq then 1 else 0)
  if toSeq == wasSeq then s1 else (unitStatusRegs u).foldl (fun t a => t.modeStatus toSeq a) s1

end Sys2Proof.Machine
end

