-- ==== Sys2Proof/Machine/OpsQueue.lean ====
section
/-!
DEFINITION. Work queues, completion queues and ledger records: the shared operations (05, 06).
-/

namespace Sys2Proof.Machine

open Sys2Proof

/-! Completion statuses (00 R18) -/

def cOk : Nat := 0
def cAborted : Nat := 1
def cAuthUntrusted : Nat := 2
def cAuthFail : Nat := 3
def cContained : Nat := 4
def cBadDescriptor : Nat := 5
def cOverlap : Nat := 6
def cEntropyFail : Nat := 7
def cLinkLost : Nat := 8

/-! Queues by number (R168) -/

/-- Work queue g. -/
def State.wq? (s : State) (g : Nat) : Option WorkQ := SMap.get? s.qm.wqs g

/-- Store work queue g. -/
def State.setWq (s : State) (g : Nat) (q : WorkQ) : State := { s with qm := { s.qm with wqs := SMap.put s.qm.wqs g q } }

/-- Completion queue g. -/
def State.cq? (s : State) (g : Nat) : Option CompQ := SMap.get? s.qm.cqs g

/-- Store completion queue g. -/
def State.setCq (s : State) (g : Nat) (q : CompQ) : State := { s with qm := { s.qm with cqs := SMap.put s.qm.cqs g q } }

/-- The global number of a function's work queue: PF0's own numbers are global (R168). -/
def State.wqOf (s : State) (fn n : Nat) : Option Nat :=
  (s.qm.wqs.find? (fun x => x.2.localNo == n && (x.2.fn == fn || (isPf0 x.2.fn && isPf0 fn)))).map (·.1)

/-- The global number of a function's completion queue. -/
def State.cqOf (s : State) (fn n : Nat) : Option Nat :=
  (s.qm.cqs.find? (fun x => x.2.localNo == n && (x.2.fn == fn || (isPf0 x.2.fn && isPf0 fn)))).map (·.1)

/-- The FLASK number of a function: 0 for PF0. -/
def flaskNo (fn : Nat) : Nat := if isPf0 fn then 0 else fn

/-- 2^SIZE_LOG2. -/
def WorkQ.size (q : WorkQ) : Nat := 2 ^ q.sizeLog2
def CompQ.size (q : CompQ) : Nat := 2 ^ q.sizeLog2

/-- Difference of two free-running 16-bit indices (R169). -/
def idxSub (a b : Nat) : Nat := (a + 65536 - b % 65536) % 65536

/-- Entries of PRODUCER not fetched or asked for (R170). -/
def WorkQ.unfetched (q : WorkQ) : Nat := idxSub q.prod q.fetched

/-- Entries of a queue fetched, or being fetched, without a completion entry (R185). -/
def WorkQ.open (q : WorkQ) : Nat := idxSub q.fetched q.completed

/-- Credits of completion queue c (R185). -/
def State.credits (s : State) (c : Nat) : Nat :=
  match s.cq? c with
  | none => 0
  | some k => k.size - idxSub k.widx k.cidx
      - (s.qm.wqs.foldl (fun n x => if x.2.cq = c then n + x.2.open else n) 0)

/-! Ledger records (06 R208-R214) -/

/-- Pool items lost with the retired rows of an SRAM array (19 R619); how many a row holds the spec says for the event log only. -/
def State.sramLost (s : State) (code : Nat) : Nat :=
  match SMap.getD s.tally.sramRetired code 0 with
  | 0 => 0
  | n + 1 => (n + 1) * Config.sramItems code

/-- Records in the pool (R210), those of retired rows apart. -/
def State.poolSize (s : State) : Nat := 114688 - s.sramLost 1 - s.sramLost 2

/-- Half A or B has no commit logic (R232). -/
def State.halfLost (s : State) (b : Bool) : Bool := s.flag Reg.LG_STATE (if b then 9 else 8)

/-- Commits are stopped (R232, R233). -/
def State.commitsStopped (s : State) : Bool := s.flag Reg.LG_STATE 3

/-- The lowest n free record numbers. -/
def freeRecords (used : List Nat) (n : Nat) : List Nat :=
  ((List.range (used.length + n)).filter (fun i => !used.contains i)).take n

/-- Take n records from the pool; POOL_LOW when the free count falls below LG_LOW_WATER (R208, R239). -/
def State.takeRecords (s : State) (n : Nat) : List Nat × State :=
  let l := freeRecords s.lg.used n
  let before := s.poolSize - s.lg.used.length
  let s1 := { s with lg := { s.lg with used := s.lg.used ++ l } }
  let after := before - n
  let s2 := s1.setRegN Reg.LG_FREE after
  let low := s.fld Reg.LG_LOW_WATER 16 0
  (l, if low ≤ before && decide (after < low) then s2.raise Ev.lg 6 else s2)

/-- Return a record to the pool (R209, R210). -/
def State.freeRecord (s : State) (r : Nat) : State :=
  let u := s.lg.used.filter (· != r)
  { s with lg := { s.lg with used := u } }.setRegN Reg.LG_FREE (s.poolSize - u.length)

/-- A class's holding changes (R213). -/
def State.classHeld (s : State) (c : Nat) (up : Bool) : State :=
  let a := Reg.LG_CLASS_HELD c
  s.setRegN a (if up then s.regN a + 1 else s.regN a - 1)

/-- The limit of class c (R239). -/
def State.classLimit (s : State) (c : Nat) : Nat :=
  let l := s.fld (Reg.LG_CLASS_LIMIT c) 16 0
  if l = 0 ∨ 0x1C000 < l then 0x1C000 else l

/-- LEDGER_CLASS c is allowed for a kind (R213). -/
def State.classAllowed (s : State) (kind c : Nat) : Bool := s.flag Reg.LG_KIND_CLASSES (kind * 8 + c)

/-- The ledger sequence after n (R212). -/
def nextLedgerSeq (n : Nat) : Nat := if n = 0xFFFFFFFF then 1 else n + 1

/-! Entries -/

/-- The entry with an index. -/
def WorkQ.entry? (q : WorkQ) (i : Nat) : Option Entry := q.entries.find? (fun e => e.idx == i)

/-- Change the entry with an index. -/
def WorkQ.mapEntry (q : WorkQ) (i : Nat) (f : Entry → Entry) : WorkQ :=
  { q with entries := q.entries.map (fun e => if e.idx = i then f e else e) }

/-- Change an entry of queue g. -/
def State.modEntry (s : State) (g i : Nat) (f : Entry → Entry) : State :=
  match s.wq? g with
  | none => s
  | some q => s.setWq g (q.mapEntry i f)

/-- The entry needs nothing more: a request has won or waits. -/
def Entry.ended (e : Entry) : Bool := e.won.isSome || !e.reqs.isEmpty

/-- Fields of a work queue entry (R171). -/
def Entry.op (e : Entry) : Nat := u8 e.raw 0
def Entry.flags (e : Entry) : Nat := u8 e.raw 1
def Entry.indirect (e : Entry) : Bool := e.flags.testBit 0
def Entry.tsReq (e : Entry) : Bool := e.flags.testBit 1
def Entry.fence (e : Entry) : Bool := e.flags.testBit 2
def Entry.event (e : Entry) : Bool := e.flags.testBit 4
def Entry.ledgerClass (e : Entry) : Nat := u8 e.raw 2 % 8
def Entry.owner (e : Entry) : Nat := u16 e.raw 4 % 4096

/-- Every earlier entry of the queue has committed its completion (R189). -/
def WorkQ.allBefore (q : WorkQ) (i : Nat) (p : Entry → Bool) : Bool :=
  (q.entries.takeWhile (fun e => e.idx != i)).all p

/-- The entry's work may start: its opcode is op, it has not started or ended, and a FENCE is satisfied (R189). -/
def WorkQ.canStart (q : WorkQ) (i op : Nat) : Option Entry :=
  match q.entry? i with
  | none => none
  | some e => if e.op == op && !e.started && !e.ended && (!e.fence || q.allBefore i (fun x => x.won.isSome)) then some e
      else none
def Entry.cookie (e : Entry) : Nat := u16 e.raw 6

/-- Ask the ledger to complete or abort an entry (06 R215, R216): the request joins the record's serial order, or loses at
once to a committed one. -/
def State.request (s : State) (g i : Nat) (r : Req) : State :=
  match s.wq? g with
  | none => s.bump Reg.LG_RACE_LOST
  | some q => match q.entry? i with
    | none => s.bump Reg.LG_RACE_LOST
    | some e => if e.won.isSome then s.bump Reg.LG_RACE_LOST
        else s.setWq g (q.mapEntry i (fun e => { e with reqs := e.reqs ++ [r] }))

/-- Change the tally counters of flask f, or of PF0 under number 0 (19 R603); a charge to a flask number that is
UNPROVISIONED is discarded and logged (19 R604). -/
def State.flaskCnt (s : State) (f : Nat) (u : FlaskCnt → FlaskCnt) : State :=
  let n := flaskNo f
  if n != 0 && (s.fn n).st == .unprovisioned then s.logKind 0x0F 2 53 0 (0x10000000 + n) []
  else { s with tally := { s.tally with flasks := SMap.put s.tally.flasks n (u (SMap.getD s.tally.flasks n {})) } }

/-- Commit the first request of an accepted entry (06 R215, R216): every other one loses. A SEND and a block entry add to their
function's tallies (19 R603, 15 R515). -/
def State.commitEntry (s : State) (g i : Nat) : State :=
  match s.wq? g with
  | none => s
  | some q => match q.entry? i with
    | none => s
    | some e => match e.reqs with
      | [] => s
      | r :: rest =>
        if !e.acc || e.won.isSome || s.commitsStopped then s
        else
          let q1 := q.mapEntry i (fun e => { e with won := some r, reqs := [] })
          let q2 := if r.status = cAborted ∧ q.st = 3 then { q1 with aborted := q1.aborted + 1 } else q1
          let s1 := ((s.setWq g q2).bump64 Reg.LG_COMPLETIONS 1).bumpN Reg.LG_RACE_LOST rest.length
          if e.op = 1 ∧ r.status = cOk then
            s1.flaskCnt q.fn (fun c => { c with txFrames := c.txFrames + 1, txBytes := c.txBytes + r.bytes })
          else if q.kind = 2 ∧ r.status ≠ cAborted ∧ e.op ≠ 0 then
            s1.flaskCnt q.fn (fun c => { c with driveBytes := c.driveBytes + r.bytes, driveIos := c.driveIos + 1 })
          else s1

/-! Writing to host memory (R178-R181, R188) -/

/-- The mirror word of a queue leaves (R188). -/
def State.writeMirror (s : State) (g : Nat) : State :=
  match s.wq? g with
  | none => s
  | some q => s.emit (.hostWrite q.fn q.mirror (leBytes 2 q.accepted ++ leBytes 2 q.completed ++ zeros 4) false)

/-- A completion entry at write index w of a completion queue of 2^k entries (R178, R180); an entry lost in both mirrors
carries LEDGER_SEQ 0 (06 R231). -/
def cqeBytes (q : WorkQ) (size w : Nat) (e : Entry) (r : Req) : List Byte :=
  leBytes 2 e.cookie ++ leBytes 1 r.status ++ leBytes 1 (r.flags % 64 + (if w / size % 2 = 0 then 128 else 0))
    ++ leBytes 4 r.bytes ++ leBytes 4 (if e.lost then 0 else e.seq) ++ leBytes 2 q.localNo ++ leBytes 2 e.idx
    ++ leBytes 8 r.ts ++ leBytes 4 r.aux ++ leBytes 2 r.rxInfo ++ leBytes 2 r.vlan

/-- The committed entries at the head of a queue, in entry order (R181). -/
def headDone : List Entry → List (Entry × Req)
  | [] => []
  | e :: r => match e.won with
    | some x => (e, x) :: headDone r
    | none => []

/-- Write completion entries from write index w, up to four in one write and none across a 128-byte boundary (R180). -/
def State.emitCqes (s : State) (fn base size : Nat) : Nat → Nat → List (List Byte) → State
  | 0, _, _ => s
  | _, _, [] => s
  | n + 1, w, l =>
    let slot := w % size
    let k := min (4 - slot % 4) (size - slot)
    (s.emit (.hostWrite fn (base + slot * 32) ((l.take k).flatten) false)).emitCqes fn base size n (w + k) (l.drop k)

/-- Send the message of completion queue c (R195, R196): a vector beyond the flask's count is discarded with VEC_RANGE. -/
def State.cqMessage (s : State) (c : Nat) (k : CompQ) : State :=
  let s1 := s.setCq c { k with armed := k.autoArm, since := 0 }
  if !isPf0 k.fn && decide (u8 (s.fn k.fn).quota 4 ≤ k.vector) then s1.raise Ev.qm 4
  else s1.signal k.fn k.vector

/-- Count n entries written to completion queue c and send its message when moderation calls for it (R195). -/
def State.cqWritten (s : State) (c n : Nat) (event quiet : Bool) : State :=
  match s.cq? c with
  | none => s
  | some k =>
    let k1 := { k with widx := (k.widx + n) % 65536, since := k.since + n,
                       oldest := if k.since = 0 then s.now else k.oldest }
    let s1 := s.setCq c k1
    if n = 0 || quiet then s1
    else if k1.armed && (event || decide (k1.modCount ≤ k1.since) || k1.modTimeUs == 0) then s1.cqMessage c k1
    else s1

/-- Write the committed completions at the head of queue g: the mirror, then the completion entries, then the records
return to the pool (R181, R188, 06 R219). With discard nothing is written to the host (04 R161); with quiet no message is
sent (04 R158). -/
def State.writeDone (s : State) (g : Nat) (discard quiet : Bool) : State :=
  match s.wq? g with
  | none => s
  | some q =>
    let done := headDone q.entries
    let n := done.length
    if n = 0 then s
    else
      let q1 := { q with entries := q.entries.drop n, completed := (q.completed + n) % 65536 }
      let s1 := s.setWq g q1
      let s2 := if discard then s1
        else match s1.cq? q.cq with
          | none => s1
          | some k =>
            let cqes := (List.range n).zip done |>.map (fun x => cqeBytes q k.size (k.widx + x.1) x.2.1 x.2.2)
            ((s1.writeMirror g).emitCqes k.fn k.base k.size n k.widx cqes).cqWritten q.cq n
              (done.any (fun x => x.1.event)) quiet
      done.foldl (fun t x => (t.freeRecord x.1.slot).classHeld x.1.cls false) s2

/-- The function's completions may be written now (04 R144, R151, R158). -/
def State.fnServes (s : State) (fn : Nat) : Bool := (s.fn fn).canIssue

/-! Frames for RX queues (R190-R194) -/

/-- RX_NO_BUFFER or RX_OVERSIZE of a queue counts one, in the queue, the totals and the flask's tallies (R194). -/
def State.rxCount (s : State) (g : Nat) (oversize : Bool) : State :=
  match s.wq? g with
  | none => s
  | some q =>
    let s1 := s.setWq g (if oversize then { q with oversize := q.oversize + 1 } else { q with noBuffer := q.noBuffer + 1 })
    let s2 := s1.bump64 (if oversize then Reg.QM_RX_OVERSIZE else Reg.QM_RX_NO_BUFFER) 1
    let s3 := s2.flaskCnt q.fn (fun c => { c with rxDrops := c.rxDrops + 1 })
    s3.raise Ev.qm (if oversize then 2 else 1)

/-- HOLD_MAX_FRAMES (R202). -/
def State.holdMax (s : State) : Nat := max 1 (s.fld Reg.QM_CTRL 23 16)

/-- RX_PREFETCH (R202). -/
def State.rxPrefetch (s : State) : Nat :=
  let n := s.fld Reg.QM_CTRL 15 8
  if n = 0 ∨ 64 < n then 64 else n

/-- HOLD_US as WQ_CREATE and WQ_MODIFY give it: 0xFFFF is 50 (R204). -/
def holdOf (n : Nat) : Nat := if n = 0xFFFF then 50 else n

/-- The hold time of a queue in ns (R193). -/
def WorkQ.holdNs (q : WorkQ) : Nat := q.holdUs * 1000

/-! Free queue counts (R147, R202) -/

/-- Work and completion queues neither reserved by a flask nor in use by PF0, into QM_WQ_FREE and QM_CQ_FREE. -/
def State.queueCounts (s : State) : State :=
  let wr := s.host.fns.foldl (fun n x => if isPf0 x.1 || x.2.st == .unprovisioned then n else n + u16 x.2.quota 0) 0
  let cr := s.host.fns.foldl (fun n x => if isPf0 x.1 || x.2.st == .unprovisioned then n else n + u16 x.2.quota 2) 0
  let wp := s.qm.wqs.foldl (fun n x => if isPf0 x.2.fn then n + 1 else n) 0
  let cp := s.qm.cqs.foldl (fun n x => if isPf0 x.2.fn then n + 1 else n) 0
  (s.setRegN Reg.QM_WQ_FREE (65536 - wr - wp)).setRegN Reg.QM_CQ_FREE (65536 - cr - cp)

end Sys2Proof.Machine
end

