-- ==== Sys2Proof/Machine/OpsTm.lean ====
section
/-!
DEFINITION. Frames in flight, packet-buffer cells, spill, panic and flow control of receive priorities (01, 10, 18).
-/

namespace Sys2Proof.Machine

open Sys2Proof

/-! Frames by handle -/

/-- A frame in flight. -/
def State.frame? (s : State) (h : Nat) : Option Frame := SMap.get? s.fr.frames h

/-- Store a frame. -/
def State.setFrame (s : State) (h : Nat) (f : Frame) : State :=
  { s with fr := { s.fr with frames := SMap.put s.fr.frames h f } }

/-- Forget a frame. -/
def State.delFrame (s : State) (h : Nat) : State := { s with fr := { s.fr with frames := SMap.del s.fr.frames h } }

/-- A new frame: its handle and the state. -/
def State.newFrame (s : State) (f : Frame) : Nat × State :=
  (s.fr.next, { s with fr := { s.fr with frames := SMap.put s.fr.frames s.fr.next f, next := s.fr.next + 1 } })

/-- Cells of n bytes (10 R355). -/
def cellsOf (n : Nat) : Nat := ceilDiv n 256

/-! Flow control towards the partner (18 R582) -/

/-- Base of network port p's registers (18 R590). -/
def npBase (p : Nat) : Nat := 0x00F00100 + p * 0x80

/-- Port p is up (18 R578). -/
def State.portUp (s : State) (p : Nat) : Bool := s.flag (npBase p + 4) 31

/-- Port p's mode code (18 R575). -/
def State.portMode (s : State) (p : Nat) : Nat := s.fld Reg.NP_LANE_CFG (4 * p + 3) (4 * p)

/-- FLOW of a port; 3 acts as 0 (18 R590). -/
def State.portFlow (s : State) (p : Nat) : Nat :=
  let f := s.fld (npBase p) 25 24
  if f = 3 then 0 else f

/-- Cells held for receive priority pr of port p, or for every priority (18 R582). -/
def State.prioCells (s : State) (p : Nat) (pr : Option Nat) : Nat :=
  s.fr.frames.foldl (fun n x =>
    match x.2.ingress with
    | some (q, _) => if q = p && !x.2.copy && (match pr with | some c => x.2.rxPrio == c | none => true)
        then n + cellsOf x.2.bytes.length else n
    | none => n) 0

/-- The rate of a mode in Gb/s (18 R575). -/
def modeGb (m : Nat) : Nat := [0, 800, 400, 200, 100, 400, 200, 100, 50, 100, 25].getD m 0

/-- A pause of q quanta of 512 bit times at a port's rate, in ns (18 R581). -/
def State.quantaNs (s : State) (p q : Nat) : Nat := ceilDiv (q * 512) (max 1 (modeGb (s.portMode p)))

/-- A flow-control frame leaves (18 R582). -/
def State.sendPause (s : State) (p : Nat) (pfc : Bool) (mask quanta : Nat) : State :=
  (s.emit (.netPause p pfc mask quanta)).bump (npBase p + 0x40)

/-- One priority's crossing of XOFF or XON: the flow-control frame leaves, XOFF_SENT follows, and the frame is due again after 0x8000
quanta (18 R582). -/
def State.flowPrio (s : State) (p pr : Nat) (pfc : Bool) : State :=
  let n := s.prioCells p (if pfc then some pr else none)
  let sent := s.flag (npBase p + 4) pr
  let cfg := s.regN (npBase p + 8)
  let mask := if pfc then 2 ^ pr else 0xFF
  if !sent && decide (bits cfg 23 12 ≤ n) then
    let s1 := (s.setFld (npBase p + 4) pr pr 1).sendPause p pfc mask 0xFFFF
    { s1 with np := { s1.np with refresh := SMap.put s1.np.refresh (p * 8 + pr) (s.now + s.quantaNs p 0x8000) } }
  else if sent && decide (n ≤ bits cfg 11 0) then
    let s1 := (s.setFld (npBase p + 4) pr pr 0).sendPause p pfc mask 0
    { s1 with np := { s1.np with refresh := SMap.del s1.np.refresh (p * 8 + pr) } }
  else s

/-- Flow control of port p after its cell counts changed: PFC for each lossless priority, or PAUSE on the total, which
XOFF_SENT shows in bit 0 (18 R582). -/
def State.flowCheck (s : State) (p : Nat) : State :=
  if !s.portUp p then s
  else match s.portFlow p with
    | 2 => (List.range 8).foldl (fun t pr => if (s.fld (npBase p + 8) 31 24).testBit pr then t.flowPrio p pr true else t) s
    | 1 => s.flowPrio p 0 false
    | _ => s

/-! Cells, spill and panic (10 R355-R359) -/

/-- Cells of the packet buffer (R355), those of retired rows apart. -/
def State.bufferCells (s : State) : Nat := 196608 - s.sramLost 0

/-- A traffic-manager queue. -/
def State.tmq? (s : State) (q : Nat) : Option TmQ := SMap.get? s.tm.queues q

/-- Store a traffic-manager queue. -/
def State.setTmq (s : State) (q : Nat) (x : TmQ) : State := { s with tm := { s.tm with queues := SMap.put s.tm.queues q x } }

/-- Record fields of a queue (R362). -/
def TmQ.owner (q : TmQ) : Nat := u16 q.rcd 0 % 4096
def TmQ.node (q : TmQ) : Nat := u16 q.rcd 2
def TmQ.weight (q : TmQ) : Nat := u16 q.rcd 4
def TmQ.flags (q : TmQ) : Nat := u8 q.rcd 6
def TmQ.minCells (q : TmQ) : Nat := u16 q.rcd 12 * 8
def TmQ.maxCells (q : TmQ) : Nat := u16 q.rcd 14 * 8

/-- DRAM is in service (16 R542). -/
def State.dramUp (s : State) : Bool := (List.range 4).any (fun c => s.inService (15 + c)) && !s.dr.down

/-- The port of a queue: its node's PORT (R363). -/
def State.tmqPort (s : State) (q : Nat) : Nat :=
  match s.tmq? q with
  | none => 0
  | some x => match SMap.get? s.tm.nodes x.node with
    | none => 0
    | some n => u8 n.rcd 2 % 16

/-- The deepest SPILL_OK queue with a frame that may be spilled, and that frame: the last one on die that is whole and no
mirror copy (R357); of equally deep queues the lowest number (log entry 12). -/
def State.spillPick (s : State) : Option (Nat × Nat) :=
  let cand := s.tm.queues.filterMap (fun x =>
    if !x.2.flags.testBit 1 then none
    else match x.2.frames.reverse.find? (fun h => match s.frame? h with
        | some f => !f.spilled && !f.tail && !f.copy
        | none => false) with
      | some h => some (x.1, x.2.cells, h)
      | none => none)
  (cand.foldl (fun (b : Option (Nat × Nat × Nat)) x => match b with
    | none => some x
    | some y => if y.2.1 < x.2.1 then some x else b) none).map (fun x => (x.1, x.2.2))

/-- Spill frames until occupancy falls to SPILL_OFF, no frame can be spilled, or the area is full (R357, R358). -/
def State.spillLoop (s : State) : Nat → State
  | 0 => s
  | n + 1 =>
    if s.regN Reg.TM_OCC ≤ s.fld Reg.TM_SPILL_OFF 17 0 then s.setFld Reg.TM_STATE 0 0 0
    else match s.spillPick with
      | none => s
      | some (_, h) => match s.frame? h with
        | none => s
        | some f =>
          let area := s.fld Reg.TM_SPILL_AREA 23 16 * 2 ^ 22
          if !s.dramUp || decide (area < s.regN Reg.TM_SPILLED + f.cells) then
            (s.setFld Reg.TM_STATE 0 0 0).raise Ev.tm 4
          else
            let s1 := s.setFrame h { f with spilled := true }
            let s2 := s1.setRegN Reg.TM_OCC (s1.regN Reg.TM_OCC - f.cells)
            let s3 := s2.setRegN Reg.TM_SPILLED (s2.regN Reg.TM_SPILLED + f.cells)
            (s3.bump Reg.TM_SPILL_FRAMES).spillLoop n

/-- Occupancy changed: spill start, panic start and end (R357, R358). -/
def State.tmThresholds (s : State) : State :=
  let occ := s.regN Reg.TM_OCC
  let area := s.fld Reg.TM_SPILL_AREA 23 16
  let spilling := s.flag Reg.TM_STATE 0
  let s1 := if s.flag Reg.TM_CTRL 31 && area != 0 && (spilling || decide (s.fld Reg.TM_SPILL_ON 17 0 ≤ occ)) then
      let t := if spilling then s else (s.setFld Reg.TM_STATE 0 0 1).raise Ev.tm 1
      t.spillLoop s.fr.frames.length
    else if spilling && decide (occ ≤ s.fld Reg.TM_SPILL_OFF 17 0) then s.setFld Reg.TM_STATE 0 0 0 else s
  let occ1 := s1.regN Reg.TM_OCC
  let panic := s1.flag Reg.TM_STATE 1
  if !panic && decide (s1.fld Reg.TM_PANIC_ON 17 0 ≤ max occ occ1) then
    let t := ((s1.setFld Reg.TM_STATE 1 1 1).bump Reg.TM_PANIC_COUNT).raise Ev.tm 2
    if occ1 ≤ t.fld Reg.TM_PANIC_OFF 17 0 then (t.setFld Reg.TM_STATE 1 1 0).raise Ev.tm 0 else t
  else if panic && decide (occ1 ≤ s1.fld Reg.TM_PANIC_OFF 17 0) then (s1.setFld Reg.TM_STATE 1 1 0).raise Ev.tm 0
  else s1

/-- Release a frame's charge on its queue and its cells (R355, R356). -/
def State.freeCells (s : State) (f : Frame) : State :=
  match f.charge with
  | none => s
  | some q =>
    let s1 := match s.tmq? q with
      | none => s
      | some x => s.setTmq q { x with cells := x.cells - f.cells }
    let s2 := if f.spilled then s1.setRegN Reg.TM_SPILLED (s1.regN Reg.TM_SPILLED - f.cells)
      else s1.setRegN Reg.TM_OCC (s1.regN Reg.TM_OCC - f.cells)
    s2.tmThresholds

/-- A frame leaves the device or is dropped: off its queue, its cells free, its sequence position released (01 R27), the
receive priority's count lower (18 R582). -/
def State.endFrame (s : State) (h : Nat) : State :=
  match s.frame? h with
  | none => s
  | some f =>
    let s1 := match f.stage with
      | .queued q => match s.tmq? q with
        | some x => s.setTmq q { x with frames := x.frames.filter (· != h) }
        | none => s
      | _ => s
    let s1 := if f.back then
        { s1 with tm := { s1.tm with queues := s1.tm.queues.map (fun y => (y.1, { y.2 with frames := y.2.frames.filter (· != h) })) } }
      else s1
    let s2 := (s1.delFrame h).freeCells f
    match f.ingress with
    | some (p, _) => if p < 8 then s2.flowCheck p else s2
    | none => s2

/-- The transmit entry of a frame completes OK, with the bytes read from the host and a timestamp if it has one
(01 R29, 18 R586). -/
def State.txComplete (s : State) (f : Frame) (ts : Option Nat) : State :=
  match f.entry with
  | none => s
  | some (g, i) =>
    if f.copy then s
    else
      let n := match (s.wq? g).bind (fun q => q.entry? i) with
        | some e => e.got.length
        | none => 0
      let t := if f.wantTs then ts else none
      s.request g i { status := cOk, bytes := n, flags := (if t.isSome then 1 else 0), ts := t.getD 0 }

/-- A frame is dropped: a transmit entry completes OK (01 R29, 08 R299). -/
def State.dropFrame (s : State) (h : Nat) : State :=
  match s.frame? h with
  | none => s
  | some f => (s.txComplete f none).endFrame h

end Sys2Proof.Machine
end

