-- ==== Sys2Proof/Machine/OpsRx.lean ====
section
/-!
DEFINITION. Entries fetched from host memory, receive buffers and the whole-frame rule; ending a queue's work (05, 06).
-/

namespace Sys2Proof.Machine

open Sys2Proof

/-! Entry checks (R172-R177) -/

/-- The opcode is listed for the kind (R172; 13: 0x30-0x38). -/
def opAllowed (kind op : Nat) : Bool :=
  op == 0 || (kind == 0 && op == 1) || (kind == 1 && op == 0x10) || (kind == 2 && decide (0x21 ≤ op) && decide (op ≤ 0x25))
    || (kind == 3 && decide (0x30 ≤ op) && decide (op ≤ 0x38))

/-- Buffer address, length field and total length of a SEND or RECV entry (R173) and of a BLOCK entry (R177). -/
def Entry.addr (e : Entry) (kind : Nat) : Nat := if kind = 2 then u64 e.raw 24 else u64 e.raw 8
def Entry.lenField (e : Entry) (kind : Nat) : Nat := if kind = 2 then u32 e.raw 32 else u16 e.raw 16
def Entry.total (e : Entry) (kind : Nat) : Nat := if kind = 2 then u32 e.raw 36 else u16 e.raw 20
def Entry.fragCount (e : Entry) (kind : Nat) : Nat := e.lenField kind % 128

/-- The bytes an entry's buffer holds: LEN, or TOTAL_LEN when INDIRECT. -/
def Entry.capacity (e : Entry) (kind : Nat) : Nat := if e.indirect then e.total kind else e.lenField kind

/-- The VBF an owner numbers n (15 R511). -/
def State.vbfOf (s : State) (owner n : Nat) : Option Vbf :=
  s.dp.vbfs.find? (fun v => v.owner == owner && v.num == n)

/-- Key slot i is bound to an owner: allocated to it and not FREE (R175, 11 R393). -/
def State.slotHeldBy (s : State) (i owner : Nat) : Bool :=
  match SMap.get? s.cx.slots i with
  | none => false
  | some k => k.st != 0 && k.owner == owner

/-- The checks of R175 and R177 on the 64-byte entry. -/
def State.entryBad (s : State) (q : WorkQ) (e : Entry) : Bool :=
  let k := q.kind
  let own := flaskNo q.fn
  let op := e.op
  let ind := e.indirect
  let lenBad := if ind then e.fragCount k == 0 || decide (64 < e.fragCount k) || e.addr k % 16 != 0 || e.total k == 0
    else e.lenField k == 0
  e.owner != own || !opAllowed k op || !s.classAllowed k e.ledgerClass ||
  (op == 1 && (lenBad || decide (e.capacity k < 14) || decide (16384 < e.capacity k)
    || ((u16 e.raw 28).testBit 15 && !s.slotHeldBy (u16 e.raw 28 % 16384) own)
    || (u16 e.raw 30 != 0xFFFF && (match s.tmq? (u16 e.raw 30) with
          | none => true
          | some t => t.owner != own || !(u16 t.rcd 0).testBit 15)))) ||
  (op == 0x10 && lenBad) ||
  (k == 2 && decide (0x21 ≤ op) && (match s.vbfOf own (u16 e.raw 8) with
    | none => true
    | some v =>
      let blocks := u16 e.raw 10
      (op != 0x23 && (blocks == 0 || decide (256 < blocks)
        || decide ((v.extents.foldl (fun n x => n + u64 x 16) 0) < u64 e.raw 16 + blocks)))
      || ((op == 0x21 || op == 0x22) && (lenBad || e.capacity k != blocks * v.blockSize))))

/-! Fetching (R185-R187, R190) -/

/-- Read n entries of queue g from FETCHED on: records and credits are taken first; one read request, which stops at the end
of the ring (R186, 06 R208). -/
def State.issueFetch (s : State) (g n : Nat) : State :=
  match s.wq? g with
  | none => s
  | some q =>
    let slot := q.fetched % q.size
    let k := min (min n q.unfetched) (min (min (s.credits q.cq) (q.size - slot)) (s.poolSize - s.lg.used.length))
    if k = 0 then s
    else
      let r := s.takeRecords k
      let q1 := { q with fetched := (q.fetched + k) % 65536, stalled := false,
                         reads := q.reads ++ [{ first := q.fetched, count := k, slots := r.1 }] }
      (r.2.setWq g q1).emit (.hostRead q.fn (q.base + slot * 64) (k * 64))

/-- Queue g may fetch but for its completion queue's credits (R185, 06 R208, R233). -/
def State.wantsFetch (s : State) (q : WorkQ) : Bool :=
  q.st == 1 && q.unfetched != 0 && s.fnServes q.fn && decide (s.lg.used.length < s.poolSize)
    && !(s.halfLost false && s.halfLost true)

/-- Completion-queue credits hold queue g back: counted once until it fetches (R185). -/
def State.noteStall (s : State) (g : Nat) : State :=
  match s.wq? g with
  | none => s
  | some q =>
    if !s.wantsFetch q || q.stalled || s.credits q.cq != 0 then s
    else
      let s1 := s.setWq g { q with stalled := true }
      let s2 := match s1.cq? q.cq with
        | some k => s1.setCq q.cq { k with stalls := k.stalls + 1 }
        | none => s1
      (s2.bump Reg.QM_CQ_STALL_COUNT).raise Ev.qm 3

/-- Is an entry a receive buffer that can still be used? -/
def Entry.rxReady (e : Entry) : Bool := e.acc && e.started && !e.wantTable && !e.rxUsed && !e.ended && e.op == 0x10

/-- Entries of an RX queue held on die: accepted or on their way, not used or ended (R190). -/
def WorkQ.rxHeld (q : WorkQ) : Nat :=
  (q.entries.filter (fun e => !e.rxUsed && !e.ended)).length + q.reads.foldl (fun n r => n + r.count) 0

/-- Entries all RX queues hold on die, out of 32,768 slots (R190). -/
def State.rxPoolUsed (s : State) : Nat := s.qm.wqs.foldl (fun n x => if x.2.kind = 1 then n + x.2.rxHeld else n) 0

/-! Receive delivery (R191-R193) -/

/-- The receive buffers usable from the head in order: each entry that is ready; an entry not yet ready ends the run (true:
the run ended at one). -/
def rxRun : List Entry → List Entry × Bool
  | [] => ([], false)
  | e :: r =>
    if e.rxUsed || e.ended then rxRun r
    else if e.rxReady then let x := rxRun r; (e :: x.1, x.2)
    else ([], true)

/-- The entries that hold n bytes, each with the bytes it takes (SPAN, R191); none: they do not. -/
def takeSpan (kind : Nat) : List Entry → Nat → Option (List (Entry × Nat))
  | _, 0 => some []
  | [], _ + 1 => none
  | e :: r, n + 1 =>
    let c := e.capacity kind
    if n + 1 ≤ c then some [(e, n + 1)]
    else (takeSpan kind r (n + 1 - c)).map (fun l => (e, c) :: l)

/-- Scatter bytes over buffers (R174). -/
def State.scatter (s : State) (fn : Nat) : List (Nat × Nat) → List Byte → State
  | [], _ => s
  | (a, n) :: r, d =>
    if d.isEmpty then s else (s.emit (.hostWrite fn a (d.take n) false)).scatter fn r (d.drop n)

/-- Deliver a frame into the entries chosen: its bytes to their buffers, one completion request each, with SOP and EOP
(R178, R192); the tag result of a failed authentication counts 0 bytes (11 R387). -/
def State.rxWrite (s : State) (g : Nat) (q : WorkQ) (x : RxFrame) (use : List (Entry × Nat)) : State :=
  let ts := use.any (fun e => e.1.tsReq) && x.req.ts != 0
  let n := use.length
  let r := (List.range n).zip use |>.foldl (fun (a : State × List Byte) y =>
    let e := y.2.1
    let len := y.2.2
    let part := a.2.take len
    let s1 := a.1.scatter q.fn e.frags part
    let s2 := s1.modEntry g e.idx (fun e => { e with rxUsed := true })
    let fl := x.req.flags + (if y.1 = 0 then 2 else 0) + (if y.1 + 1 = n then 4 else 0) + (if ts then 1 else 0)
    (s2.request g e.idx { x.req with flags := fl, bytes := if x.req.status = cAuthFail then 0 else part.length,
                                     ts := if ts then x.req.ts else 0 }, a.2.drop len)) (s, x.bytes)
  r.1.flaskCnt q.fn (fun c => { c with rxFrames := c.rxFrames + 1, rxBytes := c.rxBytes + x.bytes.length })

/-- The frame a held receive frame came from is done: written or dropped (01 R29). -/
def State.rxDone (s : State) (x : RxFrame) : State :=
  match x.fid with
  | none => s
  | some h => s.dropFrame h

/-- Drop the head frame of an RX queue, counted (R192, R193). -/
def State.rxDropHead (s : State) (g : Nat) (oversize : Bool) : State :=
  match s.wq? g with
  | none => s
  | some q => match q.rx with
    | [] => s
    | x :: r => ((s.setWq g { q with rx := r }).rxCount g oversize).rxDone x

/-- What the check of R192 finds for the head frame. -/
inductive RxVerdict where
  | none
  | oversize
  | write (use : List (Entry × Nat))
  | fetch
  | hold
  deriving DecidableEq, Repr

/-- The check of R192: a frame that more posted entries might hold waits for their fetch on demand. -/
def State.rxVerdict (s : State) (q : WorkQ) : RxVerdict :=
  match q.rx with
  | [] => .none
  | x :: _ =>
    let l := x.bytes.length
    if !s.fnServes q.fn then .hold
    else
      let run := rxRun q.entries
      let more := run.2 || !q.reads.isEmpty || (q.st == 1 && q.unfetched != 0)
      if q.mode = 0 then
        match run.1 with
        | e :: _ => if e.capacity 1 < l then .oversize else .write [(e, l)]
        | [] => if more then .fetch else .hold
      else match takeSpan 1 (run.1.take 64) l with
        | some use => .write use
        | none => if 64 ≤ run.1.length then .oversize else if more then .fetch else .hold

/-- Check the head frame, and after it each next one as long as heads are decided; a held head whose hold time has run
out (R192, R193). -/
def State.rxPump (s : State) (g : Nat) : Nat → State
  | 0 => s
  | n + 1 =>
    match s.wq? g with
    | none => s
    | some q => match q.rx with
      | [] => s
      | x :: r =>
        match s.rxVerdict q with
        | .none => s
        | .oversize => (s.rxDropHead g true).rxPump g n
        | .write use => (((s.setWq g { q with rx := r }).rxWrite g q x use).rxDone x).rxPump g n
        | .fetch => if q.reads.isEmpty && q.st == 1 then s.issueFetch g (max 1 q.burst) else s
        | .hold => if x.deadline ≤ s.now then (s.rxDropHead g false).rxPump g n else s

/-- Hand a frame to RX queue g (R193): a frame beyond HOLD_MAX_FRAMES, or for a function being reset, drops at once. -/
def State.rxHand (s : State) (g : Nat) (bytes : List Byte) (r : Req) (fid : Option Nat) : State :=
  match s.wq? g with
  | none => match fid with | some h => s.dropFrame h | none => s
  | some q =>
    let x : RxFrame := { bytes := bytes, req := r, deadline := s.now + q.holdNs, fid := fid }
    if decide (s.holdMax ≤ q.rx.length) || (s.fn q.fn).st == .resetting || decide (3 ≤ q.st) then
      (s.rxCount g false).rxDone x
    else s.setWq g { q with rx := q.rx ++ [x] }

/-- PF0's RX queue g may be named by a setting: a PF0 queue of kind RX. -/
def State.pf0RxQueue (s : State) (g : Nat) : Bool :=
  match s.wq? g with
  | some q => isPf0 q.fn && q.kind == 1
  | none => false

/-- The firmware or a unit delivers a record to an RX queue as a frame under the whole-frame rule: false when the queue
cannot take it (07 R261, 09 R329, 10 R360). -/
def State.rxCanTake (s : State) (g : Nat) : Bool :=
  match s.wq? g with
  | some q => q.kind == 1 && decide (q.st ≤ 2) && decide (q.rx.length < s.holdMax) && (s.fn q.fn).st != .resetting
  | none => false

/-! Ending a queue's work (R200, 06 R209, R217) -/

/-- A frame of the queue is on the wire: its first bit has left the MAC (06 R217). -/
def State.onWire (s : State) (e : Entry) : Bool :=
  match e.frame with
  | none => false
  | some h => match s.frame? h with
    | some f => (match f.stage with | .wire _ => true | _ => false)
    | none => false

/-- End the entries of queue g: reads outstanding are discarded on return, entries not accepted give their records back
(06 R209), held receive frames drop into RX_NO_BUFFER, frames not on the wire leave the traffic manager, and every other
accepted entry gets an abort request (R200). -/
def State.endEntries (s : State) (g : Nat) : State :=
  match s.wq? g with
  | none => s
  | some q =>
    let un := q.entries.filter (fun e => !e.acc)
    let s1 := un.foldl (fun t e => t.freeRecord e.slot) s
    let s2 := (q.reads.filter (fun r => !r.discard)).foldl (fun t r => r.slots.foldl (fun u x => u.freeRecord x) t) s1
    let keep := q.entries.filter (fun e => e.acc)
    let s3 := un.foldl (fun t e => match e.frame with | some h => t.endFrame h | none => t) s2
    let q1 := { q with entries := keep, fetched := q.accepted, reads := q.reads.map (fun r => { r with discard := true }) }
    let s4 := s3.setWq g q1
    let s5 := q.rx.foldl (fun t _ => t.rxDropHead g false) s4
    keep.foldl (fun t e =>
      if e.ended || t.onWire e then t
      else
        let t1 := t.request g e.idx { status := cAborted }
        match e.frame with
        | some h => t1.endFrame h
        | none => t1) s5

/-- Every entry of queue g has its one committed status. -/
def State.allCommitted (s : State) (g : Nat) : Bool :=
  match s.wq? g with
  | none => true
  | some q => q.entries.all (fun e => e.won.isSome)

/-- Commit every request of queue g, in entry order. -/
def State.commitAll (s : State) (g : Nat) : State :=
  match s.wq? g with
  | none => s
  | some q => q.entries.foldl (fun t e => t.commitEntry g e.idx) s

end Sys2Proof.Machine
end

