-- ==== Sys2Proof/Machine/OpsDram.lean ====
section
/-!
DEFINITION. DRAM offsets, areas and pools (16 R526-R528, 06 R232, 10 R359, 15 R514, 19 R600, 04 R147).
-/

namespace Sys2Proof.Machine

open Sys2Proof

/-- Usable device capacity in bytes (16 R543 DC_CAP). -/
def State.dramBytes (s : State) : Nat := s.fld (Reg.DC_CAP 0) 8 0 * 2 ^ 30

/-- An area: start and length in bytes; a length of 0 is no area. -/
abbrev Area := Nat × Nat

/-- The spill area of a TM_SPILL_AREA value (10 R364). -/
def spillArea (v : Nat) : Area := (bits v 7 0 * 2 ^ 30, bits v 23 16 * 2 ^ 30)

/-- The staging area of a DP_STAGE value (15 R518). -/
def stageArea (v : Nat) : Area := (bits v 7 0 * 2 ^ 30, bits v 20 16 * 2 ^ 30)

/-- The tally area of a TL_AREA value (19 R621). -/
def tallyArea (v : Nat) : Area := (bits v 17 0 * 2 ^ 20, bits v 31 24 * 2 ^ 20)

/-- The ledger fallback area: the top 4 MiB (06 R232). -/
def State.fallbackArea (s : State) : Area := if s.dr.span = 0 then (0, 0) else (s.dr.span - 2 ^ 22, 2 ^ 22)

/-- Bytes of a segment: a slice of 256 MiB in each channel in use (16 R526). -/
def State.segBytes (s : State) : Nat := 2 ^ 28 * s.dr.used.length

/-- The withdrawn segments, as areas that hold nothing (16 R541). -/
def State.holes (s : State) : List Area := s.dr.withdrawn.map (fun k => (k * s.segBytes, s.segBytes))

/-- An offset that memory stands behind (16 R526, R541). -/
def State.dramHas (s : State) (a : Nat) : Bool :=
  decide (a < s.dr.span) && !(decide (0 < s.segBytes) && s.dr.withdrawn.contains (a / s.segBytes))

/-- The flasks' private areas (04 R147). -/
def State.flaskAreas (s : State) : List Area :=
  s.host.fns.filterMap (fun x =>
    if isPf0 x.1 || x.2.st == .unprovisioned || u16 x.2.quota 16 == 0 then none else some (x.2.dramBase, u16 x.2.quota 16 * 1024))

/-- Two areas overlap. -/
def areaHits (a b : Area) : Bool := a.2 != 0 && b.2 != 0 && decide (a.1 < b.1 + b.2) && decide (b.1 < a.1 + a.2)

/-- Every area of R527 but the table pool; `skip` 1 spill, 2 staging, 3 tally leaves one out. -/
def State.areas (s : State) (skip : Nat) : List Area :=
  [s.fallbackArea] ++ (if skip = 1 then [] else [spillArea (s.regN Reg.TM_SPILL_AREA)])
    ++ (if skip = 2 then [] else [stageArea (s.regN Reg.DP_STAGE)])
    ++ (if skip = 3 then [] else [tallyArea (s.regN Reg.TL_AREA)]) ++ s.flaskAreas

/-- A new value of area `skip` would overlap another area (16 R528). -/
def State.areaBad (s : State) (skip : Nat) (a : Area) : Bool := (s.areas skip ++ s.holes).any (fun b => areaHits a b)

/-- Bytes of one generation (09 R305). -/
def genBytes (desc : List Byte) (sizeLog2 : Nat) : Nat := (if u8 desc 1 = 1 then 128 else 64) * 2 ^ sizeLog2

/-- Bytes of the table pool held by generations. -/
def State.poolUsed (s : State) : Nat :=
  s.lk.tables.foldl (fun n x =>
    n + genBytes x.2.desc x.2.act.sizeLog2
      + (match x.2.shadow with | some g => genBytes x.2.desc g.sizeLog2 | none => 0)
      + (match x.2.old with | some g => genBytes x.2.desc g.sizeLog2 | none => 0)) 0

/-- The table pool: what the areas leave (16 R527). -/
def State.poolBytes (s : State) : Nat := s.dramBytes - (s.areas 0).foldl (fun n a => n + a.2) 0

/-- A change from s to t takes memory from the pool that its generations need (16 R528). -/
def State.poolShort (s t : State) : Bool := decide (t.poolBytes < s.poolBytes) && decide (t.poolBytes < t.poolUsed)

/-- The pool has room for n more bytes. -/
def State.poolHas (s : State) (n : Nat) : Bool := s.dramUp && decide (s.poolUsed + n ≤ s.poolBytes)

/-- The lowest 4 KiB-aligned place for n bytes outside every area: 0 or the end of an area (16 R528; the choice of the lowest
place is log entry 16). -/
def State.placeArea (s : State) (n : Nat) : Option Nat :=
  let up := fun a => ceilDiv a 4096 * 4096
  let all := s.areas 0 ++ s.holes
  let cand := (0 :: all.map (fun a => up (a.1 + a.2))).filter (fun c =>
    decide (c + n ≤ s.dr.span) && !(all.any (fun b => areaHits (c, n) b)))
  cand.foldl (fun b c => match b with | none => some c | some x => some (min x c)) none

/-- Read n bytes from DRAM offset a; offsets beyond the capacity read zero (04 R138, 16 R527). -/
def State.dramRead (s : State) (a n : Nat) : List Byte :=
  (List.range n).map (fun i => if s.dramHas (a + i) then s.dram.rd (a + i) else 0)

/-! Channels and lines (16 R526, R535-R537) -/

def State.chan (s : State) (c : Nat) : DramChan := SMap.getD s.dr.ch c {}

def State.setChan (s : State) (c : Nat) (x : DramChan) : State := { s with dr := { s.dr with ch := SMap.put s.dr.ch c x } }

/-- The channel of an offset (16 R526). -/
def State.dramChannel (s : State) (a : Nat) : Nat :=
  match s.dr.used with
  | [] => 0
  | [c] => c
  | [c, d] => if ((bits a 8 8) ^^^ (bits a 20 20)) = 0 then c else d
  | l => l.getD ((bits a 9 8) ^^^ (bits a 21 20)) 0

/-- An offset's byte within its channel's share, and its slice (16 R526). -/
def State.chanByte (s : State) (a : Nat) : Nat := a / (256 * max 1 s.dr.used.length) * 256 + a % 256
def State.dramSlice (s : State) (a : Nat) : Nat := s.chanByte a / 2 ^ 28

/-- ECC_EN of the line's channel (16 R535). -/
def State.eccOn (s : State) (line : Nat) : Bool := s.flag (Reg.DC_CTRL (s.dramChannel (line * 64))) 31

/-- A read of the line answers poison (16 R537, R542): DRAM is out of service, the line is poisoned, or an injection corrupted it. -/
def State.linePoison (s : State) (line : Nat) : Bool :=
  (s.dr.down && decide (0 < s.dr.span)) ||
    (s.eccOn line && (s.dr.poison.contains line || (match SMap.get? s.dr.bad line with | some k => k != 1 | none => false)))

/-- Some line of the n bytes from a answers poison. -/
def State.dramPoison (s : State) (a n : Nat) : Bool :=
  (List.range (if n = 0 then 0 else (a + n - 1) / 64 - a / 64 + 1)).any (fun i => s.linePoison (a / 64 + i))

/-- A write of a line: an injection named for it corrupts it; a full write clears its poison (16 R537, R545). -/
def State.lineWritten (s : State) (line : Nat) (full : Bool) : State :=
  let s1 := if full then { s with dr := { s.dr with poison := s.dr.poison.filter (fun l => l != line), bad := SMap.del s.dr.bad line } } else s
  match SMap.get? s1.dr.inject line with
  | none => s1
  | some k => { s1 with dr := { s1.dr with inject := SMap.del s1.dr.inject line, bad := SMap.put s1.dr.bad line k } }

/-- Write bytes from DRAM offset a; those that no memory stands behind are discarded. -/
def State.dramWrite (s : State) (a : Nat) (d : List Byte) : State :=
  let ok := (List.range d.length).filter (fun i => s.dramHas (a + i))
  let m := if ok.length = d.length then s.dram.wrN a d
    else (d.zipIdx).foldl (fun (m : Mem) x => if s.dramHas (a + x.2) then m.wr (a + x.2) x.1 else m) s.dram
  let s1 := { s with dram := m }
  if s.dr.poison.isEmpty && s.dr.bad.isEmpty && s.dr.inject.isEmpty then s1
  else
    (List.range (if d.isEmpty then 0 else (a + d.length - 1) / 64 - a / 64 + 1)).foldl (fun t i =>
      let l := a / 64 + i
      t.lineWritten l (decide (a ≤ l * 64) && decide (l * 64 + 64 ≤ a + d.length))) s1

end Sys2Proof.Machine
end

