-- ==== Sys2Proof/Machine/OpsIo.lean ====
section
/-!
DEFINITION. Ends of backend commands: data to host memory, an entry's completion (15 R512-R514).
-/

namespace Sys2Proof.Machine

open Sys2Proof

/-- Change a backend command. -/
def State.mapIo (s : State) (id : Nat) (f : Io → Io) : State :=
  { s with dp := { s.dp with ios := s.dp.ios.map (fun x => if x.id = id then f x else x) } }

def State.io? (s : State) (id : Nat) : Option Io := s.dp.ios.find? (fun x => x.id == id)

/-- Write bytes from offset o of a buffer made of fragments to host memory. -/
def State.scatterAt (s : State) (fn : Nat) : List (Nat × Nat) → Nat → List Byte → State
  | [], _, _ => s
  | (a, n) :: r, o, d =>
    if d.isEmpty then s
    else if n ≤ o then s.scatterAt fn r (o - n) d
    else (s.emit (.hostWrite fn (a + o) (d.take (n - o)) false)).scatterAt fn r 0 (d.drop (n - o))

/-- The parts of an entry. -/
def State.partsOf (s : State) (g idx : Nat) : List Io := s.dp.ios.filter (fun x => x.g == g && x.idx == idx)

/-- Parts that move data count their bytes when they end well (R512). -/
def Io.moved (x : Io) : Nat := if x.status = 0 ∧ (x.op = 0x21 ∨ x.op = 0x22) then x.blocks * x.bs else 0

/-- An entry completes once all its parts have: the bytes moved, and the first status that is not 0 in ascending LBA order (R512). -/
def State.entryParts (s : State) (g idx : Nat) : State :=
  let ps := s.partsOf g idx
  if ps.isEmpty || ps.any (fun x => x.st != .done) then s
  else
    let s1 := { s with dp := { s.dp with ios := s.dp.ios.filter (fun x => !(x.g == g && x.idx == idx)) } }
    let aux := match ps.find? (fun x => x.status != 0) with | some x => x.status | none => 0
    s1.request g idx { status := cOk, bytes := ps.foldl (fun n x => n + x.moved) 0, aux := aux }

/-- DP_PORT_OUT follows the commands outstanding (R518). -/
def State.portOut (s : State) (p : Nat) : State :=
  s.setRegN (Reg.DP_PORT_OUT p) ((s.dp.ios.filter (fun x => !x.remote && x.port == p && x.st == .issued)).length)

/-- A part ends with a status. -/
def State.ioEnd (s : State) (x : Io) (status : Nat) : State :=
  let s1 := (s.mapIo x.id (fun y => { y with st := .done, status := status })).entryParts x.g x.idx
  if x.remote then s1 else s1.portOut x.port

/-- Read data of a part goes to host memory, or fails when the staged data is lost, or waits while the function may not be served; the
data of an entry that has ended goes nowhere (R513, R521). -/
def State.ioToHost (s : State) (x : Io) : State :=
  match s.wq? x.g with
  | none => s.ioEnd x 0
  | some q => match q.entry? x.idx with
    | none => s.ioEnd x 0
    | some e =>
      if e.ended then s.ioEnd x 0
      else if s.dramPoison x.stage x.len then s.ioEnd x 0x07C5
      else if !s.fnServes q.fn then s.mapIo x.id (fun y => { y with st := .toHost })
      else (s.scatterAt q.fn e.frags x.off (s.dramRead x.stage x.len)).ioEnd x 0

/-- The parts that waited for a function are written (04 R144). -/
def State.ioResume (s : State) (fn : Nat) : State :=
  (s.dp.ios.filter (fun x => x.st == .toHost && (match s.wq? x.g with | some q => q.fn == fn | none => true))).foldl
    (fun t x => t.ioToHost x) s

end Sys2Proof.Machine
end

