-- ==== Sys2Proof/Machine/OpsKeys.lean ====
section
/-!
DEFINITION. Key-store slots: zeroizing and freeing (11 R391-R397).
-/

namespace Sys2Proof.Machine

open Sys2Proof

/-- A key-store slot. -/
def State.keySlot (s : State) (i : Nat) : KeySlot := SMap.getD s.cx.slots i {}

/-- Store a key-store slot; KS_FREE and KS_LOADED follow (R402). -/
def State.setKeySlot (s : State) (i : Nat) (k : KeySlot) : State :=
  let m := SMap.put s.cx.slots i k
  let s1 := { s with cx := { s.cx with slots := m } }
  (s1.setRegN Reg.KS_FREE (16384 - (m.filter (fun x => x.2.st != 0)).length - s.sramLost 7)).setRegN
    Reg.KS_LOADED (m.filter (fun x => x.2.st == 2)).length

/-- Slots an owner holds (R393). -/
def State.keysHeld (s : State) (owner : Nat) : Nat :=
  (s.cx.slots.filter (fun x => x.2.st != 0 && x.2.owner == owner)).length

/-- A cipher complex: 0 ingress, 1 egress. -/
def State.complex (s : State) (c : Nat) : Complex := if c = 1 then s.cx.eg else s.cx.in_

/-- Store a cipher complex. -/
def State.setComplex (s : State) (c : Nat) (x : Complex) : State :=
  { s with cx := if c = 1 then { s.cx with eg := x } else { s.cx with in_ := x } }

/-- A frame's segment against slot i has been dispatched and has not ended. -/
def Frame.inLane (f : Frame) (i : Nat) : Bool :=
  match f.stage, f.job with
  | .cipher, some j => j.slot == i && j.snap.isSome
  | _, _ => false

/-- Segments dispatched against slot i have not all ended (R395). -/
def State.slotBusy (s : State) (i : Nat) : Bool :=
  s.fr.frames.any (fun x => x.2.inLane i)
    || (s.cx.in_.reqs ++ s.cx.eg.reqs).any (fun r => r.slot == i && r.snap.isSome && !r.zeroized)

/-- Overwrite a slot's key and record with zeros, leaving it EMPTY and allocated; segments in flight against it are abandoned and
their frames drop into CX_ZEROIZED; the zeroize is logged (R396). -/
def State.zeroizeSlot (s : State) (i : Nat) (issuer : Nat) (all : Bool) : State :=
  let k := s.keySlot i
  let s1 := s.setKeySlot i { st := if k.st = 0 then 0 else 1, owner := k.owner, allocFlask := k.allocFlask, gen := k.gen + 1 }
  let s2 := s1.fr.frames.foldl (fun t x =>
    match x.2.job with
    | some j => if x.2.inLane i then (t.bump (Reg.CX_ZEROIZED j.complex)).dropFrame x.1 else t
    | none => t) s1
  let mark := fun (r : BulkReq) => if r.slot == i && r.snap.isSome then { r with zeroized := true } else r
  let s3 := { s2 with cx := { s2.cx with
    in_ := { s2.cx.in_ with reqs := s2.cx.in_.reqs.map mark }, eg := { s2.cx.eg with reqs := s2.cx.eg.reqs.map mark } } }
  s3.logKind 8 4 11 0 issuer (leBytes 2 i ++ leBytes 1 (if all then 1 else 0))

/-- A flask reset's effect on the flask's slots (R397). -/
def State.flaskKeys (s : State) (f : Nat) : State :=
  s.cx.slots.foldl (fun t x =>
    if x.2.st = 0 || x.2.owner != f then t
    else if x.2.allocFlask then
      let u := t.zeroizeSlot x.1 (0x10000000 + f) false
      u.setKeySlot x.1 { gen := x.2.gen + 1 }
    else if x.2.loadFlask then t.zeroizeSlot x.1 (0x10000000 + f) false
    else t) s

end Sys2Proof.Machine
end

