-- ==== Sys2Proof/Machine/OpsHost.lean ====
section
/-!
DEFINITION. The host endpoint: vectors, INTx, containment and release, function resets, quotas (04 R134-R166).
-/

namespace Sys2Proof.Machine

open Sys2Proof

/-! Functions and links (R131, R136) -/

/-- The number of a flask's VF on its link (R131). -/
def State.vfNum (s : State) (f : Nat) : Nat := if s.pwr.hostBif && decide (2048 ≤ f) then f - 2047 else f

/-- The flask's VF is enabled (R136). -/
def State.vfOn (s : State) (f : Nat) : Bool :=
  let k := s.link (s.linkOf f)
  k.vfEnable && decide (s.vfNum f ≤ k.numVFs)

/-- A function that exists on its link: PF0, or an enabled VF. -/
def State.fnOn (s : State) (fn : Nat) : Bool :=
  if fn = 0 then true else if fn = 4096 then s.pwr.hostBif else decide (fn < 4096) && s.vfOn fn

/-- HE_LINKn_STAT (R162). -/
def linkStat (l : Nat) : Nat := if l = 1 then Reg.HE_LINK1_STAT else Reg.HE_LINK0_STAT

/-- A host link exists: link 1 only under bifurcation (R130). -/
def State.linkExists (s : State) (l : Nat) : Bool := l == 0 || (l == 1 && s.pwr.hostBif)

/-- Vectors of a function (R140). -/
def State.vectors (s : State) (fn : Nat) : Nat := if isPf0 fn then 2048 else u8 (s.fn fn).quota 4

/-! Vectors and INTx (R141-R143) -/

/-- The INTx message of PF0 follows its pending bits (R143). -/
def State.intxUpdate (s : State) (l : Nat) : State :=
  let f := s.fn (pf0Fn l)
  let k := s.link l
  let want := !f.msixEn && !k.intDisable && !f.pendVec.isEmpty
  if want == k.intxOn then s else (s.setLink l { k with intxOn := want }).emit (.intx l want)

/-- Clear the pending bit of vector v. -/
def State.clearPend (s : State) (fn v : Nat) : State :=
  let f := s.fn fn
  let s1 := s.setFn fn { f with pendVec := f.pendVec.filter (· != v) }
  if isPf0 fn then s1.intxUpdate (s.linkOf fn) else s1

/-- Send the pending messages that can be sent now, in vector order (R141, R155). -/
def State.flushVectors (s : State) (fn : Nat) : State :=
  (s.fn fn).pendVec.foldl (fun t v =>
    if t.vecOpen fn v && (t.fn fn).canIssue then (t.clearPend fn v).sendMsix fn v else t) s

/-! Service (R144, R155) -/

/-- Work queues of a function by global number. -/
def State.fnWqs (s : State) (fn : Nat) : List Nat := (s.qm.wqs.filter (fun x => x.2.fn == fn)).map (·.1)

/-- Completion queues of a function by global number. -/
def State.fnCqs (s : State) (fn : Nat) : List Nat := (s.qm.cqs.filter (fun x => x.2.fn == fn)).map (·.1)

/-- A function may serve again: held completions in per-queue order, pending replies, pending vectors, held frames
(R144, R155). -/
def State.resumeFn (s : State) (fn : Nat) : State :=
  if !(s.fn fn).canIssue then s
  else
    let s1 := (s.fnWqs fn).foldl (fun t g => (t.writeDone g false false).noteStall g) s
    let s2 := ((s1.flushHeld).flushVectors fn).ioResume fn
    (s2.fnWqs fn).foldl (fun t g => match t.wq? g with
      | some q => if q.kind = 1 then t.rxPump g (q.rx.length + 1) else t
      | none => t) s2

/-! Containment (R150-R155) -/

/-- Count a containment (R162, R163, R166). -/
def State.countContain (s : State) (fn : Nat) : State :=
  let f := s.fn fn
  (s.setFn fn { f with containCount := min 0xFFFFFFFF (f.containCount + 1) }).bump Reg.HE_CONTAIN_COUNT

/-- A containment cause of a function (R150, R151, R154, R160, R166): notice and events, the cause latched. -/
def State.contain (s : State) (fn cause addr queue : Nat) (ring : Bool) : State :=
  match (s.fn fn).st with
  | .contained => s.countContain fn
  | .active =>
    let s1 := s.countContain fn
    let s2 := if isPf0 fn then s1.signal fn (if fn = 0 then s1.fld Reg.HE_PF0_EVENT_VEC 10 0
                                              else s1.fld Reg.HE_PF0_EVENT_VEC 26 16)
      else s1.raiseFlask fn 0
    let f := s2.fn fn
    let s3 := s2.setFn fn { f with st := .contained, causeAddr := addr,
                                   cause := bitVal ring 26 + (if ring then 0 else queue % 1024 * 2 ^ 16) + cause }
    (s3.setRegN Reg.HE_LAST_CONTAIN (flaskNo fn * 2 ^ 16 + cause)).raise Ev.he 3
  | _ => s

/-- The AER log of the function whose read failed, and ERR_COR when enabled (R156). -/
def State.aerLog (s : State) (fn cause : Nat) : State :=
  let f := s.fn fn
  let s1 := s.setFn fn { f with aer := f.aer ++ [cause] }
  if f.errCorEn then s1.emit (.errCor fn cause) else s1

/-- The fetch reads of queue g end unanswered: their records return, and FETCHED goes back to the first index not
accepted or held (R152). -/
def State.dropReads (s : State) (g : Nat) : State :=
  match s.wq? g with
  | none => s
  | some q =>
    let live := q.reads.filter (fun r => !r.discard)
    match live with
    | [] => s
    | r :: _ =>
      let q1 := { q with reads := q.reads.map (fun x => { x with discard := true }), fetched := r.first }
      live.foldl (fun t x => x.slots.foldl (fun u n => u.freeRecord n) t) (s.setWq g q1)

/-- Release a contained function (R155): the latched cause clears and service resumes. -/
def State.release (s : State) (fn : Nat) : State :=
  let f := s.fn fn
  if f.st != .contained then s
  else
    let s1 := s.setFn fn { f with st := .active, cause := 0, causeAddr := 0 }
    let s2 := s1.resumeFn fn
    if isPf0 fn then s2 else s2.raiseFlask fn 1

/-! Resets (R157-R161) -/

/-- Frames on their way to a function's receive queues: dropped and counted by a reset (R158 step 3). -/
def State.dropBound (s : State) (fn : Nat) : State :=
  s.fr.frames.foldl (fun t x =>
    match x.2.dest with
    | some (.queue g) =>
      (match t.wq? g with
       | some q => if q.fn = fn then (t.rxCount g false).dropFrame x.1 else t
       | none => t)
    | _ => t) s

/-- A reset of a function starts, or joins the one that runs (R158 steps 1-5, R160). -/
def State.startReset (s : State) (fn : Nat) (discard cfgReset flrEvent : Bool) : State :=
  let f := s.fn fn
  if f.st == .resetting then
    s.setFn fn { f with discardReplies := f.discardReplies || discard, cfgReset := f.cfgReset || cfgReset }
  else
    let s1 := s.setFn fn { f with st := .resetting, cause := 0, causeAddr := 0, pendVec := [], resetStart := s.now,
                                  discardReplies := discard, cfgReset := cfgReset, flrEvent := flrEvent }
    let s2 := if isPf0 fn then s1.intxUpdate (s.linkOf fn) else s1
    let s3 := (s2.fnWqs fn).foldl (fun t g => t.endEntries g) s2
    (s3.dropBound fn).mbFnReset fn

/-- A reset of a host link, or an FLR of its PF0: every function of the link is reset and VF Enable clears (R161). -/
def State.linkReset (s : State) (l : Nat) (flr : Bool) : State :=
  let s1 := s.startReset (pf0Fn l) (!flr) true true
  let fl := (s1.host.fns.filter (fun x => !isPf0 x.1 && s1.linkOf x.1 == l &&
    (x.2.st == .active || x.2.st == .contained || x.2.st == .resetting))).map (·.1)
  let s2 := fl.foldl (fun t f => t.startReset f true true false) s1
  let k := s2.link l
  s2.setLink l { k with vfEnable := false, numVFs := 0 }

/-- A reset's waybill part: the function's own FLASK_RESET replies OK, every other waybill of its ring replies ABORTED,
replies go out or are discarded, the rings are disabled (R65, R165). -/
def State.resetWaybills (s : State) (fn : Nat) (discard : Bool) : State :=
  let mine := fun (i : Instance) => issuerFn i == some fn
  let s1 := s.complete (fun p => mine p.inst && p.wait == .flaskReset fn) .ok []
  let ended := s1.wb.pend.any (fun p => p.inst == .ring fn)
  let s2 := s1.complete (fun p => p.inst == .ring fn) .aborted []
  let b := wbBase fn
  let on := s2.flag (b + 0x1C) 31 && !discard
  let s3 := (s2.wb.held.filter (fun h => h.inst == Instance.ring fn)).foldl (fun t h =>
    if on then t.writeReply fn h.bytes else t) s2
  let s4 := { s3 with wb := { s3.wb with held := s3.wb.held.filter (fun h => h.inst != Instance.ring fn),
                                         arrived := s3.wb.arrived.filter (fun a => a.inst != Instance.ring fn),
                                         chains := s3.wb.chains.filter (fun c => c.inst != Instance.ring fn) } }
  let s5 := ((s4.setRing fn {}).setFld (b + 8) 31 31 0).setFld (b + 0x1C) 31 31 0
  let s6 := (s5.setRegN (b + 0x10) 0).setRegN (b + 0x20) 0
  if ended then s6.raise (Ev.wbStatus fn) 2 else s6

/-- The registers of a function's MSI-X table go back to masked and zero (R159). -/
def State.clearMsix (s : State) (fn : Nat) : State :=
  let lo := vecBase fn 0
  let n := if isPf0 fn then 0x8000 else 0x400
  { s with regs := s.regs.filter (fun x => decide (x.1 < lo) || decide (lo + n ≤ x.1)) }

/-- Destroy the queues of a function: PENDING waybills that act on them reply ABORTED (R159). -/
def State.destroyQueues (s : State) (fn : Nat) : State :=
  let s1 := (s.fnWqs fn).foldl (fun t g =>
    let t1 := (t.completeWait (.wqPause g) .aborted []).completeWait (.wqShutdown g) .aborted []
    { t1 with qm := { t1.qm with wqs := SMap.del t1.qm.wqs g } }) s
  ((s.fnCqs fn).foldl (fun t g => { t with qm := { t.qm with cqs := SMap.del t.qm.cqs g } }) s1).queueCounts

/-- Free a flask's reservations; it becomes UNPROVISIONED (R149). -/
def State.freeFlask (s : State) (f : Nat) : State :=
  let x := s.fn f
  let s1 := s.setFn f { generation := x.generation, destroyed := true, created := x.created }
  (s1.queueCounts).cfgWritten 2

/-- A reset of a function ends (R158 steps 6-8, R159, R165, R149). -/
def State.endReset (s : State) (fn : Nat) : State :=
  let f := s.fn fn
  let discard := f.discardReplies || !f.busMaster || f.d3hot
  let s1 := (s.fnWqs fn).foldl (fun t g => t.writeDone g discard true) s
  let s2 := (s1.resetWaybills fn discard).destroyQueues fn
  let s3 := s2.clearMsix fn
  let s4 := if isPf0 fn then s3 else (s3.setFld (Reg.FLASK_CTRL fn) 5 0 0).flaskKeys fn
  let s5 := s4.setRegN (wbBase fn + 0x2C) (nextEpoch (s4.fnEpoch fn))
  let s6 := if isPf0 fn then s5 else s5.raiseFlask fn 2
  let g := s6.fn fn
  let on := isPf0 fn || s6.vfOn fn
  let g1 := if f.cfgReset then { g with busMaster := false, d3hot := false, msixEn := false, fnMask := false } else g
  let s7 := s6.setFn fn { g1 with st := if on then .active else .offline, pendVec := [], discardReplies := false,
                                  cfgReset := false, thenDestroy := false, flrEvent := true }
  let s8 := if f.flrEvent then s7.raise Ev.he 4 else s7
  let s9 := s8.completeWait (.flaskReset fn) .ok []
  if f.thenDestroy then (s9.freeFlask fn).completeWait (.flaskDestroy fn) .ok [] else s9

/-- The steps of a reset that wait are over: no entry of the function's queues is on the wire, and the ledger commits
(R158 steps 3-5). -/
def State.resetReady (s : State) (fn : Nat) : Bool :=
  !s.commitsStopped && (s.fnWqs fn).all (fun g => match s.wq? g with
    | some q => q.entries.all (fun e => e.won.isSome || !e.reqs.isEmpty)
    | none => true)

/-! Quotas (R146-R149) -/

/-- A quota record with its reserved bytes zero (R146). -/
def quotaOf (b : List Byte) : List Byte := slice b 0 6 ++ zeros 2 ++ slice b 8 12 ++ zeros 12

/-- A field of a quota record is out of range (R146). -/
def quotaBad (q : List Byte) : Bool :=
  decide (1024 < u16 q 0) || decide (1024 < u16 q 2) || u8 q 4 == 0 || decide (64 < u8 q 4) || decide (96 < u8 q 5)
    || decide (16384 < u32 q 8) || decide (1024 < u16 q 16) || u16 q 16 % 4 != 0 || decide (256 < u16 q 18)

/-- The DRAM area a grant of `kib` gives flask f (R147, 16 R528): the place it has when that still fits, else the lowest
other place; none: no room. -/
def State.grantDram (s : State) (f kib : Nat) : Option Nat :=
  let x := s.fn f
  let old := u16 x.quota 16
  if kib ≤ old then some x.dramBase
  else
    let n := kib * 1024
    let t := s.setFn f { x with quota := patch x.quota 16 [0, 0] }
    if !s.dramUp || decide (t.poolBytes < s.poolUsed + n) then none
    else if old != 0 && decide (x.dramBase + n ≤ s.dr.span) && !((t.areas 0 ++ t.holes).any (fun b => areaHits (x.dramBase, n) b)) then
      some x.dramBase
    else t.placeArea n

/-- Grant flask f a quota record, or nothing when a reservation does not fit (R147). -/
def State.grant (s : State) (f : Nat) (q : List Byte) : Option State :=
  let x := s.fn f
  let old := x.quota
  let ovr := fun (o free : Nat) => decide (u16 old o < u16 q o) && decide (free < u16 q o - u16 old o)
  if ovr 0 (s.fld Reg.QM_WQ_FREE 16 0) || ovr 2 (s.fld Reg.QM_CQ_FREE 16 0) then none
  else match s.grantDram f (u16 q 16) with
    | none => none
    | some base =>
      let keep := u16 old 16 * 1024
      let s1 := if base = x.dramBase || keep = 0 then s else s.dramWrite base (s.dramRead x.dramBase keep)
      let pv := x.pendVec.filter (fun v => decide (v < u8 q 4))
      some (((s1.setFn f { x with quota := q, dramBase := base, pendVec := pv }).queueCounts).cfgWritten 2)

end Sys2Proof.Machine
end

