-- ==== Sys2Proof/Machine/OpsParse.lean ====
section
/-!
DEFINITION. A parser pass: nodes, lengths, protocol classes, key and summary, exceptions (07 R242-R263).
-/

namespace Sys2Proof.Machine

open Sys2Proof

/-! Error and stop codes (R254) -/

def stEnd : Nat := 0
def stDepth : Nat := 1
def stFrag : Nat := 2
def stEsp : Nat := 3
def stError : Nat := 4
def erTruncated : Nat := 1
def erVlan : Nat := 2
def erMpls : Nat := 3
def erExt : Nat := 4
def erTunnel : Nat := 5
def erIpv4 : Nat := 6
def erIpv4Csum : Nat := 7
def erIpv6 : Nat := 8
def erL4 : Nat := 9
def erTunnelHdr : Nat := 10
def erNodeLimit : Nat := 11
def erBadNode : Nat := 12
def erStart : Nat := 13

/-! Settings a pass takes when it begins (R263) -/

/-- What a pass works on: the frame, the end of its window, the nodes of its bank and the bad ones, the settings. -/
structure PassIn where
  frame : List Byte
  wend : Nat
  nodes : Recs
  bad : List Nat
  csum : Bool
  geneve : List Nat

/-- Byte p of the frame, when it lies in the frame and before the window's end (R249). -/
def PassIn.rd? (x : PassIn) (p : Nat) : Option Nat :=
  if p < x.wend then (x.frame[p]?).map (·.toNat) else none

/-- The same, zero outside. -/
def PassIn.rd (x : PassIn) (p : Nat) : Nat := (x.rd? p).getD 0

/-- A 16-bit field in wire order. -/
def PassIn.rd16 (x : PassIn) (p : Nat) : Nat := x.rd p * 256 + x.rd (p + 1)

/-- Node n's record. -/
def PassIn.node (x : PassIn) (n : Nat) : List Byte := SMap.getD x.nodes n (zeros 64)

/-- Protocol class of a record: codes above 0x0F act as GENERIC (R250). -/
def nodeClass (r : List Byte) : Nat := if u8 r 1 ≤ 15 then u8 r 1 else 0

/-! Header length (R247, R250) -/

/-- The byte a header's length needs, if any, and the length from that byte. -/
def lenRule (r : List Byte) : Option Nat × (Nat → Nat) :=
  match nodeClass r with
  | 0x04 => (some 0, fun b => 4 * (b % 16))
  | 0x05 => (none, fun _ => 40)
  | 0x07 => (none, fun _ => 8)
  | 0x08 => (some 12, fun b => 4 * (b / 16))
  | 0x09 => (none, fun _ => 8)
  | 0x0B => (none, fun _ => 8)
  | 0x0C => (some 0, fun b => 8 + 4 * (b % 64))
  | 0x0D => (some 0, fun b => 4 + 4 * (bits b 7 7 + bits b 5 5 + bits b 4 4))
  | 0x0E => (none, fun _ => 8)
  | _ =>
    let c := u8 r 4
    if c.testBit 7 then
      (some (u8 r 3), fun b => u8 r 2 + ((b >>> min 7 (c % 16)) &&& u8 r 5) * 2 ^ bits c 6 5)
    else (none, fun _ => u8 r 2)

/-- The header length of a node at off; none: it needs a byte beyond the window (R253 step 3). -/
def PassIn.headerLen (x : PassIn) (r : List Byte) (off : Nat) : Option Nat :=
  match lenRule r with
  | (some o, f) => if x.wend ≤ off + o then none else some (f (x.rd (off + o)))
  | (none, f) => some (f 0)

/-! Class checks (R250, R251) -/

/-- Geneve options do not run past the header. -/
def PassIn.optionsFit (x : PassIn) (fin : Nat) : Nat → Nat → Bool
  | 0, _ => true
  | n + 1, p =>
    if fin ≤ p then true
    else if fin < p + 4 then false
    else
      let q := p + 4 + 4 * (x.rd (p + 3) % 32)
      if fin < q then false else x.optionsFit fin n q

/-- The bytes of the frame from off, as the window shows them. -/
def PassIn.span (x : PassIn) (off n : Nat) : List Byte :=
  (List.range n).map (fun i => BitVec.ofNat 8 (x.rd (off + i)))

/-- The error a class check finds, with the counts of the stack so far; 0: none. -/
def PassIn.classErr (x : PassIn) (r : List Byte) (off hl vlans mpls exts : Nat) : Nat :=
  let left := x.frame.length - off
  let b0 := x.rd off
  match nodeClass r with
  | 0x02 => if 4 ≤ vlans then erVlan else 0
  | 0x03 => if 8 ≤ mpls then erMpls else 0
  | 0x06 => if 8 ≤ exts then erExt else 0
  | 0x07 => if 8 ≤ exts then erExt else 0
  | 0x04 =>
    let tl := x.rd16 (off + 2)
    if b0 / 16 ≠ 4 ∨ b0 % 16 < 5 ∨ tl < hl ∨ left < tl then erIpv4
    else if x.csum && onesSum (x.span off hl) != 0xFFFF then erIpv4Csum
    else 0
  | 0x05 => if b0 / 16 ≠ 6 ∨ left < 40 + x.rd16 (off + 4) then erIpv6 else 0
  | 0x08 => if x.rd (off + 12) / 16 < 5 then erL4 else 0
  | 0x09 => let ul := x.rd16 (off + 4); if ul < 8 ∨ left < ul then erL4 else 0
  | 0x0B => if b0.testBit 3 then 0 else erTunnelHdr
  | 0x0C => if b0 / 64 ≠ 0 ∨ x.optionsFit (off + hl) 64 (off + 8) = false then erTunnelHdr else 0
  | 0x0D => if x.rd (off + 1) % 8 ≠ 0 ∨ b0.testBit 6 = true then erTunnelHdr else 0
  | _ => 0

/-! What a taken node contributes (R249, R251, R252, R253 step 6) -/

/-- Put a byte at key byte k, 6-63 only (R256). -/
def putKey (key : List Byte) (k v : Nat) : List Byte :=
  if 6 ≤ k ∧ k < 64 then patch key k [BitVec.ofNat 8 v] else key

/-- A byte at a select or extract offset, which reaches at most 255 bytes from the header start (R249). -/
def PassIn.look? (x : PassIn) (off rel : Nat) : Option Nat := if 255 < rel then none else x.rd? (off + rel)

/-- Apply the extract at record byte b: the key, and whether it read beyond the window or frame. -/
def PassIn.extract (x : PassIn) (r : List Byte) (off b : Nat) (acc : List Byte × Bool) : List Byte × Bool :=
  let src := u8 r b
  let n := u8 r (b + 1) % 32 + 1
  let k := u8 r (b + 2)
  if !k.testBit 7 then acc
  else (List.range n).foldl (fun (a : List Byte × Bool) i =>
    let v := x.look? off (src + i)
    (putKey a.1 (k % 64 + i) (v.getD 0), a.2 || v.isNone)) acc

/-- Apply the toll load at record byte b. -/
def PassIn.toll (x : PassIn) (r : List Byte) (off b : Nat) (ps : ParseSt) : ParseSt :=
  let f := u8 r (b + 1)
  if !f.testBit 7 then ps
  else
    let src := u8 r b
    let v := (x.look? off src).getD 0 * 256 + (x.look? off (src + 1)).getD 0
    { ps with tolls := ps.tolls.set (f % 16) v, tollValid := ps.tollValid ||| 2 ^ (f % 16) }

/-- The option matchers over the options of a Geneve header (R252): seen holds the matchers that have matched. -/
def PassIn.options (x : PassIn) (fin : Nat) : Nat → Nat → List Nat → ParseSt → ParseSt
  | 0, _, _, ps => ps
  | n + 1, p, seen, ps =>
    if fin < p + 4 then ps
    else
      let c := x.rd16 p
      let t := x.rd (p + 2)
      let l := 4 * (x.rd (p + 3) % 32)
      let hit := (List.range 4).filter (fun i =>
        let w := x.geneve.getD i 0
        let k := w % 64
        w.testBit 7 && decide (6 ≤ k) && decide (k ≤ 60) && bits w 31 16 == c && bits w 15 8 == t && !seen.contains i)
      let ps1 := hit.foldl (fun (q : ParseSt) i =>
        let k := x.geneve.getD i 0 % 64
        let key := (List.range 4).foldl (fun key j => putKey key (k + j) (if j < l then x.rd (p + 4 + j) else 0)) q.key
        { q with key := key, found := q.found ||| 2 ^ i, extShort := q.extShort || decide (l < 4) }) ps
      x.options fin n (p + 4 + l) (seen ++ hit) ps1

/-- L4_TYPE of a class (05 R178). -/
def l4Of : Nat → Nat
  | 0x08 => 1 | 0x09 => 2 | 0x0A => 3 | 0x0F => 4 | _ => 0

/-- The node is taken. -/
def PassIn.take (x : PassIn) (r : List Byte) (off hl : Nat) (ps : ParseSt) : ParseSt :=
  let cls := nodeClass r
  let tun := (u8 r 0).testBit 3
  let ke := [36, 39, 42, 45].foldl (fun a b => x.extract r off b a) (ps.key, ps.extShort)
  let p1 := x.toll r off 50 (x.toll r off 48 { ps with key := ke.1, extShort := ke.2 })
  let p2 := if (u8 r 52).testBit 7 then { p1 with slots := p1.slots.set (u8 r 52 % 8) (off % 65536) } else p1
  let p3 := if (u8 r 53).testBit 7 then { p2 with profile := u8 r 53 % 16 } else p2
  let p4 := { p3 with userFlags := p3.userFlags ||| u16 r 54 }
  let p5 := if cls = 4 ∨ cls = 5 then
      { p4 with l3Off := off % 65536, l3 := if cls = 4 then 1 else 2, l4Off := 0xFFFF, l4 := 0,
                ip4 := if cls = 4 then p4.ip4 ++ [off] else p4.ip4 }
    else if l4Of cls ≠ 0 then { p4 with l4Off := off % 65536, l4 := l4Of cls } else p4
  let p6 := if tun then { p5 with tunnels := p5.tunnels + 1, vlans := 0, mpls := 0, exts := 0 } else p5
  let p7 := if cls = 2 then { p6 with vlans := p6.vlans + 1 } else if cls = 3 then { p6 with mpls := p6.mpls + 1 }
    else if cls = 6 ∨ cls = 7 then { p6 with exts := p6.exts + 1 } else p6
  if cls = 0x0C then x.options (off + min hl 260) 64 (off + 8) [] p7 else p7

/-- The next node (R248); none: the parse ends with END. -/
def PassIn.next (x : PassIn) (r : List Byte) (off : Nat) : Option Nat :=
  let c := u8 r 7
  let o := u8 r 6
  let v := if c.testBit 1 then ((x.look? off o).getD 0 * 256 + (x.look? off (o + 1)).getD 0) &&& u16 r 8
    else (x.look? off o).getD 0 &&& u8 r 8
  let hit := if !c.testBit 0 then none else
    (List.range 8).find? (fun t => (u8 r 11).testBit t && u16 r (12 + 3 * t) == v)
  match hit with
  | some t => some (u8 r (14 + 3 * t))
  | none => if c.testBit 2 then none else some (u8 r 10)

/-! The walk (R253) -/

/-- A pass ends with a stop reason. -/
def ParseSt.stopAt (ps : ParseSt) (st : Nat) : ParseSt := { ps with stop := st, exc := false }

/-- A pass ends with an error found at a node. -/
def ParseSt.errAt (ps : ParseSt) (e off : Nat) (exc : Bool) : ParseSt :=
  { ps with stop := stError, err := e, errStart := off, exc := exc }

/-- Visit node n at off; lastExc is EXC_ON_ERR of the last node taken (R259). -/
def PassIn.walk (x : PassIn) : Nat → Nat → Nat → Bool → ParseSt → ParseSt
  | 0, _, _, _, ps => ps
  | fuel + 1, n, off, lastExc, ps0 =>
    let r := x.node n
    let ps := { ps0 with lastNode := n, visits := ps0.visits + 1 }
    let ctrl := u8 r 0
    let exc := ctrl.testBit 2
    if !ctrl.testBit 0 || x.bad.contains n then ps.errAt erBadNode off lastExc
    else if 48 < ps.visits then ps.errAt erNodeLimit off lastExc
    else match x.headerLen r off with
      | none => ps.stopAt stDepth
      | some hl =>
        if x.wend < off + hl then ps.stopAt stDepth
        else if x.frame.length < off + hl then ps.errAt erTruncated off exc
        else
          let tun := ctrl.testBit 3
          let e := x.classErr r off hl (if tun then 0 else ps.vlans) (if tun then 0 else ps.mpls) (if tun then 0 else ps.exts)
          let e1 := if e ≠ 0 then e else if tun && decide (4 ≤ ps.tunnels) then erTunnel else 0
          if e1 ≠ 0 then ps.errAt e1 off exc
          else
            let q := x.take r off hl ps
            let cls := nodeClass r
            if cls = 4 ∧ (x.rd (off + 6)).testBit 5 = true ∨ cls = 4 ∧ x.rd16 (off + 6) % 8192 ≠ 0 ∨ cls = 7 then q.stopAt stFrag
            else if cls = 0x0E then { q.stopAt stEsp with espOff := off % 65536 }
            else if ctrl.testBit 1 then q.stopAt stEnd
            else match x.next r off with
              | none => q.stopAt stEnd
              | some m => x.walk fuel m (off + hl) exc q

/-- The state a pass starts from (R258): fresh on pass 0, else the previous pass's. -/
def passStart (prev : Option ParseSt) (keep : Bool) (bank : Nat) : ParseSt :=
  match prev with
  | none => { bank := bank }
  | some p =>
    { p with key := if keep then p.key else zeros 64, vlans := 0, mpls := 0, exts := 0, stop := 0, err := 0,
             extShort := false, lastNode := 0, visits := 0, profile := 0, errStart := 0, exc := false, ip4 := [], espOff := 0xFFFF,
             pass := p.pass + 1, bank := bank }

/-- The key head (R256): FLASK on transmit and loopback only. -/
def keyHead (ps : ParseSt) (src flask : Nat) : List Byte :=
  [BitVec.ofNat 8 ps.profile, BitVec.ofNat 8 (ps.stop + ps.err * 16), BitVec.ofNat 8 (ps.pass % 4 + ps.tunnels * 4),
   BitVec.ofNat 8 (src % 16)] ++ leBytes 2 (if src = 10 ∨ src = 12 then flask % 4096 else 0)

/-- A whole pass: key and summary fields. A start offset not less than the frame length ends it with START (R253). -/
def PassIn.run (x : PassIn) (ps : ParseSt) (node off src flask : Nat) (badStart : Bool) : ParseSt :=
  let p := if badStart || decide (x.frame.length ≤ off) then ps.errAt erStart off false
    else x.walk 50 node off false ps
  { p with key := patch p.key 0 (keyHead p src flask) }

/-- The parse summary (R257). -/
def ParseSt.summary (p : ParseSt) : List Byte :=
  (p.slots.map (leBytes 2)).flatten ++ (p.tolls.map (leBytes 2)).flatten ++ leBytes 2 p.tollValid ++ leBytes 2 p.userFlags
    ++ leBytes 2 p.l3Off ++ leBytes 2 p.l4Off ++ leBytes 1 (p.stop + p.err * 16)
    ++ leBytes 1 (p.l3 + p.l4 * 4 + bitVal p.extShort 5) ++ leBytes 1 (p.vlans + p.mpls * 16)
    ++ leBytes 1 (p.exts + p.tunnels * 16) ++ leBytes 1 (p.pass % 4 + p.bank * 4) ++ leBytes 1 p.lastNode
    ++ leBytes 1 (p.visits % 64) ++ leBytes 1 p.found

/-! Directions and banks (R245, R262) -/

/-- A direction's parser. -/
def State.pdir (s : State) (tx : Bool) : ParseDir := if tx then s.parser.tx else s.parser.rx

/-- Store a direction's parser. -/
def State.setPdir (s : State) (tx : Bool) (d : ParseDir) : State :=
  { s with parser := if tx then { s.parser with tx := d } else { s.parser with rx := d } }

/-- Bank b's nodes and graph ID. -/
def ParseDir.nodes (d : ParseDir) (b : Nat) : Recs := if b % 2 = 1 then d.bank1 else d.bank0
def ParseDir.id (d : ParseDir) (b : Nat) : Nat := if b % 2 = 1 then d.id1 else d.id0

/-- Store bank b. -/
def ParseDir.setBank (d : ParseDir) (b : Nat) (n : Recs) (i : Nat) : ParseDir :=
  if b % 2 = 1 then { d with bank1 := n, id1 := i } else { d with bank0 := n, id0 := i }

/-- The CRC of a bank (R262). -/
def bankCrc (n : Recs) : Nat := crc32c ((List.range 256).flatMap (fun i => SMap.getD n i (zeros 64)))

/-- The frame may still take a pass. -/
def Frame.inPasses (f : Frame) : Bool :=
  match f.stage with
  | .enqueue => false | .queued _ => false | .wire _ => false | .held _ => false | _ => true

/-- The old bank is locked (R262): its 4 ms run, and a frame that began under it has not ended its last pass. -/
def State.bankLocked (s : State) (tx : Bool) : Bool :=
  let d := s.pdir tx
  match d.lock with
  | none => false
  | some t => decide (s.now < t) &&
      s.fr.frames.any (fun x => x.2.tx == tx && x.2.inPasses && x.2.bank == some (d.gen - 1))

/-- A pass's input in bank b of a direction. -/
def State.passIn (s : State) (tx : Bool) (b : Nat) (frame : List Byte) (off : Nat) (extra : List Nat) : PassIn :=
  let d := s.pdir tx
  { frame := frame, wend := off + 64 * (if tx then s.fld Reg.PS_CTRL 11 8 else s.fld Reg.PS_CTRL 3 0),
    nodes := d.nodes b, bad := (d.bad.filter (fun x => x.1 == b % 2)).map (·.2) ++ extra,
    csum := s.flag Reg.PS_CTRL 31, geneve := (List.range 4).map (fun i => s.regN (Reg.PS_GENEVE_OPT i)) }

/-! Buckets (R260) -/

/-- Take a token from an exception bucket with rate word w: whether it had one, whether the drop follows a full second
without, and the bucket. -/
def Bucket.draw (b : Bucket) (w now : Nat) : Bool × Bool × Bucket :=
  let rate := min 1000000 (bits w 31 12)
  let burst := max 1 (bits w 11 0)
  let tok := min (burst * 10 ^ 9) (b.tok + rate * (now - b.t))
  if 10 ^ 9 ≤ tok then (true, false, { b with tok := tok - 10 ^ 9, t := now })
  else
    let lim := match b.lastDrop with | none => true | some t => decide (t + 10 ^ 9 ≤ now)
    (false, lim, { tok := tok, t := now, lastDrop := some now })

/-- The exception header of a parse error, the summary and the first SNAP bytes (R261). -/
def psExcBytes (f : Frame) (p : ParseSt) (snap : Nat) : List Byte :=
  [if f.tx then 1 else 0, BitVec.ofNat 8 (p.stop + p.err * 16), BitVec.ofNat 8 (p.pass % 4 + p.tunnels * 4),
   BitVec.ofNat 8 (f.src % 16)] ++ leBytes 2 (f.flask % 4096) ++ leBytes 1 p.lastNode ++ zeros 1
    ++ leBytes 2 f.bytes.length ++ leBytes 2 p.errStart ++ zeros 4 ++ p.summary ++ f.bytes.take (64 * snap)

/-- A frame goes to the parse exception path: metered, sent to the control cores or dropped (R260, R261). -/
def State.parseExc (s : State) (f : Frame) (p : ParseSt) : State :=
  let d := s.pdir f.tx
  let x := d.bucket.draw (s.regN (if f.tx then Reg.PS_EXC_RATE_TX else Reg.PS_EXC_RATE_RX)) s.now
  let s1 := s.setPdir f.tx { d with bucket := x.2.2 }
  if x.1 then
    let q := s.fld Reg.PS_EXC_CTRL 31 16
    let s2 := s1.bump Reg.PS_EXC_SENT
    if q = 0xFFFF then s2.bump Reg.PS_EXC_DROPPED
    else { s2 with parser := { s2.parser with
            exc := s2.parser.exc ++ [(q, psExcBytes f p (s.fld Reg.PS_EXC_CTRL 6 0))] } }
  else
    let s2 := s1.bump Reg.PS_EXC_DROPPED
    if x.2.1 then s2.raise Ev.ps 0 else s2

/-! A pass of a frame -/

/-- The counters of a pass (R265). -/
def State.countPass (s : State) (tx : Bool) (p : ParseSt) : State :=
  let s1 := s.bump64 (if tx then Reg.PS_TX_PASSES else Reg.PS_RX_PASSES) 1
  if p.stop = stFrag then s1.bump Reg.PS_FRAG_STOPS
  else if p.stop = stDepth then s1.bump Reg.PS_DEPTH_STOPS
  else if p.stop = stError then
    let s2 := (s1.bump (if tx then Reg.PS_TX_ERRORS else Reg.PS_RX_ERRORS)).bump (Reg.PS_ERR_COUNT (p.err - 1))
    s2.setRegN Reg.PS_LAST_ERR (bitVal tx 31 + p.err * 2 ^ 24 + p.lastNode * 2 ^ 16 + p.errStart % 65536)
  else s1

/-- A pass of frame h in the bank that R262 gives it. `faults` are nodes whose records fail parity when visited (R263): one
that is visited stays bad and raises NODE_PARITY. The frame as it stands after the pass. -/
def State.runPass (s : State) (f : Frame) (node off : Nat) (keep badStart : Bool) (faults : List Nat) : Frame × State :=
  let d := s.pdir f.tx
  let late := match f.bank with
    | none => false
    | some g => g != d.gen && !(g + 1 == d.gen && s.bankLocked f.tx)
  let g := match f.bank with
    | none => d.gen
    | some g => if late then d.gen else g
  let s1 := if late then (s.bump Reg.PS_BANK_LATE).raise Ev.ps 2 else s
  let ps := passStart (if f.bank.isSome then some f.ps else none) keep (g % 2)
  let x := s1.passIn f.tx g f.bytes off faults
  let p := x.run ps node off f.src f.flask badStart
  let s2 := if p.err = erBadNode ∧ faults.contains p.lastNode = true ∧ !d.bad.contains (g % 2, p.lastNode) then
      (s1.setPdir f.tx { d with bad := d.bad ++ [(g % 2, p.lastNode)] }).raise Ev.ps 3
    else s1
  ({ f with ps := p, bank := some (f.bank.getD d.gen) }, s2.countPass f.tx p)

end Sys2Proof.Machine
end

