-- ==== Sys2Proof/Machine/OpsLookup.lean ====
section
/-!
DEFINITION. Forwarding tables: generations, candidate buckets, lookups, the cache, learn events (09 R305-R333).
-/

namespace Sys2Proof.Machine

open Sys2Proof

/-! Tables (R305-R308) -/

/-- A table. -/
def State.table? (s : State) (t : Nat) : Option Table := SMap.get? s.lk.tables t

/-- Store a table. -/
def State.setTable (s : State) (t : Nat) (x : Table) : State := { s with lk := { s.lk with tables := SMap.put s.lk.tables t x } }

/-- Descriptor fields (R306). -/
def Table.wide (t : Table) : Bool := u8 t.desc 1 == 1
def Table.keyLen (t : Table) : Nat := u8 t.desc 2
def Table.owner (t : Table) : Nat := u16 t.desc 4 % 4096
def Table.resident (t : Table) : Bool := u8 t.desc 6 == 1
def Table.highWater (t : Table) : Nat := u8 t.desc 7
def Table.agePeriod (t : Table) : Nat := u16 t.desc 8
def Table.ageInit (t : Table) : Nat := u8 t.desc 10
def Table.notify (t : Table) : Nat := u16 t.desc 12

/-- Bytes of an entry and of its KEY; offset of CTRL and of RESULT (R305, R308). -/
def Table.entrySize (t : Table) : Nat := if t.wide then 64 else 32
def Table.keySize (t : Table) : Nat := if t.wide then 44 else 12
def Table.ctrl (t : Table) : Nat := t.keySize
def Table.res (t : Table) : Nat := t.keySize + 4

/-- The entry in way i (bucket × 2 + way) of a generation. -/
def Table.way (t : Table) (g : Gen) (i : Nat) : List Byte := SMap.getD g.ways i (zeros t.entrySize)

/-- Entry fields. -/
def Table.valid (t : Table) (e : List Byte) : Bool := (u8 e t.ctrl).testBit 0
def Table.static (t : Table) (e : List Byte) : Bool := (u8 e t.ctrl).testBit 1
def Table.hitBit (t : Table) (e : List Byte) : Bool := (u8 e t.ctrl).testBit 2
def Table.age (t : Table) (e : List Byte) : Nat := u8 e (t.ctrl + 1)
def Table.entOwner (t : Table) (e : List Byte) : Nat := u16 e (t.ctrl + 2) % 4096
def Table.result (t : Table) (e : List Byte) : List Byte := slice e t.res 16

/-- The two candidate buckets of a key in a generation (R307). -/
def Gen.buckets (g : Gen) (key : List Byte) : Nat × Nat :=
  let n := 2 ^ g.sizeLog2
  let b1 := crc32cFrom g.seed key % n
  let b2 := crc32cFrom (g.seed ^^^ 0x5A5A5A5A) key % n
  (b1, if b2 = b1 then b1 ^^^ 1 else b2)

/-- The four ways a key may stand in. -/
def Gen.cands (g : Gen) (key : List Byte) : List Nat :=
  let b := g.buckets key
  [2 * b.1, 2 * b.1 + 1, 2 * b.2, 2 * b.2 + 1]

/-- The way that holds a key (R311, R332). -/
def Table.find (t : Table) (g : Gen) (key : List Byte) : Option Nat :=
  (g.cands key).find? (fun i =>
    let e := t.way g i
    !g.bad.contains i && t.valid e && e.take t.keyLen == key)

/-- Write a way; an entry of zeros is not listed. -/
def Gen.put (g : Gen) (i : Nat) (e : List Byte) : Gen :=
  { g with ways := if e.all (· == 0) then SMap.del g.ways i else SMap.put g.ways i e }

/-- Valid entries that pass parity, of a generation. -/
def Table.count (t : Table) (g : Gen) : Nat :=
  (g.ways.filter (fun x => t.valid x.2 && !g.bad.contains x.1)).length

/-! The cache (R312, R313) -/

/-- The cache lines of a bucket of a table's generation. -/
def Table.lines (t : Table) (n : Nat) (g : Gen) (b : Nat) : List Nat :=
  let base := (n * 2 + g.tag) * 2 ^ 27
  if t.wide then [base + 2 * b, base + 2 * b + 1] else [base + b]

/-- The lines of a lookup that the cache lacks; a RESIDENT table's are always there. -/
def State.missingLines (s : State) (n : Nat) (t : Table) (g : Gen) (key : List Byte) : List Nat :=
  if t.resident then []
  else
    let b := g.buckets key
    (t.lines n g b.1 ++ t.lines n g b.2).filter (fun l => !s.lk.cache.contains l)

/-- Lines that CACHED tables share (R313). -/
def State.cacheLines (s : State) : Nat := 262144 - s.sramLost 3 - s.regN Reg.LK_RESIDENT * 16

/-- Load a line; of a full cache one line leaves, which one the spec leaves to a pseudo-LRU policy: a free choice. -/
def State.loadLine (s : State) (l : Nat) : State :=
  if s.lk.cache.contains l then s
  else if s.lk.cache.length < s.cacheLines then { s with lk := { s.lk with cache := l :: s.lk.cache } }
  else
    let r := s.draw
    let v := r.1 % max 1 s.lk.cache.length
    { r.2 with lk := { r.2.lk with cache := l :: s.lk.cache.eraseIdx v } }

/-- Forget the lines of a generation. -/
def State.dropLines (s : State) (n tag : Nat) : State :=
  { s with lk := { s.lk with cache := s.lk.cache.filter (fun l => l / 2 ^ 27 != n * 2 + tag) } }

/-! Lookups (R310, R311, R332, R333) -/

/-- A lookup profile (R310). -/
def State.lookupProfile (s : State) (p : Nat) : List Byte := SMap.getD s.lk.profiles p (zeros 8)

/-- The table a profile names and the key bytes it takes; none: EN 0 or no such table. -/
def State.profileKey (s : State) (p : Nat) (key : List Byte) : Option (Nat × Table × List Byte) :=
  let r := s.lookupProfile p
  if !(u8 r 0).testBit 7 then none
  else match s.table? (u8 r 0 % 64) with
    | none => none
    | some t => some (u8 r 0 % 64, t, slice key (u8 r 1) (u8 r 2))

/-- Faults of this lookup that lie in its candidate ways (R332). -/
def wayFaults (n : Nat) (faults : List ParFault) (c : List Nat) : List Nat :=
  c.filter (fun i => faults.any (fun f => f == .way n i))

/-- The generation a lookup reads: the one that was active when it began (R324). -/
def Table.genFor (t : Table) (tag : Option Nat) : Gen :=
  match t.old with
  | some g => if tag = some g.tag then g else t.act
  | none => t.act

/-- Store a generation a lookup has changed. -/
def Table.setGen (t : Table) (tag : Option Nat) (g : Gen) : Table :=
  match t.old with
  | some o => if tag = some o.tag then { t with old := some g } else { t with act := g }
  | none => { t with act := g }

/-- A lookup of a key in table n, whose lines are in the cache: the entry on a hit. -/
def State.lookupNow (s : State) (n : Nat) (t : Table) (key : List Byte) (upd : Bool) (tag : Option Nat)
    (faults : List ParFault) : Option (List Byte) × State :=
  let g0 := t.genFor tag
  let c := g0.cands key
  let bad := wayFaults n faults c
  let g := { g0 with bad := g0.bad ++ bad.filter (fun i => !g0.bad.contains i) }
  let s0 := faults.foldl (fun u f => match f with
    | .line _ => (u.bump Reg.LK_CACHE_PARITY).raise Ev.lk 3
    | _ => u) s
  let s1 := s0.bump64 Reg.LK_LOOKUPS 1
  match t.find g key with
  | some i =>
    let e := t.way g i
    let g1 := if upd then g.put i (patch e t.ctrl [BitVec.ofNat 8 (setBits (u8 e t.ctrl) 2 2 1)]) else g
    (some e, (s1.bump64 Reg.LK_HITS 1).setTable n { t.setGen tag g1 with lookups := t.lookups + 1 })
  | none =>
    let s2 := s1.setTable n { t.setGen tag g with lookups := t.lookups + 1 }
    match c.find? (fun i => g.bad.contains i) with
    | none => (none, s2)
    | some i => 
      let s3 := (s2.bump Reg.LK_PARITY_MISS).setRegN Reg.LK_LAST_FAULT (n * 2 ^ 26 + i / 2)
      (none, if g0.bad.contains i then s3.setEvent Ev.lk 2 else s3.raise Ev.lk 2)

/-! Learn events (R326-R329) -/

/-- A learn profile (R326). -/
def State.learnProfile (s : State) (p : Nat) : List Byte := SMap.getD s.lk.learns p (zeros 32)

/-- Microseconds since cold reset, modulo 2^32. -/
def State.microsec (s : State) : Nat := s.etime / 1000 % 2 ^ 32

/-- Deliver a 64-byte record to RX queue q of a function as a frame (R329): none when it cannot be delivered. -/
def State.deliverRecord (s : State) (owner q : Nat) (r : List Byte) : Option State :=
  match s.wqOf owner q with
  | none => none
  | some g => if s.rxCanTake g then some (s.rxHand g r { status := cOk } none) else none

/-- The record of a learn event (R328): kind 1 LEARN action, 2 LOOKUP miss. -/
def State.learnRecord (s : State) (p kind table : Nat) (f : Frame) (key : List Byte) : List Byte :=
  leBytes 1 kind ++ leBytes 1 p ++ leBytes 1 (table % 64) ++ leBytes 1 (bitVal f.tx 0 + f.src % 16 * 2)
    ++ leBytes 2 (f.owner % 4096) ++ leBytes 2 (f.rule.getD 0xFFFF) ++ leBytes 4 f.ruleId ++ leBytes 4 s.microsec
    ++ fit 44 key ++ zeros 4

/-- A learn event is posted through profile p (R326, R327, R329). -/
def State.learn (s : State) (p kind : Nat) (f : Frame) : State :=
  let r := s.learnProfile p
  if !(u8 r 0).testBit 7 || !s.flag Reg.LK_CTRL 0 then s.bump Reg.LK_LEARN_DROPPED
  else
    let n := u8 r 0 % 64
    let key := slice f.ps.key (u8 r 4) (u8 r 5)
    let hold := s.fld Reg.LK_CTRL 31 16 * 1000
    if s.lk.filter.any (fun x => x.1 == p && x.2.1 == key && decide (s.now < x.2.2 + hold)) then
      s.bump Reg.LK_LEARN_FILTERED
    else
      let b := s.lk.bucket.draw (s.regN Reg.LK_LEARN_RATE) s.now
      let s1 := { s with lk := { s.lk with bucket := b.2.2 } }
      if !b.1 then (s1.bump Reg.LK_LEARN_DROPPED).raise Ev.lk 5
      else
        let old := s1.lk.filter.filter (fun x => !(x.1 == p && x.2.1 == key))
        let fl := (if old.length < 4096 then old else old.drop 1) ++ [(p, key, s.now)]
        let s2 := { s1 with lk := { s1.lk with filter := fl } }
        let x := s2.learnRecord p kind n f key
        if u8 r 1 = 1 then
          match (s2.table? n).bind (fun t => s2.deliverRecord t.owner (u16 r 2) x) with
          | some s3 => s3.bump Reg.LK_LEARN_POSTED
          | none => s2.bump Reg.LK_LEARN_DROPPED
        else if 16384 ≤ s2.lk.queue.length then s2.bump Reg.LK_LEARN_DROPPED
        else { s2 with lk := { s2.lk with queue := s2.lk.queue ++ [LearnRec.mk p x] } }.bump Reg.LK_LEARN_POSTED

end Sys2Proof.Machine
end

