-- ==== Sys2Proof/Machine/OpsEdit.lean ====
section
/-!
DEFINITION. Recorded edits and the edit stage: encapsulation, VLAN tags, rewrites, lengths and checksums (08 R290,
R293; 05 R171, R178).
-/

namespace Sys2Proof.Machine

open Sys2Proof

/-! Frame bytes -/

/-- A 16-bit field of a frame in wire order. -/
def be16 (b : List Byte) (o : Nat) : Nat := beNat (slice b o 2)

/-- Store a 16-bit field in wire order. -/
def setBe16 (b : List Byte) (o v : Nat) : List Byte := patch b o (beBytes 2 v)

/-- A TPID the MAC and the edit stage take for a VLAN tag (18 R582). -/
def isTpid (t : Nat) : Bool := t == 0x8100 || t == 0x88A8 || t == Config.altTpid.toNat

/-- The frame begins with a VLAN tag after its addresses. -/
def tagged (b : List Byte) : Bool := decide (16 ≤ b.length) && isTpid (be16 b 12)

/-- The ones-complement checksum field of bytes. -/
def checksum (b : List Byte) : Nat := 0xFFFF - onesSum b

/-- Recompute the checksum of an IPv4 header at o. -/
def fixIpv4 (b : List Byte) (o : Nat) : List Byte :=
  let hl := 4 * (u8 b o % 16)
  if u8 b o / 16 = 4 ∧ 20 ≤ hl ∧ o + hl ≤ b.length then
    let c := setBe16 b (o + 10) 0
    setBe16 c (o + 10) (checksum (slice c o hl))
  else b

/-! Offsets that follow a change of the frame (R290, R293) -/

/-- Recorded offsets of an edit moved by g; 0xFFFF stays. -/
def Edit.move (g : Nat → Nat) : Edit → Edit
  | .rewrite t sl ip => .rewrite t (sl.map g) (ip.map g)
  | e => e

/-- An offset after the bytes before `cut` are gone. -/
def cutOff (cut o : Nat) : Nat := if o = 0xFFFF ∨ o < cut then 0xFFFF else o - cut

/-- An offset after n bytes enter at `at_`. -/
def growOff (at_ n o : Nat) : Nat := if o = 0xFFFF ∨ o < at_ then o else o + n

/-- Every recorded offset of a frame, moved by g. -/
def Frame.move (f : Frame) (g : Nat → Nat) : Frame :=
  { f with ps := { f.ps with slots := f.ps.slots.map g, l3Off := g f.ps.l3Off, l4Off := g f.ps.l4Off,
                             ip4 := f.ps.ip4.map g, espOff := g f.ps.espOff },
           edits := f.edits.map (Edit.move g) }

/-! Templates (R293) -/

/-- A template. -/
def State.template (s : State) (t : Nat) : List Byte := SMap.getD s.cl.templates t (zeros 128)

/-- The header bytes of an ENCAP template with the action's 24-bit value in wire order; none: no ENCAP template. -/
def encapHeader (t : List Byte) (value : Nat) : Option (List Byte) :=
  let n := u8 t 1
  if u8 t 0 ≠ 1 ∨ n = 0 ∨ 112 < n then none
  else
    let h := slice t 16 n
    some (if u8 t 2 ≠ 0xFF ∧ u8 t 2 + 3 ≤ n then patch h (u8 t 2) (beBytes 3 value) else h)

/-- Skip VLAN tags of a header from an EtherType offset: the offset of the EtherType after them. -/
def skipTags (b : List Byte) : Nat → Nat → Nat
  | 0, o => o
  | n + 1, o => if isTpid (be16 b o) then skipTags b n (o + 4) else o

/-- Where a template's header of n bytes at p holds its IP header: behind an Ethernet header, or at its start. -/
def templateIp (b : List Byte) (p n : Nat) : Option Nat :=
  let e := skipTags b 4 (p + 12)
  let t := be16 b e
  if 14 ≤ n ∧ (t = 0x0800 ∨ t = 0x86DD) ∧ e + 2 < p + n then some (e + 2)
  else if u8 b p / 16 = 4 ∨ u8 b p / 16 = 6 then some p
  else none

/-- FIX_LEN: the IPv4, IPv6 and UDP length fields of a template header at p, from the final frame; then the IPv4 checksum. -/
def fixHeader (b : List Byte) (p n : Nat) (fixLen : Bool) : List Byte :=
  match templateIp b p n with
  | none => b
  | some ip =>
    let udp := fun (c : List Byte) (o : Nat) =>
      if fixLen && decide (o + 8 ≤ p + n) then setBe16 c (o + 4) (b.length - o) else c
    if u8 b ip / 16 = 4 then
      let c := if fixLen then setBe16 b (ip + 2) (b.length - ip) else b
      fixIpv4 (if u8 b (ip + 9) = 17 then udp c (ip + 4 * (u8 b ip % 16)) else c) ip
    else if u8 b ip / 16 = 6 then
      let c := if fixLen then setBe16 b (ip + 4) (b.length - ip - 40) else b
      if u8 b (ip + 6) = 17 then udp c (ip + 40) else c
    else b

/-! The edit stage (R293) -/

/-- The edit stage at work: the frame, the template headers to finish (place, length, FIX_LEN), edits discarded, a DEC that
drops the frame. -/
structure EditRun where
  bytes : List Byte
  fixes : List (Nat × Nat × Bool) := []
  discards : Nat := 0
  ttl : Bool := false

/-- One operation of a REWRITE template (14 bytes): SET or DEC at a recorded header. -/
def rewriteOp (op : List Byte) (slots ip4 : List Nat) (x : EditRun) : EditRun :=
  let sl := slots.getD (u8 op 0 % 8) 0xFFFF
  let p := sl + u8 op 1
  let n := min 8 (max 1 (u8 op 3))
  if sl = 0xFFFF ∨ x.bytes.length ≤ p ∨ x.ttl then x
  else
    let fix := fun (b : List Byte) (len : Nat) =>
      ip4.foldl (fun c h => if h < 0xFFFF ∧ p < h + 4 * (u8 c h % 16) ∧ h < p + len then fixIpv4 c h else c) b
    if u8 op 2 = 1 then { x with bytes := fix (patch x.bytes p (slice op 4 n)) n }
    else if u8 op 2 = 2 then
      let v := u8 x.bytes p
      if v ≤ 1 then { x with ttl := true } else { x with bytes := fix (patch x.bytes p [BitVec.ofNat 8 (v - 1)]) 1 }
    else x

/-- Carry out the edits in the order recorded; `g` moves what an edit recorded past the changes of length before it. -/
def State.runEdits (s : State) : List Edit → (Nat → Nat) → EditRun → EditRun
  | [], _, x => x
  | .encap t v :: r, g, x =>
    match encapHeader (s.template t) v with
    | none => s.runEdits r g { x with discards := x.discards + 1 }
    | some h =>
      s.runEdits r (fun o => growOff 0 h.length (g o))
        { x with bytes := h ++ x.bytes,
                 fixes := x.fixes.map (fun f => (f.1 + h.length, f.2)) ++ [(0, h.length, (u8 (s.template t) 3).testBit 0)] }
  | .vlan op tci tpid :: r, g, x =>
    let b := x.bytes
    if op = 1 then
      s.runEdits r (fun o => growOff 12 4 (g o))
        { x with bytes := b.take 12 ++ beBytes 2 tpid ++ beBytes 2 tci ++ b.drop 12 }
    else if !tagged b then s.runEdits r g x
    else if op = 0 then
      s.runEdits r (fun o => let q := g o; if q = 0xFFFF ∨ q < 16 then q else q - 4)
        { x with bytes := b.take 12 ++ b.drop 16 }
    else s.runEdits r g { x with bytes := setBe16 (setBe16 b 12 tpid) 14 tci }
  | .rewrite t sl ip :: r, g, x =>
    let tm := s.template t
    if u8 tm 0 ≠ 2 then s.runEdits r g { x with discards := x.discards + 1 }
    else s.runEdits r g ((List.range (min 8 (u8 tm 1))).foldl (fun y i =>
      rewriteOp (slice tm (16 + 14 * i) 14) (sl.map g) (ip.map g) y) x)

/-- A frame's bytes after every edit, for a network or caravan destination. -/
def State.edited (s : State) (f : Frame) : EditRun :=
  let x := s.runEdits f.edits id { bytes := f.bytes }
  { x with bytes := x.fixes.foldl (fun b y => fixHeader b y.1 y.2.1 y.2.2) x.bytes }

/-! Host delivery (R293, 05 R178) -/

/-- A pop carried out by the queue manager: the first stripped outer tag's TCI and the frame without the tags popped;
every other edit is discarded and counted. -/
def hostEdits (f : Frame) : List Byte × Option Nat × Nat :=
  f.edits.foldl (fun (a : List Byte × Option Nat × Nat) e =>
    match e with
    | .vlan 0 _ _ =>
      if tagged a.1 then (a.1.take 12 ++ a.1.drop 16, some (a.2.1.getD (be16 a.1 14)), a.2.2) else a
    | _ => (a.1, a.2.1, a.2.2 + 1)) (f.bytes, none, 0)

/-! Transport checksums (05 R171, R178) -/

/-- Pseudo-header, and TCP or UDP segment, of the innermost L4 of a frame; none: not both known and whole. -/
def l4Span (f : Frame) : Option (List Byte × Nat × Nat) :=
  let p := f.ps
  let b := f.bytes
  let l3 := p.l3Off
  let l4 := p.l4Off
  if p.l3 = 0 ∨ (p.l4 ≠ 1 ∧ p.l4 ≠ 2) ∨ l4 = 0xFFFF ∨ l3 = 0xFFFF then none
  else
    let fin := if p.l3 = 1 then l3 + be16 b (l3 + 2) else l3 + 40 + be16 b (l3 + 4)
    if b.length < fin ∨ fin < l4 then none
    else
      let n := fin - l4
      let proto := if p.l4 = 1 then 6 else 17
      let ph := if p.l3 = 1 then slice b (l3 + 12) 8 ++ [0, BitVec.ofNat 8 proto] ++ beBytes 2 n
        else slice b (l3 + 8) 32 ++ beBytes 4 n ++ [0, 0, 0, BitVec.ofNat 8 proto]
      some (ph, l4, n)

/-- Fill the innermost IPv4 header checksum and the TCP or UDP checksum (R171); a UDP sum of 0 is sent as 0xFFFF. -/
def csumFill (f : Frame) : Frame :=
  let b1 := if f.ps.l3 = 1 ∧ f.ps.l3Off ≠ 0xFFFF then fixIpv4 f.bytes f.ps.l3Off else f.bytes
  let f1 := { f with bytes := b1 }
  match l4Span f1 with
  | none => f1
  | some (ph, l4, n) =>
    let o := l4 + (if f.ps.l4 = 1 then 16 else 6)
    let b2 := setBe16 b1 o 0
    let c := checksum (ph ++ slice b2 l4 n)
    { f1 with bytes := setBe16 b2 o (if f.ps.l4 = 2 ∧ c = 0 then 0xFFFF else c) }

/-- CSUM_CHECKED and CSUM_OK of a received frame (R178): the innermost IPv4 header's checksum and its TCP or UDP checksum; a
UDP datagram without one is not checked. -/
def csumFlags (f : Frame) : Nat :=
  match l4Span f with
  | none => 0
  | some (ph, l4, n) =>
    let b := f.bytes
    let l3 := f.ps.l3Off
    if f.ps.l4 = 2 ∧ be16 b (l4 + 6) = 0 then 0
    else
      let ipOk := f.ps.l3 ≠ 1 ∨ onesSum (slice b l3 (4 * (u8 b l3 % 16))) = 0xFFFF
      let l4Ok := onesSum (ph ++ slice b l4 n) = 0xFFFF
      if ipOk ∧ l4Ok then 24 else 8

end Sys2Proof.Machine
end

