-- ==== Sys2Proof/Machine/OpsSched.lean ====
section
/-!
DEFINITION. The traffic manager at enqueue: ports, destinations, the queue of a frame, admission (10 R338-R341, R355;
08 R289; 17 R560-R563).
-/

namespace Sys2Proof.Machine

open Sys2Proof

/-! Ports and routes -/

/-- A caravan port's link layer. -/
def State.cp (s : State) (c : Nat) : CpPort := if c = 1 then s.cv.cp1 else s.cv.cp0

/-- Caravan port c is up, or retrains and is not lost yet (17 R557). -/
def State.caravanUp (s : State) (c : Nat) : Bool := s.flag (Reg.CP_STAT c) 31 || (s.cp c).downAt.isSome

/-- A traffic-manager port is up (R338, R355); host ports have no link to lose. -/
def State.tmPortUp (s : State) (p : Nat) : Bool :=
  if p < 8 then s.portUp p else if p < 10 then s.caravanUp (p - 8) else true

/-- Device d is this device or a member of the convoy (17 R547, R571). -/
def State.isMember (s : State) (d : Nat) : Bool := d == s.cvId || s.peers.contains d

/-- The own caravan port that leads to device d, when a path is up (17 R560). -/
def State.cvRoute (s : State) (d : Nat) : Option Nat :=
  match SMap.get? s.cv.routes d with
  | some c => if s.caravanUp c then some c else none
  | none => none

/-- The traffic-manager port of a destination. -/
def State.destPort (s : State) : Dest → Option Nat
  | .port p => some p
  | .remotePort d _ => (s.cvRoute d).map (8 + ·)
  | .queue g => if 65536 ≤ g then some 10 else (s.wq? g).map (fun q => 10 + s.linkOf q.fn)
  | .remoteQueue d _ _ => (s.cvRoute d).map (8 + ·)
  | .caravan p => some (8 + p)

/-! Destinations of actions (08 R286, R289; 17 R562, R563) -/

/-- Network port p of device d can be a destination: here, or at a member reached by a path that is up, and not
administratively down. -/
def State.portDest (s : State) (d p : Nat) : Option Dest :=
  if d = s.cvId then
    if s.flag (npBase p) 31 then some (.port p) else none
  else if s.isMember d && (s.cvRoute d).isSome && !s.cv.adminDown.contains (d, p) then some (.remotePort d p)
  else none

/-- TO_PORT's destination, with the port's backup tried before it fails (17 R562). -/
def State.toPort (s : State) (tgt : Nat) : Option Dest :=
  let d := if tgt.testBit 5 then bits tgt 4 3 else s.cvId
  match s.portDest d (tgt % 8) with
  | some x => some x
  | none =>
    if !tgt.testBit 5 then none
    else
      let b := SMap.getD s.cv.backup (d * 8 + tgt % 8) 0
      if b.testBit 7 then s.portDest (bits b 4 3) (b % 8) else none

/-- q is the internal RX queue of a live target (15 R516; its number is log entry 38). -/
def State.internalRx (s : State) (q : Nat) : Bool :=
  decide (0xFF00 ≤ q) && (match SMap.get? s.dp.tgts (q - 0xFF00) with | some t => t.st != 0 | none => false)

/-- TO_QUEUE's destination; an internal RX queue is named by its number above 65,535. -/
def State.toQueue (s : State) (fn q tgt : Nat) : Option Dest :=
  let d := tgt % 4
  if tgt.testBit 2 && d != s.cvId then
    if s.isMember d && (s.cvRoute d).isSome then some (.remoteQueue d fn q) else none
  else match s.wqOf fn q with
    | none => if fn = 0 ∧ s.internalRx q = true then some (.queue (65536 + q)) else none
    | some g => match s.wq? g with
      | none => none
      | some x =>
        if x.kind = 1 ∧ x.st ≤ 2 ∧ (s.fn x.fn).st ≠ .unprovisioned then some (.queue g) else none

/-- TO_TMQ's destination (R341): the queue's port. A host queue the frame already has stays when it is on that port; a host
port alone names no queue. -/
def State.toTmq (s : State) (cur : Option Dest) (q : Nat) : Option Dest :=
  match s.tmq? q with
  | none => none
  | some x =>
    let p := s.tmqPort q
    if x.destroying then none
    else if p < 8 then s.portDest s.cvId p
    else match cur with
      | some d => if s.destPort d = some p then some d else if p < 10 then some (.caravan (p - 8)) else none
      | none => if p < 10 then some (.caravan (p - 8)) else none

/-! The queue of a frame (R340, R341) -/

/-- A queue serves a port. -/
def State.serves (s : State) (q p : Nat) : Bool := (s.tmq? q).isSome && s.tmqPort q == p

/-- The queue of a frame for port p, and how many named queues were rejected. -/
def State.pickQueue (s : State) (f : Frame) (p : Nat) : Nat × Nat :=
  let dflt := fun (q : Nat) => if q ≠ 0xFFFF ∧ s.serves q p = true then q else p
  let base := match f.dest with
    | some (.queue g) => (match s.wq? g with | some x => dflt x.tmq | none => p)
    | _ => dflt f.wqTmq
  let try_ := fun (o : Option Nat) (r : Nat × Nat) => match o with
    | none => r
    | some q => if s.serves q p then (q, r.2) else (r.1, r.2 + 1)
  try_ f.sendTmq (try_ f.tmq (base, 0))

/-! Lengths (R348) -/

/-- The bytes MACsec adds: SecTAG with SCI and ICV (11 R379). -/
def macsecBytes : Nat := 32

/-- L_dep: the frame's length as it will leave the edit stage, without FCS. -/
def State.depLen (s : State) (f : Frame) : Nat :=
  match f.dest with
  | some (.queue _) => (hostEdits f).1.length
  | _ => (s.edited f).bytes.length + (if f.macsec.isSome then macsecBytes else 0)

/-! Admission (R355, R356) -/

/-- MAX_FRAME of network port p (18 R590). -/
def State.maxFrame (s : State) (p : Nat) : Nat := min 16384 (max 1514 (s.fld (npBase p) 14 0))

/-- Free cells shared by every queue. -/
def State.sharedFree (s : State) : Nat :=
  s.bufferCells - s.regN Reg.TM_OCC - s.tm.queues.foldl (fun n x => n + (x.2.minCells - x.2.cells)) 0

/-- A change at index i of a list of counters. -/
def bumpAt (l : List Nat) (i n : Nat) : List Nat := l.set i (l.getD i 0 + n)

/-- Enqueue frame h, f as it stands, to queue q for port p: admitted, or dropped and counted. -/
def State.admitFrame (s : State) (h : Nat) (f : Frame) (q p : Nat) : Bool × State :=
  match s.tmq? q with
  | none => (false, s.bump Reg.TM_DROP_NOQ)
  | some x =>
    let c := cellsOf (if f.tail then (if p < 8 then s.maxFrame p else 16384) else f.bytes.length)
    let lim := if f.color = 0 then x.maxCells else if f.color = 1 then x.maxCells * u8 x.rcd 10 / 100
      else x.maxCells * u8 x.rcd 11 / 100
    if x.destroying then (false, s.bump Reg.TM_DROP_NOQ)
    else if !s.tmPortUp p then (false, s.bump Reg.TM_DROP_DOWN)
    else
      let ok := decide (x.cells + c ≤ x.minCells) || (decide (x.cells + c ≤ lim) && decide (c ≤ s.sharedFree))
      if !ok then
        if lim < x.cells + c then
          (false, (s.setTmq q { x with drops := bumpAt x.drops f.color 1 }).bump Reg.TM_DROP_QUEUE)
        else (false, (s.bump Reg.TM_DROP_BUF).raise Ev.tm 3)
      else
        let x1 := { x with frames := x.frames ++ [h], cells := x.cells + c, peak := max x.peak (x.cells + c),
                           admitted := x.admitted + 1 }
        let f1 := { f with stage := .queued q, cells := c, charge := some q, enqAt := s.now, acct := s.depLen f }
        let s1 := (((s.setTmq q x1).setFrame h f1).setRegN Reg.TM_OCC (s.regN Reg.TM_OCC + c)).bump64 Reg.TM_ENQ 1
        (true, s1.tmThresholds)

/-! Completion fields of a received frame (05 R178, 18 R586) -/

/-- What a frame's completion entries carry when it is delivered to a host queue; bytes as delivered; edits discarded. -/
def rxReq (f : Frame) : List Byte × Req × Nat :=
  let x := hostEdits f
  let ts := if f.src < 8 then f.ts else 0
  (x.1,
   { status := if f.authFail = 0 then cOk else f.authFail,
     flags := f.csumRes.getD (csumFlags f) + (if x.2.1.isSome then 32 else 0), aux := f.mark.getD 0,
     rxInfo := f.ps.l3 + f.ps.l4 * 8 + min 4 f.levels * 64 + bitVal f.decrypted 9,
     vlan := x.2.1.getD 0, ts := ts }, x.2.2)

/-- A copy of a frame to a mirror session (08 R294). -/
def State.mirror (s : State) (f : Frame) (n : Nat) : State :=
  let w := s.regN (Reg.CL_MIRROR n)
  let tgt := bits w 31 16
  let b := if w % 256 = 0 then f.bytes else f.bytes.take (64 * (w % 256))
  if w.testBit 15 then
    if s.pf0RxQueue tgt && s.rxCanTake tgt then
      let r := rxReq { f with edits := [] }
      s.rxHand tgt b { r.2.1 with status := cOk } none
    else s.bump Reg.CL_MIRROR_DROP
  else
    let c : Frame := { bytes := b, tx := f.tx, src := f.src, flask := f.flask, stage := .enqueue, copy := true,
                       stored := true, color := f.color, tc := f.tc,
                       dest := (let p := s.tmqPort tgt; if p < 8 then some (.port p) else if p < 10 then some (.caravan (p - 8)) else none) }
    let x := s.newFrame c
    let r := x.2.admitFrame x.1 c tgt (s.tmqPort tgt)
    if r.1 then r.2 else (r.2.delFrame x.1).bump Reg.CL_MIRROR_DROP

/-! Policers (R352-R354) -/

/-- A policer. -/
def State.policer (s : State) (n : Nat) : Policer := SMap.getD s.tm.policers n { rcd := zeros 32 }

/-- A signed byte. -/
def sbyte (n : Nat) : Int := if n < 128 then (n : Int) else (n : Int) - 256

/-- Tokens are counted in 10^-6 bits: bytes times this. -/
def tokByte : Nat := 8000000

/-- Fill a policer's buckets to `now` (RFC 2697, RFC 2698). -/
def Policer.fill (p : Policer) (now : Nat) : Policer :=
  let dt := now - p.t
  let cbs := u32 p.rcd 16 % 2 ^ 24 * tokByte
  let ebs := u32 p.rcd 20 % 2 ^ 24 * tokByte
  let cin := u32 p.rcd 8 * dt
  if u8 p.rcd 0 = 1 then
    let c := min cbs (p.c + cin)
    { p with c := c, e := min ebs (p.e + (p.c + cin - c)), t := now }
  else { p with c := min cbs (p.c + cin), e := min ebs (p.e + u32 p.rcd 12 * dt), t := now }

/-- The marker: the colour of n tokens with a pre-colour, and the buckets after. -/
def Policer.mark (p : Policer) (n pre : Nat) : Nat × Policer :=
  if u8 p.rcd 0 = 1 then
    if pre = 0 ∧ n ≤ p.c then (0, { p with c := p.c - n })
    else if pre ≤ 1 ∧ n ≤ p.e then (1, { p with e := p.e - n })
    else (2, p)
  else
    if pre = 2 ∨ p.e < n then (2, p)
    else if pre = 1 ∨ p.c < n then (1, { p with e := p.e - n })
    else (0, { p with e := p.e - n, c := p.c - n })

/-- Policer n meters: a mode of R352 and VALID. -/
def State.policerOn (s : State) (n : Nat) : Bool :=
  let r := (s.policer n).rcd
  (u8 r 0 == 1 || u8 r 0 == 2) && (u16 r 4).testBit 15

/-- POLICE (R353): the frame's colour after policer n, and the state. -/
def State.police (s : State) (n : Nat) (f : Frame) : Nat × State :=
  let p := s.policer n
  if !s.policerOn n then (f.color, s)
  else
    let len := (max 1 ((f.bytes.length : Int) + sbyte (u8 p.rcd 2))).toNat
    let r := (p.fill s.now).mark (len * tokByte) (if (u8 p.rcd 1).testBit 0 then f.color else 0)
    let q := { r.2 with counts := bumpAt (bumpAt r.2.counts (2 * r.1) 1) (2 * r.1 + 1) f.bytes.length }
    (r.1, { s with tm := { s.tm with policers := SMap.put s.tm.policers n q } })

end Sys2Proof.Machine
end

