-- ==== Sys2Proof/Machine/OpsAct.lean ====
section
/-!
DEFINITION. Classification and action lists (08 R269-R300).
-/

namespace Sys2Proof.Machine

open Sys2Proof

/-! Matching (R269-R279) -/

/-- A rule record (R271). -/
def State.rule (s : State) (r : Nat) : List Byte := SMap.getD s.cl.rules r (zeros 16)
def rulePrio (r : List Byte) : Nat := u16 r 0
def ruleOwner (r : List Byte) : Nat := u16 r 2 % 4096
def ruleHintable (r : List Byte) : Bool := (u16 r 2).testBit 14
def ruleValid (r : List Byte) : Bool := (u16 r 2).testBit 15
def ruleList (r : List Byte) : Nat := u16 r 8 % 8192
def ruleId (r : List Byte) : Nat := u32 r 12

/-- The care bytes of a masked key, in ascending order (R269). -/
def compactKey (mask key : List Byte) : List Byte :=
  ((mask.zip key).filter (fun x => x.1 != 0)).map (fun x => x.1 &&& x.2)

/-- Enabled mask groups of a direction, lowest number first. -/
def State.groupsFor (s : State) (tx : Bool) : List (Nat × List Byte) :=
  s.cl.groups.filter (fun x =>
    let c := u8 x.2 64
    c.testBit 0 && c.testBit (if tx then 2 else 1))

/-- An entry record holds a key of a group (R270). -/
def entryIs (e : List Byte) (g : Nat) (data : List Byte) : Bool :=
  (u8 e 24).testBit 7 && u8 e 24 % 64 == g && slice e 0 24 == fit 24 data

/-- The rule slots of an entry in use, highest priority first. -/
def entryRules (e : List Byte) : List Nat :=
  ((List.range 3).map (fun i => u16 e (26 + 2 * i))).filterMap (fun v => if v.testBit 15 then some (v % 32768) else none)

/-- Tollgate t on a summary: IN, and whether its field is valid (R279). -/
def State.tollIn (s : State) (summary : List Byte) (t : Nat) : Bool × Bool :=
  let c := s.regN (Reg.TOLL_CTRL t)
  let r := s.regN (Reg.TOLL_RANGE t)
  let v := u16 summary (16 + 2 * (c % 16))
  let ok := (u16 summary 48).testBit (c % 16)
  (c.testBit 31 && ok && decide (r % 65536 ≤ v) && decide (v ≤ r / 65536), ok)

/-- A rule's reference to a tollgate holds. -/
def State.tollHolds (s : State) (summary : List Byte) (ref : Nat) (neg : Bool) : Bool :=
  if !ref.testBit 7 then true
  else
    let x := s.tollIn summary (ref % 128)
    if neg then x.2 && !x.1 else x.1

/-- Every enabled toll reference of a rule holds. -/
def State.tollsHold (s : State) (summary : List Byte) (r : List Byte) : Bool :=
  s.tollHolds summary (u8 r 4) ((u8 r 6).testBit 0) && s.tollHolds summary (u8 r 5) ((u8 r 6).testBit 1)

/-- The rule set as a pass sees it: entries and rules that fail parity are absent (R278). -/
structure ClassView where
  st : State
  badEntries : List Nat
  badRules : List Nat

/-- A rule can be chosen (R272, R273). -/
def ClassView.ruleOk (v : ClassView) (tx : Bool) (flask : Nat) (summary : List Byte) (i : Nat) : Bool :=
  let r := v.st.rule i
  !v.badRules.contains i && ruleValid r && (!tx || ruleOwner r == 0 || ruleOwner r == flask) && v.st.tollsHold summary r

/-- The best rule over the groups, with its group (R272). -/
def ClassView.best (v : ClassView) (tx : Bool) (key summary : List Byte) : Option (Nat × Nat) :=
  let flask := u16 key 4 % 4096
  (v.st.groupsFor tx).foldl (fun b g =>
    let d := compactKey (slice g.2 0 64) key
    match v.st.cl.entries.find? (fun e => !v.badEntries.contains e.1 && entryIs e.2 g.1 d) with
    | none => b
    | some e => match (entryRules e.2).find? (v.ruleOk tx flask summary) with
      | none => b
      | some r => match b with
        | none => some (r, g.1)
        | some x => if rulePrio (v.st.rule x.1) < rulePrio (v.st.rule r) then some (r, g.1) else b) none

/-- The hint's rule, when it is chosen (R275). -/
def ClassView.hinted (v : ClassView) (key summary : List Byte) (hint : Nat) : Bool :=
  decide (hint ≤ 32768) &&
    (let r := v.st.rule (hint - 1)
     !v.badRules.contains (hint - 1) && ruleValid r && ruleHintable r && ruleOwner r == u16 key 4 % 4096
       && v.st.tollsHold summary r)

/-- The group number that stands for no winning group (a hint or a miss). -/
def noGroup : Nat := 48

/-- Classify: the rule and the winning group, and whether a hint was rejected (R272-R275); during CL_CLEAR every pass
misses (R304). -/
def ClassView.classify (v : ClassView) (tx : Bool) (key summary : List Byte) (hint : Nat) : Option (Nat × Nat) × Bool :=
  if v.st.cl.clearing then (none, false)
  else
    let h := tx && v.st.flag Reg.CL_CTRL 31 && hint != 0
    if h && v.hinted key summary hint then (some (hint - 1, noGroup), false)
    else (v.best tx key summary, h)

/-- Failures found in this step. -/
def faultEntries (pf : List ParFault) : List Nat := pf.filterMap (fun x => match x with | .entry w => some w | _ => none)
def faultRules (pf : List ParFault) : List Nat := pf.filterMap (fun x => match x with | .rule r => some r | _ => none)

/-- The view of a pass. -/
def State.classView (s : State) (pf : List ParFault) : ClassView :=
  { st := s, badEntries := s.cl.badEntries ++ faultEntries pf, badRules := s.cl.badRules ++ faultRules pf }

/-- Entries and rules that failed stay bad; each new failure raises RULE_PARITY (R278). -/
def State.noteFaults (s : State) (pf : List ParFault) : State :=
  let s1 := (faultEntries pf).foldl (fun t w =>
    if t.cl.badEntries.contains w then t
    else ({ t with cl := { t.cl with badEntries := t.cl.badEntries ++ [w] } }).raise Ev.cl 3) s
  (faultRules pf).foldl (fun t r =>
    if t.cl.badRules.contains r then t
    else ({ t with cl := { t.cl with badRules := t.cl.badRules ++ [r] } }).raise Ev.cl 3) s1

/-! Action lists (R285) -/

/-- An action list's record. -/
def State.actList (s : State) (l : Nat) : List Byte := SMap.getD s.cl.lists l (zeros 72)
def listOwner (r : List Byte) : Nat := u16 r 0 % 4096
def listFallback (r : List Byte) : Option Nat := if (u16 r 2).testBit 15 then some (u16 r 2 % 8192) else none
def listActs (r : List Byte) : List (List Byte) := (List.range (min 8 (u8 r 4))).map (fun i => slice r (8 + 8 * i) 8)

/-- A pass reads a list; one that fails parity is absent (R278). -/
def State.readList (s : State) (l : Nat) (pf : List ParFault) : Option (List Byte) × State :=
  if s.cl.badLists.contains l then (none, s)
  else if pf.contains (.list l) then
    (none, ({ s with cl := { s.cl with badLists := s.cl.badLists ++ [l] } }).raise Ev.cl 3)
  else (some (s.actList l), s)

/-- A list begins. -/
def listCont (r : List Byte) : Cont := { acts := listActs r, fallback := listFallback r }

/-! Exceptions (R300) -/

/-- The header, summary and first bytes of a frame for the control cores. -/
def clExcBytes (f : Frame) (copy : Bool) (reason byte snap : Nat) : List Byte :=
  [BitVec.ofNat 8 (bitVal f.tx 0 + bitVal copy 1), BitVec.ofNat 8 reason,
   BitVec.ofNat 8 (f.ps.pass % 4 + f.ps.tunnels * 4), BitVec.ofNat 8 (f.src % 16)] ++ leBytes 2 (f.flask % 4096)
    ++ leBytes 1 byte ++ zeros 1 ++ leBytes 2 f.bytes.length ++ leBytes 2 (f.rule.getD 0xFFFF) ++ leBytes 4 f.ruleId
    ++ f.ps.summary ++ f.bytes.take (64 * snap)

/-- A frame, or a copy, goes to the classifier exception path: metered, then sent to the control cores. -/
def State.clExc (s : State) (f : Frame) (copy : Bool) (reason byte : Nat) : State :=
  let b := if f.tx then s.cl.txBucket else s.cl.rxBucket
  let x := b.draw (s.regN (if f.tx then Reg.CL_EXC_RATE_TX else Reg.CL_EXC_RATE_RX)) s.now
  let s1 := { s with cl := if f.tx then { s.cl with txBucket := x.2.2 } else { s.cl with rxBucket := x.2.2 } }
  if x.1 then
    { s1 with cl := { s1.cl with exc := s1.cl.exc ++
        [(s1.fld Reg.CL_EXC_CTRL 31 16, clExcBytes f copy reason byte (s1.fld Reg.CL_EXC_CTRL 6 0))] } }
  else
    let s2 := s1.bump Reg.CL_EXC_DROPPED
    if x.2.1 then s2.raise Ev.cl 1 else s2

/-! Actions (R286-R297) -/

/-- How an action ends: the list goes on; it failed (R289); a lookup missed under MISS_FALLBACK (R291); the frame has left;
the frame waits or begins another pass. -/
inductive ActOut where
  | next
  | fail
  | miss
  | gone
  | wait
  deriving DecidableEq, Repr

/-- The result of an action. -/
structure ActRes where
  out : ActOut
  f : Frame
  s : State

/-- A destination replaces the previous one, or the action fails (R288, R289). -/
def setDest (f : Frame) (d : Option Dest) (tmq : Option Nat) (s : State) : ActRes :=
  match d with
  | some x => ⟨.next, { f with dest := some x, tmq := tmq }, s⟩
  | none => ⟨.fail, { f with dest := none, tmq := none }, s⟩

/-- A frame is dropped and counted at a. -/
def dropAt (h : Nat) (f : Frame) (a : Nat) (s : State) : ActRes := ⟨.gone, f, (s.bump a).dropFrame h⟩

/-- Record an edit; a ninth drops the frame (R293). -/
def addEdit (h : Nat) (f : Frame) (e : Edit) (s : State) : ActRes :=
  if 8 ≤ f.edits.length then dropAt h f Reg.CL_EDIT_DISCARD s
  else ⟨.next, { f with edits := f.edits ++ [e] }, s⟩

/-- A hit's result takes effect, in the order of R291. -/
def applyResult (f : Frame) (r : List Byte) (s : State) : ActRes :=
  let fl := u8 r 0
  let d := match fl % 4 with
    | 1 => setDest f (s.toPort (u8 r 1)) none s
    | 2 => setDest f (s.toQueue (u16 r 2) (u16 r 4) (u8 r 1)) none s
    | 3 => setDest f (s.toTmq f.dest (u16 r 4)) (some (u16 r 4)) s
    | _ => ⟨.next, f, s⟩
  match d.out with
  | .next =>
    let f1 := if fl.testBit 2 then { d.f with tmq := some (u16 r 6) } else d.f
    let f2 := if fl.testBit 3 then { f1 with mark := some (u32 r 8) } else f1
    let f3 := { f2 with cont := { f2.cont with keySlot := if fl.testBit 4 then some (u16 r 12 % 16384) else none } }
    let f4 := if fl.testBit 5 then { f3 with cont := { f3.cont with after := some (u16 r 14 % 8192) } } else f3
    ⟨.next, f4, d.s⟩
  | _ => d

/-- What follows a lookup (R291). -/
def afterLookup (f : Frame) (a : List Byte) (hit : Option (List Byte)) (s : State) : ActRes :=
  match hit with
  | some r => applyResult f r s
  | none =>
    let s1 := if (u8 a 2).testBit 1 then s.learn (u8 a 3) 2 f else s
    let f1 := { f with cont := { f.cont with keySlot := none } }
    ⟨if (u8 a 2).testBit 0 then .miss else .next, f1, s1⟩

/-- A LOOKUP whose cache lines are there (R291, R310, R311). -/
def lookupHere (f : Frame) (a : List Byte) (pf : List ParFault) (s : State) : ActRes :=
  match s.profileKey (u8 a 1) f.ps.key with
  | none => afterLookup f a none s
  | some (n, t, key) =>
    let x := s.lookupNow n t key ((u8 (s.lookupProfile (u8 a 1)) 0).testBit 6) f.lkTag pf
    afterLookup f a (x.1.map t.result) x.2

/-- Frames waiting for a lookup's DRAM read. -/
def State.lookupsWaiting (s : State) : Nat :=
  (s.fr.frames.filter (fun x => match x.2.stage with | .lookup => true | _ => false)).length

/-- LOOKUP (R291, R312): lines the cache lacks are read from DRAM first; the frame waits with the action in front, and
the lookup is made when they are there. A frame bound for a lookup engine that is off is dropped (01 R36). -/
def actLookup (h : Nat) (f : Frame) (a : List Byte) (pf : List ParFault) (s : State) : ActRes :=
  if s.inService 7 = false then dropAt h f Reg.CL_DROPS s else
  if (match f.stage with | .lookup => true | _ => false) then lookupHere { f with stage := .enqueue } a pf s else
  match s.profileKey (u8 a 1) f.ps.key with
  | none => afterLookup f a none s
  | some (n, t, key) =>
    if (s.missingLines n t t.act key).isEmpty then lookupHere { f with lkTag := some t.act.tag } a pf s
    else
      let s1 := s.bump64 Reg.LK_CACHE_MISSES 1
      let s2 := if 4096 ≤ s1.lookupsWaiting then s1.bump Reg.LK_STALLS else s1
      ⟨.wait, { f with stage := .lookup, lkTag := some t.act.tag, cont := { f.cont with acts := a :: f.cont.acts } }, s2⟩

/-- The flow's masked key as a number, for SPREAD 0 (R297); without a winning group, of the whole key (log entry 17). -/
def State.flowKey (s : State) (f : Frame) : Nat :=
  match SMap.get? s.cl.groups f.group with
  | some g => leNat (compactKey (slice g 0 64) f.ps.key)
  | none => leNat f.ps.key

/-- A cluster takes hand-offs: its unit and its program are in service and dispatch is enabled (12 R427, R447, R451). -/
def State.clusterServes (s : State) (c : Nat) : Bool :=
  s.accepting (21 + c) && s.flag (Reg.EC_STATE c) 3 && s.flag (Reg.EC_CTRL c) 31

/-- The clusters of a set in service, in the order R297 and R298 try them. -/
def State.engineOrder (s : State) (set_ : Nat) (spread : Bool) (f : Frame) : List Nat :=
  let m := s.regN (Reg.CL_ENGINE_SET set_)
  let cs := (List.range 32).filter (fun c => m.testBit c && s.clusterServes c)
  let len := fun c => (s.cluster c).queue.length
  let start := if spread then
      (cs.foldl (fun (b : Option Nat) c => match b with
        | none => some c
        | some x => if len c < len x then some c else b) none).getD 0
    else cs.getD (Config.flowHash (s.flowKey f) % max 1 cs.length) 0
  cs.filter (fun c => start ≤ c) ++ cs.filter (fun c => c < start)

/-- ENGINE_TIMEOUT_US in ns (R302). -/
def State.engineTimeoutNs (s : State) : Nat := min 10000 (max 1 (s.fld Reg.CL_CTRL 15 0)) * 1000

/-- Hand frame h to a cluster (R297, R298). -/
def handOff (h : Nat) (f : Frame) (set_ vec : Nat) (spread : Bool) (s : State) : ActRes :=
  match (s.engineOrder set_ spread f).find? (fun c => decide ((s.cluster c).queue.length < 1024)) with
  | none => dropAt h f Reg.CL_ENGINE_FULL s
  | some c =>
    let k := s.cluster c
    ⟨.wait, { f with stage := .engine c, engVec := vec % 64, engDeadline := s.now + s.engineTimeoutNs, stored := true,
                     handAt := s.etime, cont := { keySlot := f.cont.keySlot } }, s.setCluster c { k with queue := k.queue ++ [h] }⟩

/-- CIPHER (R292; 11 R383, R385): MACsec records its association; the other framings wait for a lane of the complex, behind a full
NET queue with the frame in the packet buffer. -/
def actCipher (h : Nat) (f : Frame) (a : List Byte) (s : State) : ActRes :=
  let slot := if (u16 a 1).testBit 14 then f.cont.keySlot else some (u16 a 1 % 16384)
  match slot with
  | none => ⟨.next, f, s⟩
  | some k =>
    let f1 := { f with stored := true }
    if u8 a 4 = 2 ∧ u8 a 3 ≠ 1 then dropAt h f (Reg.CX_FORMAT_DROP 1) s
    else if u8 a 4 = 2 then ⟨.next, if f.tx then { f1 with macsec := some k } else f1, s⟩
    else
      let c := if f.tx then 1 else 0
      if s.inService (9 + c) = false then dropAt h f Reg.CL_DROPS s else
      let x := s.complex c
      let s1 := if 1024 ≤ x.net.length then (s.bump (Reg.CX_NET_STALLS c)).raise (Ev.cx c) 4 else s
      ⟨.wait, { f1 with stage := .cipher,
                        job := some { complex := c, slot := k, encrypt := u8 a 3 == 1, framing := u8 a 4, onFail := u8 a 5 } },
        s1.setComplex c { x with net := x.net ++ [h], order := x.order ++ [h] }⟩

/-- A signed 16-bit number. -/
def shalf (n : Nat) : Int := if n < 32768 then (n : Int) else (n : Int) - 65536

/-- Take a sprue pass (R295, R296); an offset of none starts nowhere (parser error START). -/
def sprue (h : Nat) (f : Frame) (node : Nat) (off : Option Nat) (keep : Bool) (s : State) : ActRes :=
  if 3 ≤ f.ps.pass then ⟨.gone, f, ((s.bump Reg.CL_SPRUE_LIMIT).clExc f false 2 0).dropFrame h⟩
  else ⟨.wait, { f with stage := .parse node (off.getD 0) keep off.isNone, stored := true, cont := {} }, s⟩

/-- The start offset of a SPRUE action (R295). -/
def sprueOff (f : Frame) (slot : Nat) (abs : Bool) (off : Nat) : Option Nat :=
  if abs then some off
  else
    let b := f.ps.slots.getD slot 0xFFFF
    let o := (b : Int) + shalf off
    if b = 0xFFFF ∨ o < 0 then none else some o.toNat

/-- ENCAP with NOW = 1 (R288, R293): the header enters at once. -/
def encapNow (f : Frame) (t value : Nat) (s : State) : ActRes :=
  match encapHeader (s.template t) value with
  | none => ⟨.next, f, s.bump Reg.CL_EDIT_DISCARD⟩
  | some hd =>
    let f1 := f.move (growOff 0 hd.length)
    ⟨.next, { f1 with bytes := fixHeader (hd ++ f.bytes) 0 hd.length ((u8 (s.template t) 3).testBit 0) }, s⟩

/-- One action of frame h. -/
def runAction (h : Nat) (f : Frame) (a : List Byte) (pf : List ParFault) (s : State) : ActRes :=
  match u8 a 0 with
  | 0x01 => dropAt h f Reg.CL_DROPS s
  | 0x02 => setDest f (s.toPort (u8 a 1)) none s
  | 0x03 => setDest f (s.toQueue (u16 a 1) (u16 a 3) (u8 a 5)) none s
  | 0x04 => setDest f (s.toTmq f.dest (u16 a 1)) (some (u16 a 1)) s
  | 0x05 => actLookup h f a pf s
  | 0x06 => handOff h f (u8 a 1 % 16) (u8 a 2) ((u8 a 3).testBit 0) s
  | 0x07 => actCipher h f a s
  | 0x08 => sprue h f (u8 a 1) (sprueOff f (u8 a 2 % 8) ((u8 a 2).testBit 3) (u16 a 3)) ((u8 a 2).testBit 4) s
  | 0x09 =>
    let x := s.police (u16 a 1) f
    if x.1 = 2 ∧ u8 a 3 = 0 ∧ s.policerOn (u16 a 1) = true then ⟨.gone, f, x.2.dropFrame h⟩ else ⟨.next, { f with color := x.1 }, x.2⟩
  | 0x0A => if f.mirrored then ⟨.next, f, s⟩ else ⟨.next, { f with mirrored := true }, s.mirror f (u8 a 1 % 16)⟩
  | 0x0B =>
    let o := f.ps.slots.getD (u8 a 1 % 8) 0xFFFF
    if o = 0xFFFF then ⟨.next, f, s⟩
    else
      let f1 := f.move (cutOff o)
      ⟨.next, { f1 with bytes := f.bytes.drop o, levels := min 4 (f.levels + u8 a 2) }, s⟩
  | 0x0C =>
    let v := u32 a 3 % 2 ^ 24
    if (u8 a 6).testBit 0 then encapNow f (u16 a 1) v s else addEdit h f (.encap (u16 a 1) v) s
  | 0x0D => addEdit h f (.vlan (u8 a 1) (u16 a 2) (u16 a 4)) s
  | 0x0E => addEdit h f (.rewrite (u16 a 1) f.ps.slots f.ps.ip4) s
  | 0x0F => ⟨.next, { f with mark := some (u32 a 1) }, s⟩
  | 0x10 => ⟨.next, { f with tc := u8 a 1 % 8, color := min 2 (u8 a 2) }, s⟩
  | 0x11 => ⟨.next, f, s.learn (u8 a 1) 1 f⟩
  | 0x12 =>
    if (u8 a 2).testBit 0 then ⟨.next, f, s.clExc f true 1 (u8 a 1)⟩
    else ⟨.gone, f, (s.clExc f false 1 (u8 a 1)).dropFrame h⟩
  | _ => ⟨.next, f, s⟩

/-! Running lists (R288-R291) -/

/-- A frame's last pass has ended: no destination drops it; a transmit frame for a host queue of this device enters the
receive path (log entry 19); any other waits for the traffic manager. -/
def State.endPass (s : State) (h : Nat) (f : Frame) : State :=
  match f.dest with
  | none => ((s.setFrame h f).bump Reg.CL_NO_DEST).dropFrame h
  | some d =>
    let looped := f.tx && (match d with | .queue _ => true | _ => false)
    if looped then
      s.setFrame h { f with tx := false, src := 12, bank := none, ps := {}, cont := {},
                            stage := .parse 0 0 false false }
    else s.setFrame h { f with stage := .enqueue, cont := {} }

/-- Run what is left of frame h's list, its fallback and the list a lookup named (R288-R291); `fuel` bounds lists that name
each other through lookups (log entry 20). -/
def State.runActs : Nat → State → Nat → Frame → List ParFault → State
  | 0, s, h, f, _ => s.endPass h { f with dest := none, tmq := none }
  | n + 1, s, h, f, pf =>
    match f.cont.acts with
    | a :: rest =>
      let r := runAction h { f with cont := { f.cont with acts := rest } } a pf s
      let fallback := fun (g : Frame) (lost : Bool) =>
        match g.cont.fallback with
        | some l =>
          let x := r.s.readList l pf
          (match x.1 with
           | some b => x.2.runActs n h { g with cont := { g.cont with acts := listActs b, fallback := none } } pf
           | none => x.2.endPass h { g with dest := none, tmq := none, cont := {} })
        | none => r.s.endPass h (if lost then { g with dest := none, tmq := none } else g)
      match r.out with
      | .next => r.s.runActs n h r.f pf
      | .fail => fallback r.f true
      | .miss => fallback r.f false
      | .gone => r.s
      | .wait => r.s.setFrame h r.f
    | [] => match f.cont.after with
      | none => s.endPass h f
      | some l =>
        let x := s.readList l pf
        match x.1 with
        | none => x.2.endPass h { f with dest := none, tmq := none, cont := {} }
        | some b =>
          if listOwner b = 0 ∨ listOwner b = f.owner then x.2.runActs n h { f with cont := { listCont b with keySlot := f.cont.keySlot } } pf
          else x.2.endPass h { f with cont := {} }

/-- The bound of runActs: every list once. -/
def actFuel : Nat := 65536

/-- Run action list l on frame h. -/
def State.startList (s : State) (h : Nat) (f : Frame) (l : Nat) (pf : List ParFault) : State :=
  let x := s.readList l pf
  match x.1 with
  | none => x.2.endPass h { f with dest := none, tmq := none, cont := {} }
  | some b => x.2.runActs actFuel h { f with cont := { listCont b with keySlot := f.cont.keySlot } } pf

/-- The classifier takes a pass's result: one rule's list, the miss list, or none (R272-R275). -/
def State.classifyFrame (s : State) (h : Nat) (f : Frame) (pf : List ParFault) : State :=
  let v := s.classView pf
  let x := v.classify f.tx f.ps.key f.ps.summary (if f.ps.pass = 0 then f.hint else 0)
  let s1 := s.noteFaults pf
  let s2 := if x.2 then s1.bump Reg.CL_HINT_REJECT else s1
  match x.1 with
  | some (r, g) =>
    let rc := s2.rule r
    let c := SMap.getD s2.cl.hits r (0, 0)
    let s3 := { s2.bump64 Reg.CL_HITS 1 with
                cl := { s2.cl with hits := SMap.put s2.cl.hits r (c.1 + 1, c.2 + f.bytes.length) } }
    s3.startList h { f with rule := some r, ruleId := ruleId rc, owner := ruleOwner rc, group := g } (ruleList rc) pf
  | none =>
    let s3 := s2.bump64 Reg.CL_MISSES 1
    let f1 := { f with rule := none, ruleId := 0, owner := 0, group := noGroup }
    let m := s3.regN Reg.CL_MISS
    let en := m.testBit (if f.tx then 31 else 15)
    if en then s3.startList h f1 (if f.tx then bits m 28 16 else bits m 12 0) pf
    else s3.endPass h { f1 with cont := {} }

end Sys2Proof.Machine
end

