-- ==== Sys2Proof/Machine/Parser.lean ====
section
/-!
DEFINITION. The parser's events and the 0x04xx opcodes (07 R260-R266).
-/

namespace Sys2Proof.Machine

open Sys2Proof

/-- Deliver the first record of an exception list to its PF0 RX queue as a frame; one that no PF0 RX queue can take is
counted at `dropped` (R261, 08 R300). -/
def State.deliverExc (s : State) (q : Nat) (data : List Byte) (dropped : Nat) : State :=
  if s.pf0RxQueue q && s.rxCanTake q then s.rxHand q data { status := cOk } none else s.bump dropped

/-- PARSE_EXCEPTION_DELIVERY (R261): the firmware delivers the oldest exception it received. -/
def execParseExceptionDelivery (s : State) : Host.Outcome State Fault Refusal :=
  finish (if !s.ctlUp then s else match s.parser.exc with
    | [] => s
    | (q, d) :: r => { s with parser := { s.parser with exc := r } }.deliverExc q d Reg.PS_EXC_DROPPED)

/-- BANK_LOCK_TIMEOUT (R262): 4 ms have passed since the activation; the old bank is free. -/
def execBankLockTimeout (tx : Bool) (s : State) : Host.Outcome State Fault Refusal :=
  finish (match (s.pdir tx).lock with
    | none => s
    | some t => (s.at t).setPdir tx { s.pdir tx with lock := none })

/-! The 0x04xx opcodes (R266) -/

/-- The graph-ID register of a direction follows its active bank. -/
def State.graphIds (s : State) (tx : Bool) : State :=
  let d := s.pdir tx
  s.setRegN (if tx then Reg.PS_GRAPH_ID_TX else Reg.PS_GRAPH_ID_RX) (d.id d.gen)

def parseGraphLoadMeta : OpMeta :=
  { opcode := 0x0400, cls := .d, lenOk := fun n => decide (8 ≤ n), lenW := fun w => w.params.length == 8 + 64 * w.u8 3,
    maxRes := 4 }

/-- PARSE_GRAPH_LOAD: node records into the standby bank; a reloaded node is no longer bad (R263). -/
def parseGraphLoadBody : WbBody := fun w s =>
  let tx := w.u8 0 == 1
  let first := w.u8 2
  let n := w.u8 3
  if 1 < w.u8 0 ∨ n = 0 ∨ 63 < n ∨ 256 < first + n then fail .badParam s
  else if s.bankLocked tx then fail .busy s
  else
    let d := s.pdir tx
    let b := (d.gen + 1) % 2
    let clear := (w.u8 1).testBit 0
    let old := if clear then [] else d.nodes b
    let new := (List.range n).foldl (fun (m : Recs) i => SMap.put m (first + i) (w.bytes (8 + 64 * i) 64)) old
    let bad := d.bad.filter (fun x => !(x.1 == b && (clear || (decide (first ≤ x.2) && decide (x.2 < first + n)))))
    let d1 := { d.setBank b new (w.u32 4) with bad := bad }
    .done .ok (leBytes 4 (bankCrc new)) (s.setPdir tx d1)

def execParseGraphLoad (w : Waybill) (s : State) : Host.Outcome State Fault Refusal :=
  waybillCmd parseGraphLoadMeta parseGraphLoadBody w s

def parseGraphActivateMeta : OpMeta := { opcode := 0x0401, cls := .d, lenOk := len 12, maxRes := 8 }

/-- PARSE_GRAPH_ACTIVATE (R262): the banks swap between passes; the old one is locked for at most 4 ms. -/
def parseGraphActivateBody : WbBody := fun w s =>
  let tx := w.u8 0 == 1
  let d := s.pdir tx
  let b := (d.gen + 1) % 2
  let crc := bankCrc (d.nodes b)
  if 1 < w.u8 0 ∨ d.id b ≠ w.u32 4 ∨ !(u8 (SMap.getD (d.nodes b) 0 (zeros 64)) 0).testBit 0
      ∨ ((w.u8 1).testBit 0 = true ∧ crc ≠ w.u32 8) then fail .badParam s
  else if s.bankLocked tx then fail .busy s
  else
    let prev := d.id d.gen
    let s1 := s.setPdir tx { d with gen := d.gen + 1, lock := some (s.now + 4000000) }
    let s2 := (s1.setFld Reg.PS_CTRL (if tx then 17 else 16) (if tx then 17 else 16) b).graphIds tx
    .done .ok (leBytes 4 crc ++ leBytes 4 prev) ((s2.raise Ev.ps 1).cfgWritten 5)

def execParseGraphActivate (w : Waybill) (s : State) : Host.Outcome State Fault Refusal :=
  waybillCmd parseGraphActivateMeta parseGraphActivateBody w s

def parseGraphReadMeta : OpMeta := { opcode := 0x0402, cls := .r, lenOk := len 4, maxRes := 4040 }

def parseGraphReadBody : WbBody := fun w s =>
  let first := w.u8 2
  let n := w.u8 3
  if 1 < w.u8 0 ∨ 1 < w.u8 1 ∨ n = 0 ∨ 63 < n ∨ 256 < first + n then fail .badParam s
  else
    let d := s.pdir (w.u8 0 == 1)
    let b := d.gen + w.u8 1
    .done .ok (leBytes 4 (d.id b) ++ leBytes 4 (bankCrc (d.nodes b))
      ++ (List.range n).flatMap (fun i => SMap.getD (d.nodes b) (first + i) (zeros 64))) s

def execParseGraphRead (w : Waybill) (s : State) : Host.Outcome State Fault Refusal :=
  waybillCmd parseGraphReadMeta parseGraphReadBody w s

def parseSetDepthMeta : OpMeta := { opcode := 0x0403, cls := .d, lenOk := len 4, maxRes := 4 }

def parseSetDepthBody : WbBody := fun w s =>
  let r := w.u8 0
  let t := w.u8 1
  let c := w.u8 2
  if r = 0 ∨ 8 < r ∨ t = 0 ∨ 8 < t ∨ 1 < c then fail .badParam s
  else
    let old := s.regN Reg.PS_CTRL
    .done .ok (leBytes 1 (bits old 3 0) ++ leBytes 1 (bits old 11 8) ++ leBytes 1 (bits old 31 31) ++ zeros 1)
      (s.setCfg 5 Reg.PS_CTRL (setBits (setBits (setBits old 3 0 r) 11 8 t) 31 31 c))

def execParseSetDepth (w : Waybill) (s : State) : Host.Outcome State Fault Refusal :=
  waybillCmd parseSetDepthMeta parseSetDepthBody w s

/-- Bring a bucket up to date under rate word w, then cap it at the new word's BURST (R260). -/
def Bucket.retune (b : Bucket) (w w' now : Nat) : Bucket :=
  let tok := min (max 1 (bits w 11 0) * 10 ^ 9) (b.tok + min 1000000 (bits w 31 12) * (now - b.t))
  { b with tok := min (max 1 (bits w' 11 0) * 10 ^ 9) tok, t := now }

/-- Change the parser's exception rates. -/
def State.setPsRate (s : State) (tx : Bool) (v : Nat) : State :=
  let a := if tx then Reg.PS_EXC_RATE_TX else Reg.PS_EXC_RATE_RX
  let d := s.pdir tx
  (s.setPdir tx { d with bucket := d.bucket.retune (s.regN a) v s.now }).setCfg 5 a v

def parseSetExcMeta : OpMeta := { opcode := 0x0404, cls := .d, lenOk := len 16, maxRes := 16 }

def parseSetExcBody : WbBody := fun w s =>
  let q := w.u16 0
  let bad := fun (r b : Nat) => decide (1000000 < r) || b == 0 || decide (4095 < b)
  if (q ≠ 0xFFFF ∧ s.pf0RxQueue q = false) ∨ w.u8 2 = 0 ∨ 64 < w.u8 2 ∨ bad (w.u32 4) (w.u16 8) = true
      ∨ bad (w.u32 12) (w.u16 10) = true then fail .badParam s
  else
    let c := s.regN Reg.PS_EXC_CTRL
    let r := s.regN Reg.PS_EXC_RATE_RX
    let t := s.regN Reg.PS_EXC_RATE_TX
    let res := leBytes 2 (bits c 31 16) ++ leBytes 1 (bits c 6 0) ++ zeros 1 ++ leBytes 4 (bits r 31 12)
      ++ leBytes 2 (bits r 11 0) ++ leBytes 2 (bits t 11 0) ++ leBytes 4 (bits t 31 12)
    let s1 := s.setCfg 5 Reg.PS_EXC_CTRL (q * 65536 + w.u8 2)
    .done .ok res ((s1.setPsRate false (w.u32 4 * 4096 + w.u16 8)).setPsRate true (w.u32 12 * 4096 + w.u16 10))

def execParseSetExc (w : Waybill) (s : State) : Host.Outcome State Fault Refusal :=
  waybillCmd parseSetExcMeta parseSetExcBody w s

def parseSetGeneveMeta : OpMeta := { opcode := 0x0405, cls := .d, lenOk := len 16, maxRes := 16 }

/-- PARSE_SET_GENEVE: reserved bit 6 of each word is ignored (00 R11). -/
def parseSetGeneveBody : WbBody := fun w s =>
  .done .ok ((List.range 4).flatMap (fun i => leBytes 4 (s.regN (Reg.PS_GENEVE_OPT i))))
    ((List.range 4).foldl (fun t i => t.setCfg 5 (Reg.PS_GENEVE_OPT i) (setBits (w.u32 (4 * i)) 6 6 0)) s)

def execParseSetGeneve (w : Waybill) (s : State) : Host.Outcome State Fault Refusal :=
  waybillCmd parseSetGeneveMeta parseSetGeneveBody w s

def parseQueryMeta : OpMeta := { opcode := 0x0406, cls := .r, lenOk := len 0, maxRes := 52 }

def parseQueryBody : WbBody := fun _ s =>
  let r := s.parser.rx
  let t := s.parser.tx
  .done .ok (leBytes 4 (r.id r.gen) ++ leBytes 4 (t.id t.gen) ++ leBytes 4 (r.id (r.gen + 1)) ++ leBytes 4 (t.id (t.gen + 1))
    ++ leBytes 1 (bitVal (s.bankLocked false) 0 + bitVal (s.bankLocked true) 1) ++ zeros 3
    ++ leBytes 8 (s.reg64 Reg.PS_RX_PASSES) ++ leBytes 8 (s.reg64 Reg.PS_TX_PASSES)
    ++ leBytes 4 (s.regN Reg.PS_RX_ERRORS) ++ leBytes 4 (s.regN Reg.PS_TX_ERRORS)
    ++ leBytes 4 (s.regN Reg.PS_EXC_SENT) ++ leBytes 4 (s.regN Reg.PS_EXC_DROPPED)) s

def execParseQuery (w : Waybill) (s : State) : Host.Outcome State Fault Refusal :=
  waybillCmd parseQueryMeta parseQueryBody w s

def parseTestMeta : OpMeta :=
  { opcode := 0x0407, cls := .r, lenOk := fun n => decide (8 ≤ n), lenW := fun w => w.params.length == 8 + w.u16 6,
    maxRes := 128 }

/-- PARSE_TEST: a pass 0 over the frame given; it counts nothing. -/
def parseTestBody : WbBody := fun w s =>
  let n := w.u16 6
  if 1 < w.u8 0 ∨ 1 < w.u8 1 ∨ n < 14 ∨ 4072 < n then fail .badParam s
  else
    let tx := w.u8 0 == 1
    let b := (s.pdir tx).gen + w.u8 1
    let x := s.passIn tx b (w.bytes 8 n) 0 []
    let p := x.run (passStart none false (b % 2)) 0 0 (w.u8 2 % 16) (w.u16 4) false
    .done .ok (p.key ++ p.summary) s

def execParseTest (w : Waybill) (s : State) : Host.Outcome State Fault Refusal :=
  waybillCmd parseTestMeta parseTestBody w s

end Sys2Proof.Machine
end

