-- ==== Sys2Proof/Machine/Classifier.lean ====
section
/-!
DEFINITION. A parser pass with its classification, the classifier's events and the 0x05xx opcodes (07 R253-R263, 08).
-/

namespace Sys2Proof.Machine

open Sys2Proof

/-! Events -/

/-- The nodes a fault of this pass names (R263). -/
def faultNodes : List ParFault → List Nat
  | [] => []
  | .node n :: l => n :: faultNodes l
  | _ :: l => faultNodes l

/-- Frame f as its pass leaves it, its checksum filled where asked for, and the state (R253-R263). -/
def State.passDone (s : State) (h : Nat) (f : Frame) (node off : Nat) (keep badStart : Bool) (pf : List ParFault) : Frame × State :=
  let r := s.runPass f node off keep badStart (faultNodes pf)
  let g := if r.1.tx && r.1.csum then csumFill r.1 else r.1
  (g, r.2.setFrame h g)

/-- PARSE_PASS (R253-R263, R272-R300): a frame that waits for its pass is parsed, then classified, and its actions run; a frame of a
caravan port is not classified (17 R564). A frame bound for a parser or classifier that is off is dropped (01 R36). -/
def State.parsePass (s : State) (h : Nat) (pf : List ParFault) : State :=
  match s.frame? h with
  | none => s
  | some f => match f.stage with
    | .parse node off keep badStart =>
      if s.inService 5 = false ∨ s.inService 6 = false then (s.bump Reg.TM_DROP_DOWN).dropFrame h else
      let r := s.passDone h f node off keep badStart pf
      let g := r.1
      let s1 := r.2
      if g.ps.exc then (s1.parseExc g g.ps).dropFrame h
      else if !g.tx && (g.src == 8 || g.src == 9) then s1.setFrame h { g with stage := .enqueue }
      else s1.classifyFrame h g pf
    | _ => s

def execParsePass (frame : Nat) (faults : List ParFault) (s : State) : Host.Outcome State Fault Refusal :=
  finish (s.parsePass frame faults)

/-- CLASSIFIER_EXCEPTION_DELIVERY (R300): the firmware delivers the oldest exception, or discards it. -/
def execClassifierExceptionDelivery (s : State) : Host.Outcome State Fault Refusal :=
  finish (if !s.ctlUp then s else match s.cl.exc with
    | [] => s
    | (q, d) :: r =>
      let s1 := { s with cl := { s.cl with exc := r } }
      if s1.pf0RxQueue q && s1.rxCanTake q then
        (s1.rxHand q d { status := cOk } none).bump Reg.CL_EXC_SENT
      else s1.bump Reg.CL_EXC_DROPPED)

/-- A hand-off is gone from a cluster's queue. -/
def State.unqueue (s : State) (c h : Nat) : State :=
  let k := s.cluster c
  s.setCluster c { k with queue := k.queue.filter (· != h) }

/-- ENGINE_TIMEOUT (R299): no disposition came in time; a thread that still runs on the frame no longer holds it (12 R420). -/
def execEngineTimeout (frame : Nat) (s : State) : Host.Outcome State Fault Refusal :=
  finish (match s.frame? frame with
    | none => s
    | some f =>
      let late := fun (t : State) => ((t.bump Reg.CL_ENGINE_TIMEOUT).raise Ev.cl 2).dropFrame frame
      match f.stage with
      | .engine c => late ((s.at f.engDeadline).unqueue c frame)
      | .thread _ _ => late (s.at f.engDeadline)
      | _ => s)

/-! Owners (02 R58; 04 R145) -/

/-- 0, or a flask that has been created. -/
def State.ownerExists (s : State) (o : Nat) : Bool :=
  o == 0 || (decide (o < 4096) && (s.fn o).st != .unprovisioned)

/-- The rule set as a named object (02 R76): the classifier executes its waybills one at a time (R304). -/
def ruleSet : State → Waybill → Option Obj := fun _ _ => some ⟨.ruleSet, 0⟩

/-! Queries, groups -/

def clQueryMeta : OpMeta := { opcode := 0x0500, cls := .r, lenOk := len 0, maxRes := 32 }

/-- A list in use is one that is not all zero. -/
def clQueryBody : WbBody := fun _ s =>
  let lists := (s.cl.lists.filter (fun x => x.2.any (· != 0))).length
  let groups := (s.cl.groups.filter (fun x => (u8 x.2 64).testBit 0 && bits (u8 x.2 64) 2 1 != 0)).length
  .done .ok (leBytes 4 (s.regN Reg.CL_ENTRIES) ++ leBytes 4 (s.regN Reg.CL_RULES) ++ leBytes 2 lists
    ++ leBytes 1 (s.regN Reg.CL_TOLL_FREE) ++ leBytes 1 groups ++ leBytes 8 (s.reg64 Reg.CL_HITS)
    ++ leBytes 8 (s.reg64 Reg.CL_MISSES) ++ leBytes 4 (s.regN Reg.CL_SEED)) s

def execClQuery (w : Waybill) (s : State) : Host.Outcome State Fault Refusal := waybillCmd clQueryMeta clQueryBody w s

/-- A mask group's record (R269). -/
def State.group (s : State) (g : Nat) : List Byte := SMap.getD s.cl.groups g (zeros 72)

/-- Entries a group holds. -/
def State.groupEntries (s : State) (g : Nat) : Nat :=
  (s.cl.entries.filter (fun e => (u8 e.2 24).testBit 7 && u8 e.2 24 % 64 == g)).length

def groupSetMeta : OpMeta := { opcode := 0x0501, cls := .d, lenOk := len 72, maxRes := 72, obj := ruleSet }

def groupSetBody : WbBody := fun w s =>
  let g := w.u8 0
  let mask := w.bytes 4 64
  let care := (mask.filter (· != 0)).length
  let old := s.group g
  if 47 < g ∨ 24 < care ∨ (mask ≠ slice old 0 64 ∧ s.groupEntries g ≠ 0) then fail .badParam s
  else
    let r := mask ++ [BitVec.ofNat 8 (w.u8 68 % 8), BitVec.ofNat 8 care] ++ zeros 6
    .done .ok old (({ s with cl := { s.cl with groups := SMap.put s.cl.groups g r } }).cfgWritten 6)

def execGroupSet (w : Waybill) (s : State) : Host.Outcome State Fault Refusal := waybillCmd groupSetMeta groupSetBody w s

def groupReadMeta : OpMeta := { opcode := 0x0502, cls := .r, lenOk := len 4, maxRes := 76 }

def groupReadBody : WbBody := fun w s =>
  if 47 < w.u8 0 then fail .badParam s
  else .done .ok (s.group (w.u8 0) ++ leBytes 4 (s.groupEntries (w.u8 0))) s

def execGroupRead (w : Waybill) (s : State) : Host.Outcome State Fault Refusal := waybillCmd groupReadMeta groupReadBody w s

/-! Tollgates (R280-R283) -/

/-- The holds of tollgate t by owner. -/
def State.tollHolders (s : State) (t : Nat) : SMap Nat := SMap.getD s.cl.holds t []

/-- Holds of one owner on a tollgate. -/
def State.tollHeld (s : State) (t o : Nat) : Nat := SMap.getD (s.tollHolders t) o 0

/-- Distinct tollgates an owner holds. -/
def State.tollCharge (s : State) (o : Nat) : Nat := ((List.range 96).filter (fun t => s.tollHeld t o != 0)).length

/-- Free tollgates. -/
def State.tollFree (s : State) : Nat :=
  ((List.range 96).filter (fun t => !s.flag (Reg.TOLL_CTRL t) 31)).length

/-- Set an owner's holds on a tollgate; its reference counts and the pool count follow. -/
def State.setHeld (s : State) (t o n : Nat) : State :=
  let m := s.tollHolders t
  let m1 := if n = 0 then SMap.del m o else SMap.put m o n
  let s1 := { s with cl := { s.cl with holds := if m1.isEmpty then SMap.del s.cl.holds t else SMap.put s.cl.holds t m1 } }
  s1.setRegN (Reg.TOLL_REFS t) (m1.length * 65536 + (m1.foldl (fun a x => a + x.2) 0) % 65536)

/-- A valid rule of an owner references tollgate t. -/
def State.tollUsed (s : State) (t o : Nat) : Bool :=
  s.cl.rules.any (fun x => ruleValid x.2 && ruleOwner x.2 == o && (u8 x.2 4 == 128 + t || u8 x.2 5 == 128 + t))

def tollAllocMeta : OpMeta := { opcode := 0x0503, cls := .d, lenOk := len 8, maxRes := 8, obj := ruleSet }

/-- The tollgate TOLL_ALLOC gives, and whether it is new; none: exhausted (R280-R282; the lowest free one is a
choice, log entry 23). -/
def State.tollPick (s : State) (o field lo hi : Nat) : Option (Nat × Bool) :=
  let hit := (List.range 96).find? (fun t =>
    s.regN (Reg.TOLL_CTRL t) == 2 ^ 31 + field && s.regN (Reg.TOLL_RANGE t) == hi * 65536 + lo)
  let full := o != 0 && decide (u8 (s.fn o).quota 5 ≤ s.tollCharge o)
  match hit with
  | some t => if s.tollHeld t o = 0 && full then none else some (t, false)
  | none => if full then none
      else ((List.range 96).find? (fun t => !s.flag (Reg.TOLL_CTRL t) 31)).map (fun t => (t, true))

def tollAllocBody : WbBody := fun w s =>
  let o := w.u16 0
  let field := w.u8 2
  let lo := w.u16 4
  let hi := w.u16 6
  if hi < lo ∨ 15 < field ∨ s.ownerExists o = false then fail .badParam s
  else match s.tollPick o field lo hi with
    | none =>
      let s1 := if s.cl.tollFailed then s else s.raise Ev.cl 0
      .done .tollgatesExhausted [] { s1 with cl := { s1.cl with tollFailed := true } }
    | some (t, new) =>
      let s0 := { s with cl := { s.cl with tollFailed := false } }
      let s1 := if new then
          (s0.setRegN (Reg.TOLL_RANGE t) (hi * 65536 + lo)).setCfg 6 (Reg.TOLL_CTRL t) (2 ^ 31 + field) else s0
      let s2 := s1.setHeld t o (s1.tollHeld t o + 1)
      let s3 := s2.setRegN Reg.CL_TOLL_FREE s2.tollFree
      .done .ok (leBytes 1 t ++ leBytes 1 (if new then 1 else 0) ++ leBytes 2 (s3.tollHeld t o) ++ leBytes 1 s3.tollFree
        ++ leBytes 1 (if o = 0 then 0 else s3.tollCharge o) ++ zeros 2) s3

def execTollAlloc (w : Waybill) (s : State) : Host.Outcome State Fault Refusal := waybillCmd tollAllocMeta tollAllocBody w s

def tollFreeMeta : OpMeta := { opcode := 0x0504, cls := .d, lenOk := len 4, maxRes := 4, obj := ruleSet }

def tollFreeBody : WbBody := fun w s =>
  let o := w.u16 0
  let t := w.u8 2
  let n := s.tollHeld t o
  if 95 < t ∨ n = 0 then fail .badParam s
  else if n = 1 && s.tollUsed t o then fail .busy s
  else
    let s1 := s.setHeld t o (n - 1)
    let s2 := if (s1.tollHolders t).isEmpty then
        (s1.setRegN (Reg.TOLL_RANGE t) 0).setCfg 6 (Reg.TOLL_CTRL t) 0 else s1
    .done .ok (leBytes 2 (n - 1) ++ zeros 2) (s2.setRegN Reg.CL_TOLL_FREE s2.tollFree)

def execTollFree (w : Waybill) (s : State) : Host.Outcome State Fault Refusal := waybillCmd tollFreeMeta tollFreeBody w s

def tollQueryMeta : OpMeta :=
  { opcode := 0x0505, cls := .r, lenOk := len 4, maxRes := 16, flaskMay := true, outside := fun _ w f => w.u16 0 != f }

def tollQueryBody : WbBody := fun w s =>
  let o := w.u16 0
  let pool := o == 0xFFFF
  if !pool && !s.ownerExists o then fail .badParam s
  else
    let held := fun (t : Nat) => if pool then s.flag (Reg.TOLL_CTRL t) 31 else s.tollHeld t o != 0
    let map := (List.range 96).foldl (fun n t => n + bitVal (held t) t) 0
    let own := !pool && o != 0
    .done .ok (leBytes 1 s.tollFree ++ leBytes 1 (if own then u8 (s.fn o).quota 5 else 0)
      ++ leBytes 1 (if own then s.tollCharge o else 0) ++ zeros 1 ++ leBytes 12 map) s

def execTollQuery (w : Waybill) (s : State) : Host.Outcome State Fault Refusal := waybillCmd tollQueryMeta tollQueryBody w s

/-! Action lists (R285-R287) -/

/-- An action's parameters are in range (R286). -/
def actRange (a : List Byte) : Bool :=
  match u8 a 0 with
  | 0x03 => decide (u16 a 1 < 4096)
  | 0x04 => decide (u16 a 1 < 32768)
  | 0x06 => decide (u8 a 1 < 16) && decide (u8 a 2 < 64)
  | 0x07 => decide (u8 a 3 ≤ 1) && decide (u8 a 4 ≤ 2) && decide (u8 a 5 ≤ 1)
  | 0x09 => decide (u16 a 1 < 16384) && decide (u8 a 3 ≤ 1)
  | 0x0A => decide (u8 a 1 < 16)
  | 0x0B => decide (u8 a 1 < 8) && decide (u8 a 2 ≤ 4)
  | 0x0C => decide (u16 a 1 < 2048)
  | 0x0D => decide (u8 a 1 ≤ 2)
  | 0x0E => decide (u16 a 1 < 2048)
  | 0x10 => decide (u8 a 1 < 8) && decide (u8 a 2 ≤ 2)
  | n => decide (n ≤ 0x12)

/-- What an action of a flask's list names is held by the flask (R287, 09 R310). -/
def State.actHeld (s : State) (o : Nat) (a : List Byte) : Bool :=
  match u8 a 0 with
  | 0x03 => u16 a 1 == o && ((u8 a 5).testBit 2 || (s.wqOf o (u16 a 3)).isSome)
  | 0x04 => (match s.tmq? (u16 a 1) with | some q => q.owner == o | none => false)
  | 0x05 => (match s.table? (u8 (s.lookupProfile (u8 a 1)) 0 % 64) with
      | some t => t.owner == 0 || t.owner == o
      | none => true)
  | 0x07 => (u16 a 1).testBit 14 || s.slotHeldBy (u16 a 1 % 16384) o
  | 0x09 => let r := (s.policer (u16 a 1)).rcd; u16 r 4 % 4096 == o && (u16 r 4).testBit 15
  | 0x0C => SMap.get? s.cl.tmplOwner (u16 a 1) == some o
  | 0x0E => SMap.get? s.cl.tmplOwner (u16 a 1) == some o
  | _ => true

/-- A valid rule with a key in a receive group references list l. -/
def State.rxRule (s : State) (l : Nat) : Bool :=
  s.cl.entries.any (fun e =>
    (u8 e.2 24).testBit 7 && (u8 (s.group (u8 e.2 24 % 64)) 64).testBit 1
      && (entryRules e.2).any (fun r => ruleValid (s.rule r) && ruleList (s.rule r) == l))

/-- The checks of R287 on a list record for list l. -/
def State.listBad (s : State) (l : Nat) (r : List Byte) : Bool :=
  let n := u8 r 4
  let acts := listActs r
  let ops := acts.map (fun a => u8 a 0)
  let o := listOwner r
  let cnt := fun (k : Nat) => (ops.filter (· == k)).length
  decide (8 < n) || acts.any (fun a => !actRange a)
    || [0x05, 0x06, 0x07, 0x08, 0x0A, 0x0B, 0x0C].any (fun k => decide (1 < cnt k)) || decide (2 < cnt 0x09)
    || (ops.dropLast).any (fun k => k == 0x06 || k == 0x08)
    || (acts.any (fun a => u8 a 0 == 0x07 && u8 a 4 == 2) && s.rxRule l)
    || (o != 0 && (acts.any (fun a => !s.actHeld o a)
        || (match listFallback r with | some b => listOwner (s.actList b) != o | none => false)))

def actionSetMeta : OpMeta := { opcode := 0x0506, cls := .d, lenOk := len 76, maxRes := 72, obj := ruleSet }

def actionSetBody : WbBody := fun w s =>
  let l := w.u16 0
  let r := w.bytes 4 72
  if 8191 < l ∨ s.listBad l r = true then fail .badParam s
  else .done .ok (s.actList l)
    (({ s with cl := { s.cl with lists := SMap.put s.cl.lists l r,
                                 badLists := s.cl.badLists.filter (· != l) } }).cfgWritten 6)

def execActionSet (w : Waybill) (s : State) : Host.Outcome State Fault Refusal := waybillCmd actionSetMeta actionSetBody w s

def actionReadMeta : OpMeta := { opcode := 0x0507, cls := .r, lenOk := len 4, maxRes := 72 }

def actionReadBody : WbBody := fun w s =>
  if 8191 < w.u16 0 then fail .badParam s else .done .ok (s.actList (w.u16 0)) s

def execActionRead (w : Waybill) (s : State) : Host.Outcome State Fault Refusal :=
  waybillCmd actionReadMeta actionReadBody w s

/-! Rules and key entries (R270, R276, R277) -/

/-- The candidate buckets of a masked key. -/
def clBuckets (seed g : Nat) (d : List Byte) : Nat × Nat :=
  (Config.clHash seed 0 g (leNat d) % 16384, Config.clHash seed 1 g (leNat d) % 16384)

/-- Way i holds no entry. -/
def wayFree (es : Recs) (i : Nat) : Bool := !(u8 (SMap.getD es i (zeros 32)) 24).testBit 7

/-- Put `e` into bucket b, moving entries on to their other bucket: how many moved, and the entries; none: no place within n
moves. -/
def clKick (seed key : Nat) : Nat → Recs → List Byte → Nat → Option (Nat × Recs)
  | 0, _, _, _ => none
  | n + 1, es, e, b =>
    match (List.range 4).find? (fun w => wayFree es (4 * b + w)) with
    | some w => some (0, SMap.put es (4 * b + w) e)
    | none =>
      let v := 4 * b + Config.clPlace seed key (n + 1) % 4
      let old := SMap.getD es v (zeros 32)
      let c := clBuckets seed (u8 old 24 % 64) (slice old 0 24)
      (clKick seed key n (SMap.put es v e) old (if b = c.1 then c.2 else c.1)).map (fun x => (x.1 + 1, x.2))

/-- Place a new entry: a free way of either candidate bucket, else by at most 32 relocations (R277). -/
def clPlaceEntry (seed : Nat) (es : Recs) (e : List Byte) : Option (Nat × Recs) :=
  let d := slice e 0 24
  let b := clBuckets seed (u8 e 24 % 64) d
  let free := ([4 * b.1, 4 * b.1 + 1, 4 * b.1 + 2, 4 * b.1 + 3] ++ [4 * b.2, 4 * b.2 + 1, 4 * b.2 + 2, 4 * b.2 + 3]).filter
    (wayFree es)
  match free with
  | [] => clKick seed (leNat d) 33 es e b.1
  | _ => some (0, SMap.put es (free.getD (Config.clPlace seed (leNat d) 0 % free.length) 0) e)

/-- The rule slots of an entry written from a list of rules. -/
def slotBytes (rs : List Nat) : List Byte :=
  (List.range 3).flatMap (fun i => match rs[i]? with | some r => leBytes 2 (r + 32768) | none => [0, 0])

/-- Insert a rule among an entry's, by priority, after those of equal priority. -/
def insertRule (prio : Nat → Nat) (r : Nat) : List Nat → List Nat
  | [] => [r]
  | x :: l => if prio x < prio r then r :: x :: l else x :: insertRule prio r l

/-- Put rule r on the masked key (g, d): relocations made and the entries; none: no place, or three rules there already. -/
def State.addKey (s : State) (r : Nat) (es : Recs) (g : Nat) (d : List Byte) : Option (Nat × Recs) :=
  match es.find? (fun e => entryIs e.2 g d) with
  | some e =>
    let rs := entryRules e.2
    if 3 ≤ rs.length then none
    else some (0, SMap.put es e.1 (patch e.2 26 (slotBytes (insertRule (fun i => rulePrio (s.rule i)) r rs))))
  | none => clPlaceEntry (s.regN Reg.CL_SEED) es
      (fit 24 d ++ [BitVec.ofNat 8 (128 + g), 0] ++ slotBytes [r])

/-- Put rule r on every key in turn. -/
def State.addKeys (s : State) (r : Nat) : List (Nat × List Byte) → Recs → Option (Nat × Recs)
  | [], es => some (0, es)
  | (g, d) :: l, es => match s.addKey r es g d with
    | none => none
    | some (n, es1) => (s.addKeys r l es1).map (fun x => (n + x.1, x.2))

/-- The counts of entries and rules follow; ENTRY_HIGH on passing 90% (R277). -/
def State.ruleCounts (s : State) : State :=
  let n := (s.cl.entries.filter (fun e => (u8 e.2 24).testBit 7)).length
  let r := (s.cl.rules.filter (fun x => ruleValid x.2)).length
  let s1 := (s.setRegN Reg.CL_ENTRIES n).setRegN Reg.CL_RULES r
  let hi := decide (58982 < n)
  let s2 := { s1 with cl := { s1.cl with high := hi } }
  if hi && !s.cl.high then s2.raise Ev.cl 4 else s2

/-- The keys of a RULE_ADD: group and masked key. -/
def State.ruleKeys (s : State) (w : Waybill) : List (Nat × List Byte) :=
  (List.range (w.u8 3)).map (fun i =>
    let g := w.u8 (20 + 68 * i)
    (g, fit 24 (compactKey (slice (s.group g) 0 64) (w.bytes (24 + 68 * i) 64))))

/-- A group can take keys: EN and a direction. -/
def State.groupOn (s : State) (g : Nat) : Bool :=
  let c := u8 (s.group g) 64
  decide (g < 48) && c.testBit 0 && bits c 2 1 != 0

/-- A list repeats an element. -/
def hasDup {α : Type} [DecidableEq α] : List α → Bool
  | [] => false
  | x :: l => l.contains x || hasDup l

/-- The owner holds the tollgate a reference names (R280). -/
def State.tollRefOk (s : State) (o ref : Nat) : Bool := !ref.testBit 7 || s.tollHeld (ref % 128) o != 0

/-- The rule record as stored, not yet VALID; reserved fields zero (00 R11). -/
def ruleRecord (r : List Byte) : List Byte :=
  slice r 0 2 ++ leBytes 2 (u16 r 2 % 4096 + bitVal ((u16 r 2).testBit 14) 14) ++ slice r 4 2
    ++ [BitVec.ofNat 8 (u8 r 6 % 4), 0] ++ leBytes 2 (u16 r 8 % 8192) ++ zeros 2 ++ slice r 12 4

/-- Set or clear VALID of a rule record. -/
def setValid (r : List Byte) (v : Bool) : List Byte := patch r 2 (leBytes 2 (setBits (u16 r 2) 15 15 (if v then 1 else 0)))

def ruleAddMeta : OpMeta :=
  { opcode := 0x0508, cls := .d, lenOk := fun n => decide (20 ≤ n), lenW := fun w => w.params.length == 20 + 68 * w.u8 3,
    maxRes := 4, obj := ruleSet }

/-- RULE_ADD: nothing of a rule that finds no place remains (R277). -/
def ruleAddBody : WbBody := fun w s =>
  let i := w.u16 0
  let rc := ruleRecord (w.bytes 4 16)
  let o := ruleOwner rc
  let keys := s.ruleKeys w
  let lo := listOwner (s.actList (ruleList rc))
  if 32767 < i ∨ w.u8 3 = 0 ∨ 32 < w.u8 3 ∨ ruleValid (s.rule i) = true ∨ keys.any (fun k => !s.groupOn k.1) = true
      ∨ s.tollRefOk o (u8 rc 4) = false ∨ s.tollRefOk o (u8 rc 5) = false ∨ (lo ≠ 0 ∧ lo ≠ o) ∨ hasDup keys = true then
    fail .badParam s
  else
    let s1 := { s with cl := { s.cl with rules := SMap.put s.cl.rules i rc } }
    match s1.addKeys i keys s1.cl.entries with
    | none => fail .noResource s
    | some (n, es) =>
      let s2 := { s1 with cl := { s1.cl with entries := es, rules := SMap.put s1.cl.rules i (setValid rc true),
                                             hits := SMap.del s1.cl.hits i,
                                             badRules := s1.cl.badRules.filter (· != i) } }
      .done .ok (leBytes 2 keys.length ++ leBytes 2 n) ((s2.ruleCounts).cfgWritten 6)

def execRuleAdd (w : Waybill) (s : State) : Host.Outcome State Fault Refusal := waybillCmd ruleAddMeta ruleAddBody w s

/-- Take rule r off an entry; an entry without rules is gone. -/
def dropRule (r : Nat) (e : Nat × List Byte) : Option (Nat × List Byte) :=
  let rs := (entryRules e.2).filter (· != r)
  if rs.isEmpty then none else some (e.1, patch e.2 26 (slotBytes rs))

/-- Remove rule r from every entry that points to it: how many, and the entries. -/
def dropRules (r : Nat) (es : Recs) : Nat × Recs :=
  ((es.filter (fun e => (entryRules e.2).contains r)).length,
   es.filterMap (fun e => if (entryRules e.2).contains r then dropRule r e else some e))

def ruleDeleteMeta : OpMeta := { opcode := 0x0509, cls := .d, lenOk := len 4, maxRes := 4, obj := ruleSet }

def ruleDeleteBody : WbBody := fun w s =>
  let i := w.u16 0
  if 32767 < i ∨ ruleValid (s.rule i) = false then fail .badParam s
  else
    let d := dropRules i s.cl.entries
    let touched := (s.cl.entries.filter (fun e => (entryRules e.2).contains i)).map (·.1)
    let s1 := { s with cl := { s.cl with
      rules := SMap.put s.cl.rules i (setValid (s.rule i) false), entries := d.2,
      badEntries := s.cl.badEntries.filter (fun x => !touched.contains x),
      badRules := s.cl.badRules.filter (· != i) } }
    .done .ok (leBytes 2 d.1 ++ zeros 2) ((s1.ruleCounts).cfgWritten 6)

def execRuleDelete (w : Waybill) (s : State) : Host.Outcome State Fault Refusal :=
  waybillCmd ruleDeleteMeta ruleDeleteBody w s

def ruleModifyMeta : OpMeta := { opcode := 0x050A, cls := .d, lenOk := len 8, maxRes := 16, obj := ruleSet }

/-- RULE_MODIFY: the list and HINTABLE; the rule's tollgates must still be its owner's (R280). -/
def ruleModifyBody : WbBody := fun w s =>
  let i := w.u16 0
  let old := s.rule i
  let l := w.u16 2 % 8192
  let o := ruleOwner old
  let lo := listOwner (s.actList l)
  if 32767 < i ∨ ruleValid old = false ∨ (lo ≠ 0 ∧ lo ≠ o) ∨ s.tollRefOk o (u8 old 4) = false
      ∨ s.tollRefOk o (u8 old 5) = false then fail .badParam s
  else
    let r := patch (patch old 2 (leBytes 2 (setBits (u16 old 2) 14 14 (w.u8 4 % 2)))) 8 (leBytes 2 l)
    let s1 := { s with cl := { s.cl with rules := SMap.put s.cl.rules i r, badRules := s.cl.badRules.filter (· != i) } }
    .done .ok old (s1.cfgWritten 6)

def execRuleModify (w : Waybill) (s : State) : Host.Outcome State Fault Refusal :=
  waybillCmd ruleModifyMeta ruleModifyBody w s

def ruleQueryMeta : OpMeta :=
  { opcode := 0x050B, cls := .r, lenOk := len 4, maxRes := 36, flaskMay := true,
    outside := fun s w f => !(ruleValid (s.rule (w.u16 0)) && ruleOwner (s.rule (w.u16 0)) == f) }

def ruleQueryBody : WbBody := fun w s =>
  let i := w.u16 0
  if 32767 < i then fail .badParam s
  else
    let h := SMap.getD s.cl.hits i (0, 0)
    .done .ok (s.rule i ++ leBytes 2 (dropRules i s.cl.entries).1 ++ zeros 2 ++ leBytes 8 h.1 ++ leBytes 8 h.2) s

def execRuleQuery (w : Waybill) (s : State) : Host.Outcome State Fault Refusal := waybillCmd ruleQueryMeta ruleQueryBody w s

/-! Parameters, sets, sessions, templates -/

/-- Change the classifier's exception rate of a direction. -/
def State.setClRate (s : State) (tx : Bool) (v : Nat) : State :=
  let a := if tx then Reg.CL_EXC_RATE_TX else Reg.CL_EXC_RATE_RX
  let b := if tx then s.cl.txBucket else s.cl.rxBucket
  let b1 := b.retune (s.regN a) v s.now
  ({ s with cl := if tx then { s.cl with txBucket := b1 } else { s.cl with rxBucket := b1 } }).setCfg 6 a v

def clSetParamsMeta : OpMeta := { opcode := 0x050C, cls := .d, lenOk := len 24, maxRes := 24, obj := ruleSet }

/-- CL_SET_PARAMS: BAD_PARAM for SNAP out of range or a QUEUE that is not a PF0 RX queue (log entry 24). -/
def clSetParamsBody : WbBody := fun w s =>
  let q := w.u16 10
  let snap := w.u16 8 % 128
  if snap = 0 ∨ 64 < snap ∨ (q ≠ 0xFFFF ∧ s.pf0RxQueue q = false) then fail .badParam s
  else
    let old := [Reg.CL_CTRL, Reg.CL_MISS, Reg.CL_EXC_CTRL, Reg.CL_EXC_RATE_RX, Reg.CL_EXC_RATE_TX].flatMap
      (fun a => leBytes 4 (s.regN a))
    let s1 := s.setCfg 6 Reg.CL_CTRL (setBits (w.u32 0) 30 16 0)
    let s2 := s1.setCfg 6 Reg.CL_MISS (setBits (setBits (w.u32 4) 30 29 0) 14 13 0)
    let s3 := s2.setCfg 6 Reg.CL_EXC_CTRL (q * 65536 + snap)
    .done .ok (old ++ zeros 4) ((s3.setClRate false (w.u32 12)).setClRate true (w.u32 16))

def execClSetParams (w : Waybill) (s : State) : Host.Outcome State Fault Refusal :=
  waybillCmd clSetParamsMeta clSetParamsBody w s

def engineSetDefineMeta : OpMeta := { opcode := 0x050D, cls := .d, lenOk := len 8, maxRes := 4, obj := ruleSet }

def engineSetDefineBody : WbBody := fun w s =>
  if 15 < w.u8 0 then fail .badParam s
  else
    let a := Reg.CL_ENGINE_SET (w.u8 0)
    .done .ok (leBytes 4 (s.regN a)) (s.setCfg 6 a (w.u32 4))

def execEngineSetDefine (w : Waybill) (s : State) : Host.Outcome State Fault Refusal :=
  waybillCmd engineSetDefineMeta engineSetDefineBody w s

def mirrorSetMeta : OpMeta := { opcode := 0x050E, cls := .d, lenOk := len 8, maxRes := 4, obj := ruleSet }

def mirrorSetBody : WbBody := fun w s =>
  let v := setBits (w.u32 4) 14 8 0
  let ok := if v.testBit 15 then s.pf0RxQueue (bits v 31 16) else (s.tmq? (bits v 31 16)).isSome
  if 15 < w.u8 0 ∨ ok = false then fail .badParam s
  else
    let a := Reg.CL_MIRROR (w.u8 0)
    .done .ok (leBytes 4 (s.regN a)) (s.setCfg 6 a v)

def execMirrorSet (w : Waybill) (s : State) : Host.Outcome State Fault Refusal := waybillCmd mirrorSetMeta mirrorSetBody w s

def templateSetMeta : OpMeta := { opcode := 0x050F, cls := .d, lenOk := len 132, maxRes := 0, obj := ruleSet }

def templateSetBody : WbBody := fun w s =>
  let t := w.u16 0
  if 2047 < t ∨ 4095 < w.u16 2 then fail .badParam s
  else .done .ok [] (({ s with cl := { s.cl with templates := SMap.put s.cl.templates t (w.bytes 4 128),
                                                 tmplOwner := SMap.put s.cl.tmplOwner t (w.u16 2) } }).cfgWritten 6)

def execTemplateSet (w : Waybill) (s : State) : Host.Outcome State Fault Refusal :=
  waybillCmd templateSetMeta templateSetBody w s

/-! Test and clear -/

def clTestMeta : OpMeta := { opcode := 0x0510, cls := .r, lenOk := len 132, maxRes := 24 }

/-- The toll vector of a summary. -/
def State.tollVector (s : State) (summary : List Byte) : Nat :=
  (List.range 96).foldl (fun n t => n + bitVal (s.tollIn summary t).1 t) 0

/-- CL_TEST: a pass 0 on the key and summary given. On a miss the action list, RULE_ID and group, and under a hint the group, are
not stated: free values (log entry 25). -/
def clTestBody : WbBody := fun w s =>
  if 1 < w.u8 0 then fail .badParam s
  else
    let key := w.bytes 4 64
    let sm := w.bytes 68 64
    let v := (s.classView []).classify (w.u8 0 == 1) key sm (w.u16 2)
    let d := s.draw
    let toll := leBytes 12 (s.tollVector sm)
    match v.1 with
    | none => .done .ok (leBytes 2 0xFFFF ++ leBytes 2 d.1 ++ leBytes 4 (d.1 / 2 ^ 16) ++ toll ++ leBytes 1 (d.1 / 2 ^ 48)
        ++ zeros 3) d.2
    | some (r, g) =>
      let rc := s.rule r
      let hd := leBytes 2 r ++ leBytes 2 (ruleList rc) ++ leBytes 4 (ruleId rc) ++ toll
      if g = noGroup then .done .ok (hd ++ leBytes 1 d.1 ++ zeros 3) d.2 else .done .ok (hd ++ leBytes 1 g ++ zeros 3) s

def execClTest (w : Waybill) (s : State) : Host.Outcome State Fault Refusal := waybillCmd clTestMeta clTestBody w s

def clClearMeta : OpMeta := { opcode := 0x0511, cls := .d, lenOk := len 4, maxRes := 0, canPend := true, obj := ruleSet }

/-- CL_CLEAR: every rule and key entry goes, then the seed is set; passes miss until the final reply (R304). -/
def clClearBody : WbBody := fun w s =>
  let s1 := { s with cl := { s.cl with
    rules := s.cl.rules.map (fun (x : Nat × List Byte) => (x.1, setValid x.2 false)), entries := [], hits := [], badEntries := [], badRules := [],
    clearing := true } }
  .pend .clClear 20000000 (some ⟨.ruleSet, 0⟩) ((s1.setCfg 6 Reg.CL_SEED (w.u32 0)).ruleCounts)

def execClClear (w : Waybill) (s : State) : Host.Outcome State Fault Refusal := waybillCmd clClearMeta clClearBody w s

/-- CL_CLEAR_DONE (R304): the final reply. -/
def execClClearDone (s : State) : Host.Outcome State Fault Refusal :=
  finish (if s.cl.clearing then
      ({ s with cl := { s.cl with clearing := false } }).completeWait .clClear .ok [] else s)

end Sys2Proof.Machine
end

