-- ==== Sys2Proof/Machine/OpsFault.lean ====
section
/-!
DEFINITION. Faults of retirable parts: transient and permanent, retirement, capacity (19 R611-R614, R622; 06 R222).
-/

namespace Sys2Proof.Machine

open Sys2Proof

/-- The unit a part belongs to (R622); an SRAM row is reported under its array's unit by its caller. -/
def partUnit (p : Part) : Nat :=
  if p.kind = 1 then 21 + p.index / 16
  else if p.kind = 2 then 9 + p.index / 32
  else if p.kind = 3 then 19
  else if p.kind = 4 then 53
  else if p.kind = 5 then 15 + p.index / 4
  else 53

/-- FAULT_COUNT and FAULT_WINDOW_MS as they act (R621). -/
def State.faultCount (s : State) : Nat := max 2 (s.fld Reg.FT_CTRL 3 0)
def State.faultWindow (s : State) : Nat := min 60000 (max 10 (s.fld Reg.FT_CTRL 31 16)) * 1000000

/-- A log entry about a part (R608 kinds 0x10-0x13). -/
def State.logPart (s : State) (kind u sev : Nat) (data : List Byte) : State := s.logKind (unitRange u) kind u sev 0 data

/-- A hardware fault of a part (R612): whether it makes the part permanent. -/
def State.faultOf (s : State) (p : Part) (u cause : Nat) : Bool × State :=
  let recent := s.tally.faults.filter (fun x => x.1 != p || decide (s.now < x.2 + s.faultWindow))
  let n := (recent.filter (fun x => x.1 == p)).length + 1
  if s.faultCount ≤ n then
    (true, { s with tally := { s.tally with faults := recent.filter (fun x => x.1 != p) } })
  else
    let s1 := { s with tally := { s.tally with faults := recent ++ [(p, s.now)] } }
    (false, (s1.bump Reg.FT_TRANSIENT).logPart 0x10 u 1
      (leBytes 1 p.kind ++ leBytes 2 p.index ++ leBytes 1 n ++ leBytes 1 cause))

/-- A part is retired (R612, R613): counted, recorded for the health sector, logged and raised. -/
def State.markRetired (s : State) (p : Part) (u reason : Nat) : State :=
  let s1 := { s with tally := { s.tally with retired := s.tally.retired ++ [p], health := s.tally.health ++ [p] } }
  let s2 := (s1.bump Reg.FT_PERMANENT).setRegN Reg.FT_LAST (p.kind * 2 ^ 24 + p.index % 2 ^ 24)
  (s2.logPart 0x11 u 2 (leBytes 1 p.kind ++ leBytes 2 p.index ++ leBytes 1 reason)).raise Ev.tl 5

/-- A part is retired. -/
def State.isRetired (s : State) (p : Part) : Bool := s.tally.retired.contains p

/-- A reserve part takes a retired one's place (R608 kind 0x12). -/
def State.logReserve (s : State) (kind old new u : Nat) : State :=
  (s.logPart 0x12 u 0 (leBytes 1 kind ++ leBytes 2 old ++ leBytes 2 new)).raise Ev.tl 6

/-- Capacity is lost for good; `last`: no part of the kind is left (R608 kind 0x13). -/
def State.logDegraded (s : State) (kind u : Nat) (last : Bool) : State :=
  (s.logPart 0x13 u (if last then 3 else 1) (leBytes 1 kind ++ leBytes 4 (s.regN Reg.FT_CAP))).raise Ev.tl 7

/-- Retirements of one unit run one at a time (R613): a retirement of unit u is running. -/
def State.retiring (s : State) (u : Nat) : Bool := s.tally.running.any (fun r => partUnit r.part == u)

/-- A retirement begins, or waits behind another of its unit (R613). -/
def State.queueRetire (s : State) (p : Part) (reason : Nat) : State :=
  if s.tally.queue.any (fun r => r.part == p) then s
  else { s with tally := { s.tally with queue := s.tally.queue ++ [{ part := p, reason := reason }] } }

/-- Mark a retirement as running. -/
def State.beginRetire (s : State) (p : Part) (reason : Nat) : State :=
  { s with tally := { s.tally with running := s.tally.running ++ [{ part := p, reason := reason }] } }

/-- The running retirement of unit u ends, and a RESERVE_RETIRE that asked for it is final (R624). -/
def State.endRetire (s : State) (u : Nat) : State :=
  let s1 := { s with tally := { s.tally with running := s.tally.running.filter (fun r => partUnit r.part != u) } }
  (s.tally.running.filter (fun r => partUnit r.part == u)).foldl
    (fun (t : State) r => t.completeWait (.reserveRetire r.part.kind r.part.index) .ok []) s1

/-- The next waiting retirement of unit u. -/
def State.nextRetire (s : State) (u : Nat) : Option Retirement × State :=
  match s.tally.queue.find? (fun r => partUnit r.part == u) with
  | none => (none, s)
  | some r => (some r, { s with tally := { s.tally with queue := s.tally.queue.filter (fun x => x.part != r.part) } })

/-- A replay after a fault counts in the entry's record and in LG_REPLAYS, and raises REPLAY (R222). -/
def State.countReplay (s : State) (entry : Option (Nat × Nat)) : State :=
  let s1 := match entry with
    | some (g, i) => s.modEntry g i (fun e => { e with replays := min 7 (e.replays + 1) })
    | none => s
  (s1.bump Reg.LG_REPLAYS).raise Ev.lg 5

end Sys2Proof.Machine
end

