-- ==== Sys2Proof/Machine/OpsCipher.lean ====
section
/-!
DEFINITION. The framings of the cipher complexes: ESP, TLS records, MACsec, storage units; dispatch and return of segments
(11 R368-R391).
-/

namespace Sys2Proof.Machine

open Sys2Proof

/-! Slot records (R392) -/

def KeySlot.framing (k : KeySlot) : Nat := u8 k.rcd 2
def KeySlot.authMode (k : KeySlot) : Bool := (u8 k.rcd 3).testBit 0
def KeySlot.esn (k : KeySlot) : Bool := (u8 k.rcd 3).testBit 1
def KeySlot.tunnel (k : KeySlot) : Bool := (u8 k.rcd 3).testBit 2
def KeySlot.xtsPair (k : KeySlot) : Bool := (u8 k.rcd 3).testBit 3
def KeySlot.icv (k : KeySlot) : Nat := u8 k.rcd 5
def KeySlot.spi (k : KeySlot) : Nat := u32 k.rcd 8
def KeySlot.window (k : KeySlot) : Nat := u32 k.rcd 12
def KeySlot.nonceBase (k : KeySlot) : List Byte := slice k.rcd 16 12
def KeySlot.seqNo (k : KeySlot) : Nat := u64 k.rcd 32
def KeySlot.softSeq (k : KeySlot) : Nat := u64 k.rcd 40
def KeySlot.sci (k : KeySlot) : Nat := u64 k.rcd 48

/-- Store SEQ. -/
def KeySlot.setSeq (k : KeySlot) (n : Nat) : KeySlot := { k with rcd := patch k.rcd 32 (leBytes 8 n) }

/-- Store TCP_NEXT. -/
def KeySlot.setTcp (k : KeySlot) (n : Nat) : KeySlot := { k with rcd := patch k.rcd 12 (leBytes 4 n) }

/-- The last number a slot can assign or use (R386). -/
def KeySlot.lastSeq (k : KeySlot) : Nat := if k.framing = 2 ∧ k.esn = false then 0xFFFFFFFF else 2 ^ 64 - 1

/-- SEQ has come to a new value: KEY_SOFT is raised once when it reaches SOFT_SEQ (R386). -/
def State.seqMoved (s : State) (c slot : Nat) : State :=
  let k := s.keySlot slot
  if k.softSeq ≠ 0 ∧ k.softSeq ≤ k.seqNo ∧ k.soft = false then
    ((s.setKeySlot slot { k with soft := true }).setRegN (Reg.CX_LAST_SLOT c) slot).raise (Ev.cx c) 5
  else s

/-- A slot has used its last number: SEQ_EXHAUSTED is raised once (R386). -/
def State.seqEnded (s : State) (c slot : Nat) : State :=
  let k := s.keySlot slot
  if k.exhausted then s
  else ((s.setKeySlot slot { k with exhausted := true }).setRegN (Reg.CX_LAST_SLOT c) slot).raise (Ev.cx c) 6

/-- Assign the slot's next number (R386): none when the last one was assigned before. -/
def State.assignSeq (s : State) (c slot : Nat) : Option Nat × State :=
  let k := s.keySlot slot
  let n := k.seqNo
  if k.exhausted || decide (k.lastSeq < n) then (none, s)
  else if n = k.lastSeq then (some n, (s.seqEnded c slot).seqMoved c slot)
  else (some n, (s.setKeySlot slot (k.setSeq (n + 1))).seqMoved c slot)

/-! Results of a framing -/

/-- How a segment's processing ends. -/
inductive CxOut where
  | ok
  | format
  | replay
  | seqEnd
  | auth (reason seq : Nat)
  | pass
  deriving DecidableEq, Repr

/-- The frame and the slot after a framing; `resync`: TLS_RESYNC is raised. -/
structure CxRes where
  out : CxOut
  f : Frame
  k : KeySlot
  resync : Bool := false

/-- Bytewise exclusive or. -/
def xorBytes (a b : List Byte) : List Byte := List.zipWith (· ^^^ ·) a b

/-- The end of the innermost IP datagram of a frame. -/
def ipEnd (f : Frame) : Option Nat :=
  let o := f.ps.l3Off
  if o = 0xFFFF ∨ f.ps.l3 = 0 then none
  else
    let e := if f.ps.l3 = 1 then o + be16 f.bytes (o + 2) else o + 40 + be16 f.bytes (o + 4)
    if e ≤ f.bytes.length then some e else none

/-- Set the protocol or next header field of the innermost IP header, its length field for a datagram that ends at e, and its IPv4
checksum. -/
def setIp (f : Frame) (b : List Byte) (proto e : Nat) : List Byte :=
  let o := f.ps.l3Off
  if f.ps.l3 = 1 then fixIpv4 (setBe16 (patch b (o + 9) [BitVec.ofNat 8 proto]) (o + 2) (e - o)) o
  else setBe16 (patch b (o + 6) [BitVec.ofNat 8 proto]) (o + 4) (e - o - 40)

/-! ESP (R374-R376) -/

/-- The 64-bit number of a received ESP header: with ESN the high half is inferred from the window (RFC 4303 Appendix A). -/
def KeySlot.espSeq (k : KeySlot) (lo : Nat) : Nat :=
  if !k.esn then lo
  else
    let w := max 1 k.window
    let tl := k.seqNo % 2 ^ 32
    let th := k.seqNo / 2 ^ 32
    let bottom := (tl + 2 ^ 32 - (w - 1)) % 2 ^ 32
    let hi := if w - 1 ≤ tl then (if bottom ≤ lo then th else th + 1)
      else (if bottom ≤ lo then th + 2 ^ 32 - 1 else th)
    hi % 2 ^ 32 * 2 ^ 32 + lo

/-- A number fails the anti-replay check: below the window, or marked in it (R376). -/
def KeySlot.replayed (k : KeySlot) (n : Nat) : Bool :=
  k.window != 0 && decide (n ≤ k.seqNo) && (decide (k.window ≤ k.seqNo - n) || k.win.testBit (k.seqNo - n))

/-- The window after number n has verified. -/
def KeySlot.verified (k : KeySlot) (n : Nat) : KeySlot :=
  let w := max 1 k.window
  if k.seqNo < n then
    { k.setSeq n with win := if w ≤ n - k.seqNo then 1 else (k.win <<< (n - k.seqNo) ||| 1) % 2 ^ w }
  else { k with win := k.win ||| 2 ^ (k.seqNo - n) }

/-- The associated data of an ESP packet (RFC 4106). -/
def espAad (k : KeySlot) (spi n : Nat) : List Byte :=
  beBytes 4 spi ++ (if k.esn then beBytes 8 n else beBytes 4 n)

/-- ESP_IN. -/
def espIn (f : Frame) (k : KeySlot) : CxRes :=
  let o := f.ps.espOff
  match ipEnd f with
  | none => { out := .format, f := f, k := k }
  | some e =>
    if o = 0xFFFF ∨ e < o + 18 + k.icv then { out := .format, f := f, k := k }
    else
      let b := f.bytes
      let spi := beNat (slice b o 4)
      let n := k.espSeq (beNat (slice b (o + 4) 4))
      if spi = k.spi ∧ k.replayed n then { out := .replay, f := f, k := k }
      else
        let ctx := slice b (o + 16) (e - k.icv - o - 16)
        let r := gcmOpen k.key (k.nonceBase.take 4 ++ slice b (o + 8) 8) (espAad k spi n) ctx
        let good := r.2.take k.icv == slice b (e - k.icv) k.icv
        let m := r.1.length
        let pad := u8 r.1 (m - 2)
        let body := r.1.take (m - 2 - pad)
        let e1 := o + body.length
        let b1 := b.take o ++ body ++ b.drop e
        let b2 := if k.tunnel then b1 else setIp f b1 (u8 r.1 (m - 1)) e1
        if spi ≠ k.spi then { out := .auth 2 n, f := { f with bytes := b2 }, k := k }
        else if !good then { out := .auth 1 n, f := { f with bytes := b2 }, k := k }
        else if m < pad + 2 then { out := .format, f := f, k := k.verified n }
        else { out := .ok, f := { f with bytes := b2, decrypted := true }, k := k.verified n }

/-- ESP_OUT's next header, when the frame has the header it works on (R375). -/
def espNext (f : Frame) (k : KeySlot) : Option (Nat × Nat) :=
  let i := f.ps.slots.getD (u8 k.rcd 6 % 8) 0xFFFF
  let b := f.bytes
  if i = 0xFFFF ∨ b.length ≤ i then none
  else if k.tunnel then
    (if u8 b i / 16 = 4 then some (i, 4) else if u8 b i / 16 = 6 then some (i, 41) else none)
  else
    let l3 := f.ps.l3Off
    if l3 = 0xFFFF ∨ i ≤ l3 then none
    else if f.ps.l3 = 1 then some (i, u8 b (l3 + 9))
    else if f.ps.l3 = 2 then some (i, u8 b (l3 + 6))
    else none

/-- ESP_OUT with number n. -/
def espOut (f : Frame) (k : KeySlot) (n : Nat) : CxRes :=
  match espNext f k with
  | none => { out := .format, f := f, k := k }
  | some (i, nh) =>
    let b := f.bytes
    let body := b.drop i
    let pad := (4 - (body.length + 2) % 4) % 4
    let pt := body ++ (List.range pad).map (fun j => BitVec.ofNat 8 (j + 1)) ++ leBytes 1 pad ++ leBytes 1 nh
    let iv := beBytes 8 n
    let r := gcmSeal k.key (k.nonceBase.take 4 ++ iv) (espAad k k.spi n) pt
    let b1 := b.take i ++ beBytes 4 k.spi ++ beBytes 4 n ++ iv ++ r.1 ++ r.2.take k.icv
    let b2 := if k.tunnel then b1 else setIp f b1 50 b1.length
    let g := f.move (growOff i 16)
    { out := .ok, f := { g with bytes := b2 }, k := k }

/-! TLS records (R377, R378) -/

/-- The TCP sequence, the offset and the length of the TCP payload of the innermost L4 header. -/
def tcpSpan (f : Frame) : Option (Nat × Nat × Nat) :=
  match ipEnd f with
  | none => none
  | some e =>
    let o := f.ps.l4Off
    if f.ps.l4 ≠ 1 ∨ o = 0xFFFF then none
    else
      let p := o + 4 * (u8 f.bytes (o + 12) / 16)
      if p < o + 20 ∨ e < p then none else some (beNat (slice f.bytes (o + 4) 4), p, e - p)

/-- The records found from offset p up to the end e of a payload. -/
inductive TlsWalk where
  | whole (recs : List (Nat × Nat))
  | cut (recs : List (Nat × Nat)) (next : Nat)
  | bad (recs : List (Nat × Nat))
  deriving DecidableEq, Repr

/-- Add a record in front. -/
def TlsWalk.cons (r : Nat × Nat) : TlsWalk → TlsWalk
  | .whole l => .whole (r :: l)
  | .cut l n => .cut (r :: l) n
  | .bad l => .bad (r :: l)

/-- Walk record headers: offset and length of each record; a header past the end, or a record that runs past it, cuts the walk. -/
def tlsWalk (b : List Byte) (e : Nat) : Nat → Nat → TlsWalk
  | 0, p => .cut [] p
  | n + 1, p =>
    if e ≤ p then .whole []
    else if e < p + 5 then .cut [] p
    else
      let l := be16 b (p + 3)
      if u8 b p ≠ 23 ∨ be16 b (p + 1) ≠ 0x0303 ∨ 16640 < l then .bad []
      else if e < p + 5 + l then (TlsWalk.cut [] (p + 5 + l)).cons (p, l)
      else (tlsWalk b e n (p + 5 + l)).cons (p, l)

/-- The nonce of record n (RFC 8446). -/
def tlsNonce (k : KeySlot) (n : Nat) : List Byte := xorBytes k.nonceBase (beBytes 12 n)

/-- Encrypt records in place from record number n on. -/
def tlsSeal (k : KeySlot) : List (Nat × Nat) → Nat → List Byte → List Byte
  | [], _, b => b
  | (p, l) :: r, n, b =>
    let x := gcmSeal k.key (tlsNonce k n) (slice b p 5) (slice b (p + 5) (l - 16))
    tlsSeal k r (n + 1) (patch b (p + 5) (x.1 ++ x.2))

/-- Decrypt records in place from record number n on: the frame, and the first record number whose tag fails. -/
def tlsOpen (k : KeySlot) : List (Nat × Nat) → Nat → List Byte → List Byte × Option Nat
  | [], _, b => (b, none)
  | (p, l) :: r, n, b =>
    let x := gcmOpen k.key (tlsNonce k n) (slice b p 5) (slice b (p + 5) (l - 16))
    let good := decide (17 ≤ l) && x.2 == slice b (p + 5 + (l - 16)) 16
    let y := tlsOpen k r (n + 1) (patch b (p + 5) x.1)
    (y.1, if good then y.2 else some n)

/-- TLS_OUT. -/
def tlsOut (f : Frame) (k : KeySlot) : CxRes :=
  match tcpSpan f with
  | none => { out := .format, f := f, k := k }
  | some (sq, p, n) =>
    match tlsWalk f.bytes (p + n) 16384 p with
    | .whole recs =>
      if recs.isEmpty ∨ recs.any (fun r => decide (r.2 < 17)) ∨ sq ≠ k.window then { out := .format, f := f, k := k }
      else if k.exhausted ∨ 2 ^ 64 < k.seqNo + recs.length then { out := .seqEnd, f := f, k := k }
      else
        let g := { f with bytes := tlsSeal k recs k.seqNo f.bytes }
        { out := .ok, f := if f.csum then csumFill g else g, k := (k.setSeq (k.seqNo + recs.length)).setTcp ((sq + n) % 2 ^ 32) }
    | _ => { out := .format, f := f, k := k }

/-- a is at or before b in TCP sequence arithmetic. -/
def seqLe (a b : Nat) : Bool := decide ((b + 2 ^ 32 - a % 2 ^ 32) % 2 ^ 32 < 2 ^ 31)

/-- TLS_IN. -/
def tlsIn (f : Frame) (k : KeySlot) : CxRes :=
  match tcpSpan f with
  | none => { out := .format, f := f, k := k }
  | some (sq, p, n) =>
    let e := p + n
    let next := k.window
    let asIs : CxRes := { out := .pass, f := f, k := k }
    let broken := fun (seq : Nat) (b : List Byte) =>
      ({ out := .auth 3 seq, f := { f with bytes := b }, k := { k with resync := true }, resync := !k.resync } : CxRes)
    let count := fun (recs : List (Nat × Nat)) (nxt : Nat) =>
      (k.setSeq (k.seqNo + recs.length)).setTcp (nxt % 2 ^ 32)
    if k.resync then asIs
    else
      let walk := tlsWalk f.bytes e 16384
      let onward := fun (from_ : Nat) => match walk from_ with
        | .whole recs => { asIs with k := count recs (sq + n) }
        | .cut recs nxt => { asIs with k := count recs (sq + (nxt - p)) }
        | .bad recs => broken (k.seqNo + recs.length) f.bytes
      if sq = next ∧ 0 < n then
        match walk p with
        | .whole recs =>
          if k.exhausted ∨ 2 ^ 64 < k.seqNo + recs.length then { out := .seqEnd, f := f, k := k }
          else
            let x := tlsOpen k recs k.seqNo f.bytes
            (match x.2 with
             | none => { out := .ok, f := { f with bytes := x.1, decrypted := true, csumRes := some (csumFlags f) },
                         k := count recs (sq + n) }
             | some bad =>
               { out := .auth 1 bad, f := { f with bytes := x.1, csumRes := some (csumFlags f) },
                 k := { k with resync := true }, resync := true })
        | _ => onward p
      else if seqLe sq next ∧ !seqLe (sq + n) next then onward (p + (next + 2 ^ 32 - sq) % 2 ^ 32)
      else if seqLe (sq + n) next then asIs
      else { asIs with k := { k with resync := true }, resync := true }

/-! MACsec (R379, R380) -/

/-- The XPN nonce: SSCI and packet number, exclusive or with the salt. -/
def macsecNonce (k : KeySlot) (pn : Nat) : List Byte := xorBytes k.nonceBase (beBytes 4 k.spi ++ beBytes 8 pn)

/-- MACSEC_OUT with packet number pn: SecTAG with the SCI, ciphertext, ICV. -/
def macsecOut (k : KeySlot) (b : List Byte) (pn : Nat) : List Byte :=
  let pt := b.drop 12
  let tag := beBytes 2 0x88E5 ++ leBytes 1 (0x2C + u8 k.rcd 7 % 4) ++ leBytes 1 (if pt.length < 48 then pt.length else 0)
    ++ beBytes 4 pn ++ beBytes 8 k.sci
  let head := b.take 12 ++ tag
  let r := gcmSeal k.key (macsecNonce k pn) head pt
  head ++ r.1 ++ r.2

/-- The fields of a SecTAG after an EtherType at 12: TCI and AN, SL, packet number, SCI, where the secure data begins. -/
def secTag (b : List Byte) : Nat × Nat × Nat × Option Nat × Nat :=
  let tci := u8 b 14
  let sc := tci.testBit 5
  (tci, u8 b 15 % 64, beNat (slice b 16 4), if sc then some (beNat (slice b 20 8)) else none, if sc then 28 else 20)

/-- The packet number of a received frame: the high half from the lowest acceptable number (IEEE 802.1AE XPN). -/
def KeySlot.pnOf (k : KeySlot) (lo : Nat) : Nat :=
  let low := k.seqNo + 1 - k.window
  let hi := low / 2 ^ 32
  (if (low % 2 ^ 32).testBit 31 && !lo.testBit 31 then hi + 1 else hi) * 2 ^ 32 + lo

/-- MACSEC_IN: how it ends, the frame without SecTAG and ICV, and the slot. -/
def macsecIn (k : KeySlot) (b : List Byte) : CxOut × List Byte × KeySlot :=
  let t := secTag b
  let start := t.2.2.2.2
  let fin := if t.2.1 = 0 then b.length - 16 else start + t.2.1
  if t.1.testBit 7 ∨ t.1.testBit 3 = false ∨ t.1.testBit 2 = false ∨ fin < start + 1 ∨ b.length < fin + 16 then (.format, b, k)
  else
    let pn := k.pnOf t.2.2.1
    if pn + k.window < k.seqNo + 1 then (.replay, b, k)
    else
      let r := gcmOpen k.key (macsecNonce k pn) (b.take start) (slice b start (fin - start))
      if r.2 == slice b fin 16 then (.ok, b.take 12 ++ r.1, if k.seqNo < pn then k.setSeq pn else k) else (.auth 1 pn, b, k)

/-! Storage extents (R381) -/

/-- One data unit at a virtual LBA under an XTS slot. -/
def xtsUnit (k : KeySlot) (enc : Bool) (lba : Nat) (d : List Byte) : List Byte :=
  xts enc (k.key.take 32) (k.key.drop 32) (leBytes 16 (k.seqNo + lba)) d

/-- The units of a block command, one logical block each. -/
def xtsBlocks (k : KeySlot) (enc : Bool) (size : Nat) : Nat → Nat → List Byte → List Byte
  | 0, _, _ => []
  | n + 1, lba, d => xtsUnit k enc lba (slice d 0 size) ++ xtsBlocks k enc size n (lba + 1) (d.drop size)

/-! Segments of frames (R383-R391) -/

/-- The framing a CIPHER action needs. -/
def CxJob.want (j : CxJob) : Nat :=
  if j.framing = 0 then (if j.encrypt then 2 else 1) else if j.framing = 1 then (if j.encrypt then 4 else 3) else 8

/-- Bytes a framing puts through the lanes. -/
def cipherLen (f : Frame) (k : KeySlot) : Nat :=
  if k.framing = 1 then (match ipEnd f with | some e => e - f.ps.espOff - 16 - k.icv | none => 0)
  else if k.framing = 2 then (match espNext f k with | some (i, _) => ceilDiv (f.bytes.length - i + 2) 4 * 4 | none => 0)
  else (match tcpSpan f with | some (_, _, n) => n | none => 0)

/-- Count a segment of n bytes against a slot (R401, R404; 19 R603). -/
def State.countSegment (s : State) (c slot n : Nat) : State :=
  let k := s.keySlot slot
  let s1 := s.setKeySlot slot { k with frames := k.frames + 1, bytes := k.bytes + n }
  ((s1.bump64 (Reg.CX_SEGMENTS c) 1).bump64 (Reg.CX_BLOCKS c) (ceilDiv n 16)).flaskCnt k.owner
    (fun x => { x with cipherBytes := x.cipherBytes + n })

/-- A frame leaves the complex by being dropped. -/
def State.cxDrop (s : State) (a h : Nat) : State := (s.bump a).dropFrame h

/-- A replayed frame's entry notes it (06 R222). -/
def State.replayFrame (s : State) (f : Frame) : State := s.countReplay f.entry

/-- A lane takes frame h: checks of R373 and R391, the number of R386; a frame replayed after a lane fault keeps its slot as it stood,
and takes a new number for ESP_OUT (R388, R389). -/
def State.dispatchNet (s : State) (c lane h : Nat) : State :=
  match s.frame? h with
  | none => s
  | some f => match f.job with
    | none => s
    | some j =>
      let k := j.snap.getD (s.keySlot j.slot)
      let again := j.snap.isSome
      let go := fun (t : State) (n : Nat) =>
        let t1 := if again then t else t.countSegment c j.slot (cipherLen f k)
        (t1.setFrame h { f with job := some { j with snap := some k, seq := n } }).setComplex c
          { t1.complex c with lanes := SMap.put (t1.complex c).lanes lane (.net h) }
      if !again && (k.st != 2 || k.owner != f.owner) then s.cxDrop (Reg.CX_NO_KEY c) h
      else if k.framing ≠ j.want then s.cxDrop (Reg.CX_FORMAT_DROP c) h
      else if k.framing = 2 then
        if (espNext f k).isNone then s.cxDrop (Reg.CX_FORMAT_DROP c) h
        else match s.assignSeq c j.slot with
          | (none, t) => t.cxDrop (Reg.CX_SEQ_DROP c) h
          | (some n, t) => go t n
      else go s j.seq

/-- The framing at work. -/
def cipherRun (f : Frame) (k : KeySlot) (n : Nat) : CxRes :=
  if k.framing = 1 then espIn f k else if k.framing = 2 then espOut f k n
  else if k.framing = 3 then tlsIn f k else tlsOut f k

/-- The tag result of R387. -/
def tagResult (slot framing reason seq : Nat) : List Byte :=
  leBytes 2 slot ++ leBytes 1 framing ++ leBytes 1 reason ++ zeros 4 ++ leBytes 8 seq

/-- A frame's segment returns to the pipeline (R385): the slot moves with it unless a new key was loaded meanwhile, and the action list goes
on, or the frame is dropped, or delivered flagged (08 R292; R387). -/
def State.cipherFinish (s : State) (h : Nat) (f : Frame) (j : CxJob) : State :=
  let snap := j.snap.getD {}
  let live := s.keySlot j.slot
  let same := live.gen == snap.gen
  let keepWin := if snap.framing = 3 ∨ snap.framing = 4 then u32 live.rcd 12 else snap.window
  let base := if same then
      { live with st := 2, key := snap.key, rcd := patch (patch live.rcd 3 [BitVec.ofNat 8 (u8 snap.rcd 3)]) 12 (leBytes 4 keepWin) }
    else snap
  let r := cipherRun f base j.seq
  let s1 := if !same || snap.framing = 2 then s else
    let rc := patch live.rcd 32 (leBytes 8 r.k.seqNo)
    let rc1 := if snap.framing = 1 then rc else patch rc 12 (leBytes 4 (u32 r.k.rcd 12))
    let s2 := s.setKeySlot j.slot { live with rcd := rc1, win := r.k.win, resync := r.k.resync }
    let s3 := if decide (2 ^ 64 ≤ live.seqNo + (r.k.seqNo + 2 ^ 64 - live.seqNo) % 2 ^ 64) then s2.seqEnded j.complex j.slot
      else s2
    s3.seqMoved j.complex j.slot
  let s4 := if r.resync then (s1.setRegN (Reg.CX_LAST_SLOT j.complex) j.slot).raise (Ev.cx j.complex) 7 else s1
  let note := fun (t : State) (u : KeySlot → KeySlot) => if same then t.setKeySlot j.slot (u (t.keySlot j.slot)) else t
  let on := fun (g : Frame) (t : State) => t.runActs actFuel h { g with stage := .enqueue, job := none } []
  match r.out with
  | .ok => on r.f s4
  | .pass => on f (s4.bump (Reg.CX_TLS_PASS j.complex))
  | .format => s4.cxDrop (Reg.CX_FORMAT_DROP j.complex) h
  | .seqEnd => s4.cxDrop (Reg.CX_SEQ_DROP j.complex) h
  | .replay =>
    (note s4 (fun k => { k with replayDrops := k.replayDrops + 1 })).cxDrop (Reg.CX_REPLAY_DROP j.complex) h
  | .auth reason seq =>
    let s5 := (note s4 (fun k => { k with authFails := k.authFails + 1 })).bump (Reg.CX_AUTH_FAIL j.complex)
    let host := match f.dest with | some (.queue _) => true | _ => false
    if j.onFail = 1 ∧ host = true then
      let g := if snap.authMode then { r.f with authFail := cAuthUntrusted, decrypted := false }
        else { f with authFail := cAuthFail, decrypted := false, edits := [], csumRes := some 0,
                      bytes := tagResult j.slot snap.framing reason seq }
      s5.setFrame h { g with stage := .enqueue, job := none, cont := {} }
    else s5.cxDrop Reg.CL_AUTH_DROP h

/-- Frames from one ingress port, or of one work queue, share a source (R385). -/
def Frame.sameSource (a b : Frame) : Bool :=
  match a.entry, b.entry with
  | some x, some y => x.1 == y.1
  | none, none => a.src == b.src
  | _, _ => false

/-- The first frame of a complex that may return: done, and no earlier frame of its source in the complex (R385). -/
def State.cxReturn (s : State) (order : List Nat) : Option Nat :=
  let rec go : List Nat → List Frame → Option Nat
    | [], _ => none
    | h :: r, seen => match s.frame? h with
      | none => go r seen
      | some f => match f.stage, f.job with
        | .cipher, some j =>
          if j.ready && !(seen.any (fun x => x.sameSource f)) then some h else go r (seen ++ [f])
        | _, _ => go r seen
  go order []

/-- Return every frame that may return, in order. -/
def State.cxRelease (s : State) (c : Nat) : Nat → State
  | 0 => s
  | n + 1 =>
    let x := s.complex c
    match s.cxReturn x.order with
    | none => s
    | some h => match s.frame? h with
      | none => s
      | some f => match f.job with
        | none => s
        | some j => ((s.setComplex c { x with order := x.order.filter (· != h) }).cipherFinish h f j).cxRelease c n

/-- A frame's segment leaves its lane. -/
def State.laneNetDone (s : State) (c h : Nat) : State :=
  match s.frame? h with
  | none => s
  | some f => match f.stage, f.job with
    | .cipher, some j =>
      let s1 := s.setFrame h { f with job := some { j with ready := true } }
      s1.cxRelease c (s1.complex c).order.length
    | _, _ => s

/-! BULK requests (R382, R383) -/

/-- A raw or storage request enters a complex's BULK queue. -/
def State.bulkSubmit (s : State) (c : Nat) (who : BulkWho) (slot total bytes : Nat) : State :=
  let x := s.complex c
  s.setComplex c { x with reqs := x.reqs ++ [{ who := who, slot := slot, total := total, bytes := bytes }],
                          wait := x.wait ++ [who], headAt := if x.wait.isEmpty then s.now else x.headAt }

/-- Change a BULK request. -/
def Complex.mapReq (x : Complex) (who : BulkWho) (u : BulkReq → BulkReq) : Complex :=
  { x with reqs := x.reqs.map (fun r => if r.who = who then u r else r) }

/-- A BULK request. -/
def Complex.req? (x : Complex) (who : BulkWho) : Option BulkReq := x.reqs.find? (fun r => r.who == who)

/-- Forget a BULK request: withdrawn by its requester. -/
def State.bulkDrop (s : State) (who : BulkWho) : State :=
  let cut := fun (x : Complex) => { x with reqs := x.reqs.filter (fun r => r.who != who), wait := x.wait.filter (· != who) }
  { s with cx := { s.cx with in_ := cut s.cx.in_, eg := cut s.cx.eg } }

/-- A lane takes the BULK segment at the head: the request that fails at dispatch because its slot holds no key (R391), and the state. -/
def State.dispatchBulk (s : State) (c lane : Nat) : Option BulkWho × State :=
  let x := s.complex c
  match x.wait with
  | [] => (none, s)
  | who :: rest =>
    let x1 := { x with wait := rest, headAt := s.now }
    match x.req? who with
    | none => (none, s.setComplex c x1)
    | some r =>
      let k := r.snap.getD (s.keySlot r.slot)
      if r.zeroized || (r.snap.isNone && k.st != 2) then
        (some who, s.setComplex c { x1 with reqs := x1.reqs.filter (fun y => y.who != who) })
      else
        let s1 := if r.snap.isNone then s.countSegment c r.slot r.bytes else s.bump64 (Reg.CX_SEGMENTS c) 1
        (none, s1.setComplex c ({ x1 with lanes := SMap.put x1.lanes lane (.bulk who) }.mapReq who
          (fun y => { y with snap := some k })))

/-- BULK_AGE_US and BULK_MIN as they act (R401). -/
def State.bulkAge (s : State) (c : Nat) : Nat := max 1 (s.fld (Reg.CX_CTRL c) 15 8) * 1000
def State.bulkMin (s : State) (c : Nat) : Nat := min 4 (s.fld (Reg.CX_CTRL c) 2 0)

/-- The waiting frames that still wait. -/
def State.netWaiting (s : State) (x : Complex) : List Nat :=
  x.net.filter (fun h => match s.frame? h with
    | some f => (match f.stage with | .cipher => true | _ => false)
    | none => false)

/-- A lane at a segment boundary takes the next segment (R383); the BULK request that fails at dispatch, if any. -/
def State.laneTake (s : State) (c lane : Nat) : Option BulkWho × State :=
  let x := s.complex c
  if !s.inService (9 + c) || !(s.regN (Reg.CX_LANE_ACTIVE c)).testBit lane || (SMap.get? x.lanes lane).isSome then (none, s)
  else
    let net := s.netWaiting x
    let bulk := !x.wait.isEmpty
    let held := (x.lanes.filter (fun l => match l.2 with | .bulk _ => true | _ => false)).length
    if bulk && (decide (x.headAt + s.bulkAge c ≤ s.now) || decide (held < s.bulkMin c) || net.isEmpty) then s.dispatchBulk c lane
    else match net with
      | [] => (none, s)
      | h :: r => (none, (s.setComplex c { x with net := r }).dispatchNet c lane h)

/-! Lanes (R388-R390) -/

/-- Number of bits set. -/
def popCount (n v : Nat) : Nat := ((List.range n).filter (fun i => v.testBit i)).length

/-- CX_CAP and FT_CAP follow the active lanes. -/
def State.cxCap (s : State) (c : Nat) : State :=
  let n := popCount 22 (s.regN (Reg.CX_LANE_ACTIVE c))
  (s.setRegN (Reg.CX_CAP c) (n * 2 ^ 16 + n * 512)).setFld Reg.FT_CAP (if c = 0 then 22 else 17) (if c = 0 then 18 else 13) n

/-- The lanes in reserve. -/
def State.laneReserve (s : State) (c : Nat) : List Nat :=
  (List.range 22).filter (fun l => !(s.regN (Reg.CX_LANE_ACTIVE c)).testBit l && !(s.regN (Reg.CX_LANE_RETIRED c)).testBit l)

/-- The segment a lane held goes back to the front of its queue to be replayed on another lane (R389). -/
def State.laneReplay (s : State) (c lane : Nat) : State :=
  let x := s.complex c
  match SMap.get? x.lanes lane with
  | none => s
  | some (.net h) =>
    let s1 := s.setComplex c { x with lanes := SMap.del x.lanes lane, net := h :: x.net }
    (match s1.frame? h with
     | some f => s1.replayFrame f
     | none => s1)
  | some (.bulk who) => (s.setComplex c { x with lanes := SMap.del x.lanes lane, wait := who :: x.wait }).countReplay none

/-- Retire a lane now (R389, R390). -/
def State.retireLaneNow (s : State) (c lane reason : Nat) : State :=
  let p : Part := { kind := 2, index := c * 32 + lane }
  let was := (s.regN (Reg.CX_LANE_ACTIVE c)).testBit lane
  let s1 := ((s.markRetired p (9 + c) reason).setFld (Reg.CX_LANE_ACTIVE c) lane lane 0).setFld (Reg.CX_LANE_RETIRED c) lane lane 1
  if !was then s1
  else
    let s2 := ((s1.cxCap c).raise (Ev.cx c) 2).laneReplay c lane
    if (s2.laneReserve c).isEmpty then
      (s2.raise (Ev.cx c) 3).logDegraded 2 (9 + c) (s2.regN (Reg.CX_LANE_ACTIVE c) == 0)
    else (s2.beginRetire p reason).setComplex c { s2.complex c with substFor := some lane }

/-- Retire a lane, or wait behind another retirement of the complex (R613). -/
def State.retireLane (s : State) (c lane reason : Nat) : State :=
  let p : Part := { kind := 2, index := c * 32 + lane }
  if s.isRetired p then s
  else if s.retiring (9 + c) then s.queueRetire p reason
  else s.retireLaneNow c lane reason

/-- Begin waiting retirements of a complex until one runs. -/
def State.drainLanes (s : State) (c : Nat) : Nat → State
  | 0 => s
  | n + 1 =>
    if s.retiring (9 + c) then s
    else match s.nextRetire (9 + c) with
      | (none, _) => s
      | (some r, t) => (t.retireLaneNow c (r.part.index % 32) r.reason).drainLanes c n

/-- A reserve lane passed, or failed, its known-answer test (R389; 19 R613). -/
def State.reserveLane (s : State) (c : Nat) (pass : Bool) : State :=
  let x := s.complex c
  match x.substFor with
  | none => s
  | some old => match s.laneReserve c with
    | [] => s
    | l :: rest =>
      if pass then
        let s1 := ((s.setFld (Reg.CX_LANE_ACTIVE c) l l 1).cxCap c).setComplex c { x with substFor := none }
        let s2 := ((s1.raise (Ev.cx c) 1).logReserve 2 (c * 32 + old) (c * 32 + l) (9 + c)).endRetire (9 + c)
        s2.drainLanes c 22
      else
        let s1 := (s.markRetired { kind := 2, index := c * 32 + l } (9 + c) 4).setFld (Reg.CX_LANE_RETIRED c) l l 1
        if !rest.isEmpty then s1
        else
          let s2 := (s1.setComplex c { x with substFor := none }).endRetire (9 + c)
          ((s2.raise (Ev.cx c) 3).logDegraded 2 (9 + c) (s2.regN (Reg.CX_LANE_ACTIVE c) == 0)).drainLanes c 22

/-! Random numbers (R398-R400) -/

/-- n bytes of DRBG output: free values. -/
def State.drawBytes (s : State) : Nat → List Byte × State
  | 0 => ([], s)
  | n + 1 =>
    let x := s.draw
    let y := x.2.drawBytes n
    (BitVec.ofNat 8 x.1 :: y.1, y.2)

/-- RNG_STATE fields: state 0 STARTING, 1 READY, 2 RESTARTING, 3 FAILED; the restart attempt. -/
def State.rngState (s : State) : Nat := s.fld Reg.RNG_STATE 1 0
def State.rngAttempt (s : State) : Nat := s.fld Reg.RNG_STATE 5 4

/-- Set state and attempt. -/
def State.setRng (s : State) (st attempt : Nat) : State := s.setRegN Reg.RNG_STATE (attempt * 16 + st)

/-- Store the DRBG's own state; RNG_HELD follows. -/
def State.setDrbg (s : State) (d : Drbg) : State :=
  { s with cx := { s.cx with rng := d } }.setRegN Reg.RNG_HELD d.held.length

/-- A generate request of n bytes is served now: its bytes. -/
def State.rngServe (s : State) (n : Nat) : List Byte × State :=
  let s1 := (s.setDrbg { s.cx.rng with count := s.cx.rng.count + 1 }).bump64 Reg.RNG_BYTES n
  s1.drawBytes n

/-- Hold a request (R399). -/
def State.rngHold (s : State) (who : RngWho) (n : Nat) : State :=
  s.setDrbg { s.cx.rng with held := s.cx.rng.held ++ [(who, n)] }

/-- The oldest held request leaves. -/
def State.rngNext (s : State) : Option (RngWho × Nat) × State :=
  match s.cx.rng.held with
  | [] => (none, s)
  | x :: r => (some x, s.setDrbg { s.cx.rng with held := r })

/-- A requester withdraws (its waybill timed out, its channel or thread ended). -/
def State.rngCancel (s : State) (who : RngWho) : State :=
  s.setDrbg { s.cx.rng with held := s.cx.rng.held.filter (fun x => x.1 != who) }

end Sys2Proof.Machine
end

