-- ==== Sys2Proof/Machine/Cipher.lean ====
section
/-!
DEFINITION. The key store, the DRBG, reserve lanes and the 0x08xx opcodes (11 R388-R404).
-/

namespace Sys2Proof.Machine

open Sys2Proof

/-! Key slots (R391-R397) -/

/-- The key-store unit's domain is on. -/
def State.keysOn (s : State) : Bool := s.pdOn (unitDomain 11)

/-- Slots not lost to repair of the key store (19 R618). -/
def State.slotCount (s : State) : Nat := 16384 - s.sramLost 7

/-- The lowest FREE slot. -/
def State.freeSlot (s : State) : Option Nat :=
  ((List.range (s.cx.slots.length + 1)).find? (fun i => (s.keySlot i).st == 0)).bind
    (fun i => if i < s.slotCount then some i else none)

/-- A slot becomes FREE with its key and record zero (R395). -/
def State.slotFree (s : State) (i : Nat) : State := s.setKeySlot i { gen := (s.keySlot i).gen + 1 }

/-- KEY_DRAIN_DONE (R395): the last segment against a DRAINING slot has ended. -/
def execKeyDrainDone (slot : Nat) (s : State) : Host.Outcome State Fault Refusal :=
  finish (if (s.keySlot slot).st = 3 ∧ s.slotBusy slot = false then (s.slotFree slot).completeWait (.keyFree slot) .ok [] else s)

/-- KEY_ECC_ERROR (R397): corrected and written back, or the slot is zeroized and its key lost. -/
def execKeyEccError (slot : Nat) (uncorr : Bool) (s : State) : Host.Outcome State Fault Refusal :=
  finish (if !s.keysOn || decide (16384 ≤ slot) then s
    else if !uncorr then s.raise Ev.ks 0
    else ((s.zeroizeSlot slot (srcIssuer .aoc) false).setRegN Reg.KS_LAST_LOST slot).raiseSev Ev.ks 3 2)

/-! KS_ZEROIZE (R396) -/

/-- The generator starts, or starts again: every request is held meanwhile (R399). -/
def State.rngStart (s : State) : State :=
  (s.setRng 0 0).setDrbg { s.cx.rng with count := 0, reseedAt := s.now, attemptAt := s.now }

/-- A completed guarded write of KS_ZEROIZE. -/
def State.ksZeroize (s : State) (src : Src) (v : Nat) : State :=
  let iss := srcIssuer src
  let s1 := s.setFld Reg.KS_ZEROIZE_STAT 0 0 1
  if v.testBit 31 then
    let s2 := s1.cx.slots.foldl (fun t x => if x.2.st = 0 then t else t.zeroizeSlot x.1 iss true) s1
    { s2.rngStart with cx := { s2.rngStart.cx with zeroing := some none } }
  else
    let s2 := s1.zeroizeSlot (v % 16384) iss false
    { s2 with cx := { s2.cx with zeroing := some (some (v % 16384)) } }

def execKsZeroize (src : Src) (compl : Word) (s : State) : Host.Outcome State Fault Refusal :=
  finish (s.guarded src Reg.KS_ZEROIZE compl (fun v t => t.ksZeroize src v))

def execKsZeroizeAll (src : Src) (compl : Word) (s : State) : Host.Outcome State Fault Refusal :=
  finish (s.guarded src Reg.KS_ZEROIZE compl (fun v t => t.ksZeroize src v))

/-- ZEROIZE_DONE (R396, R402): the running KS_ZEROIZE completes. -/
def execZeroizeDone (s : State) : Host.Outcome State Fault Refusal :=
  finish (match s.cx.zeroing with
    | none => s
    | some _ => ({ s with cx := { s.cx with zeroing := none } }.setFld Reg.KS_ZEROIZE_STAT 0 0 0).raise Ev.ks 2)

/-! Lanes (R389, R390) -/

/-- RESERVE_LANE_READY (R389): a reserve lane's known-answer test passed, or it did not. -/
def execReserveLaneReady (complex : Nat) (pass : Bool) (s : State) : Host.Outcome State Fault Refusal :=
  finish (if complex < 2 then s.reserveLane complex pass else s)

/-! The DRBG (R398-R400) -/

/-- RESEED_MS in ns; 0 acts as 1, values above 1,000 as 1,000 (R402). -/
def State.reseedNs (s : State) : Nat := min 1000 (max 1 (s.fld Reg.RNG_CTRL 9 0)) * 1000000

/-- CM_RESEED (R370): the countermeasure generator takes a seed, or keeps its last one; CM_STALE is raised once while seeds fail. -/
def execCmReseed (complex : Nat) (s : State) : Host.Outcome State Fault Refusal :=
  finish (if 2 ≤ complex ∨ s.inService (9 + complex) = false then s
    else
      let x := s.complex complex
      if s.rngState = 1 then
        (s.setDrbg { s.cx.rng with count := s.cx.rng.count + 1 }).setComplex complex { x with stale := false }
      else if x.stale then s
      else (s.setComplex complex { x with stale := true }).raise Ev.rng 0)

/-- DRBG_RESEED (R398): after RESEED_MS, or after 2^20 generate requests. -/
def execDrbgReseed (s : State) : Host.Outcome State Fault Refusal :=
  finish (if s.rngState ≠ 1 then s
    else
      let d := s.cx.rng
      let s1 := if 2 ^ 20 ≤ d.count then s else s.at (d.reseedAt + s.reseedNs)
      s1.setDrbg { d with count := 0, reseedAt := s1.now })

/-- A health test fails (R400 steps 1-3): output stops and the first restart attempt begins. -/
def State.healthFail (s : State) (test : Nat) : State :=
  let s1 := ((s.setRegN Reg.RNG_LAST_FAIL test).bump Reg.RNG_HEALTH_FAILS).setRng 2 1
  (s1.setDrbg { s1.cx.rng with attemptAt := s1.now }).raiseSev Ev.rng 1 2

/-- HEALTH_TEST_FAIL (R400): 1 repetition count, 2 adaptive proportion. -/
def execHealthTestFail (test : Nat) (s : State) : Host.Outcome State Fault Refusal :=
  finish (if s.keysOn && decide (s.rngState ≤ 1) then s.healthFail (if test = 2 then 2 else 1) else s)

/-! Loading keys (R392, R394) -/

/-- The record of a KEY_LOAD. -/
def loadRec (w : Waybill) : List Byte := w.bytes 4 64

/-- A slot that holds two 256-bit keys. -/
def isPair (r : List Byte) : Bool := u8 r 2 == 7 || (u8 r 2 == 0 && (u8 r 3).testBit 3)

/-- Key bytes of a record. -/
def keyBytes (r : List Byte) : Nat := if isPair r then 64 else 16 + 8 * u8 r 4

/-- A record as stored: reserved fields zero (00 R11). -/
def slotNorm (r : List Byte) : List Byte :=
  leBytes 2 (u16 r 0 % 4096) ++ slice r 2 1 ++ leBytes 1 (u8 r 3 % 16) ++ slice r 4 2 ++ leBytes 1 (u8 r 6 % 8) ++ leBytes 1 (u8 r 7 % 4)
    ++ slice r 8 20 ++ zeros 4 ++ slice r 32 24 ++ zeros 8

/-- A record field out of range (R372, R373, R376, R392). -/
def slotBad (r : List Byte) : Bool :=
  let fr := u8 r 2
  let kb := u8 r 4
  let win := u32 r 12
  decide (7 < fr) || decide (2 < kb)
    || ((isPair r || fr == 5 || fr == 6) && kb != 2) || (decide (1 ≤ fr) && decide (fr ≤ 4) && kb == 1)
    || ((fr == 1 || fr == 2) && u8 r 5 != 8 && u8 r 5 != 12 && u8 r 5 != 16)
    || (decide (3 ≤ fr) && decide (fr ≤ 6) && u8 r 5 != 16)
    || (fr == 1 && win != 0 && !(decide (64 ≤ win) && decide (win ≤ 4096) && win == 2 ^ Nat.log2 win))

/-- The slot holds a key and a record (R394): a new association with its own replay window. The key check value is the answer. -/
def State.keyInstall (s : State) (i : Nat) (r key : List Byte) (byFlask : Bool) : List Byte × State :=
  let k := s.keySlot i
  let k1 : KeySlot := { k with st := 2, rcd := r, key := key, loadFlask := byFlask, gen := k.gen + 1, win := 1, resync := false,
                               soft := false, exhausted := false }
  (keyCheck (key.take (if isPair r then 32 else key.length)), s.setKeySlot i k1)

/-- Bytes of NONCE_BASE that a record's framing uses: the salt of ESP, 12 bytes for TLS and MACsec, none otherwise (R392). -/
def nonceBytes (r : List Byte) : Nat :=
  let fr := u8 r 2
  if fr = 1 ∨ fr = 2 then 4 else if 3 ≤ fr ∧ fr ≤ 6 then 12 else 0

/-- The record and the key of a GENERATE load from DRBG output: key, then NONCE_BASE with what the framing does not use zero (R392, R394). -/
def generated (r d : List Byte) : List Byte × List Byte :=
  (patch r 16 (fit 12 (slice d (keyBytes r) (nonceBytes r))), d.take (keyBytes r))

/-! Scopes (R404) -/

def slotObj : State → Waybill → Option Obj := fun _ w => some ⟨.keySlot, w.u16 0⟩

/-- A slot opcode is F-class on a slot whose OWNER is the issuing flask only. -/
def slotFn : State → Waybill → Option Nat := fun s w =>
  let k := s.keySlot (w.u16 0)
  some (if k.st = 0 ∨ k.owner = 0 then 0xFFFFF else k.owner)

def slotOutside : State → Waybill → Nat → Bool := fun s w f =>
  let k := s.keySlot (w.u16 0)
  k.st == 0 || k.owner != f

/-! Opcodes -/

def cxQueryMeta : OpMeta := { opcode := 0x0800, cls := .r, lenOk := len 0, maxRes := 64 }

def cxQueryBody : WbBody := fun _ s =>
  .done .ok ((List.range 2).map (fun c => leBytes 4 (s.regN (Reg.CX_LANE_ACTIVE c)) ++ leBytes 4 (s.regN (Reg.CX_LANE_RETIRED c))
    ++ leBytes 4 (s.regN (Reg.CX_CAP c)) ++ leBytes 1 (s.fld (Reg.CX_CTRL c) 2 0) ++ leBytes 1 (s.fld (Reg.CX_CTRL c) 15 8) ++ zeros 2
    ++ leBytes 8 (s.reg64 (Reg.CX_BLOCKS c)) ++ leBytes 4 (s.regN (Reg.CX_PARITY c)) ++ leBytes 4 (s.regN (Reg.CX_AUTH_FAIL c)))).flatten s

def execCxQuery (w : Waybill) (s : State) : Host.Outcome State Fault Refusal := waybillCmd cxQueryMeta cxQueryBody w s

def keyAllocMeta : OpMeta :=
  { opcode := 0x0801, cls := .f, lenOk := len 4, maxRes := 4, flaskMay := true,
    fnOf := fun _ w => some (if w.u16 0 % 4096 = 0 then 0xFFFFF else w.u16 0 % 4096),
    outside := fun _ w f => w.u16 0 % 4096 != f }

def keyAllocBody : WbBody := fun w s =>
  let o := w.u16 0 % 4096
  if !s.ownerExists o then fail .badParam s
  else match s.freeSlot with
    | none => .done .keySlotsExhausted [] (s.raise Ev.ks 1)
    | some i =>
      if o ≠ 0 ∧ u32 (s.fn o).quota 8 ≤ s.keysHeld o then fail .noResource s
      else
        let s1 := s.setKeySlot i { st := 1, owner := o, rcd := leBytes 2 o ++ zeros 62, allocFlask := (issuerFlask w.inst).isSome,
                                   gen := (s.keySlot i).gen + 1 }
        .done .ok (leBytes 2 i ++ leBytes 2 (s1.regN Reg.KS_FREE)) s1

def execKeyAlloc (w : Waybill) (s : State) : Host.Outcome State Fault Refusal := waybillCmd keyAllocMeta keyAllocBody w s

def keyLoadMeta : OpMeta :=
  { opcode := 0x0802, cls := .f, lenOk := fun n => n == 68 || n == 100 || n == 132, maxRes := 4, canPend := true, flaskMay := true,
    lenW := fun w => w.params.length == 68 + (if (w.u8 2).testBit 0 then 0 else if isPair (loadRec w) then 64 else 32),
    fnOf := slotFn, outside := slotOutside, obj := slotObj }

def keyLoadBody : WbBody := fun w s =>
  let i := w.u16 0
  let r := loadRec w
  let byFlask := (issuerFlask w.inst).isSome
  let k := s.keySlot i
  let field := w.params.drop 68
  let nk := keyBytes r
  if 16384 ≤ i ∨ k.st = 0 ∨ slotBad r ∨ u16 r 0 % 4096 ≠ k.owner ∨ (byFlask = true ∧ (u8 r 2 = 5 ∨ u8 r 2 = 6 ∨ u8 r 2 = 7)) then
    fail .badParam s
  else if k.st = 3 then fail .busy s
  else
    let n := slotNorm r
    if !(w.u8 2).testBit 0 then
      if (field.drop nk).any (· != 0) then fail .badParam s
      else let x := s.keyInstall i n (field.take nk) byFlask
           .done .ok x.1 x.2
    else if s.rngState = 3 then .done .entropyFail [] (s.bump Reg.RNG_REQ_FAILED)
    else if s.rngState = 1 then
      let d := s.rngServe (nk + nonceBytes n)
      let g := generated n d.1
      let x := d.2.keyInstall i g.1 g.2 byFlask
      .done .ok x.1 x.2
    else .pend (.keyLoad i n byFlask) 12000000 (some ⟨.keySlot, i⟩) (s.rngHold (.waybill w.inst w.tag) (nk + nonceBytes n))

def execKeyLoad (w : Waybill) (s : State) : Host.Outcome State Fault Refusal := waybillCmd keyLoadMeta keyLoadBody w s

def keyUpdateMeta : OpMeta :=
  { opcode := 0x0803, cls := .f, lenOk := len 24, maxRes := 64, flaskMay := true, fnOf := slotFn, outside := slotOutside, obj := slotObj }

def keyUpdateBody : WbBody := fun w s =>
  let i := w.u16 0
  let mask := w.u8 2
  let k := s.keySlot i
  if k.st ≠ 2 then fail .badParam s
  else
    let r1 := if mask.testBit 0 then patch k.rcd 3 (leBytes 1 (setBits (u8 k.rcd 3) 0 0 (w.u8 3))) else k.rcd
    let r2 := if mask.testBit 1 && (k.framing == 1 || k.framing == 5) then patch r1 12 (w.bytes 4 4) else r1
    let r3 := if mask.testBit 2 then patch r2 40 (w.bytes 8 8) else r2
    if slotBad r3 then fail .badParam s
    else .done .ok k.rcd (s.setKeySlot i { k with rcd := r3, soft := if mask.testBit 2 then false else k.soft })

def execKeyUpdate (w : Waybill) (s : State) : Host.Outcome State Fault Refusal := waybillCmd keyUpdateMeta keyUpdateBody w s

def keyFreeMeta : OpMeta :=
  { opcode := 0x0804, cls := .f, lenOk := len 4, maxRes := 0, canPend := true, flaskMay := true, fnOf := slotFn,
    outside := slotOutside, obj := slotObj }

def keyFreeBody : WbBody := fun w s =>
  let i := w.u16 0
  let k := s.keySlot i
  if k.st = 0 then fail .badParam s
  else if s.slotBusy i then .pend (.keyFree i) 100000 (some ⟨.keySlot, i⟩) (s.setKeySlot i { k with st := 3 })
  else .done .ok [] (s.slotFree i)

def execKeyFree (w : Waybill) (s : State) : Host.Outcome State Fault Refusal := waybillCmd keyFreeMeta keyFreeBody w s

def keyZeroizeMeta : OpMeta :=
  { opcode := 0x0805, cls := .f, lenOk := len 4, maxRes := 0, flaskMay := true, fnOf := slotFn, outside := slotOutside, obj := slotObj }

def keyZeroizeBody : WbBody := fun w s =>
  let i := w.u16 0
  if (s.keySlot i).st = 0 then fail .badParam s else .done .ok [] (s.zeroizeSlot i (derivedIssuer w.inst) false)

def execKeyZeroize (w : Waybill) (s : State) : Host.Outcome State Fault Refusal := waybillCmd keyZeroizeMeta keyZeroizeBody w s

def keyQueryMeta : OpMeta :=
  { opcode := 0x0806, cls := .r, lenOk := len 4, maxRes := 96, flaskMay := true, outside := slotOutside }

def keyQueryBody : WbBody := fun w s =>
  let i := w.u16 0
  let k := s.keySlot i
  if 16384 ≤ i then fail .badParam s
  else
    let kc := if k.st = 2 then keyCheck (k.key.take (if isPair k.rcd then 32 else k.key.length)) else zeros 4
    .done .ok (leBytes 1 k.st ++ leBytes 1 (bitVal k.allocFlask 0 + bitVal k.loadFlask 1) ++ zeros 2 ++ kc ++ fit 64 k.rcd
      ++ leBytes 8 k.frames ++ leBytes 8 k.bytes ++ leBytes 4 k.authFails ++ leBytes 4 k.replayDrops) s

def execKeyQuery (w : Waybill) (s : State) : Host.Outcome State Fault Refusal := waybillCmd keyQueryMeta keyQueryBody w s

def tlsResyncMeta : OpMeta :=
  { opcode := 0x0807, cls := .f, lenOk := len 16, maxRes := 0, flaskMay := true, fnOf := slotFn, outside := slotOutside, obj := slotObj }

def tlsResyncBody : WbBody := fun w s =>
  let i := w.u16 0
  let k := s.keySlot i
  if k.st ≠ 2 ∨ k.framing ≠ 3 then fail .badParam s
  else .done .ok [] (s.setKeySlot i { (k.setTcp (w.u32 4)).setSeq (w.u64 8) with resync := false })

def execTlsResync (w : Waybill) (s : State) : Host.Outcome State Fault Refusal := waybillCmd tlsResyncMeta tlsResyncBody w s

def macsecRxscSetMeta : OpMeta := { opcode := 0x0808, cls := .d, lenOk := len 20, maxRes := 20 }

def macsecRxscSetBody : WbBody := fun w s =>
  let i := w.u8 0
  let bad := (List.range 4).any (fun a =>
    let v := w.u16 (12 + 2 * a)
    v != 0xFFFF && (decide (16384 ≤ v) || (s.keySlot v).st != 2 || (s.keySlot v).framing != 5))
  if bad then fail .badParam s
  else
    let e := w.bytes 0 1 ++ leBytes 1 (w.u8 1 % 8 + bitVal ((w.u8 1).testBit 7) 7) ++ zeros 2 ++ w.bytes 4 16
    let old := SMap.getD s.cx.rxsc i (leBytes 1 i ++ zeros 11 ++ List.replicate 8 0xFF)
    .done .ok old { s with cx := { s.cx with rxsc := SMap.put s.cx.rxsc i e } }

def execMacsecRxscSet (w : Waybill) (s : State) : Host.Outcome State Fault Refusal :=
  waybillCmd macsecRxscSetMeta macsecRxscSetBody w s

def cxSetParamsMeta : OpMeta := { opcode := 0x0809, cls := .d, lenOk := len 8, maxRes := 8 }

def cxSetParamsBody : WbBody := fun w s =>
  let v := fun (o : Nat) => bits (w.u32 o) 15 8 * 256 + w.u32 o % 8
  .done .ok (leBytes 4 (s.regN (Reg.CX_CTRL 0)) ++ leBytes 4 (s.regN (Reg.CX_CTRL 1)))
    ((s.setCfg 9 (Reg.CX_CTRL 0) (v 0)).setCfg 10 (Reg.CX_CTRL 1) (v 4))

def execCxSetParams (w : Waybill) (s : State) : Host.Outcome State Fault Refusal := waybillCmd cxSetParamsMeta cxSetParamsBody w s

def cxKatMeta : OpMeta :=
  { opcode := 0x080A, cls := .r, lenOk := fun n => decide (88 ≤ n), lenW := fun w => w.params.length == 88 + w.u16 4, maxRes := 3984 }

/-- CX_KAT (R372, R404): the operation with the key it carries; of GCM the AAD comes out unchanged before the text (log entry 34). -/
def cxKatBody : WbBody := fun w s =>
  let mode := w.u8 1
  let kb := w.u8 2
  let enc := w.u8 3 = 1
  let n := w.u16 4
  let a := w.u16 6
  let key := w.bytes 8 (if mode = 5 then 64 else 16 + 8 * kb)
  let iv := w.bytes 72 16
  let d := w.bytes 88 n
  if 1 < w.u8 0 ∨ 5 < mode ∨ 2 < kb ∨ 1 < w.u8 3 ∨ n < 16 ∨ 3968 < n ∨ (mode = 4 ∧ n < a) ∨ (mode = 5 ∧ kb ≠ 2)
      ∨ ((mode = 0 ∨ mode = 5) ∧ n % 16 ≠ 0) then fail .badParam s
  else
    let r := if mode = 4 then
        let x := if enc then gcmSeal key (iv.take 12) (d.take a) (d.drop a) else gcmOpen key (iv.take 12) (d.take a) (d.drop a)
        (d.take a ++ x.1, x.2)
      else if mode = 5 then (xts enc (key.take 32) (key.drop 32) iv d, zeros 16)
      else (blockMode mode enc key iv d, zeros 16)
    .done .ok (fit n r.1 ++ fit 16 r.2) s

def execCxKat (w : Waybill) (s : State) : Host.Outcome State Fault Refusal := waybillCmd cxKatMeta cxKatBody w s

def rngGetMeta : OpMeta := { opcode := 0x0810, cls := .f, lenOk := len 4, maxRes := 4080, canPend := true, flaskMay := true }

def rngGetBody : WbBody := fun w s =>
  let n := w.u16 0
  if n = 0 ∨ 4080 < n then fail .badParam s
  else if s.rngState = 3 then .done .entropyFail [] (s.bump Reg.RNG_REQ_FAILED)
  else if s.rngState = 1 then let d := s.rngServe n
    .done .ok d.1 d.2
  else if 1024 ≤ s.cx.rng.held.length then fail .busy s
  else .pend (.rngGet n) 13000000 none (s.rngHold (.waybill w.inst w.tag) n)

def execRngGet (w : Waybill) (s : State) : Host.Outcome State Fault Refusal := waybillCmd rngGetMeta rngGetBody w s

def rngQueryMeta : OpMeta := { opcode := 0x0811, cls := .r, lenOk := len 0, maxRes := 24 }

def rngQueryBody : WbBody := fun _ s =>
  .done .ok (leBytes 1 s.rngState ++ leBytes 1 s.rngAttempt ++ leBytes 1 (s.regN Reg.RNG_LAST_FAIL) ++ [0]
    ++ leBytes 4 (s.regN Reg.RNG_HELD) ++ leBytes 8 (s.reg64 Reg.RNG_BYTES) ++ leBytes 4 (s.regN Reg.RNG_HEALTH_FAILS)
    ++ leBytes 4 (s.regN Reg.RNG_REQ_FAILED)) s

def execRngQuery (w : Waybill) (s : State) : Host.Outcome State Fault Refusal := waybillCmd rngQueryMeta rngQueryBody w s

def rngSetParamsMeta : OpMeta := { opcode := 0x0812, cls := .d, lenOk := len 4, maxRes := 4 }

def rngSetParamsBody : WbBody := fun w s =>
  if 1000 < w.u16 0 then fail .badParam s
  else .done .ok (leBytes 4 (s.regN Reg.RNG_CTRL)) (s.setCfg 11 Reg.RNG_CTRL (w.u16 0))

def execRngSetParams (w : Waybill) (s : State) : Host.Outcome State Fault Refusal := waybillCmd rngSetParamsMeta rngSetParamsBody w s

def rngRestartMeta : OpMeta := { opcode := 0x0813, cls := .d, lenOk := len 0, maxRes := 0, canPend := true }

def rngRestartBody : WbBody := fun _ s =>
  if s.rngState ≠ 3 then fail .busy s
  else
    let s1 := s.setRng 2 1
    .pend .rngRestart 12000000 (some ⟨.drbg, 0⟩) (s1.setDrbg { s1.cx.rng with attemptAt := s1.now })

def execRngRestart (w : Waybill) (s : State) : Host.Outcome State Fault Refusal := waybillCmd rngRestartMeta rngRestartBody w s

end Sys2Proof.Machine
end

