-- ==== Sys2Proof/Machine/OpsDc.lean ====
section
/-!
DEFINITION. The DRAM channels: ranks, activate tables, errors, retirement, migration, start-up (16).
-/

namespace Sys2Proof.Machine

open Sys2Proof

/-! Ranks (R524, R543) -/

/-- RANK_STATE of rank r: 0 absent or unused, 1 active, 2 spare, 3 retired. -/
def State.rankSt (s : State) (c r : Nat) : Nat := s.fld (Reg.DC_STATE c) (2 * r + 1) (2 * r)

def State.setRank (s : State) (c r st : Nat) : State := s.setFld (Reg.DC_STATE c) (2 * r + 1) (2 * r) st

/-- Capacity of a rank in GiB from density and width (R523). -/
def rankGib (density : Nat) (x4 : Bool) : Nat := (16 + 8 * density) * (if x4 then 2 else 1)

def State.chanRankGib (s : State) (c : Nat) : Nat := rankGib (s.fld (Reg.DC_CFG c) 27 26) (s.flag (Reg.DC_CFG c) 28)

/-- Rows of a bank by density (JESD79-5; log entry 37). -/
def bankRows (density : Nat) : Nat := if density = 0 then 65536 else if density = 1 then 98304 else 131072

/-- The rank that holds a line now: behind the copy pointer the rank that takes the slice, else the slice map's (R526, R540). -/
def State.lineRank (s : State) (line : Nat) : Nat :=
  let a := line * 64
  let x := s.chan (s.dramChannel a)
  let sl := s.dramSlice a
  let old := (SMap.getD x.map sl (0, 0)).1
  match x.mig with
  | none => old
  | some m =>
    match m.done.find? (fun d => d.1 == sl) with
    | some d => d.2.1
    | none => match m.todo.head? with
      | some d => if d.1 = sl ∧ s.chanByte a % 2 ^ 28 / 64 < m.line then d.2.1 else old
      | none => old

/-- A line's subchannel, bank group, bank and row (log entry 36). -/
structure LinePlace where
  sub : Nat
  bg : Nat
  bank : Nat
  row : Nat

def State.linePlace (s : State) (line : Nat) : LinePlace :=
  let x := Config.dramPlace line
  { sub := x % 2, bg := x / 2 % 8, bank := x / 16 % 4,
    row := x / 64 % bankRows (s.fld (Reg.DC_CFG (s.dramChannel (line * 64))) 27 26) }

/-! Row disturbance (R532) -/

/-- ACT_THRESH as it acts. -/
def State.actThresh (s : State) (c : Nat) : Nat := min 32000 (max 500 (s.fld (Reg.DC_CTRL c) 15 0))

/-- The entry of the lowest count. -/
def lowestAct : List (Nat × Nat) → Option (Nat × Nat)
  | [] => none
  | e :: r => match lowestAct r with
    | none => some e
    | some f => if f.2 < e.2 then some f else some e

/-- Count an activate of a row in a bank's table of 32. -/
def actCount (t : List (Nat × Nat)) (row : Nat) : List (Nat × Nat) :=
  if t.any (fun e => e.1 == row) then t.map (fun e => if e.1 = row then (e.1, e.2 + 1) else e)
  else if t.length < 32 then t ++ [(row, 1)]
  else match lowestAct t with
    | none => t
    | some l => t.map (fun e => if e = l then (row, l.2 + 1) else e)

/-- Rows to refresh beside a row, those of the bank only. -/
def neighbours (row rows : Nat) : List Nat :=
  (if 2 ≤ row then [row - 2] else []) ++ (if 1 ≤ row then [row - 1] else [])
    ++ (if row + 1 < rows then [row + 1] else []) ++ (if row + 2 < rows then [row + 2] else [])

/-- A request activates its row when the bank has another row open; at ACT_THRESH the neighbours are refreshed. -/
def State.activate (s : State) (line : Nat) : State :=
  let c := s.dramChannel (line * 64)
  let r := s.lineRank line
  let p := s.linePlace line
  let b := r * 32 + p.bg * 4 + p.bank
  let x := s.chan c
  if SMap.get? x.opened b = some p.row then s
  else
    let t := actCount (SMap.getD x.acts b []) p.row
    let n := (match t.find? (fun e => e.1 == p.row) with | some e => e.2 | none => 0)
    if n < s.actThresh c then s.setChan c { x with opened := SMap.put x.opened b p.row, acts := SMap.put x.acts b t }
    else
      let t0 := t.map (fun e => if e.1 = p.row then (e.1, 0) else e)
      let s1 := s.setChan c { x with opened := SMap.put x.opened b p.row, acts := SMap.put x.acts b t0 }
      (neighbours p.row (bankRows (s.fld (Reg.DC_CFG c) 27 26))).foldl
        (fun (u : State) row => u.emit (.dramCmd c r 1 (row * 32 + p.bg * 4 + p.bank))) (s1.bumpN (Reg.DC_NREF c) 4)

/-! Retirement and migration (R539-R542) -/

/-- The part of a rank (19 R622). -/
def rankPart (c r : Nat) : Part := { kind := 5, index := c * 4 + r }

/-- MIG_GBPS as it acts (R543). -/
def State.migGbps (s : State) (c : Nat) : Nat := min 8 (max 1 (s.fld (Reg.DC_CTRL c) 29 24))

/-- Slices mapped to a rank, in ascending number. -/
def DramChan.slicesOf (x : DramChan) (r : Nat) : List (Nat × Nat) :=
  (x.map.filter (fun e => e.2.1 == r)).map (fun e => (e.1, e.2.2))

/-- DC_MIG and MIGRATING of a channel (R543). -/
def State.migReg (s : State) (c : Nat) : State :=
  match (s.chan c).mig with
  | none => s.setFld (Reg.DC_STATE c) 31 31 (if (s.chan c).withdrawing.isSome then 1 else 0)
  | some m =>
    let dst := match m.todo.head? with
      | some d => d.2.1
      | none => (match m.done.getLast? with | some d => d.2.1 | none => 0)
    (s.setFld (Reg.DC_STATE c) 31 31 1).setRegN (Reg.DC_MIG c) (m.from_ * 2 ^ 30 + dst * 2 ^ 28 + m.done.length % 512)

/-- All DRAM leaves service (R542): spilling stops, and a ledger half held IN_DRAM leaves commits stopped. -/
def State.dramDown (s : State) (c : Nat) : State :=
  let s1 := ({ s with dr := { s.dr with down := true } }.raiseSev (Ev.dc c) 9 2).logDegraded 5 (15 + c) true
  let s2 := if s1.lg.inDram.isSome then s1.setFld Reg.LG_STATE 3 3 1 else s1
  s2.complete (fun p => match p.wait with | .rankRetire _ _ => true | _ => false) .ok (zeros 8)

/-- A rank leaves: its slices go to the spare, or wait for their withdrawal, or no rank is left (R539-R542). -/
def State.startRetire (s : State) (c r reason : Nat) : State :=
  let s1 := (((s.setRank c r 3).beginRetire (rankPart c r) reason).markRetired (rankPart c r) (15 + c) reason).raise (Ev.dc c) 2
  match (List.range 4).find? (fun i => s1.rankSt c i == 2) with
  | some sp =>
    let todo := ((s1.chan c).slicesOf r).map (fun e => (e.1, sp, e.2))
    let x := s1.chan c
    ((s1.setChan c { x with mig := some { from_ := r, todo := todo, spare := true } }).migReg c).raise (Ev.dc c) 3
      |>.logReserve 5 (c * 4 + r) (c * 4 + sp) (15 + c)
  | none =>
    if (List.range 4).any (fun i => s1.rankSt c i == 1) then
      let x := s1.chan c
      (s1.setChan c { x with withdrawing := some r }).migReg c
    else (s1.endRetire (15 + c)).dramDown c

/-- A rank is to be retired: now, or behind the channel's running retirement; only an active rank is (R539). -/
def State.rankRetire (s : State) (c r reason : Nat) : State :=
  if s.rankSt c r != 1 then s
  else if s.retiring (15 + c) then s.queueRetire (rankPart c r) reason
  else s.startRetire c r reason

/-- The running retirement of a channel ends: its waybill gets its answer, the next retirement starts. -/
def State.retireDone (s : State) (c r gib : Nat) (spare : Bool) : State :=
  let s1 := (s.endRetire (15 + c)).completeWait (.rankRetire c r) .ok (leBytes 4 gib ++ leBytes 1 (if spare then 1 else 0) ++ zeros 3)
  match s1.nextRetire (15 + c) with
  | (none, t) => t
  | (some q, t) => t.startRetire c (q.part.index % 4) q.reason

/-- The spare fails during a migration onto it: it is retired, and the original rank's slices wait for their withdrawal (R541). -/
def State.spareFails (s : State) (c : Nat) (m : Mig) (sp : Nat) : State :=
  let x := s.chan c
  let s1 := (s.setChan c { x with mig := none, withdrawing := some m.from_ }).setRank c sp 3
  let s2 := ((s1.markRetired (rankPart c sp) (15 + c) 1).raise (Ev.dc c) 2).migReg c
  if (List.range 4).any (fun i => s2.rankSt c i == 1) then s2 else (s2.endRetire (15 + c)).dramDown c

/-- One line is copied; after the last the slice map names the new places (R540, R541). -/
def State.migStep (s : State) (c : Nat) : State :=
  let x := s.chan c
  match x.mig with
  | none => s
  | some m =>
    match m.todo with
    | d :: r =>
      if m.line + 1 < 2 ^ 22 then s.setChan c { x with mig := some { m with line := m.line + 1 } }
      else
        let m1 := { m with todo := r, done := m.done ++ [d], line := 0 }
        let s1 := (s.setChan c { x with mig := some m1 }).migReg c
        if r.isEmpty then finishMig s1 c m1 else s1
    | [] => finishMig s c m
where
  finishMig (s : State) (c : Nat) (m : Mig) : State :=
    let x := s.chan c
    let map := m.done.foldl (fun (t : SMap (Nat × Nat)) d => SMap.put t d.1 d.2) x.map
    let s1 := (s.setChan c { x with map := map, mig := none }).migReg c
    let s2 := match m.spare, m.done.head? with
      | true, some d => s1.setRank c d.2.1 1
      | _, _ => s1
    (s2.raise (Ev.dc c) 4).retireDone c m.from_ m.gib m.spare

/-! Errors (R536, R537) -/

/-- An injected error counts in DC_INJECTED (R545). -/
def State.countInjected (s : State) (c line : Nat) : State :=
  if (SMap.get? s.dr.bad line).isSome then s.bump (Reg.DC_INJECTED c) else s

/-- A correctable error of a line (R536). -/
def State.dramCe (s : State) (line : Nat) : State :=
  let c := s.dramChannel (line * 64)
  if !s.dramHas (line * 64) || !s.eccOn line then s
  else
    let r := s.lineRank line
    let s1 := (s.countInjected c line).bump (Reg.DC_CE_COUNT c)
    let s2 := { s1 with dr := { s1.dr with bad := SMap.del s1.dr.bad line } }
    let x := s2.chan c
    let ces := x.ces.filter (fun e => decide (s2.now < e.2 + 60000000000)) ++ [(r, s2.now)]
    let fresh := match x.lastCe with | none => true | some t => decide (t + 100000000 ≤ s2.now)
    let s3 := s2.setChan c { x with ces := ces, lastCe := if fresh then some s2.now else x.lastCe }
    let s4 := if fresh then s3.raise (Ev.dc c) 0 else s3
    let lim := s.fld (Reg.DC_CTRL2 c) 31 16
    if lim != 0 && decide (lim < (ces.filter (fun e => e.1 == r)).length) then s4.rankRetire c r 1 else s4

/-- What the lost line held is lost with it: a spilled frame's cells, a table way (R537). -/
def State.dramLose (s : State) (use : DramUse) : State :=
  match use with
  | .bytes => s
  | .frame h => match s.frame? h with
    | none => s
    | some f => if f.spilled then s.setFrame h { f with spillLost := true } else s
  | .way t w => match SMap.get? s.lk.tables t with
    | none => s
    | some x => { s with lk := { s.lk with tables := SMap.put s.lk.tables t { x with act := { x.act with bad := insertNat w x.act.bad } } } }

/-- An uncorrectable error of a line (R537, R539, R541, R546): poison, count, location, event, and the rank's retirement unless it was
injected without FULL. -/
def State.dramUe (s : State) (line : Nat) (use : DramUse) : State :=
  let c := s.dramChannel (line * 64)
  if !s.dramHas (line * 64) || !s.eccOn line || s.dr.poison.contains line || s.dr.down then s
  else
    let r := s.lineRank line
    let p := s.linePlace line
    let full := match SMap.get? s.dr.bad line with | some 2 => false | _ => true
    let s1 := (s.countInjected c line).bump (Reg.DC_UE_COUNT c)
    let s2 := { s1 with dr := { s1.dr with bad := SMap.del s1.dr.bad line, poison := insertNat line s1.dr.poison } }
    let s3 := s2.setRegN (Reg.DC_LAST_UE c) (r * 2 ^ 30 + p.sub * 2 ^ 29 + p.bg * 2 ^ 26 + p.bank * 2 ^ 24 + p.row)
    let s4 := ((s3.setRegN (Reg.DC_LAST_UE_LINE c) line).raiseSev (Ev.dc c) 1 2).dramLose use
    if !full then s4
    else match (s4.chan c).mig with
      | some m => if m.spare && s4.rankSt c r == 2 then s4.spareFails c m r else s4.rankRetire c r 1
      | none => s4.rankRetire c r 1

/-- What a read of a line finds by an injection (R545). -/
def State.lineFound (s : State) (line : Nat) : State :=
  match SMap.get? s.dr.bad line with
  | none => s
  | some 1 => s.dramCe line
  | some _ => s.dramUe line .bytes

/-- Read n bytes from offset a as a requester of the block: the bytes, whether one of their lines is poisoned, and the state with the
bytes counted and what the reads found reported (R536, R537, R543). -/
def State.dramFetch (s : State) (a n : Nat) : List Byte × Bool × State :=
  let ls := (List.range (if n = 0 then 0 else (a + n - 1) / 64 - a / 64 + 1)).map (fun i => a / 64 + i)
  let bad := s.dramPoison a n
  let s1 := ls.foldl (fun (t : State) l => (t.lineFound l).bump64 (Reg.DC_RD_BYTES (t.dramChannel (l * 64))) (min 64 n)) s
  (s.dramRead a n, bad, s1)

/-- Write bytes as a requester of the block (R543). -/
def State.dramStore (s : State) (a : Nat) (d : List Byte) : State :=
  (s.dramWrite a d).bump64 (Reg.DC_WR_BYTES (s.dramChannel a)) d.length

/-- Serve one request (R529, R530, R542). -/
def State.serveReq (s : State) (c : Nat) (q : DramReq) : State :=
  if s.dramChannel (q.line * 64) != c || !s.dramHas (q.line * 64) then
    (match q.wr with | none => s.emit (.dramData c q.line (zeros 64) false) | some _ => s)
  else if s.dr.down then
    (match q.wr with | none => s.emit (.dramData c q.line (zeros 64) true) | some _ => s)
  else
    let s1 := s.activate q.line
    match q.wr with
    | some d => (s1.dramWrite (q.line * 64) (fit 64 d)).bump64 (Reg.DC_WR_BYTES c) 64
    | none =>
      let bad := s1.linePoison q.line
      let d := s1.dramRead (q.line * 64) 64
      ((s1.lineFound q.line).bump64 (Reg.DC_RD_BYTES c) 64).emit (.dramData c q.line d bad)

/-- The first request of the highest class. -/
def nextReq : List DramReq → Option DramReq
  | [] => none
  | q :: r => match nextReq r with
    | none => some q
    | some x => if x.cls < q.cls then some x else some q

/-! Start-up (R522-R526, R533) -/

/-- A channel passes on its own (R522). -/
def dramPopOk (p : DramPop) : Bool :=
  decide (1 ≤ p.speed) && decide (p.speed ≤ 5) && decide (p.density ≤ 2) && [1, 2, 4].contains p.ranks && p.checkOk

/-- Ranks of channel c that work: installed, trained, not retired earlier (R533; 19 R613). -/
def State.workingRanks (s : State) (c : Nat) (p : DramPop) : List Nat :=
  (List.range p.ranks).filter (fun r => !p.failed.contains r && !s.isRetired (rankPart c r))

/-- The spare of a channel and its active ranks (R524). -/
def State.ranksOf (s : State) (c : Nat) (p : DramPop) : Option Nat × List Nat :=
  let w := s.workingRanks c p
  let cap := 64 / rankGib p.density p.x4
  let sp := if s.flag (Reg.DC_CTRL c) 30 && decide (2 ≤ w.length) && w.contains (p.ranks - 1) then some (p.ranks - 1) else none
  (sp, (w.filter (fun r => sp != some r)).take cap)

/-- DC_CFG, DC_STATE and the slice map of a channel (R524, R526, R543). -/
def State.setupChan (s : State) (c : Nat) (p : DramPop) (used : Bool) (gib : Nat) : State :=
  let x := s.ranksOf c p
  let g := rankGib p.density p.x4
  let unused := (List.range p.ranks).filter (fun r => x.1 != some r && !x.2.contains r)
  let cfg := p.speed * 2 ^ 29 + bitVal p.x4 28 + p.density * 2 ^ 26 + p.ranks * 2 ^ 23
    + (if used then x.2.length * 2 ^ 20 + bitVal x.1.isSome 19 + x.1.getD 0 * 2 ^ 17 + 2 ^ 16 + x.2.length * g else 0)
    + (unused.foldl (fun m r => m + 2 ^ r) 0) * 2 ^ 8
  let st := (List.range p.ranks).foldl (fun m r => m + 4 ^ r *
    (if s.isRetired (rankPart c r) then 3 else if !used then 0 else if x.1 = some r then 2 else if x.2.contains r then 1 else 0)) 0
  let slices := (x.2.flatMap (fun r => (List.range (4 * g)).map (fun i => (r, i)))).take (4 * gib)
  let y := s.chan c
  let s1 := (s.setRegN (Reg.DC_CFG c) cfg).setRegN (Reg.DC_STATE c) st
  s1.setChan c { timing := y.timing, map := if used then slices.zipIdx.map (fun e => (e.2, e.1)) else [],
                 retrainAt := s.now + (min 1024 (max 16 (s.fld (Reg.DC_CTRL2 c) 10 0))) * 1000000 * (c + 4) / 4 }

/-- The training of all channels ends (R522-R526, R533): alike with the lowest channel that passes, in sets of 4, 2 or 1; every line is
zero. A channel that breaks the rules is logged. -/
def State.dramTrained (s : State) (pops : List DramPop) : State :=
  let pop := fun c => (pops[c]?).getD ⟨0, false, 0, 0, [], false⟩
  let alone := (List.range 4).filter (fun c => dramPopOk (pop c) && !(s.ranksOf c (pop c)).2.isEmpty)
  let alike := fun (a b : DramPop) => a.speed == b.speed && a.x4 == b.x4 && a.density == b.density && a.ranks == b.ranks
  let pass := match alone with
    | [] => []
    | c :: _ => alone.filter (fun d => alike (pop c) (pop d))
  let used := if pass.length = 3 then pass.take 2 else pass
  let gib := (used.map (fun c => (s.ranksOf c (pop c)).2.length * rankGib (pop c).density (pop c).x4)).foldl min 64
  let g := if used.isEmpty then 0 else gib
  let s1 := { s with dr := { s.dr with down := false, used := used, span := used.length * g * 2 ^ 30, withdrawn := [], poison := [],
                                       inject := [], bad := [] }, dram := [] }
  let s2 := (List.range 4).foldl (fun (t : State) c => t.setupChan c (pop c) (used.contains c) g) s1
  let s3 := (List.range 4).foldl (fun (t : State) c =>
    if (pop c).ranks != 0 && !pass.contains c then t.logKind (unitRange (15 + c)) 0 (15 + c) 1 0 [] else t) s2
  s3.setRegN (Reg.DC_CAP 0) (used.length * g)

end Sys2Proof.Machine
end

