-- ==== Sys2Proof/Machine/OpsDrive.lean ====
section
/-!
DEFINITION. Drive ports, remote targets, VBFs and backend commands (15 R504-R517).
-/

namespace Sys2Proof.Machine

open Sys2Proof

/-! Ports (R501-R507) -/

def State.drive (s : State) (p : Nat) : Drive := SMap.getD s.dp.drives p {}
def State.setDrive (s : State) (p : Nat) (d : Drive) : State := { s with dp := { s.dp with drives := SMap.put s.dp.drives p d } }

/-- STATE of R504: 0 EMPTY, 1 PRESENT, 2 STARTING, 3 ONLINE, 4 QUIESCING, 5 FAILED, 6 DISABLED. -/
def State.drvSt (s : State) (p : Nat) : Nat := s.fld (Reg.DP_PORT_STAT p) 18 16
def State.setDrvSt (s : State) (p st : Nat) : State := s.setFld (Reg.DP_PORT_STAT p) 18 16 st

/-- A port event names its port in DP_LAST. -/
def State.portEvent (s : State) (p bit sev : Nat) : State := (s.setRegN Reg.DP_LAST p).raiseSev Ev.dp bit sev

/-- Slot power off: DRV_PERST_N asserted, DRV_PWREN deasserted, link down, indicator off (R506). -/
def State.slotOff (s : State) (p : Nat) : State :=
  let a := Reg.DP_PORT_STAT p
  let s1 := ((s.setFld a 30 29 0).setFld a 10 8 0).setFld a 2 0 0
  (s1.setDrive p { s1.drive p with step := 0, blink := none, resetting := none, led := 0 })

/-- The waybills that wait for a port get its state (R520). -/
def State.powerDone (s : State) (p : Nat) : State := s.completeWait (.drvPower p) .ok (leBytes 1 (s.drvSt p) ++ zeros 3)

/-- The admin command of a port that has gone ends TIMEOUT. -/
def State.admGone (s : State) (p : Nat) : State :=
  match (s.drive p).adm with
  | none => s
  | some cid => (s.setDrive p { s.drive p with adm := none }).completeWait (.drvAdmin p cid) .timeout []

/-- Every command outstanding to drive p ends with a status. -/
def State.endPort (s : State) (p status : Nat) : State :=
  (s.dp.ios.filter (fun x => !x.remote && x.port == p && x.st == .issued)).foldl (fun t x => t.ioEnd x status) s

/-- CMD_TIMEOUT_S as it acts, in ns (R518). -/
def State.cmdNs (s : State) : Nat := max 1 (s.fld Reg.DP_CTRL 23 16) * 1000000000

/-- RECONNECT as it acts, in ns (R517, R518). -/
def State.reconnectNs (s : State) : Nat := max 1 (s.fld Reg.DP_CTRL 15 8) * 100000000

/-! Extents (R511) -/

def extKind (x : List Byte) : Nat := u8 x 0
def extPort (x : List Byte) : Nat := u8 x 1
def extTarget (x : List Byte) : Nat := u16 x 2
def extNsid (x : List Byte) : Nat := u32 x 4
def extLba (x : List Byte) : Nat := u64 x 8
def extBlocks (x : List Byte) : Nat := u64 x 16

/-- Blocks of a VBF. -/
def Vbf.capacity (v : Vbf) : Nat := v.extents.foldl (fun n x => n + extBlocks x) 0

def State.tgt (s : State) (t : Nat) : Target := SMap.getD s.dp.tgts t {}
def State.setTgt (s : State) (t : Nat) (x : Target) : State := { s with dp := { s.dp with tgts := SMap.put s.dp.tgts t x } }

/-- A namespace serves an extent of a VBF. -/
def nsServes (ns : List NsInfo) (bs : Nat) (x : List Byte) : Bool :=
  match ns.find? (fun n => n.nsid == extNsid x) with
  | none => false
  | some n => n.noMeta && n.lba == bs && (slice x 24 16 == zeros 16 || slice x 24 16 == n.nguid)
      && decide (extLba x + extBlocks x ≤ n.size)

/-- An extent is in service (R511). -/
def State.extOn (s : State) (bs : Nat) (x : List Byte) : Bool :=
  if extKind x = 1 then s.drvSt (extPort x) == 3 && nsServes (s.drive (extPort x)).ns bs x
  else if extKind x = 2 then (s.tgt (extTarget x)).st == 2 && nsServes (s.tgt (extTarget x)).info.ns bs x
  else false

/-! Issuing (R508-R513) -/

/-- Why a command cannot go to its drive or target now: some status ends it; `none` inside `some`: it waits. -/
def State.ioStop (s : State) (x : Io) : Option (Option Nat) :=
  let ext := match s.vbfOf x.owner x.vbf with
    | some v => v.extents.getD x.extent (zeros 48)
    | none => zeros 48
  if !x.remote then
    let st := s.drvSt x.port
    if st = 0 ∨ st = 4 ∨ st = 6 then some (some 0x07C0)
    else if st = 5 then some (some 0x07C6)
    else if st ≠ 3 ∨ s.extOn x.bs ext = false then some (some 0x07C2)
    else if (s.drive x.port).resetting.isSome ∨ 4096 ≤ s.regN (Reg.DP_PORT_OUT x.port) then some none
    else none
  else
    let t := s.tgt x.port
    if t.st = 0 then some (some (if t.again then 0x07C1 else 0x07C2))
    else if t.st = 1 then (if t.again then some none else some (some 0x07C2))
    else if s.extOn x.bs ext = false then some (some 0x07C2)
    else none

/-- NVMe opcode of a backend command; encrypted zeros are a Write (R514). -/
def Io.nvmeOp (x : Io) : Nat :=
  if x.op = 0x21 then 2 else if x.op = 0x22 then 1 else if x.op = 0x23 then 0 else if x.op = 0x24 then 9
  else if x.key.isSome then 1 else 8

/-- The submission queue entry (NVM Express Base 2.0; log entry 39): its data pointer names the staging area. -/
def Io.sqe (x : Io) : List Byte :=
  leBytes 1 x.nvmeOp ++ zeros 1 ++ leBytes 2 x.id ++ leBytes 4 x.nsid ++ zeros 16
    ++ leBytes 8 x.stage ++ leBytes 8 0
    ++ (if x.op = 0x23 then zeros 24
        else if x.op = 0x24 then leBytes 4 0 ++ leBytes 4 4 ++ leBytes 4 x.blocks ++ leBytes 8 x.lba ++ zeros 4
        else leBytes 8 x.lba ++ leBytes 4 (x.blocks - 1) ++ zeros 12)

/-- Issue a command that is ready, or end it, or leave it waiting. Staged data that is lost ends a write before its issue (R521). -/
def State.ioIssue (s : State) (x : Io) : State :=
  match s.ioStop x with
  | some (some st) => s.ioEnd x st
  | some none => s.mapIo x.id (fun y => { y with st := .ready })
  | none =>
    if x.op != 0x21 && x.len != 0 && s.dramPoison x.stage x.len then s.ioEnd x 0x07C5
    else
      let s1 := s.mapIo x.id (fun y => { y with st := .issued, deadline := s.now + s.cmdNs })
      if x.remote then s1.emit (.tcp x.port (x.id % max 1 (s.tgt x.port).info.conns + 1) x.sqe)
      else (s1.emit (.nvme x.port (x.id % 32 + 1) x.sqe)).portOut x.port

/-- Commands that wait to be issued are tried again. -/
def State.ioPump (s : State) : State :=
  (s.dp.ios.filter (fun x => x.st == .ready)).foldl (fun t x => t.ioIssue x) s

/-- The key slot serves the VBF's owner (R513, 11 R391). -/
def State.ioKeyOk (s : State) (x : Io) (slot : Nat) : Bool :=
  let k := s.keySlot slot
  k.st == 2 && k.owner == x.owner && k.framing == 7

/-- A part's data goes to a cipher complex, one data unit a block, or fails (R514). -/
def State.ioCrypt (s : State) (x : Io) (slot : Nat) (enc : Bool) : State :=
  if !s.ioKeyOk x slot then s.ioEnd x 0x47C3
  else (s.mapIo x.id (fun y => { y with st := if enc then .encrypt else .decrypt })).bulkSubmit (if enc then 1 else 0) (.drive x.id) slot
    x.blocks x.bs

/-- Data of a part is in staging: it is encrypted first when the VBF has a slot. -/
def State.ioStaged (s : State) (x : Io) : State :=
  match x.key with
  | some k => s.ioCrypt x k true
  | none => s.ioIssue x

/-- The last data unit of a part has left its lane: the data in staging is what the key makes of it (R381). -/
def State.ioCrypted (s : State) (id : Nat) (k : KeySlot) : State :=
  match s.io? id with
  | none => s
  | some x =>
    if s.dramPoison x.stage x.len then s.ioEnd x 0x07C5
    else
      let enc := x.st == .encrypt
      let s1 := s.dramStore x.stage (xtsBlocks k enc x.bs x.blocks x.vlba (s.dramRead x.stage x.len))
      if enc then s1.ioIssue x else s1.ioToHost x

/-- A part's request failed at a lane for want of its key (R513). -/
def State.ioNoKey (s : State) (id : Nat) : State :=
  match s.io? id with
  | none => s
  | some x => s.ioEnd x 0x47C3

/-- A command ends at its drive or target with NVMe status st: counts, then the data of a good read goes on to the host. -/
def State.ioDone (s : State) (x : Io) (st : Nat) : State :=
  let n := if x.op = 0x21 ∨ x.op = 0x22 then x.len else 0
  let s1 := if x.remote then s.setTgt x.port { s.tgt x.port with bytes := (s.tgt x.port).bytes + n, rto := [] }
    else (s.bump64 (Reg.DP_PORT_BYTES x.port) n).bump (Reg.DP_PORT_IOS x.port)
  let s2 := if st ≠ 0 ∨ x.op ≠ 0x21 then s1.ioEnd x st
    else match x.key with
      | some k => (s1.ioCrypt x k false)
      | none => s1.ioToHost x
  (if x.remote then s2 else s2.portOut x.port).ioPump

/-! Entries (R512, R514) -/

/-- Bytes a part keeps in the staging area. -/
def stageNeed (op : Nat) (key : Bool) (n : Nat) : Nat := if op = 0x21 ∨ op = 0x22 ∨ (op = 0x25 ∧ key) then n else 0

/-- The lowest 4 KiB-aligned free place for n bytes in the staging area. -/
def State.stagePlace (s : State) (n : Nat) : Option Nat :=
  let a := stageArea (s.regN Reg.DP_STAGE)
  let used : List Area := s.dp.ios.filterMap (fun x => if x.len = 0 then none else some (x.stage, ceilDiv x.len 4096 * 4096))
  let cand := (a.1 :: used.map (fun u => u.1 + u.2)).filter (fun c =>
    decide (c + n ≤ a.1 + a.2) && !(used.any (fun u => areaHits (c, ceilDiv n 4096 * 4096) u)))
  cand.foldl (fun b c => match b with | none => some c | some x => some (min x c)) none

/-- The part of a block range that each extent takes: extent index, record, first virtual LBA, blocks. -/
def splitRange : Nat → List (List Byte) → Nat → Nat → Nat → List (Nat × List Byte × Nat × Nat)
  | _, [], _, _, _ => []
  | i, x :: r, base, lba, n =>
    let e := base + extBlocks x
    let a := max base lba
    let b := min e (lba + n)
    (if a < b then [(i, x, a, b - a)] else []) ++ splitRange (i + 1) r e lba n

/-- The distinct namespaces of a VBF (R512 BLK_FLUSH). -/
def distinctNs : List (Nat × List Byte) → List (Nat × List Byte)
  | [] => []
  | x :: r =>
    let same := fun (y : Nat × List Byte) => extKind y.2 == extKind x.2 && extNsid y.2 == extNsid x.2
      && (if extKind x.2 = 1 then extPort y.2 == extPort x.2 else extTarget y.2 == extTarget x.2)
    x :: (distinctNs r).filter (fun y => !same y)

/-- The parts of a block entry in ascending LBA order (R512), without their places in staging. -/
def blockParts (v : Vbf) (op lba n : Nat) : List (Nat × List Byte × Nat × Nat) :=
  if op = 0x23 then
    (distinctNs ((v.extents.zipIdx.map (fun x => (x.2, x.1))).filter (fun x => extKind x.2 != 0))).map (fun x => (x.1, x.2, 0, 0))
  else splitRange 0 v.extents 0 lba n

/-- First virtual LBA of extent i. -/
def Vbf.baseOf (v : Vbf) (i : Nat) : Nat := (v.extents.take i).foldl (fun n x => n + extBlocks x) 0

/-- Make the parts of an entry, each with its place in staging; none: the area has no room now. -/
def State.makeParts (s : State) (g : Nat) (e : Entry) (v : Vbf) :
    List ((Nat × List Byte × Nat × Nat) × Nat) → Option State
  | [] => some s
  | (p, i) :: r =>
    let op := e.op
    let n := p.2.2.2 * v.blockSize
    let len := stageNeed op v.key.isSome n
    match (if len = 0 then some 0 else s.stagePlace len) with
    | none => none
    | some st =>
      let remote := extKind p.2.1 == 2
      let x : Io :=
        { id := s.dp.next, g := g, idx := e.idx, part := i, owner := v.owner, vbf := v.num, extent := p.1, op := op, remote := remote,
          port := if remote then extTarget p.2.1 else extPort p.2.1, nsid := extNsid p.2.1,
          lba := extLba p.2.1 + (p.2.2.1 - v.baseOf p.1), vlba := p.2.2.1, blocks := p.2.2.2, bs := v.blockSize,
          off := (p.2.2.1 - u64 e.raw 16) * v.blockSize, stage := st, len := len,
          key := (if op = 0x21 ∨ op = 0x22 ∨ op = 0x25 then v.key else none),
          st := if op = 0x22 then .staging else .ready }
      { s with dp := { s.dp with ios := s.dp.ios ++ [x], next := (s.dp.next + 1) % 65536 } }.makeParts g e v r

/-- Start the parts of an entry whose buffers are known: a write reads the host buffer first (R514). -/
def State.startParts (s : State) (g : Nat) (q : WorkQ) (e : Entry) : State :=
  match s.vbfOf (flaskNo q.fn) (u16 e.raw 8) with
  | none => s.request g e.idx { status := cBadDescriptor }
  | some v =>
    let lba := u64 e.raw 16
    let n := u16 e.raw 10
    if e.op ≠ 0x23 ∧ v.capacity < lba + n then s.request g e.idx { status := cBadDescriptor }
    else
      let ps := blockParts v e.op lba n
      if ps.isEmpty then s.request g e.idx { status := cOk }
      else match s.makeParts g e v ps.zipIdx with
        | none => s.setWq g (q.mapEntry e.idx (fun y => { y with started := false }))
        | some t =>
          if e.op = 0x22 then
            e.frags.foldl (fun (u : State) f => u.emit (.hostRead q.fn f.1 f.2))
              (t.modEntry g e.idx (fun y => { y with want := n * v.blockSize, got := [] }))
          else (t.partsOf g e.idx).foldl (fun (u : State) x =>
            if x.op = 0x25 && x.key.isSome then (u.dramStore x.stage (zeros x.len)).ioStaged x else u.ioIssue x) t

/-- Bytes of a BLK_WRITE buffer arrive: when all are there, each part that waits for them has its share in staging (R514, R521). -/
def State.blkData (s : State) (g idx : Nat) (data : List Byte) : State :=
  match s.wq? g with
  | none => s
  | some q => match q.entry? idx with
    | none => s
    | some e =>
      if q.kind ≠ 2 ∨ e.op ≠ 0x22 ∨ e.want = 0 ∨ e.want ≤ e.got.length ∨ e.ended = true then s
      else
        let got := (e.got ++ data).take e.want
        let s1 := s.setWq g (q.mapEntry idx (fun y => { y with got := got }))
        if got.length < e.want then s1
        else ((s1.partsOf g idx).filter (fun x => x.st == .staging)).foldl
          (fun t x => (t.dramStore x.stage (slice got x.off x.len)).ioStaged x) s1

/-- Staged data of a write was lost after its issue: the host buffer is read again and the command issued again (R521). -/
def State.ioRestage (s : State) (x : Io) : State :=
  match (s.wq? x.g).bind (fun q => (q.entry? x.idx).map (fun e => (q, e))) with
  | none => s.ioEnd x 0x07C5
  | some (q, e) =>
    if e.ended then s.ioEnd x 0x07C5
    else
      let s1 := (s.mapIo x.id (fun y => { y with st := .staging })).modEntry x.g x.idx (fun y => { y with got := [] })
      e.frags.foldl (fun (u : State) f => u.emit (.hostRead q.fn f.1 f.2)) (if x.remote then s1 else s1.portOut x.port)

/-! Starts and removals (R505-R507) -/

/-- A start begins: power is switched on and must be good in 100 ms (R505 step 3). -/
def State.driveStart (s : State) (p : Nat) : State :=
  ((s.setDrvSt p 2).setFld (Reg.DP_PORT_STAT p) 30 30 1).setDrive p
    { s.drive p with step := 1, deadline := s.now + 100000000, blink := none, resetting := none, led := 0 }

/-- A start or reset fails: slot off, FAILED, DRIVE_FAILED; commands end DRIVE_FAILED (R505, R510). -/
def State.driveFail (s : State) (p : Nat) : State :=
  ((((s.slotOff p).setDrvSt p 5).endPort p 0x07C6).portEvent p 3 2).admGone p |>.powerDone p |>.ioPump

/-- Surprise removal, link down, power fault or force-off: every outstanding command ends DRIVE_ABSENT (R506, R507). -/
def State.driveGone (s : State) (p st : Nat) : State :=
  ((((s.slotOff p).setDrvSt p st).endPort p 0x07C0).admGone p).powerDone p |>.ioPump

/-- QUIESCING begins (R507). -/
def State.driveQuiesce (s : State) (p : Nat) : State :=
  (s.setDrvSt p 4).setDrive p { s.drive p with blink := none, led := 1, quiesceAt := s.now + s.cmdNs }

/-- A controller reset begins: CC.EN clears; CSTS.RDY must follow within CAP.TO (R510). -/
def State.controllerReset (s : State) (p : Nat) : State :=
  if (s.drive p).resetting.isSome then s
  else ((s.bump (Reg.DP_PORT_RESETS p)).setDrive p
    { s.drive p with resetting := some (s.now + (s.drive p).capTo * 500000000) }).emit (.nvmeReg p 1 0)

/-! Targets (R516, R517) -/

/-- Every outstanding command of a target ends with a status. -/
def State.endTarget (s : State) (t status : Nat) : State :=
  (s.dp.ios.filter (fun x => x.remote && x.port == t && (x.st == .issued || x.st == .ready))).foldl (fun u x => u.ioEnd x status) s

/-- Issue the outstanding commands of a target or drive again (R510, R517). -/
def State.reissue (s : State) (remote : Bool) (p : Nat) : State :=
  (s.dp.ios.filter (fun x => x.remote == remote && x.port == p && x.st == .issued)).foldl (fun t x => t.ioIssue x) s

/-- A connection closes: the device reconnects for RECONNECT_MS (R517). -/
def State.targetClose (s : State) (t : Nat) : State :=
  let x := s.tgt t
  if x.st != 2 then s
  else s.setTgt t { x with st := 1, again := true, deadline := s.now + s.reconnectNs, rto := [] }

end Sys2Proof.Machine
end

