-- ==== Sys2Proof/Machine/OpsConvoy.lean ====
section
/-!
DEFINITION. The caravan link layer and the convoy: flits, credits, retry, loss, partitions, frames between members (17 R547-R566).
-/

namespace Sys2Proof.Machine

open Sys2Proof

/-- Store a caravan port's link layer. -/
def State.setCp (s : State) (c : Nat) (x : CpPort) : State :=
  { s with cv := if c = 1 then { s.cv with cp1 := x } else { s.cv with cp0 := x } }

/-- Caravan port c's link is up and carries flits (R571). -/
def State.cpUp (s : State) (c : Nat) : Bool := s.flag (Reg.CP_STAT c) 31

/-- MIN_WIDTH and RETRAIN_MS as they act (R571). -/
def State.minWidth (s : State) (c : Nat) : Nat := min 4 (max 1 (s.fld (Reg.CP_CTRL c) 2 0))
def State.retrainNs (s : State) : Nat := min 100 (max 1 (s.fld Reg.CV_CTRL 15 8)) * 1000000

/-- The lanes that carry flits and the lanes retired. -/
def State.cpLanes (s : State) (c : Nat) : Nat := s.fld (Reg.CP_STAT c) 14 10
def State.cpRetired (s : State) (c : Nat) : Nat := s.fld (Reg.CP_STAT c) 9 5

/-- Store the lane mask; WIDTH follows (R571). -/
def State.setLanes (s : State) (c m : Nat) : State := (s.setFld (Reg.CP_STAT c) 14 10 m).setFld (Reg.CP_STAT c) 22 20 (popCount 5 m)

/-! Flits (R552-R554) -/

/-- The bytes of a flit. -/
def flitBytes (type seq ack : Nat) (nak : Bool) (dcr ccr epoch : Nat) (payload : List Byte) : List Byte :=
  let b := leBytes 2 (seq % 4096 + type * 4096) ++ leBytes 2 (ack % 4096 + bitVal nak 12) ++ leBytes 1 dcr ++ leBytes 1 ccr
    ++ leBytes 2 epoch ++ fit 244 payload
  b ++ leBytes 4 (crc32c b)

/-- A flit leaves on port c, with the last sequence received in order. -/
def State.sendFlit (s : State) (c type seq : Nat) (nak : Bool) (dcr ccr : Nat) (payload : List Byte) : State :=
  (s.emit (.flit c (flitBytes type seq (s.cp c).rx nak dcr ccr (s.regN (Reg.CP_EPOCH c)) payload))).bump64 (Reg.CP_FLITS_TX c) 1

/-- Payloads of 244 bytes. -/
def flitParts : Nat → List Byte → List (List Byte)
  | 0, _ => []
  | n + 1, l => fit 244 l :: flitParts n (l.drop 244)

/-- New flits of a class enter the retry buffer and leave (R553, R554). -/
def State.sendPayloads (s : State) (c type target : Nat) : List (List Byte) → State
  | [] => s
  | p :: r =>
    let x := s.cp c
    let fl : Flit := { seq := x.tx, type := type, payload := p, target := target }
    let x1 := { x with tx := (x.tx + 1) % 4096, retry := x.retry ++ [fl],
                       heldAt := if x.retry.isEmpty then s.now else x.heldAt,
                       dataCr := if type = 1 then x.dataCr - 1 else x.dataCr,
                       ctrlCr := if type = 2 then x.ctrlCr - 1 else x.ctrlCr }
    (((s.setCp c x1).sendFlit c type fl.seq false 0 0 p)).sendPayloads c type target r

/-- Send held flits again from the one after sequence `last` (R554); with none, every held flit. -/
def State.resend (s : State) (c : Nat) (last : Option Nat) : State :=
  let held := (s.cp c).retry
  let l : List Flit := match last with
    | none => held
    | some a => if held.any (fun f => f.seq == a % 4096) then (held.dropWhile (fun f => f.seq != a % 4096)).drop 1 else held
  let s1 := l.foldl (fun t f => t.sendFlit c f.type f.seq false 0 0 f.payload) s
  (s1.setCp c { s1.cp c with heldAt := s.now }).bumpN (Reg.CP_REPLAYS c) l.length

/-! Frames between members (R561-R564) -/

/-- Edits for a remote host queue: all but a VLAN pop, which travels as VLAN_POP (R561). -/
def notPop : Edit → Bool
  | .vlan 0 _ _ => false
  | _ => true

/-- The frame as it leaves for another member: its edits applied, a transit frame as it came. -/
def State.caravanEdit (s : State) (f : Frame) : EditRun :=
  match f.transit with
  | some _ => { bytes := f.bytes }
  | none => match f.dest with
    | some (.remoteQueue _ _ _) => s.edited { f with edits := f.edits.filter notPop }
    | _ => s.edited f

/-- The convoy header of a frame of n bytes (R561): no action names a queue of the target, so TMQ names the destination's own. -/
def State.convoyHeader (s : State) (f : Frame) (n : Nat) : List Byte :=
  match f.transit with
  | some h => h
  | none =>
    let pop := f.edits.any (fun e => !notPop e)
    let d := match f.dest with
      | some (.remotePort d p) => (1, d, [1, BitVec.ofNat 8 p] ++ zeros 6)
      | some (.remoteQueue d fn q) => (2, d, [2, 0] ++ leBytes 2 (flaskNo fn) ++ leBytes 2 q ++ zeros 2)
      | _ => (1, s.cvId, zeros 8)
    leBytes 1 d.1 ++ leBytes 1 (s.cvId + 4 * d.2.1 + bitVal f.entry.isSome 4) ++ leBytes 2 n ++ d.2.2 ++ [0xFF, 0xFF]
      ++ leBytes 1 (f.tc % 8 + f.color * 8 + (if d.1 = 2 then bitVal pop 5 else 0)) ++ zeros 1

/-- Flits of a frame of n bytes with its header. -/
def flitsFor (n : Nat) : Nat := ceilDiv (16 + n) 244

/-- Caravan port c can take a frame of n bytes: it is up, it has credits, the retry buffer has room (R338, R553, R554). -/
def State.cpCanTake (s : State) (c n : Nat) : Bool :=
  let x := s.cp c
  s.cpUp c && decide (flitsFor n ≤ x.dataCr) && decide (x.retry.length + flitsFor n ≤ 1024)

/-- Frame h leaves for another member on caravan port c; it stays until its last flit is acknowledged (01 R29). -/
def State.caravanSend (s : State) (h : Nat) (f : Frame) (c : Nat) (b : List Byte) : State :=
  let hd := s.convoyHeader f b.length
  let target := u8 hd 1 / 4 % 4
  let d := hd ++ b
  let s1 := s.sendPayloads c 1 target (flitParts (flitsFor b.length) d)
  let last := ((s1.cp c).tx + 4095) % 4096
  s1.setFrame h { f with stage := .wire (8 + c), convoy := some (c, last), bytes := f.bytes }

/-- Frames whose last flit is no longer held are done: their entries complete OK (01 R29). -/
def State.caravanAcked (s : State) (c : Nat) : State :=
  let held := (s.cp c).retry.map (·.seq)
  s.fr.frames.foldl (fun t x => match x.2.convoy with
    | some (p, q) => if p = c ∧ !held.contains q then t.dropFrame x.1 else t
    | none => t) s

/-- An acknowledgement of every flit up to sequence a (R554). -/
def State.flitAck (s : State) (c a : Nat) : State :=
  let x := s.cp c
  if x.retry.any (fun f => f.seq == a) then
    (s.setCp c { x with retry := (x.retry.dropWhile (fun f => f.seq != a)).drop 1, heldAt := s.now }).caravanAcked c
  else s

/-! Partitions and routes (R560, R566) -/

/-- Ring link k, between port 1 of device k and port 0 of device k + 1, is up: the own links by the own ports. -/
def State.ringLink (s : State) (k : Nat) : Bool :=
  let n := s.cvSize
  if n ≤ 1 then false
  else if k = s.cvId then s.caravanUp 1
  else if (k + 1) % n = s.cvId then s.caravanUp 0
  else s.cv.links.testBit k

/-- The hops from this device to d by port 1 (true) or port 0, when every link of that way is up. -/
def State.hops (s : State) (d : Nat) (up : Bool) : Option Nat :=
  let n := s.cvSize
  let k := if up then (d + n - s.cvId) % n else (s.cvId + n - d) % n
  let ok := (List.range k).all (fun i => if up then s.ringLink ((s.cvId + i) % n) else s.ringLink ((s.cvId + n - 1 - i) % n))
  if d < n ∧ s.cvId < n ∧ 0 < k ∧ ok = true then some k else none

/-- The port of the shortest way to d, port 1 of two equal ones (R560). -/
def State.bestRoute (s : State) (d : Nat) : Option Nat :=
  match s.hops d true, s.hops d false with
  | some a, some b => if b < a then some 0 else some 1
  | some _, none => some 1
  | none, some _ => some 0
  | none, none => none

/-- The way to d by port c is up. -/
def State.wayUp (s : State) (d c : Nat) : Bool := (s.hops d (c == 1)).isSome

/-- Routes follow the links (R560): a route stays while its way is up, moves to the other way when it is lost. -/
def State.reroute (s : State) : State :=
  let ds := (List.range 4).filter (fun d => d != s.cvId)
  { s with cv := { s.cv with routes := ds.filterMap (fun d =>
      match SMap.get? s.cv.routes d with
      | some c => if s.wayUp d c then some (d, c) else (s.bestRoute d).map (fun x => (d, x))
      | none => (s.bestRoute d).map (fun x => (d, x))) } }

/-- The members and the links of the partition changed (R559, R565, R566): routes, members, arbiter and quorum are taken anew. New members
get a SEQ_SYNC. A partition without quorum has no owner; a new arbiter keeps the drover whose home is in its partition and revokes any
other; it tells members that join; an arbiter that is one no longer hands its
state to the new one. -/
def State.partition (s0 : State) : State :=
  let s := s0.reroute
  let oldM := s0.peers
  let oldArb := s0.fld Reg.CV_STATE 5 4
  let held := s0.flag Reg.CV_STATE 13 && oldArb == s0.cvId && s0.ownSt != 0
  let newM := (List.range 4).filter (fun d => d != s.cvId && (SMap.get? s.cv.routes d).isSome && !s.cv.cut.contains d)
  let mask := (newM.foldl (fun m d => m ||| 2 ^ d) (2 ^ s.cvId)) % 16
  let s1 := s.setFld Reg.CV_STATE 11 8 mask
  let s2 := (s1.setFld Reg.CV_STATE 5 4 s1.arbiter).setFld Reg.CV_STATE 13 13 (if s1.quorum then 1 else 0)
  let s3 := if s1.arbiter ≠ oldArb then s2.raise Ev.cv 9 else s2
  let joined := newM.filter (fun d => !oldM.contains d)
  let s4 := { s3 with cv := { s3.cv with synced := s3.cv.synced.filter (fun d => newM.contains d && !joined.contains d) } }
  let s5 : State := joined.foldl (fun t d =>
    let r := SMap.getD t.cv.peers d {}
    let top := r.done.foldl max r.floor
    t.emit (.convoy d none (.sync (if r.known then top else 0)
      (match SMap.get? t.cv.lastSeq d with | some n => (n + 1) % 2 ^ 32 | none => 0)))) s4
  if held && s5.arbiter != s5.cvId then
    s5.cvSend s5.arbiter .ownState (.ownState s5.ownSt s5.droverHome (s5.fld Reg.OWN_STATE 15 8) (word s5.devEpoch))
  else if !s5.quorum then (if s5.ownSt = 0 then s5 else s5.dropOwner false)
  else if s5.arbiter = s5.cvId ∧ oldArb ≠ s5.cvId ∧ s5.ownSt = 2 ∧ !s5.cvMembers.contains s5.droverHome then s5.revoke
  else if joined.isEmpty then s5
  else s5.cvTell

/-! Loss (R557, R558) -/

/-- The units of the convoy seal set, ascending (R569). -/
def State.sealSet (s : State) : List Nat :=
  (List.range 55).filter (fun u => if u < 32 then s.flag Reg.CV_SEAL_SET_LO u else s.flag Reg.CV_SEAL_SET_HI (u - 32))

/-- The committed and the current convoy digest of this device (R569). -/
def State.cvDigests (s : State) : Nat × Nat :=
  let d := fun (o : Nat) => crc32c ((s.sealSet.map (fun u => leBytes 4 (s.regN (unitHdr u + o)))).flatten)
  (d 8, d 12)

/-- The status a code names; INTERNAL for one that names none (00 R16). -/
def statusOf (n : Nat) : Status :=
  ([Status.ok, .pending, .busy, .notOwner, .staleEpoch, .badOpcode, .badParam, .badLength, .noResource, .tollgatesExhausted, .rehashNeeded,
    .keySlotsExhausted, .aborted, .alreadyComplete, .contained, .entropyFail, .authFail, .linkLost, .timeout, .sealMismatch, .guardError,
    .unitRetired].find? (fun x => x.code == n)).getD .internal

/-- Member d's committed convoy digest as this device knows it (R569). -/
def State.committedOf (s : State) (d : Nat) : Nat :=
  if d = s.cvId then s.cvDigests.1 else match SMap.get? s.cv.digests d with | some x => x.committed | none => 0

/-- The status of CV_SEAL_COMMIT from its members' replies (R570): a BUSY, then a LINK_LOST, then any other failure, then the comparison. -/
def State.cvSealStatus (s : State) : Status :=
  let l := s.cv.sealReplies.map (fun x => statusOf (u16 x.2 8))
  if l.contains .busy then .busy
  else if l.contains .linkLost then .linkLost
  else match l.find? (· != .ok) with
    | some st => st
    | none =>
      let ds := s.cv.sealReplies.map (fun x => s.committedOf x.1)
      if s.cv.sealCheck ∧ ds.any (fun d => d != ds.headD 0) = true then .sealMismatch else .ok

/-- Once every member asked has replied, CV_SEAL_COMMIT gets its final reply: members, committed digests, units sealed (R570, R573). -/
def State.cvSealDone (s : State) : State :=
  if !s.waits .cvSealCommit || s.cv.sealReplies.any (fun x => x.2.isEmpty) then s
  else
    let mask := s.cv.sealReplies.foldl (fun m x => m + 2 ^ x.1) 0
    let res := leBytes 4 mask ++ (List.range 4).flatMap (fun d => match SMap.get? s.cv.sealReplies d with
      | some b => leBytes 4 (s.committedOf d) ++ leBytes 4 (u32 b 20)
      | none => zeros 8)
    ({ s with cv := { s.cv with sealReplies := [] } }.completeWait .cvSealCommit s.cvSealStatus res)

/-- Member d's part of CV_SEAL_COMMIT has ended with the reply b. -/
def State.cvSealPart (s : State) (d : Nat) (b : List Byte) : State :=
  if (SMap.get? s.cv.sealReplies d).isNone then s
  else { s with cv := { s.cv with sealReplies := SMap.put s.cv.sealReplies d b } }.cvSealDone

/-- The final reply of a control request that another device of the convoy did not answer. -/
def State.cvReqDone (s : State) (r : CvReq) (st : Status) (res : List Byte) : State :=
  match r.what with
  | .forward inst tag => s.complete (fun p => p.inst == inst && p.tag == tag) st res
  | .relay inst tag => s.complete (fun p => p.inst == inst && p.tag == tag) st res
  | .sealPart => s.cvSealPart r.target (replyBytes 0x0110 1 0 0 st.code 0 0 res)
  | .ownState => s

/-- A VOID notice: the lowest sequence not yet used (R558), which is not used later either, since the target's floor reaches it. -/
def State.sendVoid (s : State) (target : Nat) : State :=
  let n := (SMap.getD s.cv.lastSeq target 0 + 1) % 2 ^ 32
  { s with cv := { s.cv with lastSeq := SMap.put s.cv.lastSeq target n } }.emit (.convoy target none (.void n))

/-- Requests that left by port c complete LINK_LOST, counted; VOID goes to each target (R557, R558). -/
def State.loseReqs (s : State) (c : Nat) : State :=
  let l := s.cv.reqs.filter (fun r => r.via == some c)
  let s1 := { s with cv := { s.cv with reqs := s.cv.reqs.filter (fun r => r.via != some c) } }
  let s2 := l.foldl (fun t r => t.cvReqDone r .linkLost []) (s1.bumpN (Reg.CP_LOST_REQS c) l.length)
  (l.map (·.target)).eraseDups.foldl (fun t d => t.sendVoid d) s2

/-- Frames of a lost link: a transmit entry awaiting its acknowledgement completes LINK_LOST; frames of no entry drop (R557). -/
def State.loseFrames (s : State) (c : Nat) : State :=
  s.fr.frames.foldl (fun t x =>
    let f := x.2
    let wire := match f.convoy with | some (p, _) => p == c | none => false
    let queued := match f.stage with | .queued q => s.tmqPort q == 8 + c | _ => false
    match f.entry with
    | some (g, i) =>
      if wire && !f.copy then
        ((t.request g i { status := cLinkLost }).bump (Reg.CP_LOST_REQS c)).endFrame x.1
      else t
    | none => if wire || queued then (t.bump Reg.TM_DROP_DOWN).dropFrame x.1 else t) s

/-- The link of port c is lost (R557): requests and entries end, the retry buffer is flushed, members and routes follow. -/
def State.cpLost (s : State) (c : Nat) : State :=
  let s1 := s.setCp c { s.cp c with downAt := none, trained := false }
  let s2 := (((s1.setFld (Reg.CP_STAT c) 29 29 1).raise Ev.cv 2).loseFrames c).loseReqs c
  (s2.setCp c { s2.cp c with retry := [], part := [], naked := false, proposal := none }).partition

/-- The link of port c goes down and retrains (R557). -/
def State.cpDown (s : State) (c : Nat) : State :=
  if !s.cpUp c then s
  else
    let s1 := (((s.setFld (Reg.CP_STAT c) 31 31 0).setFld (Reg.CP_STAT c) 30 30 1).setLanes c 0).raise Ev.cv 1
    (s1.bump (Reg.CP_RETRAINS c)).setCp c { s1.cp c with trained := false, downAt := some (s.now + s.retrainNs), proposal := none }

/-- A port is held down (R571): its link, if any, is lost at once. -/
def State.cpHold (s : State) (c : Nat) : State :=
  let was := s.cpUp c || (s.cp c).downAt.isSome
  let s1 := (((s.setFld (Reg.CP_STAT c) 31 31 0).setFld (Reg.CP_STAT c) 30 30 0).setLanes c 0).setCp c { s.cp c with trained := false }
  if was then (s1.raise Ev.cv 1).cpLost c else s1

/-- Both ports are held down: CONVOY_ID is not below SIZE, or the convoy is one device (R547, R549). -/
def State.cvHeldDown (s : State) : Bool := decide (s.cvSize ≤ s.cvId) || s.cvSize == 1

/-! Lanes (R555, R556) -/

/-- The lanes of port c that the link may use: four of those not retired, in lane order. -/
def freshLanes (retired : Nat) : Nat :=
  ((List.range 5).filter (fun l => !retired.testBit l)).take 4 |>.foldl (fun m l => m + 2 ^ l) 0

/-- A lane mask takes effect at both ends: flits lost in the switch are sent again; below MIN_WIDTH the link goes down (R551, R556). -/
def State.switchLanes (s : State) (c m : Nat) : State :=
  let s1 := (s.setLanes c m).bump (Reg.CP_WIDTH_CHANGES c)
  if popCount 5 m < s1.minWidth c then s1.cpDown c else s1

/-- Propose a lane mask to the partner (R556). -/
def State.propose (s : State) (c m : Nat) : State :=
  (s.setCp c { s.cp c with proposal := some m }).emit (.width c m s.cvId false)

/-- Retire a caravan lane (R555; 19 R612): the reserve lane takes its place, or the link narrows. -/
def State.retireCvLane (s : State) (c lane reason : Nat) : State :=
  let p : Part := { kind := 3, index := c * 8 + lane }
  if s.isRetired p then s
  else
    let used := s.cpLanes c
    let s1 := ((s.markRetired p 19 reason).setFld (Reg.CP_STAT c) (5 + lane) (5 + lane) 1).raise Ev.cv 3
    let ret := s1.cpRetired c
    let spare := (List.range 5).find? (fun l => !ret.testBit l && !used.testBit l)
    let s2 := s1.setCp c { s1.cp c with unwanted := lane :: (s1.cp c).unwanted }
    let inUse := used.testBit lane || !s.cpUp c
    if !inUse then s2
    else
      let left := if used.testBit lane then used - 2 ^ lane else used
      match spare with
      | some l =>
        let s3 := (s2.raise Ev.cv 4).logReserve 3 p.index (c * 8 + l) 19
        if s.cpUp c then s3.propose c (left + 2 ^ l) else s3
      | none =>
        let s3 := (s2.raise Ev.cv 5).logDegraded 3 19 (ret % 32 == 31)
        if s.cpUp c then (if left = 0 then s3.cpDown c else s3.propose c left) else s3

end Sys2Proof.Machine
end

