-- ==== Sys2Proof/Machine/OpsDepart.lean ====
section
/-!
DEFINITION. The traffic manager's scheduler: shapers, the three passes at each level, deficit weighted round robin, and what a
departing frame becomes (10 R342-R351; 18 R588; 08 R293).
-/

namespace Sys2Proof.Machine

open Sys2Proof

/-! Time of the PTP clock (18 R584-R586) -/

/-- Units of the PTP clock in one ns. -/
def ptpUnit : Nat := 65536000000000

/-- PTP_FREQ as a signed number of 2^-16 ppb. -/
def State.ptpFreq (s : State) : Int := (s.reg Reg.PTP_FREQ).toInt

/-- The PTP clock now, in its units. -/
def State.ptpNow (s : State) : Nat := s.np.ptp + ((s.now - s.np.ptpAt : Nat) * ((ptpUnit : Int) + s.ptpFreq)).toNat

/-- The PTP clock in ns. -/
def State.ptpNs (s : State) : Nat := s.ptpNow / ptpUnit % (2 ^ 48 * 1000000000)

/-- The TIMESTAMP field of a time in ns (R586). -/
def tsField (ns : Nat) : Nat := ns / 1000000000 % 2 ^ 32 * 2 ^ 32 + ns % 1000000000

/-- A timestamp taken now at port p with its RX_ADJ or TX_ADJ (R585). -/
def State.stamp (s : State) (p : Nat) (rx : Bool) : Nat :=
  let v := s.fld (npBase p + 0x0C) (if rx then 31 else 15) (if rx then 16 else 0)
  let adj : Int := if v < 32768 then v else (v : Int) - 65536
  tsField (((s.ptpNow / (ptpUnit / 1000) : Nat) + adj) / 1000).toNat

/-! Shapers (R346, R347) -/

/-- CIR, PIR and bursts of a record with its shaper in bytes 16-31; bursts in 10^-6 bits. -/
def shCir (r : List Byte) : Nat := u32 r 16
def shPir (r : List Byte) : Nat := u32 r 20
def shCbs (r : List Byte) : Nat := max 2048 (u32 r 24 % 2 ^ 24) * tokByte
def shPbs (r : List Byte) : Nat := max 2048 (u32 r 28 % 2 ^ 24) * tokByte

/-- A PIR without a limit. -/
def unlimited : Nat := 0xFFFFFFFF

/-- Both buckets brought up to `now`. -/
def Shaper.fill (x : Shaper) (rcd : List Byte) (pir now : Nat) : Shaper :=
  let dt : Nat := now - x.t
  { c := min (shCbs rcd) (x.c + (shCir rcd * dt : Nat)),
    p := if pir = unlimited then shPbs rcd else min (shPbs rcd) (x.p + (pir * dt : Nat)), t := now }

/-- Peak-eligible; PIR 0 stops the object (R346). -/
def Shaper.peak (x : Shaper) (pir : Nat) : Bool := pir == unlimited || (pir != 0 && decide (0 ≤ x.p))

/-- Committed-eligible. -/
def Shaper.committed (x : Shaper) (rcd : List Byte) : Bool := shCir rcd != 0 && decide (0 ≤ x.c)

/-- A departure of n bytes; committed tokens never go below −32,768 bytes. -/
def Shaper.take (x : Shaper) (n : Nat) : Shaper :=
  { x with c := max (x.c - (n * tokByte : Nat)) (-((32768 * tokByte : Nat) : Int)), p := x.p - (n * tokByte : Nat) }

/-- A new or changed record's buckets: ZERO or FULL (R350). -/
def shaperInit (rcd : List Byte) (now : Nat) : Shaper :=
  if (u8 rcd 27).testBit 0 then { c := 0, p := 0, t := now } else { c := shCbs rcd, p := shPbs rcd, t := now }

/-- A new object's buckets are full (R347). -/
def shaperFull (rcd : List Byte) (now : Nat) : Shaper := { c := shCbs rcd, p := shPbs rcd, t := now }

/-! The tree (R339) -/

/-- A node's record. -/
def State.tmNode? (s : State) (n : Nat) : Option TmNode := SMap.get? s.tm.nodes n
def TmNode.port (n : TmNode) : Nat := u8 n.rcd 2 % 16
def TmNode.cls (n : TmNode) : Nat := u8 n.rcd 3 % 8

/-- A class's and a port's state. -/
def State.tmClass (s : State) (i : Nat) : TmNode := SMap.getD s.tm.classes i { rcd := defaultClassRec }
def State.tmPort (s : State) (p : Nat) : TmNode := SMap.getD s.tm.ports p { rcd := defaultPortRec p }

/-- A queue's PIR in force (R351). -/
def TmQ.pir (q : TmQ) : Nat :=
  match q.engRate with
  | some r => if q.flags.testBit 0 then min r (shPir q.rcd) else shPir q.rcd
  | none => shPir q.rcd

/-- The accounted length of frame f on port p (R348). -/
def State.acctLen (s : State) (p : Nat) (f : Frame) : Nat :=
  (max 1 ((f.acct : Int) + sbyte (u8 (s.tmPort p).rcd 0))).toNat

/-- Something a parent may serve: its number, whether it is committed-eligible, deficit, quantum in bytes, the length of the frame it
would send and what choosing it means. -/
structure Kid (α : Type) where
  id : Nat
  comm : Bool
  deficit : Int
  quantum : Nat
  len : Nat
  val : α

/-- Round robin: the first of a list in rising order after `last`. -/
def rrNext {α : Type} (last : Option Nat) (l : List (Kid α)) : Option (Kid α) :=
  match last with
  | none => l.head?
  | some n => (l.find? (fun k => n < k.id)).orElse (fun _ => l.head?)

/-- Deficit weighted round robin from the child at the head, which the round reaches now (R343): the child chosen and the deficits. -/
def drrGo {α : Type} : Nat → List (Kid α) → Option (Kid α × List (Nat × Int))
  | 0, _ => none
  | _ + 1, [] => none
  | n + 1, k :: r =>
    let d := k.deficit + k.quantum
    if (k.len : Int) ≤ d then some ({ k with deficit := d }, (k.id, d) :: r.map (fun x => (x.id, x.deficit)))
    else drrGo n (r ++ [{ k with deficit := d }])

/-- The peak pass among weighted children: the child whose turn it is goes on while its deficit lasts (R343). -/
def drrPick {α : Type} (last : Option Nat) (l : List (Kid α)) : Option (Kid α × List (Nat × Int)) :=
  let same := l.find? (fun k => some k.id == last && decide ((k.len : Int) ≤ k.deficit))
  match same with
  | some k => some (k, [])
  | none =>
    let start := match last with
      | none => l
      | some n => l.filter (fun k => n < k.id) ++ l.filter (fun k => k.id ≤ n)
    drrGo (80 * l.length) start

/-- A parent's choice: the child, whether by the committed pass, the deficits its peak pass left. -/
structure Pick (α : Type) where
  kid : Kid α
  comm : Bool
  deficits : List (Nat × Int) := []

/-- Both passes over weighted children (R342). -/
def twoPass {α : Type} (x : TmNode) (l : List (Kid α)) : Option (Pick α) :=
  match rrNext x.lastC (l.filter (·.comm)) with
  | some k => some { kid := k, comm := true }
  | none => (drrPick x.lastP l).map (fun r => { kid := r.1, comm := false, deficits := r.2 })

/-- The head frame of a queue that may depart now: on die, its entry accepted (01 R28), room on its caravan link (R338). -/
def State.tmHead (s : State) (p : Nat) (q : TmQ) : Option (Nat × Frame) :=
  match q.frames with
  | [] => none
  | h :: _ => match s.frame? h with
    | none => none
    | some f =>
      let acc := match f.entry with
        | some (g, i) => f.copy || (match (s.wq? g).bind (fun w => w.entry? i) with | some e => e.acc | none => true)
        | none => true
      let room := if 8 ≤ p ∧ p < 10 then s.cpCanTake (p - 8) (s.depLen f) else true
      let here := match f.stage with | .queued _ => true | _ => false
      if !here || f.spilled || !acc || !room then none else some (h, f)

/-- The queue of node n to serve. -/
def State.nodePick (s : State) (p n : Nat) (x : TmNode) : Option (Pick (Nat × Frame)) :=
  twoPass x (s.tm.queues.filterMap (fun y =>
    let q := y.2
    if q.node ≠ n then none
    else match s.tmHead p q with
      | none => none
      | some (h, f) =>
        let sh := q.sh.fill q.rcd q.pir s.now
        if !sh.peak q.pir then none
        else some { id := y.1, comm := sh.committed q.rcd, deficit := q.deficit, quantum := max 1 q.weight * 256,
                    len := s.acctLen p f, val := (h, f) }))

/-- The node of class c of port p to serve, with its queue. -/
def State.classPick (s : State) (p c : Nat) (x : TmNode) : Option (Pick (Pick (Nat × Frame))) :=
  twoPass x (s.tm.nodes.filterMap (fun y =>
    let n := y.2
    if n.port ≠ p ∨ n.cls ≠ c then none
    else
      let sh := n.sh.fill n.rcd (shPir n.rcd) s.now
      if !sh.peak (shPir n.rcd) then none
      else (s.nodePick p y.1 n).map (fun k =>
        { id := y.1, comm := sh.committed n.rcd, deficit := n.deficit, quantum := max 1 (u16 n.rcd 4) * 256, len := k.kid.len,
          val := k })))

/-- Class c of port p is paused by the partner (R344; 18 R581). -/
def State.paused (s : State) (p c : Nat) : Bool := decide (p < 8) && s.flag (npBase p + 4) (8 + c)

/-- The class of port p to serve (R344): the committed ones in class order, the STRICT ones in class order, then the SHARED group. -/
def State.portPick (s : State) (p : Nat) : Option (Pick (Pick (Pick (Nat × Frame)))) :=
  let x := s.tmPort p
  let sh := x.sh.fill x.rcd (shPir x.rcd) s.now
  if !sh.peak (shPir x.rcd) then none
  else
    let kids := (List.range 8).filterMap (fun c =>
      let k := s.tmClass (p * 8 + c)
      let ks := k.sh.fill k.rcd (shPir k.rcd) s.now
      if s.paused p c || !ks.peak (shPir k.rcd) then none
      else (s.classPick p c k).map (fun y =>
        ({ id := c, comm := ks.committed k.rcd, deficit := k.deficit, quantum := max 1 (u16 k.rcd 2) * 256, len := y.kid.len,
           val := y } : Kid (Pick (Pick (Nat × Frame))))))
    match kids.reverse.find? (·.comm) with
    | some k => some { kid := k, comm := true }
    | none =>
      let strict := fun (c : Nat) => !(u8 (s.tmClass (p * 8 + c)).rcd 0).testBit 0
      match kids.reverse.find? (fun k => strict k.id) with
      | some k => some { kid := k, comm := true }
      | none => (drrPick x.lastP (kids.filter (fun k => !strict k.id))).map
          (fun r => { kid := r.1, comm := false, deficits := r.2 })

/-! Deduction (R342, R347) -/

/-- A parent after its choice. -/
def TmNode.served {α : Type} (x : TmNode) (k : Pick α) : TmNode :=
  if k.comm then { x with lastC := some k.kid.id } else { x with lastP := some k.kid.id }

/-- A child's deficit after its parent's choice of it. -/
def Pick.left {α : Type} (k : Pick α) (old : Int) (len : Nat) (empty : Bool) : Int :=
  if empty then 0 else if k.comm then old else k.kid.deficit - len

/-- Every queue of node n is empty. -/
def State.nodeEmpty (s : State) (n : Nat) : Bool := s.tm.queues.all (fun y => y.2.node != n || y.2.frames.isEmpty)

/-- Every node of class c of port p is empty. -/
def State.classEmpty (s : State) (p c : Nat) : Bool :=
  s.tm.nodes.all (fun y => y.2.port != p || y.2.cls != c || s.nodeEmpty y.1)

/-- The frame chosen leaves its queue: tokens off every shaper on its path, deficits and rounds moved on, its sojourn noted. -/
def State.depart (s : State) (p : Nat) (k : Pick (Pick (Pick (Nat × Frame)))) : State :=
  let kn := k.kid.val
  let kq := kn.kid.val
  let c := k.kid.id
  let n := kn.kid.id
  let q := kq.kid.id
  let f := kq.kid.val.2
  let len := kq.kid.len
  let tm := s.tm
  let qs := tm.queues.map (fun y =>
    let d := match kq.deficits.find? (fun z => z.1 == y.1) with | some z => { y.2 with deficit := z.2 } | none => y.2
    if y.1 = q then
      let fr := y.2.frames.drop 1
      (y.1, { d with frames := fr, sh := (y.2.sh.fill y.2.rcd y.2.pir s.now).take len,
                     deficit := kq.left y.2.deficit len fr.isEmpty, sojourn := s.now - f.enqAt })
    else (y.1, d))
  let s1 := { s with tm := { tm with queues := qs } }
  let ns := tm.nodes.map (fun y =>
    let d := match kn.deficits.find? (fun z => z.1 == y.1) with | some z => { y.2 with deficit := z.2 } | none => y.2
    if y.1 = n then
      (y.1, { d.served kq with sh := (y.2.sh.fill y.2.rcd (shPir y.2.rcd) s.now).take len,
                               deficit := kn.left y.2.deficit len (s1.nodeEmpty n) })
    else (y.1, d))
  let s2 := { s1 with tm := { s1.tm with nodes := ns } }
  let cs := (List.range 8).foldl (fun (m : SMap TmNode) i =>
    let x := s.tmClass (p * 8 + i)
    let d := match k.deficits.find? (fun z => z.1 == i) with | some z => { x with deficit := z.2 } | none => x
    SMap.put m (p * 8 + i) (if i = c then
      { d.served kn with sh := (x.sh.fill x.rcd (shPir x.rcd) s.now).take len,
                         deficit := k.left x.deficit len (s2.classEmpty p c) } else d)) tm.classes
  let x := s.tmPort p
  let px := { x.served k with sh := (x.sh.fill x.rcd (shPir x.rcd) s.now).take len }
  { s2 with tm := { s2.tm with classes := cs, ports := SMap.put tm.ports p px } }.bump64 Reg.TM_DEQ 1

/-! What a departing frame becomes -/

/-- A frame without MACsec association where the port requires it, dropped at the attachment point (18 R588). -/
def State.macsecReq (s : State) (p : Nat) (b : List Byte) : Bool := decide (2 ≤ s.fld (npBase p) 27 26) && be16 b 12 != 0x888E

/-- Frame h goes to the MAC of network port p: edits, MAX_FRAME (05 R176), MACsec (11 R379), the transmit timestamp. -/
def State.toWire (s : State) (h : Nat) (f : Frame) (p : Nat) : State :=
  let r := s.edited f
  let s1 := s.bumpN Reg.CL_EDIT_DISCARD r.discards
  let out := fun (t : State) (b : List Byte) => t.setFrame h { f with stage := .wire p, wire := b, txTs := some (t.stamp p false) }
  if r.ttl then (s1.bump Reg.CL_TTL_DROP).dropFrame h
  else if s.maxFrame p < r.bytes.length then (s1.bump Reg.CL_EDIT_DISCARD).dropFrame h
  else match f.macsec with
    | none =>
      if s.macsecReq p r.bytes then ((s1.bump (Reg.NP_MACSEC_REQ_DROP p)).raise Ev.np 5).dropFrame h
      else out s1 r.bytes
    | some slot =>
      let k := s.keySlot slot
      if k.st ≠ 2 ∨ k.owner ≠ f.owner then s1.cxDrop (Reg.CX_NO_KEY 1) h
      else if k.framing ≠ 6 then s1.cxDrop (Reg.CX_FORMAT_DROP 1) h
      else match s1.assignSeq 1 slot with
        | (none, t) => t.cxDrop (Reg.CX_SEQ_DROP 1) h
        | (some n, t) => out (t.countSegment 1 slot (r.bytes.length - 12)) (macsecOut k r.bytes n)

/-- Frame h goes to the queue manager for host queue g (R356; 05 R193): its cells stay charged until it is written or dropped. -/
def State.toHost (s : State) (h : Nat) (f : Frame) (g : Nat) : State :=
  if 65536 ≤ g then (s.txComplete f none).endFrame h else
  let r := rxReq f
  ((s.bumpN Reg.CL_EDIT_DISCARD r.2.2).setFrame h { f with stage := .held g }).rxHand g r.1 r.2.1 (some h)

/-- Frame h leaves for another member on caravan port c. -/
def State.toCaravan (s : State) (h : Nat) (f : Frame) (c : Nat) : State :=
  let r := s.caravanEdit f
  let s1 := s.bumpN Reg.CL_EDIT_DISCARD r.discards
  if r.ttl then (s1.bump Reg.CL_TTL_DROP).dropFrame h
  else s1.caravanSend h f c r.bytes

/-- A frame is being sent by network port p. -/
def State.wireBusy (s : State) (p : Nat) : Bool := s.fr.frames.any (fun x => x.2.stage == .wire p)

/-- The cells of frame h are lost (06 R220): a transmit frame's payload is read again from host memory and starts over at the parser, its
place in its queue kept; any other frame drops. -/
def State.loseCells (s : State) (h : Nat) (f : Frame) : State :=
  match f.entry with
  | none => s.dropFrame h
  | some (g, i) => match (s.wq? g).bind (fun q => (q.entry? i).map (fun e => (q, e))) with
    | none => s.dropFrame h
    | some (q, e) =>
      let s1 := (s.setFrame h { f with stage := .reread, back := true, cells := 0, charge := none, spilled := false, bytes := [],
                                       wire := [], edits := [], cont := {}, job := none }).freeCells f
      let s2 := s1.setWq g (q.mapEntry i (fun e => { e with got := [] }))
      e.frags.foldl (fun t x => t.emit (.hostRead q.fn x.1 x.2)) s2

/-- TM_DEPARTURE on port p (R342, R356). -/
def State.departure (s : State) (p : Nat) : State :=
  if !s.tmPortUp p then
    match s.tm.queues.find? (fun y => s.tmqPort y.1 == p && !y.2.frames.isEmpty) with
    | none => s
    | some y => match y.2.frames with
      | [] => s
      | h :: _ => (s.bump Reg.TM_DROP_DOWN).dropFrame h
  else if p < 8 && s.wireBusy p then s
  else match s.portPick p with
    | none => s
    | some k =>
      let v := k.kid.val.kid.val.kid.val
      let s1 := s.depart p k
      if p < 8 then s1.toWire v.1 v.2 p
      else if p < 10 then s1.toCaravan v.1 v.2 (p - 8)
      else match v.2.dest with
        | some (.queue g) => s1.toHost v.1 v.2 g
        | _ => (s1.bump Reg.TM_DROP_NOQ).dropFrame v.1

end Sys2Proof.Machine
end

