-- ==== Sys2Proof/Machine/Fp.lean ====
section
/-!
DEFINITION. binary32 arithmetic of the engines: the F extension with subnormals and all five rounding modes (12 R407), and the
rate arithmetic of Xtilna (12 R438-R440). Values are numbers below 2^32; every result is computed exactly and rounded once.
-/

namespace Sys2Proof.Machine

open Sys2Proof

/-- A result with the fflags it accrues: NV 16, DZ 8, OF 4, UF 2, NX 1. -/
structure FRes where
  v : Nat
  fl : Nat := 0
  deriving DecidableEq, Repr

/-- The canonical NaN and the infinity. -/
def fNan : Nat := 0x7FC00000
def fInf : Nat := 0x7F800000
/-- The largest finite value. -/
def fMax : Nat := 0x7F7FFFFF

def fNeg (w : Nat) : Bool := w.testBit 31
def fMag (w : Nat) : Nat := w % 2 ^ 31
def fIsNan (w : Nat) : Bool := decide (fInf < fMag w)
def fIsSnan (w : Nat) : Bool := fIsNan w && !w.testBit 22
def fIsInf (w : Nat) : Bool := fMag w == fInf
def fIsZero (w : Nat) : Bool := fMag w == 0
def fIsSub (w : Nat) : Bool := fMag w != 0 && decide (fMag w < 2 ^ 23)

/-- The magnitude with a sign. -/
def fSigned (neg : Bool) (m : Nat) : Nat := (if neg then 2 ^ 31 else 0) + m

/-- A finite value as mantissa and exponent of its last bit. -/
def fMan (w : Nat) : Nat := if fMag w < 2 ^ 23 then fMag w else w % 2 ^ 23 + 2 ^ 23
def fExp (w : Nat) : Int := if fMag w < 2 ^ 23 then -149 else (bits w 30 23 : Int) - 150

/-- Whether rounding mode rm (0 RNE, 1 RTZ, 2 RDN, 3 RUP, 4 RMM) moves q up, given the rest r of a unit of 2 * half. -/
def fUp (rm : Nat) (neg : Bool) (q r half : Nat) : Bool :=
  match rm with
  | 0 => decide (half < r) || (decide (r = half) && q % 2 == 1)
  | 1 => false
  | 2 => neg && decide (0 < r)
  | 3 => !neg && decide (0 < r)
  | _ => decide (half ≤ r)

/-- m * 2^e to an integer multiple of 2^lsb: the multiple, and whether it is inexact. -/
def fQuant (rm : Nat) (neg : Bool) (m : Nat) (e lsb : Int) : Nat × Bool :=
  if lsb ≤ e then (m * 2 ^ (e - lsb).toNat, false)
  else
    let sh := (lsb - e).toNat
    let q := m / 2 ^ sh
    let r := m % 2 ^ sh
    ((if fUp rm neg q r (2 ^ (sh - 1)) then q + 1 else q), r != 0)

/-- The exact value m * 2^e rounded to binary32; tininess is detected after rounding. -/
def fRound (rm : Nat) (neg : Bool) (m : Nat) (e : Int) : FRes :=
  if m = 0 then ⟨fSigned neg 0, 0⟩
  else
    let top : Int := e + (Nat.log2 m + 1 : Nat)
    let lsb := max (top - 24) (-149)
    let x := fQuant rm neg m e lsb
    let v := (lsb + 149).toNat * 2 ^ 23 + x.1
    if fInf ≤ v then
      let toMax := rm == 1 || (rm == 2 && !neg) || (rm == 3 && neg)
      ⟨fSigned neg (if toMax then fMax else fInf), 5⟩
    else
      let tiny := decide (top < -126) ||
        (decide (top = -126) && (fQuant rm neg m e (top - 24)).1 != 2 ^ 24) 
      ⟨fSigned neg v, (if x.2 then 1 else 0) + (if x.2 && tiny then 2 else 0)⟩

/-- The exact sum of two signed values m * 2^e, rounded. -/
def fSum (rm : Nat) (n1 : Bool) (m1 : Nat) (e1 : Int) (n2 : Bool) (m2 : Nat) (e2 : Int) : FRes :=
  let e := min e1 e2
  let a : Int := (m1 * 2 ^ (e1 - e).toNat : Nat)
  let b : Int := (m2 * 2 ^ (e2 - e).toNat : Nat)
  let v := (if n1 then -a else a) + (if n2 then -b else b)
  if v = 0 then ⟨fSigned (if m1 = 0 ∧ m2 = 0 ∧ n1 = n2 then n1 else rm == 2) 0, 0⟩
  else fRound rm (decide (v < 0)) v.natAbs e

/-- NV for a signalling operand. -/
def fNv (l : List Nat) : Nat := if l.any fIsSnan then 16 else 0

def fAdd (rm a b : Nat) : FRes :=
  if fIsNan a || fIsNan b then ⟨fNan, fNv [a, b]⟩
  else if fIsInf a then (if fIsInf b && fNeg a != fNeg b then ⟨fNan, 16⟩ else ⟨a, 0⟩)
  else if fIsInf b then ⟨b, 0⟩
  else fSum rm (fNeg a) (fMan a) (fExp a) (fNeg b) (fMan b) (fExp b)

/-- The sign turned. -/
def fFlip (w : Nat) : Nat := fSigned (!fNeg w) (fMag w)

/-- Subtraction: a NaN keeps being one. -/
def fSub (rm a b : Nat) : FRes := if fIsNan b then fAdd rm a b else fAdd rm a (fFlip b)

def fMul (rm a b : Nat) : FRes :=
  let n := fNeg a != fNeg b
  if fIsNan a || fIsNan b then ⟨fNan, fNv [a, b]⟩
  else if fIsInf a || fIsInf b then (if fIsZero a || fIsZero b then ⟨fNan, 16⟩ else ⟨fSigned n fInf, 0⟩)
  else fRound rm n (fMan a * fMan b) (fExp a + fExp b)

/-- a / b of finite values, b not zero: 50 more bits and a sticky bit. -/
def fQuot (rm a b : Nat) : FRes :=
  let d := fMan a * 2 ^ 50
  fRound rm (fNeg a != fNeg b) (2 * (d / fMan b) + (if d % fMan b = 0 then 0 else 1)) (fExp a - fExp b - 51)

def fDiv (rm a b : Nat) : FRes :=
  let n := fNeg a != fNeg b
  if fIsNan a || fIsNan b then ⟨fNan, fNv [a, b]⟩
  else if fIsInf a then (if fIsInf b then ⟨fNan, 16⟩ else ⟨fSigned n fInf, 0⟩)
  else if fIsInf b then ⟨fSigned n 0, 0⟩
  else if fIsZero b then (if fIsZero a then ⟨fNan, 16⟩ else ⟨fSigned n fInf, 8⟩)
  else fQuot rm a b

/-- The integer square root, bit by bit from bit k. -/
def isqrt (n : Nat) : Nat → Nat → Nat
  | 0, acc => if (acc + 1) * (acc + 1) ≤ n then acc + 1 else acc
  | k + 1, acc => isqrt n k (if (acc + 2 ^ (k + 1)) * (acc + 2 ^ (k + 1)) ≤ n then acc + 2 ^ (k + 1) else acc)

def fSqrt (rm a : Nat) : FRes :=
  if fIsNan a then ⟨fNan, fNv [a]⟩
  else if fIsZero a then ⟨a, 0⟩
  else if fNeg a then ⟨fNan, 16⟩
  else if fIsInf a then ⟨a, 0⟩
  else
    let odd := fExp a % 2 != 0
    let m := fMan a * 2 ^ (if odd then 55 else 54)
    let e := (fExp a - (if odd then 55 else 54)) / 2
    let r := isqrt m 40 0
    fRound rm false (2 * r + (if r * r = m then 0 else 1)) (e - 1)

/-- a * b + c with one rounding. -/
def fMadd (rm a b c : Nat) : FRes :=
  let n := fNeg a != fNeg b
  let inv := (fIsInf a && fIsZero b) || (fIsZero a && fIsInf b)
  if inv then ⟨fNan, 16⟩
  else if fIsNan a || fIsNan b || fIsNan c then ⟨fNan, fNv [a, b, c]⟩
  else if fIsInf a || fIsInf b then (if fIsInf c && fNeg c != n then ⟨fNan, 16⟩ else ⟨fSigned n fInf, 0⟩)
  else if fIsInf c then ⟨c, 0⟩
  else fSum rm n (fMan a * fMan b) (fExp a + fExp b) (fNeg c) (fMan c) (fExp c)

/-- a < b of two values that are no NaN. -/
def fLess (a b : Nat) : Bool :=
  let v := fun (w : Nat) => if fNeg w then -(fMag w : Int) else (fMag w : Int)
  decide (v a < v b)

/-- FMIN and FMAX: −0 is below +0; one NaN gives the other operand. -/
def fMinMax (mx : Bool) (a b : Nat) : FRes :=
  if fIsNan a && fIsNan b then ⟨fNan, fNv [a, b]⟩
  else if fIsNan a then ⟨b, fNv [a, b]⟩
  else if fIsNan b then ⟨a, fNv [a, b]⟩
  else
    let aLow := fLess a b || (fIsZero a && fIsZero b && fNeg a)
    ⟨if aLow = mx then b else a, 0⟩

/-- FEQ 2, FLT 1, FLE 0. -/
def fCmp (f3 a b : Nat) : FRes :=
  if fIsNan a || fIsNan b then ⟨0, if f3 = 2 then fNv [a, b] else 16⟩
  else
    let eq := a == b || (fIsZero a && fIsZero b)
    ⟨if (match f3 with | 2 => eq | 1 => fLess a b && !eq | _ => fLess a b || eq) then 1 else 0, 0⟩

/-- FCLASS. -/
def fClass (a : Nat) : Nat :=
  if fIsNan a then (if fIsSnan a then 2 ^ 8 else 2 ^ 9)
  else
    let i := if fIsInf a then 0 else if fIsZero a then 3 else if fIsSub a then 2 else 1
    2 ^ (if fNeg a then i else 7 - i)

/-- A float to an integer in [lo, hi], rounded; out of range gives the nearest bound and NV. -/
def fToInt (rm : Nat) (lo hi : Int) (a : Nat) : Int × Nat :=
  if fIsNan a then (hi, 16)
  else if fIsInf a then (if fNeg a then lo else hi, 16)
  else
    let x := fQuant rm (fNeg a) (fMan a) (fExp a) 0
    let v : Int := if fNeg a then -(x.1 : Int) else (x.1 : Int)
    if v < lo then (lo, 16) else if hi < v then (hi, 16) else (v, if x.2 then 1 else 0)

/-- An integer to a float. -/
def fOfInt (rm : Nat) (v : Int) : FRes := fRound rm (decide (v < 0)) v.natAbs 0

/-! Rate arithmetic (R438-R440): flags DENORM 1, SAT 2, INVALID 4 -/

/-- An operand as rate arithmetic reads it, with its flag. -/
def rateIn (w : Nat) : Nat × Nat :=
  if fIsNan w then (fNan, 4)
  else if fIsInf w then (fSigned (fNeg w) fMax, 2)
  else if fIsSub w then (0, 1)
  else if fIsZero w then (0, 0)
  else (w, 0)

/-- A result rounded to nearest even becomes a rate: overflow, subnormal and zero results. -/
def rateOut (r : FRes) : Nat × Nat :=
  if fMag r.v = fInf then (fSigned (fNeg r.v) fMax, 2)
  else if fIsSub r.v || (fIsZero r.v && r.fl != 0) then (0, 1)
  else if fIsZero r.v then (0, 0)
  else (r.v, 0)

/-- RADD 0, RSUB 1, RMUL 2, RDIV 3, RMIN 4, RMAX 5 (R438): value and flags. -/
def rateOp (op a b : Nat) : Nat × Nat :=
  let x := rateIn a
  let y := rateIn b
  let fl := x.2 ||| y.2
  if fIsNan x.1 || fIsNan y.1 then (fNan, fl)
  else
    let r : Nat × Nat := match op with
      | 0 => rateOut (fAdd 0 x.1 y.1)
      | 1 => rateOut (fSub 0 x.1 y.1)
      | 2 => rateOut (fMul 0 x.1 y.1)
      | 3 =>
        if fIsZero y.1 then (if fIsZero x.1 then (fNan, 4) else (fSigned (fNeg x.1) fMax, 2))
        else rateOut (fQuot 0 x.1 y.1)
      | 4 => (if fLess y.1 x.1 then y.1 else x.1, 0)
      | _ => (if fLess x.1 y.1 then y.1 else x.1, 0)
    (r.1, fl ||| r.2)

/-- RCVT.WU (R440). -/
def rateToWord (a : Nat) : Nat × Nat :=
  if fIsNan a then (0, 4)
  else if fIsSub a then (0, 1)
  else if fIsZero a then (0, 0)
  else if fNeg a then (0, 2)
  else if fIsInf a then (0xFFFFFFFF, 2)
  else
    let q := (fQuant 1 false (fMan a) (fExp a) 0).1
    if 0xFFFFFFFF < q then (0xFFFFFFFF, 2) else (q, 0)

/-- RCVT.R (R440). -/
def rateOfWord (n : Nat) : Nat := (fRound 0 false (n % 2 ^ 32) 0).v

end Sys2Proof.Machine
end

