-- ==== Sys2Proof/Machine/OpsEng.lean ====
section
/-!
DEFINITION. The packet engines: threads, memory map, runs, faults and the supervisor, program exchange (12 R408-R427, R444-R447).
-/

namespace Sys2Proof.Machine

open Sys2Proof

/-! Threads (R408, R413) -/

/-- The cluster, the engine (cluster × 8 + logical engine) and the thread of a hart index (R409). -/
def hartCl (h : Nat) : Nat := h / 64
def hartEng (h : Nat) : Nat := h / 8
def hartTh (h : Nat) : Nat := h % 8
/-- Thread 0 is the supervisor. -/
def isSup (h : Nat) : Bool := h % 8 == 0

def State.hart (s : State) (h : Nat) : Hart := SMap.getD s.eng.harts h {}
def State.setHart (s : State) (h : Nat) (x : Hart) : State := { s with eng := { s.eng with harts := SMap.put s.eng.harts h x } }
def State.modHart (s : State) (h : Nat) (u : Hart → Hart) : State := s.setHart h (u (s.hart h))
def State.engine (s : State) (e : Nat) : Engine := SMap.getD s.eng.engines e {}
def State.setEngine (s : State) (e : Nat) (x : Engine) : State :=
  { s with eng := { s.eng with engines := SMap.put s.eng.engines e x } }

/-- The codes of TSTATE (R413). -/
def ThSt.code : ThSt → Nat
  | .idle => 0 | .running => 1 | .waiting => 2 | .faulted => 3 | .service => 4 | .debug => 5 | .unavailable => 6

/-- x and f registers; x0 reads zero and discards writes. -/
def Hart.rx (k : Hart) (i : Nat) : DWord := if i = 0 then 0 else k.x.getD i 0
def Hart.wx (k : Hart) (i : Nat) (v : DWord) : Hart := if i = 0 then k else { k with x := k.x.set i v }
def Hart.rf (k : Hart) (i : Nat) : Nat := (k.f.getD i 0).toNat
def Hart.wf (k : Hart) (i v : Nat) : Hart := { k with f := k.f.set i (word v) }

/-- The frame a thread holds: one whose disposition has timed out no longer counts (R420). -/
def State.held (s : State) (h : Nat) : Option (Nat × Frame) :=
  match (s.hart h).frame with
  | none => none
  | some i => match s.frame? i with
    | none => none
    | some f => if f.stage = .thread (hartCl h) (h % 64) then some (i, f) else none

/-- The handle FRAME shows. -/
def State.frameWord (s : State) (h : Nat) : Nat :=
  match s.held h with
  | some (i, _) => i % 2 ^ 32
  | none => 0xFFFFFFFF

/-- Why a thread stops at an instruction: a fault with cause, subcode and TVAL (R421, R422); a halt of the debugger with its dcsr cause. -/
inductive Trap where
  | fault (cause sub tval : Nat)
  | debug (cause : Nat)
  deriving DecidableEq, Repr

/-- What an access or an instruction gives, with the state. -/
abbrev Res (α : Type) := Except Trap α × State

def trapIllegal (w : Nat) : Trap := .fault 1 0 w
def trapMisaligned (a : Nat) : Trap := .fault 2 0 a
def trapAccess (a : Nat) : Trap := .fault 3 0 a
def trapEcc (a : Nat) : Trap := .fault 4 0 a
/-- An Xtilna fault (R436). -/
def trapX (sub : Nat) : Trap := .fault 7 sub 0

/-! Instruction banks (R446, R447) -/

/-- The active bank's number. -/
def State.bankNo (s : State) (c : Nat) : Nat := s.fld (Reg.EC_STATE c) 0 0
def Cluster.bank (k : Cluster) (b : Nat) : Mem := if b % 2 = 1 then k.bank1 else k.bank0
def Cluster.setBank (k : Cluster) (b : Nat) (m : Mem) : Cluster := if b % 2 = 1 then { k with bank1 := m } else { k with bank0 := m }
/-- The bank a thread runs from: during an exchange a thread that has not switched stays in the old image, the alternate bank. -/
def State.codeOf (s : State) (c : Nat) (old : Bool) : Mem := (s.cluster c).bank (if old then s.bankNo c + 1 else s.bankNo c)
/-- The PC of a vector and of the image header of the active bank (R446). -/
def State.vector (s : State) (c v : Nat) : Nat := leNat (Mem.rdN (s.codeOf c false) (64 + 8 * v) 8)
def State.initPc (s : State) (c : Nat) : Nat := leNat (Mem.rdN (s.codeOf c false) 16 8)
def State.faultPc (s : State) (c : Nat) : Nat := leNat (Mem.rdN (s.codeOf c false) 24 8)
def State.restartPc (s : State) (c : Nat) : Nat := leNat (Mem.rdN (s.codeOf c false) 32 8)

/-! The memory map (R410, R411, R412) -/

/-- Where an address lies; offsets are within local memory, shared memory, a bank, the mailbox views, DRAM. -/
inductive EngRegion where
  | bank (o : Nat)
  | mem (o : Nat)
  | ring (o : Nat)
  | ctx (o : Nat)
  | shared (o : Nat)
  | views (o : Nat)
  | dram (o : Nat) (wr : Bool)
  | none
  deriving DecidableEq, Repr

/-- The DRAM window of a cluster that holds n bytes at DRAM offset o: whether it allows stores (R411). -/
def State.dramWin (s : State) (c o n : Nat) : Option Bool :=
  let ok := (List.range 4).filter (fun w =>
    s.flag (Reg.EC_DRAM_WIN_W0 c w) 31 && decide (s.fld (Reg.EC_DRAM_WIN_W0 c w) 17 0 * 2 ^ 20 ≤ o)
      && decide (o + n ≤ (s.fld (Reg.EC_DRAM_WIN_W0 c w) 17 0 + s.fld (Reg.EC_DRAM_WIN_W1 c w) 17 0) * 2 ^ 20))
  if ok.isEmpty then none else some (ok.any (fun w => s.flag (Reg.EC_DRAM_WIN_W0 c w) 30))

/-- The region of n bytes at address a in cluster c (R410). -/
def State.region (s : State) (c a n : Nat) : EngRegion :=
  let inside := fun (lo len : Nat) => decide (lo ≤ a) && decide (a + n ≤ lo + len)
  if inside 0 0x20000 then .bank a
  else if inside 0x10000000 0x1F000 then .mem (a - 0x10000000)
  else if inside 0x1001F000 0x200 then .ring (a - 0x10000000)
  else if inside 0x1001F800 0x800 then .ctx (a - 0x10000000)
  else if inside 0x20000000 0x100000 then .shared (a - 0x20000000)
  else if inside 0x20100000 0x100 then .views (a - 0x20100000)
  else if inside 0x8000000000 0x4000000000 then
    let o := a - 0x8000000000
    match s.dramWin c o n with
    | some w => if s.dramUp && s.dramHas o && s.dramHas (o + n - 1) then .dram o w else .none
    | none => .none
  else .none

/-- 8-byte words that n bytes at o touch. -/
def touched (o n : Nat) : List Nat := if n = 0 then [] else (List.range ((o + n + 7) / 8 - o / 8)).map (fun i => o / 8 + i)

/-- A load meets a poisoned word (R412). -/
def State.poisonHit (s : State) (c : Nat) : State := (s.bump (Reg.EC_ECC_POISON c)).raise (Ev.ec c) 4

/-- Words a store fills whole are cleared of poison; a poisoned word it fills in part: none (R412). -/
def storePoison (p : List Nat) (o n : Nat) : Option (List Nat) :=
  let full := fun w => decide (o ≤ w * 8) && decide (w * 8 + 8 ≤ o + n)
  let hit := p.filter (fun w => (touched o n).contains w)
  if hit.all full then some (p.filter (fun w => !(touched o n).contains w)) else none

/-- Reservations of a cluster's threads on the blocks that n bytes at o touch end (R412); sp is 0 for shared memory, engine + 1 for local. -/
def State.breakResv (s : State) (c sp o n : Nat) : State :=
  let hit := fun (k : Hart) => match k.resv with
    | some (p, b, _) => n != 0 && p == sp && decide (o / 64 ≤ b) && decide (b ≤ (o + n - 1) / 64)
    | none => false
  { s with eng := { s.eng with harts := s.eng.harts.map (fun x =>
      if x.1 / 64 = c && hit x.2 then (x.1, { x.2 with resv := none }) else x) } }

/-- Read n bytes of a mailbox view register (14 R485, R486). -/
def State.viewRead (s : State) (h o : Nat) : Nat × State :=
  match s.mbView (hartCl h) (o / 32) with
  | none => (0, s)
  | some (key, b) =>
    let u := MbUser.thread h
    match o % 32 with
    | 0x08 => let r := s.mbRx u key b; (r.1.toNat, r.2)
    | 0x0C => (s.mbStat key b, s)
    | 0x10 => (((s.mbPair key).side b).ctrl.toNat, s)
    | 0x14 => let r := s.mbLockRead u key b; (r.1.toNat, r.2)
    | 0x18 => (((s.mbPair key).side b).timeoutUs.toNat, s)
    | _ => (0, s)

/-- Write a mailbox view register. -/
def State.viewWrite (s : State) (h o v : Nat) : State :=
  match s.mbView (hartCl h) (o / 32) with
  | none => s
  | some (key, b) =>
    let u := MbUser.thread h
    match o % 32 with
    | 0x00 => s.mbTx u key b (word v) false
    | 0x04 => s.mbTx u key b (word v) true
    | 0x0C => s.mbClear u key b v
    | 0x10 => s.mbSetCtrl u key b v
    | 0x14 => s.mbLockWrite u key b
    | 0x18 => s.mbSetTimeout u key b v
    | _ => s

/-- Read n bytes at a region as hart h, in address order. -/
def State.readRegion (s : State) (h a n : Nat) : Res (List Byte) :=
  let c := hartCl h
  let e := s.engine (hartEng h)
  let k := s.cluster c
  let mem := fun (m : Mem) (p : List Nat) (o : Nat) =>
    if (touched o n).any (fun w => p.contains w) then ((.error (trapEcc a), s.poisonHit c) : Res (List Byte))
    else (.ok (Mem.rdN m o n), s)
  match s.region c a n with
  | .bank o => (.ok (Mem.rdN (s.codeOf c (s.hart h).old) o n), s)
  | .mem o => mem e.mem e.poison o
  | .ring o => mem e.mem e.poison o
  | .ctx o => mem e.mem e.poison o
  | .shared o => mem k.shared k.poison o
  | .dram o _ =>
    let r := s.dramFetch o n
    if r.2.1 then (.error (trapEcc a), r.2.2) else (.ok r.1, r.2.2)
  | _ => (.error (trapAccess a), s)

/-- Write bytes at a region as hart h. -/
def State.writeRegion (s : State) (h a : Nat) (d : List Byte) : Res Unit :=
  let c := hartCl h
  let i := hartEng h
  let e := s.engine i
  let k := s.cluster c
  let n := d.length
  let loc := fun (o : Nat) => match storePoison e.poison o n with
    | none => ((.error (trapEcc a), s) : Res Unit)
    | some p => (.ok (), (s.setEngine i { e with mem := Mem.wrN e.mem o d, poison := p }).breakResv c (i + 1) o n)
  match s.region c a n with
  | .mem o => loc o
  | .ctx o => loc o
  | .shared o => match storePoison k.poison o n with
    | none => (.error (trapEcc a), s)
    | some p => (.ok (), (s.setCluster c { k with shared := Mem.wrN k.shared o d, poison := p }).breakResv c 0 o n)
  | .dram o true => (.ok (), s.dramStore o d)
  | _ => (.error (trapAccess a), s)

/-- A load of 1, 2, 4 or 8 bytes (R407, R410). -/
def State.load (s : State) (h a n : Nat) : Res Nat :=
  if a % n ≠ 0 then (.error (trapMisaligned a), s)
  else match s.region (hartCl h) a n with
    | .views o => if n = 4 then let r := s.viewRead h o; (.ok r.1, r.2) else (.error (trapAccess a), s)
    | _ => match s.readRegion h a n with
      | (.ok b, t) => (.ok (leNat b), t)
      | (.error e, t) => (.error e, t)

/-- A store of 1, 2, 4 or 8 bytes (R407, R410). -/
def State.store (s : State) (h a n v : Nat) : Res Unit :=
  if a % n ≠ 0 then (.error (trapMisaligned a), s)
  else match s.region (hartCl h) a n with
    | .views o => if n = 4 then (.ok (), s.viewWrite h o (v % 2 ^ 32)) else (.error (trapAccess a), s)
    | _ => s.writeRegion h a (leBytes n v)

/-- The reservation block of an address in local or shared memory: space and block (R407). -/
def State.resvKey (s : State) (h a n : Nat) : Option (Nat × Nat) :=
  match s.region (hartCl h) a n with
  | .mem o => some (hartEng h + 1, o / 64)
  | .shared o => some (0, o / 64)
  | _ => none

/-- An "addr" operand's n bytes lie in local or shared memory (R428). -/
def State.addrOk (s : State) (h a n : Nat) (store : Bool) : Bool :=
  match s.region (hartCl h) a n with
  | .mem _ => true
  | .ctx _ => true
  | .shared _ => true
  | .ring _ => !store
  | _ => false

/-! Runs (R415, R416, R420, R444, R445) -/

/-- A run begins. -/
def State.startRun (s : State) (h : Nat) (run : EngRun) (pc tag : Nat) (frame : Option Nat) : State :=
  s.modHart h (fun k => { k with st := .running, pc := BitVec.ofNat 64 pc, run := run, tag := tag, frame := frame, dest := none,
                                 slots := 0, charged := 0, runAt := s.now, resv := none, wait := none, posting := none })

/-- SUP_HALTED and ACTIVE follow the threads and the map (R451). -/
def State.supHalted (s : State) (c : Nat) : State :=
  s.setFld (Reg.EC_STATE c) 1 1
    (if (List.range 8).any (fun e => (s.hart (c * 64 + e * 8)).st == .faulted) then 1 else 0)

/-- A supervisor starts at a PC of the image header (R424, R425, R447). -/
def State.supStart (s : State) (e pc : Nat) : State :=
  let h := e * 8
  if (s.hart h).st = .unavailable then s
  else ((s.setEngine e { s.engine e with supAuto := none }).startRun h .init pc (s.engine e).tag0 none).supHalted (hartCl h)

/-- META field 0 of a frame's destination (R416, R430; 08 R308). -/
def State.destField (s : State) (f : Frame) : Nat :=
  match f.dest with
  | none => 0
  | some (.port p) => 1 + p * 256
  | some (.remotePort d p) => 1 + (32 + d * 8 + p) * 256
  | some (.queue g) => match s.wq? g with
    | some q => 2 + q.fn % 65536 * 65536 + q.localNo * 2 ^ 32
    | none => 2 + (g - 65536) % 65536 * 2 ^ 32
  | some (.remoteQueue d fn q) => 2 + (4 + d) * 256 + fn * 65536 + q * 2 ^ 32
  | some (.caravan _) => 3 + f.tmq.getD 0 * 2 ^ 32

/-- The destination a program wrote takes effect (R430). -/
def State.takeDest (s : State) (f : Frame) (v : Option Nat) : Frame :=
  match v with
  | none => f
  | some v =>
    let q := bits v 47 32
    match v % 4 with
    | 0 => { f with dest := none }
    | 1 => { f with dest := s.toPort (bits v 15 8) }
    | 2 => { f with dest := s.toQueue (bits v 31 16) q (bits v 15 8) }
    | _ => { f with dest := s.toTmq f.dest q, tmq := some q }

/-- The context block of a dispatch (R416). -/
def State.context (s : State) (vec kind : Nat) (tag : Nat) (frame : Option (Nat × Frame)) (line : Nat) (msg : List Byte) : List Byte :=
  match frame with
  | none => leBytes 4 0xFFFFFFFF ++ leBytes 2 tag ++ zeros 1 ++ leBytes 1 (vec + kind * 64) ++ leBytes 2 line ++ zeros 54
      ++ zeros 128 ++ fit 32 msg ++ zeros 32
  | some (i, f) =>
    leBytes 4 i ++ leBytes 2 tag
      ++ leBytes 1 (f.ps.pass % 4 + bitVal f.tx 2 + bitVal f.replayed 3 + bitVal f.decrypted 4) ++ leBytes 1 (vec + kind * 64)
      ++ leBytes 2 f.bytes.length ++ leBytes 2 (f.rule.getD 0xFFFF) ++ leBytes 4 f.ruleId ++ leBytes 4 (if f.tx then f.engMeta else 0)
      ++ leBytes 1 (f.src % 16) ++ leBytes 1 (f.tc + f.color * 8) ++ zeros 2 ++ leBytes 8 f.handAt ++ leBytes 8 (s.destField f)
      ++ zeros 24 ++ fit 64 f.ps.key ++ fit 64 f.ps.summary ++ zeros 64

/-- Fill a thread's context block (R416). -/
def State.fillContext (s : State) (h : Nat) (b : List Byte) : State :=
  let e := s.engine (hartEng h)
  let o := 0x1F800 + hartTh h * 256
  (s.setEngine (hartEng h) { e with mem := Mem.wrN e.mem o b,
                                    poison := e.poison.filter (fun w => !(touched o 256).contains w) }).breakResv
    (hartCl h) (hartEng h + 1) o 256

/-- The slots of a run not charged yet go to its tag's counter and to the flask's tally (R445; 19 R603, R604). -/
def State.chargeRun (s : State) (h : Nat) : State :=
  let k := s.hart h
  let n := k.slots - k.charged
  let s1 := (s.setHart h { k with charged := k.slots }).bump64 (Reg.FLASK_SLOTS (hartCl h) (k.tag % 4096)) n
  if n = 0 then s
  else if k.tag ≠ 0 ∧ (s.fn k.tag).st = .unprovisioned then
    { s1 with tally := { s1.tally with unclaimed := s1.tally.unclaimed + n } }
  else s1.flaskCnt k.tag (fun x => { x with engineSlots := x.engineSlots + n })

/-- A thread withdraws what it asked of a coprocessor. -/
def State.dropWait (s : State) (h : Nat) : State :=
  match (s.hart h).wait with
  | none => s
  | some _ => ((s.bulkDrop (.engine (hartCl h) (h % 64))).rngCancel (.engine (hartCl h) (h % 64))).modHart h
      (fun k => { k with wait := none })

/-! Program exchange (R447) -/

/-- The exchange of a cluster ends when every thread runs the new image. -/
def State.exchangeCheck (s : State) (c : Nat) : State :=
  match (s.cluster c).exch with
  | none => s
  | some x =>
    if (List.range 64).any (fun t => (s.hart (c * 64 + t)).old) then s
    else
      let s1 := ((s.setCluster c { s.cluster c with exch := none }).setFld (Reg.EC_STATE c) 2 2 0).raise (Ev.ec c) 7
      match s1.eng.swaps.find? (fun w => w.seq == x.seq) with
      | none => s1
      | some w =>
        let left := w.left.filter (· != c)
        let rest := s1.eng.swaps.filter (fun y => y.seq != x.seq)
        if left.isEmpty then
          ({ s1 with eng := { s1.eng with swaps := rest } }).completeWait (.engSwap x.seq) .ok (leBytes 4 w.killed ++ leBytes 4 w.prevId)
        else { s1 with eng := { s1.eng with swaps := rest ++ [{ w with left := left }] } }

/-- A thread switches to the new image: a supervisor starts at INIT_PC, a worker becomes IDLE. -/
def State.switchImage (s : State) (h : Nat) : State :=
  if !(s.hart h).old then s
  else
    let s1 := s.modHart h (fun k => { k with old := false })
    (if isSup h then s1.supStart (hartEng h) (s1.initPc (hartCl h)) else s1).exchangeCheck (hartCl h)

/-- A run ends: the frame it still holds is dropped, its slots are charged, the thread is IDLE. -/
def State.endRun (s : State) (h : Nat) (yield_ : Bool) : State :=
  let s1 := match s.held h with
    | some (i, _) => (if yield_ then s.bump (Reg.EC_NO_DISP (hartCl h)) else s).dropFrame i
    | none => s
  ((s1.dropWait h).chargeRun h).modHart h (fun k =>
    { k with st := .idle, run := .none, frame := none, dest := none, resv := none, wait := none, posting := none, slots := 0, charged := 0 })

/-- TRES KILL, hartreset and the end of an exchange kill a run (R423, R447, R448). -/
def State.killRun (s : State) (h : Nat) : State := (s.endRun h false).mbKillThread h

/-! Faults and the supervisor (R421-R424) -/

/-- A fault record (R421). -/
def State.faultRecord (s : State) (h cause sub pc tval : Nat) (trueValid : Bool) : List Byte :=
  leBytes 1 cause ++ leBytes 1 (hartTh h + bitVal trueValid 3) ++ leBytes 1 sub ++ zeros 1 ++ leBytes 2 (s.hart h).tag ++ zeros 2
    ++ leBytes 8 pc ++ leBytes 8 tval ++ leBytes 4 (s.frameWord h) ++ leBytes 4 s.etime

/-- The fault ring has room. -/
def Engine.ringRoom (e : Engine) : Bool := decide ((e.prod + 32 - e.cons) % 32 < 16)

/-- Write a record into the fault ring. -/
def State.ringPut (s : State) (i : Nat) (r : List Byte) : State :=
  let e := s.engine i
  let o := 0x1F000 + e.prod % 16 * 32
  s.setEngine i { e with mem := Mem.wrN e.mem o r, prod := (e.prod + 1) % 32,
                         poison := e.poison.filter (fun w => !(touched o 32).contains w) }

/-- Records of halted threads that wait for room are posted, lowest thread first (R423). -/
def State.ringDrain (s : State) (i : Nat) : State :=
  (List.range 7).foldl (fun (t : State) j =>
    let h := i * 8 + 1 + j
    match (t.hart h).posting with
    | some r => if (t.engine i).ringRoom then (t.ringPut i r).modHart h (fun k => { k with posting := none }) else t
    | none => t) s

/-- A thread faults at its instruction (R421, R424). -/
def State.threadFault (s : State) (h cause sub tval : Nat) : State :=
  let c := hartCl h
  let i := hartEng h
  let r := s.faultRecord h cause sub (s.hart h).pc.toNat tval false
  let s1 := (s.dropWait h).modHart h (fun k => { k with resv := none, st := if cause = 6 ∧ isSup h = false then .service else .faulted })
  let s2 := if cause = 9 then s1.bump (Reg.EC_WATCHDOG c) else s1
  if isSup h then
    let e := s2.engine i
    let auto := s2.flag (Reg.EC_CTRL c) 30 && (match e.supFault with | some t => decide (t + 1000000000 ≤ s2.now) | none => true)
    ((((s2.setEngine i { e with supFault := some s2.now, supAuto := if auto then some (s2.now + 1000000) else none }).bump
      (Reg.EC_SUP_FAULTS c)).supHalted c).raise (Ev.ec c) 0)
  else
    let s3 := s2.bump (Reg.EC_FAULTS c)
    if (s3.engine i).ringRoom then s3.ringPut i r else s3.modHart h (fun k => { k with posting := some r })

/-- A halt of the debugger (R449): the state the thread had comes back at resume. -/
def State.debugHalt (s : State) (h cause : Nat) : State :=
  s.modHart h (fun k => { k with st := .debug, prior := k.st, resv := none, haltReq := false, dcsr := setBits k.dcsr 8 6 cause })

/-- A trap takes effect. -/
def State.takeTrap (s : State) (h : Nat) : Trap → State
  | .fault c sub v => s.threadFault h c sub v
  | .debug c => s.debugHalt h c

/-! Engine hardware faults (R225, R425-R427) -/

/-- The logical engine a physical engine of cluster c serves as (R451). -/
def State.logicalOf (s : State) (c p : Nat) : Option Nat :=
  (List.range 8).find? (fun e => s.fld (Reg.EC_ENGINE_MAP c) (4 * e + 3) (4 * e) == p)

/-- A run abandoned by the engine's hardware comes again: a hand-off at the front of the cluster's queue with its frame as it was handed
off and REPLAYED, a timer or message run from its dispatch. -/
def State.replayRun (s : State) (h : Nat) : State :=
  let k := s.hart h
  let c := hartCl h
  let g := s.cluster c
  match k.run with
  | .handoff i f =>
    (match s.held h with
     | some (_, now) =>
       (((s.setFrame i { f with replayed := true, stage := .engine c, engDeadline := now.engDeadline }).setCluster c
         { g with queue := i :: g.queue }).countReplay f.entry)
     | none => s)
  | .timer v tag => s.setHart h { k with again := some (v, tag) }
  | .line n => s.setCluster c { g with lines := SMap.put g.lines n (min 65535 (SMap.getD g.lines n 0 + 1)) }
  | .message m => s.setCluster c { g with msgs := m :: g.msgs }
  | _ => s

/-- The runs of engine i (cluster × 8 + logical) are abandoned; nothing is charged (R225, R445). -/
def State.abandonRuns (s : State) (i : Nat) : State :=
  (List.range 8).foldl (fun (t : State) j =>
    let h := i * 8 + j
    let k := t.hart h
    if k.st = .unavailable then t
    else ((t.dropWait h).replayRun h).modHart h (fun k =>
      { k with st := if k.st = .debug then .debug else .idle, prior := .idle, run := .none, frame := none, dest := none, resv := none,
               wait := none, posting := none, slots := 0, charged := 0 })) s

/-- Threads of an engine whose runs are gone run the new image from now on (R447). -/
def State.settleImage (s : State) (i : Nat) : State :=
  ((List.range 8).foldl (fun (t : State) j => t.modHart (i * 8 + j) (fun k => if k.st = .debug then k else { k with old := false })) s).exchangeCheck
    (i / 8)

/-- The physical engine in reserve. -/
def State.reserveEngine (s : State) (c : Nat) : Option Nat :=
  (List.range 9).find? (fun p => !(s.fld (Reg.EC_RETIRED c) 8 0).testBit p && (s.logicalOf c p).isNone)

/-- A physical engine is retired; the reserve engine takes its number, its local memory copied with the words `lost` poisoned, or its logical
engine becomes unavailable (R426, R427). A reserve engine that fails its self-test is retired too (19 R613). -/
def State.retireEngine (s : State) (c p reason : Nat) (selfTest : Bool) (lost : List Nat) : State :=
  let part : Part := { kind := 1, index := c * 16 + p }
  if s.isRetired part then s
  else
    let s1 := ((s.markRetired part (21 + c) reason).setFld (Reg.EC_RETIRED c) p p 1).raise (Ev.ec c) 1
    match s.logicalOf c p with
    | none => s1
    | some e =>
      let i := c * 8 + e
      let s2 := s1.abandonRuns i
      let r := s2.reserveEngine c
      let s3 := match r with
        | some q => if selfTest then s2
            else ((s2.markRetired { kind := 1, index := c * 16 + q } (21 + c) 4).setFld (Reg.EC_RETIRED c) q q 1).raise (Ev.ec c) 1
        | none => s2
      match r, selfTest with
      | some q, true =>
        let g := s3.engine i
        let bad := (lost.filter (fun w => decide (w < 16384) && !g.poison.contains w)).eraseDups
        let s4 := (s3.setEngine i { g with poison := g.poison ++ bad, supFault := none, supAuto := none }).setFld
          (Reg.EC_ENGINE_MAP c) (4 * e + 3) (4 * e) q
        let s5 := (s4.raise (Ev.ec c) 2).logReserve 1 (c * 16 + p) (c * 16 + q) (21 + c)
        let s6 := (List.range 8).foldl (fun (t : State) j => t.modHart (i * 8 + j) (fun k =>
          { k with haveReset := true, old := false, st := .idle })) s5
        (if s6.flag (Reg.EC_STATE c) 3 then s6.supStart i (s6.restartPc c) else s6).exchangeCheck c
      | _, _ =>
        let s4 := s3.setFld (Reg.EC_ENGINE_MAP c) (4 * e + 3) (4 * e) 15
        let s5 := (List.range 8).foldl (fun (t : State) j => t.modHart (i * 8 + j) (fun k => { k with st := .unavailable, old := false })) s4
        let n := s5.fld (Reg.EC_STATE c) 11 8 - 1
        let s6 := (s5.setFld (Reg.EC_STATE c) 11 8 n).setFld Reg.FT_CAP 31 23 (s5.fld Reg.FT_CAP 31 23 - 1)
        let s7 := if n = 0 then s6.setFld (Reg.EC_STATE c) 3 3 0 else s6
        ((((s7.supHalted c).raise (Ev.ec c) 3).logDegraded 1 (21 + c) (s7.fld Reg.FT_CAP 31 23 == 0))).exchangeCheck c

/-- A hardware fault of a physical engine (R425): transient, its runs are replayed and its supervisor restarts; or permanent. -/
def State.engineFault (s : State) (c p cause : Nat) (selfTest : Bool) (lost : List Nat) : State :=
  let part : Part := { kind := 1, index := c * 16 + p }
  if s.isRetired part then s
  else
    let r := s.faultOf part (21 + c) cause
    if r.1 then r.2.retireEngine c p 1 selfTest lost
    else match r.2.logicalOf c p with
      | none => r.2
      | some e =>
        let s1 := (r.2.abandonRuns (c * 8 + e)).settleImage (c * 8 + e)
        if s1.flag (Reg.EC_STATE c) 3 && (s1.hart ((c * 8 + e) * 8)).st != .debug then s1.supStart (c * 8 + e) (s1.restartPc c) else s1

/-! Dispatch (R415) -/

/-- The next hand-off of a cluster's queue whose frame is still there. -/
def State.nextHandoff (s : State) (c : Nat) : Option (Nat × Frame) :=
  ((s.cluster c).queue.filterMap (fun i => match s.frame? i with
    | some f => if f.stage = .engine c then some (i, f) else none
    | none => none)).head?

/-- The thread hand-offs go to: the lowest idle worker of the engine with the fewest runs. -/
def State.handoffHart (s : State) (c : Nat) : Option Nat :=
  let idle := fun e => ((List.range 7).map (fun j => c * 64 + e * 8 + 1 + j)).find? (fun h => (s.hart h).st == .idle)
  let runs := fun e => ((List.range 8).filter (fun j => (s.hart (c * 64 + e * 8 + j)).run != .none)).length
  ((List.range 8).foldl (fun (b : Option (Nat × Nat)) e => match idle e with
    | none => b
    | some h => match b with
      | none => some (h, runs e)
      | some x => if runs e < x.2 then some (h, runs e) else b) none).map (·.1)

/-- A dispatch with its vector: not run when the entry is 0 (R415). -/
def State.dispatch (s : State) (h vec kind tag : Nat) (run : EngRun) (frame : Option (Nat × Frame)) (line : Nat) (msg : List Byte) : State :=
  let c := hartCl h
  let pc := s.vector c vec
  let s1 := s.bump64 (Reg.EC_DISPATCHED c) 1
  if pc = 0 then
    let s2 := s1.bump (Reg.EC_NO_VECTOR c)
    match frame with
    | some (i, _) => s2.dropFrame i
    | none => s2
  else
    let s2 := match frame with
      | some (i, f) => s1.setFrame i { f with stage := .thread c (h % 64) }
      | none => s1
    (s2.fillContext h (s2.context vec kind tag frame line msg)).startRun h run pc tag (frame.map (·.1))

/-- The first line enabled with a count (R419). -/
def State.nextLine (s : State) (c : Nat) : Option (Nat × Nat) :=
  ((List.range 32).find? (fun l => SMap.getD (s.cluster c).lines l 0 != 0
      && s.flag (Reg.EC_LINE_VEC c (l / 4)) (8 * (l % 4) + 7))).map
    (fun l => (l, s.fld (Reg.EC_LINE_VEC c (l / 4)) (8 * (l % 4) + 5) (8 * (l % 4))))

/-- An idle thread takes the first work it finds (R415). -/
def State.threadDispatch (s : State) (h : Nat) : State :=
  let c := hartCl h
  let k := s.hart h
  let g := s.cluster c
  let e := s.engine (hartEng h)
  let tagOf := fun (t : Nat) => if isSup h then e.tag0 else t
  if decide (2048 ≤ h) || !s.clusterServes c || k.st != .idle then s
  else match k.again with
    | some (v, t) => (s.setHart h { k with again := none }).dispatch h v 1 t (.timer v t) none 0 []
    | none =>
      if k.tctl.testBit 0 && decide (k.tcmp ≤ s.etime) then
        let v := bits k.tctl 13 8
        (s.setHart h { k with tctl := k.tctl - 1 }).dispatch h v 1 (tagOf k.timerTag) (.timer v (tagOf k.timerTag)) none 0 []
      else if isSup h then
        if e.prod = e.cons then s
        else
          let r := s.draw
          let s1 := r.2.bump64 (Reg.EC_DISPATCHED c) 1
          ((s1.fillContext h (s1.context (r.1 % 64) (r.1 / 64 % 4) e.tag0 none 0 [])).startRun h .fault (s1.faultPc c) e.tag0 none)
      else match if g.exch.isNone then s.nextLine c else none with
        | some (l, v) =>
          (s.setCluster c { g with lines := SMap.put g.lines l (SMap.getD g.lines l 0 - 1) }).dispatch h v 2 0 (.line l) none l []
        | none => match g.msgs with
          | m :: r => (s.setCluster c { g with msgs := r }).dispatch h m.vec 3 m.flask (.message m) none 0 m.bytes
          | [] => match s.nextHandoff c with
            | none => s
            | some (i, f) =>
              if s.handoffHart c ≠ some h then s
              else
                let tag := (if f.tx then f.flask else f.owner) % 4096
                (s.setCluster c { g with queue := g.queue.filter (· != i) }).dispatch h f.engVec 0 tag
                  (.handoff i f) (some (i, f)) 0 []

end Sys2Proof.Machine
end

