-- ==== Sys2Proof/Machine/Rv.lean ====
section
/-!
DEFINITION. The integer part of the engines' instruction set as the RISC-V unprivileged ISA defines it (12 R406): immediates, the
arithmetic of RV64IM, Zba and Zbb, atomic operations on a value, and compressed instructions as the 32-bit ones they stand for.
-/

namespace Sys2Proof.Machine

open Sys2Proof

/-! Fields and immediates -/

def rvRd (w : Nat) : Nat := bits w 11 7
def rvRs1 (w : Nat) : Nat := bits w 19 15
def rvRs2 (w : Nat) : Nat := bits w 24 20
def rvF3 (w : Nat) : Nat := bits w 14 12
def rvF7 (w : Nat) : Nat := bits w 31 25

/-- The low n bits of v, sign-extended to 64. -/
def sx (n v : Nat) : DWord := (BitVec.ofNat n v).signExtend 64

def immI (w : Nat) : DWord := sx 12 (bits w 31 20)
def immS (w : Nat) : DWord := sx 12 (bits w 31 25 * 32 + bits w 11 7)
def immB (w : Nat) : DWord := sx 13 (bits w 31 31 * 4096 + bits w 7 7 * 2048 + bits w 30 25 * 32 + bits w 11 8 * 2)
def immU (w : Nat) : DWord := sx 32 (bits w 31 12 * 4096)
def immJ (w : Nat) : DWord := sx 21 (bits w 31 31 * 2 ^ 20 + bits w 19 12 * 4096 + bits w 20 20 * 2048 + bits w 30 21 * 2)

/-- A 32-bit result, sign-extended. -/
def sxw (v : Nat) : DWord := sx 32 v

/-! Bit counts (Zbb) -/

/-- Leading zeros of the low n bits. -/
def clzN : Nat → Nat → Nat
  | 0, _ => 0
  | n + 1, v => if v.testBit n then 0 else 1 + clzN n v

/-- Trailing zeros of n bits. -/
def ctzN : Nat → Nat → Nat
  | 0, _ => 0
  | n + 1, v => if v.testBit 0 then 0 else 1 + ctzN n (v / 2)

/-- Ones of n bits. -/
def cpopN : Nat → Nat → Nat
  | 0, _ => 0
  | n + 1, v => v % 2 + cpopN n (v / 2)

/-! Arithmetic -/

/-- DIV and REM round toward zero; division by zero and overflow as RISC-V defines them. -/
def divS {n : Nat} (a b : BitVec n) : BitVec n := if b = 0 then -1 else BitVec.ofInt n (a.toInt.tdiv b.toInt)
def remS {n : Nat} (a b : BitVec n) : BitVec n := if b = 0 then a else BitVec.ofInt n (a.toInt.tmod b.toInt)
def divU {n : Nat} (a b : BitVec n) : BitVec n := if b = 0 then -1 else a / b
def remU {n : Nat} (a b : BitVec n) : BitVec n := if b = 0 then a else a % b

/-- 1 when it holds. -/
def flagD (b : Bool) : DWord := if b then 1 else 0

/-- OP, the register-register operations: none for an encoding the engine does not implement. -/
def rvOp (f7 f3 : Nat) (a b : DWord) : Option DWord :=
  let sh := b.toNat % 64
  match f7, f3 with
  | 0x00, 0 => some (a + b)
  | 0x00, 1 => some (a <<< sh)
  | 0x00, 2 => some (flagD (decide (a.toInt < b.toInt)))
  | 0x00, 3 => some (flagD (decide (a.toNat < b.toNat)))
  | 0x00, 4 => some (a ^^^ b)
  | 0x00, 5 => some (a >>> sh)
  | 0x00, 6 => some (a ||| b)
  | 0x00, 7 => some (a &&& b)
  | 0x20, 0 => some (a - b)
  | 0x20, 4 => some (~~~(a ^^^ b))
  | 0x20, 5 => some (a.sshiftRight sh)
  | 0x20, 6 => some (a ||| ~~~b)
  | 0x20, 7 => some (a &&& ~~~b)
  | 0x01, 0 => some (a * b)
  | 0x01, 1 => some (BitVec.ofInt 64 (a.toInt * b.toInt / 2 ^ 64))
  | 0x01, 2 => some (BitVec.ofInt 64 (a.toInt * (b.toNat : Int) / 2 ^ 64))
  | 0x01, 3 => some (BitVec.ofNat 64 (a.toNat * b.toNat / 2 ^ 64))
  | 0x01, 4 => some (divS a b)
  | 0x01, 5 => some (divU a b)
  | 0x01, 6 => some (remS a b)
  | 0x01, 7 => some (remU a b)
  | 0x10, 2 => some ((a <<< 1) + b)
  | 0x10, 4 => some ((a <<< 2) + b)
  | 0x10, 6 => some ((a <<< 3) + b)
  | 0x05, 4 => some (if a.toInt < b.toInt then a else b)
  | 0x05, 5 => some (if a.toNat < b.toNat then a else b)
  | 0x05, 6 => some (if a.toInt < b.toInt then b else a)
  | 0x05, 7 => some (if a.toNat < b.toNat then b else a)
  | 0x30, 1 => some (a.rotateLeft sh)
  | 0x30, 5 => some (a.rotateRight sh)
  | _, _ => none

/-- OP-32, the word operations. -/
def rvOp32 (f7 f3 rs2 : Nat) (a b : DWord) : Option DWord :=
  let x := a.truncate 32
  let y := b.truncate 32
  let sh := b.toNat % 32
  let up := fun (v : BitVec 32) => some (v.signExtend 64)
  let lo : DWord := (a.truncate 32 : BitVec 32).zeroExtend 64
  match f7, f3 with
  | 0x00, 0 => up (x + y)
  | 0x00, 1 => up (x <<< sh)
  | 0x00, 5 => up (x >>> sh)
  | 0x20, 0 => up (x - y)
  | 0x20, 5 => up (x.sshiftRight sh)
  | 0x01, 0 => up (x * y)
  | 0x01, 4 => up (divS x y)
  | 0x01, 5 => up (divU x y)
  | 0x01, 6 => up (remS x y)
  | 0x01, 7 => up (remU x y)
  | 0x04, 0 => some (lo + b)
  | 0x04, 4 => if rs2 = 0 then some (BitVec.ofNat 64 (a.toNat % 2 ^ 16)) else none
  | 0x10, 2 => some ((lo <<< 1) + b)
  | 0x10, 4 => some ((lo <<< 2) + b)
  | 0x10, 6 => some ((lo <<< 3) + b)
  | 0x30, 1 => up (x.rotateLeft sh)
  | 0x30, 5 => up (x.rotateRight sh)
  | _, _ => none

/-- ORC.B and REV8. -/
def orcB (a : DWord) : DWord := BitVec.ofNat 64 (leNat ((leBytes 8 a.toNat).map (fun b => if b = 0 then 0 else 0xFF)))
def rev8 (a : DWord) : DWord := BitVec.ofNat 64 (beNat (leBytes 8 a.toNat))

/-- OP-IMM, the operations with an immediate. -/
def rvOpImm (w : Nat) (a : DWord) : Option DWord :=
  let i := immI w
  let sh := bits w 25 20
  let f6 := bits w 31 26
  match rvF3 w with
  | 0 => some (a + i)
  | 2 => some (flagD (decide (a.toInt < i.toInt)))
  | 3 => some (flagD (decide (a.toNat < i.toNat)))
  | 4 => some (a ^^^ i)
  | 6 => some (a ||| i)
  | 7 => some (a &&& i)
  | 1 =>
    if f6 = 0 then some (a <<< sh)
    else match bits w 31 20 with
      | 0x600 => some (BitVec.ofNat 64 (clzN 64 a.toNat))
      | 0x601 => some (BitVec.ofNat 64 (ctzN 64 a.toNat))
      | 0x602 => some (BitVec.ofNat 64 (cpopN 64 a.toNat))
      | 0x604 => some (sx 8 a.toNat)
      | 0x605 => some (sx 16 a.toNat)
      | _ => none
  | _ =>
    if f6 = 0 then some (a >>> sh)
    else if f6 = 0x10 then some (a.sshiftRight sh)
    else if f6 = 0x18 then some (a.rotateRight sh)
    else match bits w 31 20 with
      | 0x287 => some (orcB a)
      | 0x6B8 => some (rev8 a)
      | _ => none

/-- OP-IMM-32. -/
def rvOpImm32 (w : Nat) (a : DWord) : Option DWord :=
  let x : BitVec 32 := a.truncate 32
  let sh := bits w 24 20
  let f7 := rvF7 w
  match rvF3 w with
  | 0 => some ((x + (immI w).truncate 32).signExtend 64)
  | 1 =>
    if f7 = 0 then some ((x <<< sh).signExtend 64)
    else if bits w 31 26 = 2 then some (x.zeroExtend 64 <<< bits w 25 20)
    else match bits w 31 20 with
      | 0x600 => some (BitVec.ofNat 64 (clzN 32 x.toNat))
      | 0x601 => some (BitVec.ofNat 64 (ctzN 32 x.toNat))
      | 0x602 => some (BitVec.ofNat 64 (cpopN 32 x.toNat))
      | _ => none
  | 5 =>
    if f7 = 0 then some ((x >>> sh).signExtend 64)
    else if f7 = 0x20 then some ((x.sshiftRight sh).signExtend 64)
    else if f7 = 0x30 then some ((x.rotateRight sh).signExtend 64)
    else none
  | _ => none

/-- A branch is taken; none for a reserved condition. -/
def rvTaken (f3 : Nat) (a b : DWord) : Option Bool :=
  match f3 with
  | 0 => some (a == b)
  | 1 => some (a != b)
  | 4 => some (decide (a.toInt < b.toInt))
  | 5 => some (decide (b.toInt ≤ a.toInt))
  | 6 => some (decide (a.toNat < b.toNat))
  | 7 => some (decide (b.toNat ≤ a.toNat))
  | _ => none

/-- What an AMO writes, over n bits, given the old value and the operand; none for a reserved function. -/
def rvAmo (n f5 old v : Nat) : Option Nat :=
  let m := 2 ^ n
  let a := old % m
  let b := v % m
  let s := fun (x : Nat) => (BitVec.ofNat n x).toInt
  match f5 with
  | 0x01 => some b
  | 0x00 => some ((a + b) % m)
  | 0x04 => some (a ^^^ b)
  | 0x0C => some (a &&& b)
  | 0x08 => some (a ||| b)
  | 0x10 => some (if s a < s b then a else b)
  | 0x14 => some (if s a < s b then b else a)
  | 0x18 => some (if a < b then a else b)
  | 0x1C => some (if a < b then b else a)
  | _ => none

/-! Compressed instructions -/

/-- 32-bit encodings by format. -/
def encI (op f3 rd rs1 imm : Nat) : Nat := op + rd * 2 ^ 7 + f3 * 2 ^ 12 + rs1 * 2 ^ 15 + imm % 4096 * 2 ^ 20
def encR (op f3 f7 rd rs1 rs2 : Nat) : Nat := op + rd * 2 ^ 7 + f3 * 2 ^ 12 + rs1 * 2 ^ 15 + rs2 * 2 ^ 20 + f7 * 2 ^ 25
def encS (op f3 rs1 rs2 imm : Nat) : Nat :=
  op + imm % 32 * 2 ^ 7 + f3 * 2 ^ 12 + rs1 * 2 ^ 15 + rs2 * 2 ^ 20 + imm / 32 % 128 * 2 ^ 25
def encB (f3 rs1 imm : Nat) : Nat :=
  0x63 + bits imm 11 11 * 2 ^ 7 + bits imm 4 1 * 2 ^ 8 + f3 * 2 ^ 12 + rs1 * 2 ^ 15 + bits imm 10 5 * 2 ^ 25 + bits imm 12 12 * 2 ^ 31
def encJ (rd imm : Nat) : Nat :=
  0x6F + rd * 2 ^ 7 + bits imm 19 12 * 2 ^ 12 + bits imm 11 11 * 2 ^ 20 + bits imm 10 1 * 2 ^ 21 + bits imm 20 20 * 2 ^ 31

/-- The low n bits of v as a two's-complement number of m bits. -/
def cext (n m v : Nat) : Nat := (BitVec.ofNat n v).signExtend m |>.toNat

/-- A compressed instruction of quadrant 0. -/
def rvC0 (c : Nat) : Option Nat :=
  let rs1 := bits c 9 7 + 8
  let rd := bits c 4 2 + 8
  let w4 := bits c 12 10 * 8 + bits c 6 6 * 4 + bits c 5 5 * 64
  let w8 := bits c 12 10 * 8 + bits c 6 5 * 64
  match bits c 15 13 with
  | 0 =>
    let i := bits c 12 11 * 16 + bits c 10 7 * 64 + bits c 6 6 * 4 + bits c 5 5 * 8
    if i = 0 then none else some (encI 0x13 0 rd 2 i)
  | 2 => some (encI 0x03 2 rd rs1 w4)
  | 3 => some (encI 0x03 3 rd rs1 w8)
  | 6 => some (encS 0x23 2 rs1 rd w4)
  | 7 => some (encS 0x23 3 rs1 rd w8)
  | _ => none

/-- A compressed instruction of quadrant 1. -/
def rvC1 (c : Nat) : Option Nat :=
  let r := bits c 11 7
  let r' := bits c 9 7 + 8
  let i6 := bits c 12 12 * 32 + bits c 6 2
  let i12 := cext 6 12 i6
  match bits c 15 13 with
  | 0 => some (encI 0x13 0 r r i12)
  | 1 => if r = 0 then none else some (encI 0x1B 0 r r i12)
  | 2 => some (encI 0x13 0 r 0 i12)
  | 3 =>
    if i6 = 0 then none
    else if r = 2 then
      some (encI 0x13 0 2 2 (cext 10 12 (bits c 12 12 * 512 + bits c 6 6 * 16 + bits c 5 5 * 64 + bits c 4 3 * 128 + bits c 2 2 * 32)))
    else some (0x37 + r * 2 ^ 7 + cext 6 20 i6 * 4096)
  | 4 =>
    match bits c 11 10 with
    | 0 => some (encI 0x13 5 r' r' i6)
    | 1 => some (encI 0x13 5 r' r' (i6 + 0x400))
    | 2 => some (encI 0x13 7 r' r' i12)
    | _ =>
      let r2 := bits c 4 2 + 8
      match bits c 12 12, bits c 6 5 with
      | 0, 0 => some (encR 0x33 0 0x20 r' r' r2)
      | 0, 1 => some (encR 0x33 4 0 r' r' r2)
      | 0, 2 => some (encR 0x33 6 0 r' r' r2)
      | 0, _ => some (encR 0x33 7 0 r' r' r2)
      | _, 0 => some (encR 0x3B 0 0x20 r' r' r2)
      | _, 1 => some (encR 0x3B 0 0 r' r' r2)
      | _, _ => none
  | 5 =>
    let i := bits c 12 12 * 2048 + bits c 11 11 * 16 + bits c 10 9 * 256 + bits c 8 8 * 1024 + bits c 7 7 * 64 + bits c 6 6 * 128
      + bits c 5 3 * 2 + bits c 2 2 * 32
    some (encJ 0 (cext 12 21 i))
  | f =>
    let i := bits c 12 12 * 256 + bits c 11 10 * 8 + bits c 6 5 * 64 + bits c 4 3 * 2 + bits c 2 2 * 32
    some (encB (f - 6) r' (cext 9 13 i))

/-- A compressed instruction of quadrant 2. -/
def rvC2 (c : Nat) : Option Nat :=
  let r := bits c 11 7
  let r2 := bits c 6 2
  let i6 := bits c 12 12 * 32 + bits c 6 2
  match bits c 15 13 with
  | 0 => some (encI 0x13 1 r r i6)
  | 2 => if r = 0 then none else some (encI 0x03 2 r 2 (bits c 12 12 * 32 + bits c 6 4 * 4 + bits c 3 2 * 64))
  | 3 => if r = 0 then none else some (encI 0x03 3 r 2 (bits c 12 12 * 32 + bits c 6 5 * 8 + bits c 4 2 * 64))
  | 4 =>
    if bits c 12 12 = 0 then
      if r2 = 0 then (if r = 0 then none else some (encI 0x67 0 0 r 0)) else some (encR 0x33 0 0 r 0 r2)
    else if r2 = 0 then (if r = 0 then some 0x00100073 else some (encI 0x67 0 1 r 0))
    else some (encR 0x33 0 0 r r r2)
  | 6 => some (encS 0x23 2 2 r2 (bits c 12 9 * 4 + bits c 8 7 * 64))
  | 7 => some (encS 0x23 3 2 r2 (bits c 12 10 * 8 + bits c 9 7 * 64))
  | _ => none

/-- The 32-bit instruction a 16-bit one stands for; the D extension's are not implemented. -/
def rvC (c : Nat) : Option Nat :=
  match c % 4 with
  | 0 => rvC0 c
  | 1 => rvC1 c
  | _ => rvC2 c

end Sys2Proof.Machine
end

