-- ==== Sys2Proof/Machine/OpsRv.lean ====
section
/-!
DEFINITION. Fetching and executing an engine thread's RISC-V instructions: CSRs, loads and stores, atomics, control flow, the F
extension; counters; triggers (12 R406-R412, R441-R443, R448).
-/

namespace Sys2Proof.Machine

open Sys2Proof

/-! CSRs (R409) -/

/-- What a CSR holds, as a thread reads it; none: it does not exist or the thread may not read it. -/
def State.csrRead (s : State) (h n : Nat) : Option Nat :=
  let k := s.hart h
  let e := s.engine (hartEng h)
  let sup := isSup h
  if n = 1 then some (k.fcsr % 32)
  else if n = 2 then some (k.fcsr / 32 % 8)
  else if n = 3 then some (k.fcsr % 256)
  else if n = 0x800 then some k.rflags
  else if n = 0x801 then some k.tcmp
  else if n = 0x802 then some k.tctl
  else if n = 0xCC0 then some s.etime
  else if n = 0xCC1 then some h
  else if n = 0xCC2 then some k.tag
  else if n = 0xCC3 then some (s.frameWord h)
  else if n = 0xCC4 then some k.slots
  else if 0xCC8 ≤ n ∧ n ≤ 0xCCB then
    (if sup || (e.hpcCfg.getD (n - 0xCC8) 0).testBit 16 then some (e.hpc.getD (n - 0xCC8) 0) else none)
  else if 0xCD0 ≤ n ∧ n ≤ 0xCD3 then (if sup || e.slotUen then some (k.counts.getD (n - 0xCD0) 0) else none)
  else if !sup then none
  else if 0x7C0 ≤ n ∧ n ≤ 0x7C3 then some (e.hpcCfg.getD (n - 0x7C0) 0)
  else if n = 0x7C4 then some (if e.slotUen then 1 else 0)
  else if n = 0x7C5 then some (e.prod * 256 + e.cons)
  else if n = 0x7C6 then some ((List.range 8).foldl (fun v t => v + (s.hart (hartEng h * 8 + t)).st.code * 16 ^ t) 0)
  else if n = 0x7C7 then some e.tag0
  else if 0x7C8 ≤ n ∧ n ≤ 0x7CB then some (e.hpc.getD (n - 0x7C8) 0)
  else none

/-- Write a CSR; the read-only numbers (bits 11:10 both 1) are refused by the instruction. -/
def State.csrWrite (s : State) (h n v : Nat) : State :=
  let i := hartEng h
  let e := s.engine i
  if n = 1 then s.modHart h (fun k => { k with fcsr := setBits k.fcsr 4 0 v })
  else if n = 2 then s.modHart h (fun k => { k with fcsr := setBits k.fcsr 7 5 v })
  else if n = 3 then s.modHart h (fun k => { k with fcsr := v % 256 })
  else if n = 0x800 then s.modHart h (fun k => { k with rflags := v % 8 })
  else if n = 0x801 then s.modHart h (fun k => { k with tcmp := v, timerTag := k.tag })
  else if n = 0x802 then s.modHart h (fun k => { k with tctl := v &&& 0x3F01 })
  else if 0x7C0 ≤ n ∧ n ≤ 0x7C3 then s.setEngine i { e with hpcCfg := e.hpcCfg.set (n - 0x7C0) (v % 2 ^ 18) }
  else if n = 0x7C4 then s.setEngine i { e with slotUen := v.testBit 0 }
  else if n = 0x7C5 then (s.setEngine i { e with cons := v % 32 }).ringDrain i
  else if n = 0x7C7 then s.setEngine i { e with tag0 := v % 4096 }
  else if 0x7C8 ≤ n ∧ n ≤ 0x7CB then s.setEngine i { e with hpc := e.hpc.set (n - 0x7C8) v }
  else s

/-! Triggers (R448; the layout of tdata1 is log entry 40) -/

/-- A trigger of the hart matches an access of kind bit b (0 load, 1 store, 2 execute) at address a; bit 6 enables it for thread 0, bit 3 for
workers. -/
def State.trigHit (s : State) (h b a : Nat) : Bool :=
  (s.hart h).trigs.any (fun t => t.1.testBit b && t.1.testBit (if isSup h then 6 else 3) && t.2 == a)

/-- A load or store of an instruction, with its triggers. -/
def State.ld (s : State) (h a n : Nat) : Res Nat := if s.trigHit h 0 a then (.error (.debug 2), s) else s.load h a n
def State.st (s : State) (h a n v : Nat) : Res Unit := if s.trigHit h 1 a then (.error (.debug 2), s) else s.store h a n v

/-- Counter events (R442) of an access at address a. -/
def dramEv (a : Nat) : List Nat := if 0x8000000000 ≤ a then [0x0B] else []

/-! Executing -/

/-- What an instruction gives: the next PC and its counter events beside 0x02. -/
abbrev Next := DWord × List Nat

/-- The thread's registers change and it goes on. -/
def State.go (s : State) (h : Nat) (k : Hart) (pc : DWord) (ev : List Nat) : Res Next := (.ok (pc, ev), s.setHart h k)

/-- An illegal instruction. -/
def State.ill (s : State) (w : Nat) : Res Next := (.error (trapIllegal w), s)

/-- A result goes to rd, or the encoding is illegal. -/
def State.toRd (s : State) (h w : Nat) (nxt : DWord) (v : Option DWord) : Res Next :=
  match v with
  | some x => s.go h ((s.hart h).wx (rvRd w) x) nxt []
  | none => s.ill w

/-- Loads of width and sign funct3. -/
def State.rvLoad (s : State) (h w : Nat) (nxt : DWord) : Res Next :=
  let f3 := rvF3 w
  let a := ((s.hart h).rx (rvRs1 w) + immI w).toNat
  let n := 2 ^ (f3 % 4)
  if f3 = 7 then s.ill w
  else match s.ld h a n with
    | (.error e, t) => (.error e, t)
    | (.ok v, t) => t.go h ((t.hart h).wx (rvRd w) (if f3 < 4 then sx (8 * n) v else BitVec.ofNat 64 v)) nxt (0x03 :: dramEv a)

def State.rvStore (s : State) (h w : Nat) (nxt : DWord) : Res Next :=
  let f3 := rvF3 w
  let k := s.hart h
  let a := (k.rx (rvRs1 w) + immS w).toNat
  if 4 ≤ f3 then s.ill w
  else match s.st h a (2 ^ f3) (k.rx (rvRs2 w)).toNat with
    | (.error e, t) => (.error e, t)
    | (.ok _, t) => (.ok (nxt, 0x04 :: dramEv a), t)

/-- 256 cycles of an engine's island in ns (R412). -/
def State.resvNs (s : State) (h : Nat) : Nat := ceilDiv 256000 (max 1 (s.fld (Reg.CLK_ISLAND (hartCl h)) 15 0))

/-- LR, SC and AMOs (R407, R412): on local and shared memory only. -/
def State.rvAtomic (s : State) (h w : Nat) (nxt : DWord) : Res Next :=
  let k := s.hart h
  let n := 2 ^ rvF3 w
  let a := (k.rx (rvRs1 w)).toNat
  let f5 := bits w 31 27
  let v := (k.rx (rvRs2 w)).toNat
  let up := fun (x : Nat) => sx (8 * n) x
  if rvF3 w ≠ 2 ∧ rvF3 w ≠ 3 then s.ill w
  else if f5 ≠ 2 ∧ f5 ≠ 3 ∧ (rvAmo 32 f5 0 0).isNone then s.ill w
  else if f5 = 2 ∧ rvRs2 w ≠ 0 then s.ill w
  else if a % n ≠ 0 then (.error (trapMisaligned a), s)
  else match s.resvKey h a n with
    | none => (.error (trapAccess a), s)
    | some key =>
      if f5 = 2 then
        match s.ld h a n with
        | (.error e, t) => (.error e, t)
        | (.ok x, t) => t.go h { (t.hart h).wx (rvRd w) (up x) with resv := some (key.1, key.2, t.now + t.resvNs h) } nxt [0x03]
      else if f5 = 3 then
        let ok := match k.resv with
          | some (p, b, e) => (p, b) == key && decide (s.now < e)
          | none => false
        if ok then
          match s.st h a n v with
          | (.error e, t) => (.error e, t)
          | (.ok _, t) => t.go h { (t.hart h).wx (rvRd w) 0 with resv := none } nxt [0x04]
        else s.go h { k.wx (rvRd w) 1 with resv := none } nxt [0x04, 0x0D]
      else if s.trigHit h 1 a then (.error (.debug 2), s)
      else match s.ld h a n with
        | (.error e, t) => (.error e, t)
        | (.ok x, t) => match t.store h a n ((rvAmo (8 * n) f5 x v).getD 0) with
          | (.error e, u) => (.error e, u)
          | (.ok _, u) => u.go h ((u.hart h).wx (rvRd w) (up x)) nxt [0x04]

/-- The rounding mode of an instruction: its rm field, or frm; none when reserved. -/
def Hart.rm (k : Hart) (w : Nat) : Option Nat :=
  let r := if rvF3 w = 7 then k.fcsr / 32 % 8 else rvF3 w
  if r ≤ 4 then some r else none

/-- A float result goes to frd and its flags to fflags. -/
def Hart.fres (k : Hart) (w : Nat) (r : FRes) : Hart := { k.wf (rvRd w) r.v with fcsr := k.fcsr ||| r.fl }
/-- An integer result of a float operation. -/
def Hart.fint (k : Hart) (w : Nat) (v : DWord) (fl : Nat) : Hart := { k.wx (rvRd w) v with fcsr := k.fcsr ||| fl }

/-- FCVT to an integer: rs2 0 W, 1 WU, 2 L, 3 LU. -/
def fToX (rm t a : Nat) : DWord × Nat :=
  match t with
  | 0 => let r := fToInt rm (-2147483648) 2147483647 a; (BitVec.ofInt 64 r.1, r.2)
  | 1 => let r := fToInt rm 0 4294967295 a; (sxw r.1.toNat, r.2)
  | 2 => let r := fToInt rm (-9223372036854775808) 9223372036854775807 a; (BitVec.ofInt 64 r.1, r.2)
  | _ => let r := fToInt rm 0 18446744073709551615 a; (BitVec.ofInt 64 r.1, r.2)

/-- FCVT from an integer. -/
def fOfX (rm t : Nat) (a : DWord) : FRes :=
  fOfInt rm (match t with
    | 0 => (a.truncate 32 : BitVec 32).toInt
    | 1 => ((a.truncate 32 : BitVec 32).toNat : Int)
    | 2 => a.toInt
    | _ => (a.toNat : Int))

/-- OP-FP of single precision. -/
def Hart.opFp (k : Hart) (w : Nat) : Option Hart :=
  let a := k.rf (rvRs1 w)
  let b := k.rf (rvRs2 w)
  let r2 := rvRs2 w
  let f3 := rvF3 w
  let rnd := fun (g : Nat → FRes) => (k.rm w).map (fun m => k.fres w (g m))
  match rvF7 w with
  | 0x00 => rnd (fun m => fAdd m a b)
  | 0x04 => rnd (fun m => fSub m a b)
  | 0x08 => rnd (fun m => fMul m a b)
  | 0x0C => rnd (fun m => fDiv m a b)
  | 0x2C => if r2 = 0 then rnd (fun m => fSqrt m a) else none
  | 0x10 => match f3 with
    | 0 => some (k.wf (rvRd w) (fSigned (fNeg b) (fMag a)))
    | 1 => some (k.wf (rvRd w) (fSigned (!fNeg b) (fMag a)))
    | 2 => some (k.wf (rvRd w) (fSigned (fNeg a != fNeg b) (fMag a)))
    | _ => none
  | 0x14 => match f3 with
    | 0 => some (k.fres w (fMinMax false a b))
    | 1 => some (k.fres w (fMinMax true a b))
    | _ => none
  | 0x50 => if f3 ≤ 2 then let r := fCmp f3 a b; some (k.fint w (BitVec.ofNat 64 r.v) r.fl) else none
  | 0x60 => if r2 ≤ 3 then (k.rm w).map (fun m => let r := fToX m r2 a; k.fint w r.1 r.2) else none
  | 0x68 => if r2 ≤ 3 then rnd (fun m => fOfX m r2 (k.rx (rvRs1 w))) else none
  | 0x70 =>
    if r2 ≠ 0 then none
    else if f3 = 0 then some (k.wx (rvRd w) (sxw a))
    else if f3 = 1 then some (k.wx (rvRd w) (BitVec.ofNat 64 (fClass a)))
    else none
  | 0x78 => if r2 = 0 ∧ f3 = 0 then some (k.wf (rvRd w) ((k.rx (rvRs1 w)).toNat % 2 ^ 32)) else none
  | _ => none

/-- FMADD 0, FMSUB 1, FNMSUB 2, FNMADD 3. -/
def Hart.fma (k : Hart) (w op : Nat) : Option Hart :=
  if bits w 26 25 ≠ 0 then none
  else
    let a := k.rf (rvRs1 w)
    let c := k.rf (bits w 31 27)
    let flip := fun (x : Nat) => if fIsNan x then x else fFlip x
    (k.rm w).map (fun m => k.fres w (fMadd m (if 2 ≤ op then flip a else a) (k.rf (rvRs2 w)) (if op = 1 ∨ op = 3 then flip c else c)))

/-- Zicsr: CSRRW 1, CSRRS 2, CSRRC 3, and their immediate forms 5-7. -/
def State.rvCsr (s : State) (h w : Nat) (nxt : DWord) : Res Next :=
  let n := bits w 31 20
  let f3 := rvF3 w
  let z := rvRs1 w
  let src := if 4 ≤ f3 then z else ((s.hart h).rx z).toNat
  let wr := f3 % 4 = 1 ∨ z ≠ 0
  match s.csrRead h n with
  | none => s.ill w
  | some old =>
    if wr ∧ (3072 ≤ n ∨ n = 0x7C6) then s.ill w
    else
      let v := match f3 % 4 with
        | 1 => src
        | 2 => old ||| src
        | _ => old - (old &&& src)
      let s1 := if wr then s.csrWrite h n v else s
      s1.go h ((s1.hart h).wx (rvRd w) (BitVec.ofNat 64 old)) nxt []

/-- An ordinary 32-bit instruction, or the one a compressed one stands for; raw is what ILLEGAL reports. -/
def State.rvExec (s : State) (h w raw len : Nat) : Res Next :=
  let k := s.hart h
  let pc := k.pc
  let nxt := pc + BitVec.ofNat 64 len
  let a := k.rx (rvRs1 w)
  let b := k.rx (rvRs2 w)
  let r : Res Next := match w % 128 with
    | 0x37 => s.toRd h w nxt (some (immU w))
    | 0x17 => s.toRd h w nxt (some (pc + immU w))
    | 0x6F => s.go h (k.wx (rvRd w) nxt) (pc + immJ w) []
    | 0x67 => if rvF3 w = 0 then s.go h (k.wx (rvRd w) nxt) ((a + immI w) &&& ~~~1) [] else s.ill w
    | 0x63 => match rvTaken (rvF3 w) a b with
      | some t => (.ok (if t then pc + immB w else nxt, []), s)
      | none => s.ill w
    | 0x03 => s.rvLoad h w nxt
    | 0x23 => s.rvStore h w nxt
    | 0x13 => s.toRd h w nxt (rvOpImm w a)
    | 0x1B => s.toRd h w nxt (rvOpImm32 w a)
    | 0x33 => s.toRd h w nxt (rvOp (rvF7 w) (rvF3 w) a b)
    | 0x3B => s.toRd h w nxt (rvOp32 (rvF7 w) (rvF3 w) (rvRs2 w) a b)
    | 0x2F => s.rvAtomic h w nxt
    | 0x0F => if rvF3 w ≤ 1 then (.ok (nxt, []), s) else s.ill w
    | 0x73 => if rvF3 w % 4 = 0 then s.ill w else s.rvCsr h w nxt
    | 0x07 =>
      if rvF3 w ≠ 2 then s.ill w
      else match s.ld h (a + immI w).toNat 4 with
        | (.error e, t) => (.error e, t)
        | (.ok v, t) => t.go h ((t.hart h).wf (rvRd w) v) nxt (0x03 :: dramEv (a + immI w).toNat)
    | 0x27 =>
      if rvF3 w ≠ 2 then s.ill w
      else match s.st h (a + immS w).toNat 4 (k.rf (rvRs2 w)) with
        | (.error e, t) => (.error e, t)
        | (.ok _, t) => (.ok (nxt, 0x04 :: dramEv (a + immS w).toNat), t)
    | 0x53 => match k.opFp w with
      | some g => s.go h g nxt []
      | none => s.ill w
    | op =>
      if op = 0x43 ∨ op = 0x47 ∨ op = 0x4B ∨ op = 0x4F then
        match k.fma w ((op - 0x43) / 4) with
        | some g => s.go h g nxt []
        | none => s.ill w
      else s.ill w
  match r with
  | (.error (.fault 1 sub _), t) => (.error (.fault 1 sub raw), t)
  | x => x

/-! Fetch -/

/-- The instruction at a thread's PC: its bits, the 32-bit instruction it stands for (0 where there is none), its length; or the fetch fault
(R410: only the instruction bank is fetched from). -/
def State.fetch (s : State) (h : Nat) : Except Trap (Nat × Nat × Nat) :=
  let k := s.hart h
  let pc := k.pc.toNat
  let m := s.codeOf (hartCl h) k.old
  if 0x20000 < pc + 2 then .error (trapAccess pc)
  else
    let c := leNat (Mem.rdN m pc 2)
    if c % 4 ≠ 3 then .ok (c, (rvC c).getD 0, 2)
    else if 0x20000 < pc + 4 then .error (trapAccess pc)
    else
      let w := leNat (Mem.rdN m pc 4)
      .ok (w, if w % 32 = 31 then 0 else w, 4)

/-! Retirement (R441-R443, R445, R448) -/

/-- Count events for a thread; a counter that wraps under SAMPLE waits to post its record. -/
def State.hpcCount (s : State) (h : Nat) (ev : List Nat) (pc : Nat) : State :=
  (List.range 4).foldl (fun (t : State) i =>
    let e := t.engine (hartEng h)
    let c := e.hpcCfg.getD i 0
    if ev.contains (c % 256) && c.testBit (8 + hartTh h) then
      let v := e.hpc.getD i 0 + 1
      let t1 := t.setEngine (hartEng h) { e with hpc := e.hpc.set i (v % 2 ^ 64) }
      if 2 ^ 64 ≤ v ∧ c.testBit 17 = true then t1.modHart h (fun k => { k with samples := k.samples ++ [(i, pc)] }) else t1
    else t) s

/-- An instruction of a running thread retires: the PC moves, its slot is RETIRED and charged to the run, counters count, a single step
ends. -/
def State.retire (s : State) (h : Nat) (nxt : DWord) (ev : List Nat) : State :=
  let pc := (s.hart h).pc.toNat
  let s1 := (s.modHart h (fun k => { k with pc := nxt, slots := k.slots + 1, counts := k.counts.set 0 ((k.counts.getD 0 0 + 1) % 2 ^ 64) })).bump64
    (Reg.EC_SLOT_RETIRED (hartCl h)) 1
  s1.hpcCount h (0x02 :: ev) pc

/-- After an instruction: single step, or a halt request that waited for it (R449). -/
def State.stepEnd (s : State) (h : Nat) : State :=
  let k := s.hart h
  if k.st = .debug ∨ k.st = .unavailable ∨ k.wait.isSome then s
  else if k.haltReq then s.debugHalt h 3
  else if k.dcsr.testBit 2 then s.debugHalt h 4
  else s

/-- The result of an instruction. -/
def finishInstr (h : Nat) (r : Res Next) : State :=
  match r with
  | (.ok (nxt, ev), t) => (t.retire h nxt ev).stepEnd h
  | (.error e, t) => (t.takeTrap h e).stepEnd h

end Sys2Proof.Machine
end

