-- ==== Sys2Proof/Machine/OpsXt.lean ====
section
/-!
DEFINITION. The Xtilna instructions (12 R428-R440).
-/

namespace Sys2Proof.Machine

open Sys2Proof

/-- What an instruction is (R429): one of Xtilna, ECALL, EBREAK, or an ordinary RISC-V instruction; an encoding no table lists is an ordinary one that
raises ILLEGAL. -/
inductive EngOp where
  | rv | ecall | ebreak
  | hdrLd (n : Nat) | hdrSt (n : Nat) | pktRd | pktWr | pktAdj | metaRd | metaWr | dispose
  | tlk | ctFind | ctIns | ctDel | cntAdd | enq | rateSet | crypt | rand
  | yield | waitT | tres | tregR | tregW
  | rate (op : Nat) | rcvtWu | rcvtR
  deriving DecidableEq, Repr

/-- The table of R429. -/
def engOp (w : Nat) : EngOp :=
  if w = 0x00000073 then .ecall
  else if w = 0x00100073 then .ebreak
  else if w % 128 = 0x0B then
    match rvF3 w, rvF7 w with
    | 0, 0x00 => .hdrLd 1
    | 0, 0x01 => .hdrLd 2
    | 0, 0x02 => .hdrLd 4
    | 0, 0x03 => .hdrLd 8
    | 0, 0x08 => .hdrSt 1
    | 0, 0x09 => .hdrSt 2
    | 0, 0x0A => .hdrSt 4
    | 0, 0x0B => .hdrSt 8
    | 0, 0x10 => .pktRd
    | 0, 0x11 => .pktWr
    | 0, 0x12 => .pktAdj
    | 0, 0x18 => .metaRd
    | 0, 0x19 => .metaWr
    | 0, 0x1F => .dispose
    | 1, 0x00 => if rvRd w = 0 ∨ rvRd w % 2 = 1 then .rv else .tlk
    | 1, 0x08 => .ctFind
    | 1, 0x09 => .ctIns
    | 1, 0x0A => .ctDel
    | 2, 0x00 => .cntAdd
    | 2, 0x01 => .enq
    | 2, 0x02 => .rateSet
    | 2, 0x08 => .crypt
    | 2, 0x09 => .rand
    | 3, 0x00 => .yield
    | 3, 0x01 => .waitT
    | 3, 0x08 => .tres
    | 3, 0x09 => .tregR
    | 3, 0x0A => .tregW
    | _, _ => .rv
  else if w % 128 = 0x2B then
    match rvF3 w, rvF7 w with
    | 0, 0x08 => .rcvtWu
    | 0, 0x09 => .rcvtR
    | 0, f => if f ≤ 5 then .rate f else .rv
    | _, _ => .rv
  else .rv

/-- Counter events of the class of an instruction (R429, R442). -/
def specEv : List Nat := [0x06]
def retEv : List Nat := [0x08]

/-! Bytes of local and shared memory behind "addr" operands -/

/-- Read n bytes at an "addr" operand. -/
def State.addrRead (s : State) (h a n : Nat) : Res (List Byte) :=
  if s.addrOk h a n false then s.readRegion h a n else (.error (trapX 6), s)

/-- Write bytes at an "addr" operand. -/
def State.addrWrite (s : State) (h a : Nat) (d : List Byte) : Res Unit :=
  if s.addrOk h a d.length true then s.writeRegion h a d else (.error (trapX 6), s)

/-! Frame and metadata -/

/-- HDR.LD (R429). -/
def State.xHdrLd (s : State) (h w n : Nat) : Res Next :=
  let k := s.hart h
  let o := (k.rx (rvRs1 w)).toNat
  match s.held h with
  | none => (.error (trapX 1), s)
  | some (_, f) =>
    if f.bytes.length < o + n then (.error (trapX 2), s)
    else s.go h (k.wx (rvRd w) (BitVec.ofNat 64 (beNat (slice f.bytes o n)))) (k.pc + 4) specEv

/-- HDR.ST (R429). -/
def State.xHdrSt (s : State) (h w n : Nat) : Res Next :=
  let k := s.hart h
  let o := (k.rx (rvRs1 w)).toNat
  match s.held h with
  | none => (.error (trapX 1), s)
  | some (i, f) =>
    if f.bytes.length < o + n then (.error (trapX 2), s)
    else (.ok (k.pc + 4, retEv), s.setFrame i { f with bytes := patch f.bytes o (beBytes n (k.rx (rvRs2 w)).toNat) })

/-- Offset and length of PKT.RD and PKT.WR. -/
def pktSpan (v : Nat) : Nat × Nat := (v % 65536, bits v 31 16)

/-- PKT.RD (R429, R436). -/
def State.xPktRd (s : State) (h w : Nat) : Res Next :=
  let k := s.hart h
  let sp := pktSpan (k.rx (rvRs2 w)).toNat
  match s.held h with
  | none => (.error (trapX 1), s)
  | some (_, f) =>
    if f.bytes.length < sp.1 + sp.2 ∨ 4096 < sp.2 then (.error (trapX 2), s)
    else match s.addrWrite h (k.rx (rvRs1 w)).toNat (slice f.bytes sp.1 sp.2) with
      | (.error e, t) => (.error e, t)
      | (.ok _, t) => t.go h ((t.hart h).wx (rvRd w) (BitVec.ofNat 64 sp.2)) (k.pc + 4) retEv

/-- PKT.WR. -/
def State.xPktWr (s : State) (h w : Nat) : Res Next :=
  let k := s.hart h
  let sp := pktSpan (k.rx (rvRs2 w)).toNat
  match s.held h with
  | none => (.error (trapX 1), s)
  | some (i, f) =>
    if f.bytes.length < sp.1 + sp.2 ∨ 4096 < sp.2 then (.error (trapX 2), s)
    else match s.addrRead h (k.rx (rvRs1 w)).toNat sp.2 with
      | (.error e, t) => (.error e, t)
      | (.ok d, t) => (.ok (k.pc + 4, retEv), t.setFrame i { f with bytes := patch f.bytes sp.1 d })

/-- PKT.ADJ (R429, R430, R436): positive deltas prepend zero bytes, negative ones remove head bytes. -/
def State.xPktAdj (s : State) (h w : Nat) : Res Next :=
  let k := s.hart h
  let d := (k.rx (rvRs1 w)).toInt
  match s.held h with
  | none => (.error (trapX 1), s)
  | some (i, f) =>
    let len := (f.bytes.length : Int) + d
    if d < -256 ∨ 256 < d ∨ len < 14 ∨ 16384 < len then (.error (trapX 3), s)
    else
      let n := d.natAbs
      let g := if 0 ≤ d then { f.move (growOff 0 n) with bytes := zeros n ++ f.bytes }
        else { f.move (cutOff n) with bytes := f.bytes.drop n }
      (.ok (k.pc + 4, retEv), s.setFrame i g)

/-- META.RD (R430). -/
def State.xMetaRd (s : State) (h w : Nat) : Res Next :=
  let k := s.hart h
  let i := (k.rx (rvRs1 w)).toNat
  match s.held h with
  | none => (.error (trapX 1), s)
  | some (_, f) =>
    let opt := fun (o : Option Nat) (b : Nat) => match o with | some v => v + 2 ^ b | none => 0
    if 8 < i then (.error (trapX 4), s)
    else
      let v := match i with
        | 0 => k.dest.getD (s.destField f)
        | 1 => opt f.tmq 16
        | 2 => opt f.mark 32
        | 3 => f.tc + f.color * 8
        | 4 => opt f.cont.keySlot 15
        | 5 => if f.tx then f.engMeta else 0
        | 6 => f.bytes.length
        | 7 => f.handAt
        | _ => bitVal f.tx 0 + bitVal f.replayed 1 + bitVal f.decrypted 2
      s.go h (k.wx (rvRd w) (BitVec.ofNat 64 v)) (k.pc + 4) specEv

/-- META.WR. -/
def State.xMetaWr (s : State) (h w : Nat) : Res Next :=
  let k := s.hart h
  let i := (k.rx (rvRs1 w)).toNat
  let v := (k.rx (rvRs2 w)).toNat
  match s.held h with
  | none => (.error (trapX 1), s)
  | some (n, f) =>
    let put := fun (g : Frame) => ((.ok (k.pc + 4, retEv), s.setFrame n g) : Res Next)
    match i with
    | 0 => s.go h { k with dest := some (bits v 47 8 * 256 + v % 4) } (k.pc + 4) retEv
    | 1 => put { f with tmq := if v.testBit 16 then some (v % 65536) else none }
    | 2 => put { f with mark := if v.testBit 32 then some (v % 2 ^ 32) else none }
    | 3 => put { f with tc := v % 8, color := min 2 (bits v 4 3) }
    | 4 => put { f with cont := { f.cont with keySlot := if v.testBit 15 then some (v % 16384) else none } }
    | _ => (.error (trapX 4), s)

/-- DISPOSE (R299, R431): the frame leaves the thread, and the run's slots so far are charged (R445). -/
def State.xDispose (s : State) (h w : Nat) : Res Next :=
  let k := s.hart h
  let c := hartCl h
  let kind := (k.rx (rvRs1 w)).toNat % 16
  let p := (k.rx (rvRs2 w)).toNat
  let gone := fun (t : State) => (t.modHart h (fun x => { x with frame := none, dest := none })).chargeRun h
  let ok := fun (t : State) => ((.ok (k.pc + 4, retEv), t) : Res Next)
  if 4 < kind then (.error (trapX 7), s)
  else match s.held h with
    | none => if k.frame.isSome then ok (gone s) else (.error (trapX 1), s)
    | some (i, f0) =>
      let f := s.takeDest f0 k.dest
      let s1 := gone s
      match kind with
      | 0 =>
        let g := s1.cluster c
        ok ((s1.setCluster c { g with drops := SMap.put g.drops (p % 256) (SMap.getD g.drops (p % 256) 0 + 1) }).dropFrame i)
      | 1 => ok (s1.endPass i f)
      | 2 =>
        let l := p % 8192
        let o := listOwner (s1.actList l)
        ok (if o = 0 ∨ o = f.owner then s1.startList i f l [] else s1.endPass i { f with cont := {} })
      | 3 =>
        let r := sprue i f (p % 256) (sprueOff f (bits p 10 8) (p.testBit 11) (bits p 31 16)) (p.testBit 12) s1
        ok (match r.out with | .wait => r.s.setFrame i r.f | _ => r.s)
      | _ => ok ((s1.clExc f false 3 (p % 256)).dropFrame i)

/-! Tables -/

/-- TLK (R432): the profile's key length, its offset ignored; lines the cache lacks are read from DRAM first. -/
def State.xTlk (s : State) (h w : Nat) : Res Next :=
  let k := s.hart h
  let p := (k.rx (rvRs2 w)).toNat % 256
  let r := s.lookupProfile p
  let out := fun (t : State) (e : List Byte) =>
    t.go h (((t.hart h).wx (rvRd w) (BitVec.ofNat 64 (u64 e 0))).wx (rvRd w + 1) (BitVec.ofNat 64 (u64 e 8))) (k.pc + 4) specEv
  match s.addrRead h (k.rx (rvRs1 w)).toNat (u8 r 2) with
  | (.error e, t) => (.error e, t)
  | (.ok key, t) =>
    match t.table? (u8 r 0 % 64) with
    | none => out t (zeros 16)
    | some tb =>
      if !(u8 r 0).testBit 7 then out t (zeros 16)
      else
        let miss := t.missingLines (u8 r 0 % 64) tb tb.act key
        let t1 := if miss.isEmpty then t else (miss.foldl (fun (u : State) l => u.loadLine l) t).bump64 Reg.LK_CACHE_MISSES 1
        let x := t1.lookupNow (u8 r 0 % 64) tb key ((u8 r 0).testBit 6) (some tb.act.tag) []
        match x.1 with
        | some e =>
          let v := tb.result e
          out x.2 (patch v 0 [BitVec.ofNat 8 (setBits (u8 v 0) 7 7 1)])
        | none => out x.2 (zeros 16)

/-- A cluster table's descriptor (R433, R451): bucket count, base and key length of an enabled one. -/
def State.ctDesc (s : State) (c t : Nat) : Option (Nat × Nat × Nat) :=
  let d := s.regN (Reg.EC_CT_DESC c t)
  if d.testBit 31 then some (2 ^ bits d 27 24, bits d 19 8 * 256, bits d 5 0) else none

/-- The entries of a key's bucket: their offsets in shared memory (R433). -/
def ctBucket (d : Nat × Nat × Nat) (key : List Byte) : List Nat :=
  (List.range 4).map (fun i => d.2.1 + crc32c key % d.1 * 256 + i * 64)

/-- The valid entry of a key. -/
def ctFindEntry (m : Mem) (d : Nat × Nat × Nat) (key : List Byte) : Option Nat :=
  (ctBucket d key).find? (fun o => (u8 (Mem.rdN m (o + 32) 1) 0).testBit 0 && Mem.rdN m o 32 == fit 32 key)

/-- A bucket with a poisoned word (R412). -/
def State.ctPoison (s : State) (c : Nat) (d : Nat × Nat × Nat) (key : List Byte) : Bool :=
  (ctBucket d key).any (fun o => (touched o 64).any (fun w => (s.cluster c).poison.contains w))

/-- The key of a CT operation: none of the table, the fault, or the key's bytes. -/
def State.ctKey (s : State) (h w n : Nat) : Res ((Nat × Nat × Nat) × List Byte) :=
  let k := s.hart h
  let c := hartCl h
  match s.ctDesc c ((k.rx (rvRs2 w)).toNat % 8) with
  | none => (.error (trapX 5), s)
  | some d => match s.addrRead h (k.rx (rvRs1 w)).toNat (if n = 0 then d.2.2 else n) with
    | (.error e, t) => (.error e, t)
    | (.ok b, t) =>
      if t.ctPoison c d (b.take d.2.2) then (.error (trapEcc ((ctBucket d (b.take d.2.2)).headD 0 + 0x20000000)), t.poisonHit c)
      else (.ok (d, b), t)

/-- CT.FIND. -/
def State.xCtFind (s : State) (h w : Nat) : Res Next :=
  match s.ctKey h w 0 with
  | (.error e, t) => (.error e, t)
  | (.ok (d, key), t) =>
    let v := match ctFindEntry (t.cluster (hartCl h)).shared d key with | some o => o + 0x20000000 | none => 0
    t.go h ((t.hart h).wx (rvRd w) (BitVec.ofNat 64 v)) ((s.hart h).pc + 4) specEv

/-- CT.INS: the image's key, its VALUE and the run's tag go into a free way. -/
def State.xCtIns (s : State) (h w : Nat) : Res Next :=
  let c := hartCl h
  match s.ctKey h w 64 with
  | (.error e, t) => (.error e, t)
  | (.ok (d, img), t) =>
    let key := img.take d.2.2
    let g := t.cluster c
    let ret := fun (u : State) (v : Nat) => u.go h ((u.hart h).wx (rvRd w) (BitVec.ofNat 64 v)) ((s.hart h).pc + 4) retEv
    match ctFindEntry g.shared d key with
    | some o => ret t (o + 0x20000001)
    | none => match (ctBucket d key).find? (fun o => !(u8 (Mem.rdN g.shared (o + 32) 1) 0).testBit 0) with
      | none => ret t 0
      | some o =>
        let e := fit 32 key ++ leBytes 2 (setBits (u16 img 32) 0 0 1) ++ leBytes 2 (t.hart h).tag ++ slice img 36 28
        ret ((t.setCluster c { g with shared := Mem.wrN g.shared o e }).breakResv c 0 o 64) (o + 0x20000000)

/-- CT.DEL. -/
def State.xCtDel (s : State) (h w : Nat) : Res Next :=
  let c := hartCl h
  match s.ctKey h w 0 with
  | (.error e, t) => (.error e, t)
  | (.ok (d, key), t) =>
    let g := t.cluster c
    let ret := fun (u : State) (v : Nat) => u.go h ((u.hart h).wx (rvRd w) (BitVec.ofNat 64 v)) ((s.hart h).pc + 4) retEv
    match ctFindEntry g.shared d key with
    | none => ret t 0
    | some o =>
      let b := Mem.rd g.shared (o + 32)
      ret ((t.setCluster c { g with shared := Mem.wr g.shared (o + 32) (b &&& 0xFE) }).breakResv c 0 (o + 32) 1) 1

/-- CNT.ADD. -/
def State.xCntAdd (s : State) (h w : Nat) : Res Next :=
  let k := s.hart h
  let i := (k.rx (rvRs1 w)).toNat
  if 4095 < i then (.error (trapX 7), s)
  else (.ok (k.pc + 4, retEv), s.bump64 (Reg.CNT (hartCl h) i) (k.rx (rvRs2 w)).toNat)

/-- ENQ (R429, R444): 0 queued, 1 dropped; a cluster that is off takes nothing (01 R36). -/
def State.xEnq (s : State) (h w : Nat) : Res Next :=
  let k := s.hart h
  let v := (k.rx (rvRs2 w)).toNat
  match s.addrRead h (k.rx (rvRs1 w)).toNat 32 with
  | (.error e, t) => (.error e, t)
  | (.ok b, t) =>
    let c := v % 32
    let ok := t.accepting (21 + c) && decide ((t.cluster c).msgs.length < 256)
    let t1 := t.postMsg c { vec := bits v 13 8, flask := k.tag, bytes := b }
    t1.go h ((t1.hart h).wx (rvRd w) (flagD (!ok))) (k.pc + 4) retEv

/-- RATE.SET (R351, R429): a thread outside the queue's engine set is discarded and counted. -/
def State.xRateSet (s : State) (h w : Nat) : Res Next :=
  let k := s.hart h
  let q := (k.rx (rvRs1 w)).toNat % 65536
  let out := fun (t : State) => ((.ok (k.pc + 4, retEv), t) : Res Next)
  match s.tmq? q with
  | none => out (s.bump Reg.TM_RATE_REJECT)
  | some x =>
    if x.flags.testBit 0 && (s.regN (Reg.CL_ENGINE_SET (u8 x.rcd 7 % 16))).testBit (hartCl h) then
      out (s.setTmq q { x with sh := x.sh.fill x.rcd x.pir s.now, engRate := some ((k.rx (rvRs2 w)).toNat % 2 ^ 32) })
    else out (s.bump Reg.TM_RATE_REJECT)

/-! Cipher and random numbers (R434, R435) -/

/-- A raw request's length fits its mode, by the code of R434 (5 is XTS). -/
def rawLenOk (mode len aad tag : Nat) : Bool :=
  decide (1 ≤ len) && decide (len ≤ 2 ^ 20) &&
    (match mode with
     | 0 => len % 16 == 0
     | 1 => true
     | 2 => true
     | 3 => true
     | 4 => decide (4 ≤ tag) && decide (tag ≤ 16) && decide (aad ≤ len)
     | 5 => len % 16 == 0
     | _ => false)

/-- A raw request's slot can serve it: RAW, LOADED, of owner 0 or the requester's flask, XTS exactly with a key pair (R434, R392). -/
def rawSlotOk (k : KeySlot) (flask mode : Nat) : Bool :=
  k.st == 2 && k.framing == 0 && (k.owner == 0 || k.owner == flask) && (k.xtsPair == (mode == 5))

/-- A raw operation on n bytes and, for a GCM decryption, the tag after them: whether it authenticated, and the output with the tag a GCM
encryption adds (R372, R434). -/
def rawCipher (k : KeySlot) (mode : Nat) (enc : Bool) (tag aad : Nat) (iv d t : List Byte) : Bool × List Byte :=
  match mode with
  | 5 => (true, xts enc (k.key.take 32) (k.key.drop 32) iv d)
  | 4 =>
    if enc then
      let r := gcmSeal k.key (iv.take 12) (d.take aad) (d.drop aad)
      (true, d.take aad ++ r.1 ++ r.2.take tag)
    else
      let r := gcmOpen k.key (iv.take 12) (d.take aad) (d.drop aad)
      (r.2.take tag == t.take tag, d.take aad ++ r.1)
  | _ => (true, blockMode mode enc k.key iv d)

/-- The completion status of a failed authentication, counted (R387). -/
def State.rawAuthFail (s : State) (c slot : Nat) (k : KeySlot) : Nat × State :=
  let cur := s.keySlot slot
  (if k.authMode then cAuthUntrusted else cAuthFail,
   (s.setKeySlot slot { cur with authFails := cur.authFails + 1 }).bump (Reg.CX_AUTH_FAIL c))

/-- The fields of a request block. -/
def crLen (r : List Byte) : Nat := u32 r 16
def crSlot (r : List Byte) : Nat := u16 r 20
def crComplex (r : List Byte) : Nat := u8 r 22 % 2
def crEnc (r : List Byte) : Bool := (u8 r 22).testBit 1
def crMode (r : List Byte) : Nat := bits (u8 r 22) 4 2
def crTag (r : List Byte) : Nat := u8 r 23
def crAad (r : List Byte) : Nat := u32 r 24
def crIn (r : List Byte) : Nat := crLen r + (if crMode r = 4 ∧ crEnc r = false then crTag r else 0)
def crOut (r : List Byte) : Nat := crLen r + (if crMode r = 4 ∧ crEnc r = true then crTag r else 0)

/-- CRYPT: a status at once, or a request in the complex's BULK queue that the thread waits for. -/
def State.xCrypt (s : State) (h w : Nat) : Res Next :=
  let k := s.hart h
  match s.addrRead h (k.rx (rvRs1 w)).toNat 48 with
  | (.error e, t) => (.error e, t)
  | (.ok r, t) =>
    let src := u64 r 0
    let dst := u64 r 8
    let ret := fun (v : Nat) => t.go h ((t.hart h).wx (rvRd w) (BitVec.ofNat 64 v)) (k.pc + 4) retEv
    if !rawSlotOk (t.keySlot (crSlot r)) k.tag (crMode r) || !rawLenOk (crMode r) (crLen r) (crAad r) (crTag r) then
      ret cBadDescriptor
    else if src ≠ dst ∧ src < dst + crOut r ∧ dst < src + crIn r then ret cOverlap
    else
      let srcOk := match t.region (hartCl h) src (crIn r) with
        | .mem _ => true | .ctx _ => true | .shared _ => true | .ring _ => true | .dram _ _ => true | _ => false
      let dstOk := match t.region (hartCl h) dst (crOut r) with
        | .mem _ => true | .ctx _ => true | .shared _ => true | .dram _ wr => wr | _ => false
      if !srcOk then (.error (trapAccess src), t)
      else if !dstOk then (.error (trapAccess dst), t)
      else
        let t1 := t.bulkSubmit (crComplex r) (.engine (hartCl h) (h % 64)) (crSlot r) (ceilDiv (crLen r) 16384) (crLen r)
        (.ok (k.pc, []), t1.modHart h (fun x => { x with wait := some (.crypt (rvRd w) r) }))

/-- RAND (R399, R435). -/
def State.xRand (s : State) (h w : Nat) : Res Next :=
  let k := s.hart h
  if s.rngState = 3 then (.error (trapX 8), s.bump Reg.RNG_REQ_FAILED)
  else if s.rngState = 1 ∧ s.cx.rng.held = [] then
    let r := s.rngServe 8
    r.2.go h ((r.2.hart h).wx (rvRd w) (BitVec.ofNat 64 (leNat r.1))) (k.pc + 4) retEv
  else (.ok (k.pc, []), (s.rngHold (.engine (hartCl h) (h % 64)) 8).modHart h (fun x => { x with wait := some (.rand (rvRd w)) }))

/-- A waiting thread's result arrives: rd is written and the instruction retires (R437, R449). -/
def State.coDone (s : State) (h rd v : Nat) : State :=
  let s1 := s.modHart h (fun k => { k.wx rd (BitVec.ofNat 64 v) with wait := none })
  (s1.retire h ((s1.hart h).pc + 4) retEv).stepEnd h

/-- A waiting thread's operation faults. -/
def State.coFault (s : State) (h : Nat) (e : Trap) : State := ((s.modHart h (fun k => { k with wait := none })).takeTrap h e).stepEnd h

/-- Random bytes arrive for a thread, or the DRBG has failed. -/
def State.randDone (s : State) (h : Nat) (b : Option (List Byte)) : State :=
  match (s.hart h).wait with
  | some (.rand rd) => match b with
    | some d => s.coDone h rd (leNat d)
    | none => s.coFault h (trapX 8)
  | _ => s

/-- The last segment of a thread's CRYPT has left its lane (or its slot held no key when it was dispatched: none). -/
def State.cryptDone (s : State) (h : Nat) (k : Option KeySlot) : State :=
  match (s.hart h).wait with
  | some (.crypt rd r) => match k with
    | none => s.coDone h rd cBadDescriptor
    | some k =>
      match s.readRegion h (u64 r 0) (crIn r) with
      | (.error e, t) => t.coFault h e
      | (.ok d, t) =>
        let x := rawCipher k (crMode r) (crEnc r) (crTag r) (crAad r) (slice r 32 16) (d.take (crLen r)) (d.drop (crLen r))
        let f := if x.1 then (cOk, t) else t.rawAuthFail (crComplex r) (crSlot r) k
        if f.1 = cAuthFail then f.2.coDone h rd f.1
        else match f.2.writeRegion h (u64 r 8) x.2 with
          | (.error e, u) => u.coFault h e
          | (.ok _, u) => u.coDone h rd f.1
  | _ => s

/-! Runs and the supervisor -/

/-- WAIT.T ends (R418). -/
def State.waitEnd (s : State) (h : Nat) : State :=
  let s1 := s.modHart h (fun k => { k with st := .running, tctl := setBits k.tctl 0 0 0 })
  (s1.retire h ((s1.hart h).pc + 4) retEv).stepEnd h

/-- The worker a supervisor names, when it is FAULTED or SERVICE (R423). -/
def State.halted (s : State) (h t : Nat) : Option Nat :=
  let v := hartEng h * 8 + t
  if t = 0 ∨ 8 ≤ t then none
  else if (s.hart v).st = .faulted ∨ (s.hart v).st = .service then some v else none

/-- The length of the instruction at a halted thread's PC. -/
def State.instrLen (s : State) (h : Nat) : Nat := match s.fetch h with | .ok (_, _, n) => n | .error _ => 4

/-- TRES (R423): RESUME, SKIP, KILL. -/
def State.xTres (s : State) (h w : Nat) : Res Next :=
  let k := s.hart h
  let nxt := k.pc + 4
  if !isSup h then s.ill w
  else match s.halted h (k.rx (rvRs1 w)).toNat with
    | none => (.error (trapX 7), s)
    | some v => match (k.rx (rvRs2 w)).toNat % 4 with
      | 0 => (.ok (nxt, retEv), s.modHart v (fun x => { x with st := .running, posting := none }))
      | 1 => (.ok (nxt, retEv), s.modHart v (fun x => { x with st := .running, posting := none, pc := x.pc + BitVec.ofNat 64 (s.instrLen v) }))
      | 2 => (.ok (nxt, retEv), (s.killRun v).switchImage v)
      | _ => (.error (trapX 7), s)

/-- Register n of a halted worker: x, PC, f (R423). -/
def Hart.treg (k : Hart) (n : Nat) : Option Nat :=
  if n < 32 then some (k.rx n).toNat else if n = 32 then some k.pc.toNat else if 64 ≤ n ∧ n < 96 then some (k.rf (n - 64)) else none
def Hart.setTreg (k : Hart) (n v : Nat) : Hart :=
  if n < 32 then k.wx n (BitVec.ofNat 64 v) else if n = 32 then { k with pc := BitVec.ofNat 64 v } else k.wf (n - 64) (v % 2 ^ 32)

/-- TREG.R. -/
def State.xTregR (s : State) (h w : Nat) : Res Next :=
  let k := s.hart h
  if !isSup h then s.ill w
  else match s.halted h (k.rx (rvRs1 w)).toNat with
    | none => (.error (trapX 7), s)
    | some v => match (s.hart v).treg (k.rx (rvRs2 w)).toNat with
      | none => (.error (trapX 7), s)
      | some x => s.go h (k.wx (rvRd w) (BitVec.ofNat 64 x)) (k.pc + 4) specEv

/-- TREG.W. -/
def State.xTregW (s : State) (h w : Nat) : Res Next :=
  let k := s.hart h
  let a := (k.rx (rvRs1 w)).toNat
  if !isSup h then s.ill w
  else match s.halted h (a % 8) with
    | none => (.error (trapX 7), s)
    | some v =>
      if ((s.hart v).treg (bits a 15 8)).isNone then (.error (trapX 7), s)
      else (.ok (k.pc + 4, retEv), s.modHart v (fun x => x.setTreg (bits a 15 8) (k.rx (rvRs2 w)).toNat))

/-- Rate arithmetic (R438). -/
def State.xRate (s : State) (h w op : Nat) : Res Next :=
  let k := s.hart h
  let r := rateOp op (k.rf (rvRs1 w)) (k.rf (rvRs2 w))
  s.go h { k.wf (rvRd w) r.1 with rflags := k.rflags ||| r.2 } (k.pc + 4) []

/-- RCVT.WU and RCVT.R (R440). -/
def State.xRcvtWu (s : State) (h w : Nat) : Res Next :=
  let k := s.hart h
  let r := rateToWord (k.rf (rvRs1 w))
  s.go h { k.wx (rvRd w) (BitVec.ofNat 64 r.1) with rflags := k.rflags ||| r.2 } (k.pc + 4) []
def State.xRcvtR (s : State) (h w : Nat) : Res Next :=
  let k := s.hart h
  s.go h (k.wf (rvRd w) (rateOfWord (k.rx (rvRs1 w)).toNat)) (k.pc + 4) []

/-! One instruction -/

/-- A running thread's next instruction, when it is one of those p names: bits, the 32-bit instruction, length. -/
def State.nextInstr (s : State) (h : Nat) (p : EngOp → Bool) : Option (Nat × Nat × Nat) :=
  let k := s.hart h
  if decide (2048 ≤ h) || k.st != .running || k.wait.isSome || !s.inService (21 + hartCl h) then none
  else match s.fetch h with
    | .error _ => if p .rv then some (0, 0, 0) else none
    | .ok (raw, w, n) => if p (engOp w) then some (raw, w, n) else none

/-- An instruction row of hart h runs: an execute trigger halts first (R448). -/
def State.runInstr (s : State) (h : Nat) (p : EngOp → Bool) (f : Nat → Res Next) : State :=
  match s.nextInstr h p with
  | none => s
  | some (_, w, _) => if s.trigHit h 2 (s.hart h).pc.toNat then s.debugHalt h 2 else finishInstr h (f w)

/-- An ordinary instruction, or the fetch fault that stands in its place. -/
def State.rvInstr (s : State) (h : Nat) : Res Next :=
  match s.fetch h with
  | .error e => (.error e, s)
  | .ok (raw, w, n) => s.rvExec h w raw n

/-- ECALL (R422): a worker enters SERVICE. -/
def xEcall : Trap := .fault 6 0 0

/-- EBREAK (R422, R448): to debug mode under dcsr.ebreakm (thread 0) or ebreaku (workers), else fault EBREAK. -/
def State.xEbreak (s : State) (h : Nat) : Trap :=
  if (s.hart h).dcsr.testBit (if isSup h then 15 else 12) then .debug 1 else .fault 5 0 0

end Sys2Proof.Machine
end

