-- ==== Sys2Proof/Machine/OpsMover.lean ====
section
/-!
DEFINITION. The bulk movers: descriptors, address spaces, chunks, the cipher stage, endings, engine rings (13 R455-R478).
-/

namespace Sys2Proof.Machine

open Sys2Proof

def State.mvChan (s : State) (c : Nat) : MvChan := SMap.getD s.mv.chans c {}
def State.setMvChan (s : State) (c : Nat) (x : MvChan) : State := { s with mv := { s.mv with chans := SMap.put s.mv.chans c x } }
def State.setJob (s : State) (c : Nat) (j : MvJob) : State := s.setMvChan c { s.mvChan c with job := some j }

/-! Descriptor fields (R460, R461) -/

def MvJob.op (j : MvJob) : Nat := u8 j.raw 0
def MvJob.owner (j : MvJob) : Nat := u16 j.raw 4 % 4096
def MvJob.src (j : MvJob) : Nat := u64 j.raw 8
def MvJob.dst (j : MvJob) : Nat := u64 j.raw 16
def MvJob.len (j : MvJob) : Nat := u32 j.raw 24
def MvJob.srcSp (j : MvJob) : Nat := bits (u8 j.raw 28) 1 0
def MvJob.dstSp (j : MvJob) : Nat := bits (u8 j.raw 28) 3 2
def MvJob.idxSp (j : MvJob) : Nat := bits (u8 j.raw 28) 5 4
def MvJob.elemLog2 (j : MvJob) : Nat := u8 j.raw 29 % 16
def MvJob.e (j : MvJob) : Nat := 2 ^ j.elemLog2
def MvJob.barrier (j : MvJob) : Bool := (u8 j.raw 30).testBit 0
def MvJob.indexed (j : MvJob) : Bool := j.op == 0x31 || j.op == 0x32
def MvJob.index (j : MvJob) : Nat := u64 j.raw 32
def MvJob.count (j : MvJob) : Nat := u32 j.raw 40
def MvJob.bound (j : MvJob) : Nat := u32 j.raw 44
def MvJob.ways (j : MvJob) : Nat := u8 j.raw 32
def MvJob.stride (j : MvJob) : Nat := u32 j.raw 36
/-- The cipher stage of MV_COPY (R461, R474). -/
def MvJob.cipher (j : MvJob) : Bool := j.op == 0x30 && (u16 j.raw 32).testBit 15
def MvJob.slot (j : MvJob) : Nat := u16 j.raw 32 % 16384
def MvJob.complex (j : MvJob) : Nat := u8 j.raw 34 % 2
def MvJob.enc (j : MvJob) : Bool := (u8 j.raw 34).testBit 1
def MvJob.mode (j : MvJob) : Nat := bits (u8 j.raw 34) 4 2
def MvJob.tag (j : MvJob) : Nat := u8 j.raw 35
def MvJob.aad (j : MvJob) : Nat := u32 j.raw 36
def MvJob.iv (j : MvJob) : List Byte := slice j.raw 48 16
/-- Tag bytes read after the input, and written after the output. -/
def MvJob.tagIn (j : MvJob) : Nat := if j.cipher && j.mode == 4 && !j.enc then j.tag else 0
def MvJob.tagOut (j : MvJob) : Nat := if j.cipher && j.mode == 4 && j.enc then j.tag else 0
/-- Elements of a bit-plane opcode, and planes. -/
def MvJob.elems (j : MvJob) : Nat := j.len / j.e
def MvJob.planes (j : MvJob) : Nat := 8 * j.e

/-- The rights of the operator: PF0's queues and the engine rings (R458). -/
def MvJob.wide (j : MvJob) : Bool := match j.org with | .ring _ _ => true | .queue _ _ => j.owner == 0

/-! Address spaces (R458) -/

/-- A range lies in its space. -/
def State.mvExtent (s : State) (j : MvJob) (sp a n : Nat) : Bool :=
  match sp with
  | 0 => decide (a + n ≤ 2 ^ 64)
  | 1 =>
    if j.wide then decide (a + n ≤ s.dr.span) && !areaHits (a, n) s.fallbackArea && !s.holes.any (fun b => areaHits (a, n) b)
    else decide (a + n ≤ u16 (s.fn j.owner).quota 16 * 1024)
  | 2 => j.wide && decide (a < 2 ^ 25) && decide (a % 2 ^ 20 + n ≤ 2 ^ 20)
  | _ => false

/-- The device DRAM offset of a DRAM address. -/
def State.mvDram (s : State) (j : MvJob) (a : Nat) : Nat := if j.wide then a else (s.fn j.owner).dramBase + a

/-- Read n bytes of DRAM or SHARED space: the bytes, whether they hold an uncorrectable error, the state. -/
def State.mvRead (s : State) (j : MvJob) (sp a n : Nat) : List Byte × Bool × State :=
  if sp = 1 then s.dramFetch (s.mvDram j a) n
  else
    let k := s.cluster (a / 2 ^ 20)
    let o := a % 2 ^ 20
    (Mem.rdN k.shared o n, (touched o n).any (fun w => k.poison.contains w), s)

/-- Read several spans in order. -/
def State.mvReads (s : State) (j : MvJob) (sp : Nat) : List (Nat × Nat) → List Byte × Bool × State
  | [] => ([], false, s)
  | (a, n) :: r =>
    let x := s.mvRead j sp a n
    let y := x.2.2.mvReads j sp r
    (x.1 ++ y.1, x.2.1 || y.2.1, y.2.2)

/-- Write bytes to a space. -/
def State.mvWrite (s : State) (j : MvJob) (a : Nat) (d : List Byte) : State :=
  match j.dstSp with
  | 0 => s.emit (.hostWrite j.fn a d false)
  | 1 => s.dramStore (s.mvDram j a) d
  | _ =>
    let c := a / 2 ^ 20
    let o := a % 2 ^ 20
    let k := s.cluster c
    let full := fun w => decide (o ≤ w * 8) && decide (w * 8 + 8 ≤ o + d.length)
    (s.setCluster c { k with shared := Mem.wrN k.shared o d, poison := k.poison.filter (fun w => !full w) }).breakResv c 0 o d.length

/-! Checks before the first read (R458, R460, R461, R474) -/

/-- Fields of the opcode outside R460-R462. -/
def MvJob.fieldsBad (j : MvJob) : Bool :=
  let op := j.op
  let e := j.e
  decide (op < 0x30) || decide (0x38 < op) || j.len == 0 || decide (2 ^ 20 < j.len) || decide (12 < j.elemLog2)
    || (j.indexed && (j.count == 0 || decide (65536 < j.count) || j.len != j.count * e || j.bound == 0))
    || ((op == 0x33 || op == 0x34) && (decide (j.ways < 2) || decide (16 < j.ways) || j.len % (j.ways * e) != 0
        || decide (j.stride < j.len / j.ways)))
    || ((op == 0x35 || op == 0x36) && (decide (3 < j.elemLog2) || j.len % e != 0 || j.elems % 512 != 0 || j.stride % 64 != 0
        || decide (j.stride < j.elems / 8)))
    || ((op == 0x33 || op == 0x34 || op == 0x35 || op == 0x36 || op == 0x38) && (u16 j.raw 32).testBit 15)

/-- The cipher stage is refused (R474). -/
def State.mvCipherBad (s : State) (j : MvJob) : Bool :=
  let k := s.keySlot j.slot
  j.cipher && (decide (4 < j.mode) || !rawSlotOk k j.owner j.mode || !rawLenOk j.mode j.len j.aad j.tag
    || (j.mode == 4 && !j.enc && !k.authMode && decide (65536 < j.len)))

/-- The whole source and destination ranges with their spaces (R458). -/
def MvJob.whole (j : MvJob) : List (Nat × Nat × Nat) :=
  let s := j.srcSp
  let d := j.dstSp
  match j.op with
  | 0x30 => [(s, j.src, j.len + j.tagIn), (d, j.dst, j.len + j.tagOut)]
  | 0x31 => [(s, j.src, j.bound * j.e), (j.idxSp, j.index, j.count * 4), (d, j.dst, j.len)]
  | 0x32 => [(s, j.src, j.len), (j.idxSp, j.index, j.count * 4), (d, j.dst, j.bound * j.e)]
  | 0x33 => [(s, j.src, (j.ways - 1) * j.stride + j.len / j.ways), (d, j.dst, j.len)]
  | 0x34 => [(s, j.src, j.len), (d, j.dst, (j.ways - 1) * j.stride + j.len / j.ways)]
  | 0x35 => [(s, j.src, j.len), (d, j.dst, (j.planes - 1) * j.stride + j.elems / 8)]
  | 0x36 => [(s, j.src, (j.planes - 1) * j.stride + j.elems / 8), (d, j.dst, j.len)]
  | _ => [(d, j.dst, j.len)]

/-- The descriptor completes BAD_DESCRIPTOR before its first read. -/
def State.mvBad (s : State) (j : MvJob) : Bool :=
  j.fieldsBad || s.mvCipherBad j || j.whole.any (fun x => !s.mvExtent j x.1 x.2.1 x.2.2)
    || (j.owner != 0 && (s.fn j.owner).st == .unprovisioned)

/-- The extents R467 compares: sources with the index array, destinations. -/
def MvJob.extents (j : MvJob) : List (Nat × Nat × Nat) × List (Nat × Nat × Nat) :=
  let s := j.srcSp
  let d := j.dstSp
  let lo := j.idxs.foldl min (j.idxs.headD 0)
  let hi := j.idxs.foldl max 0
  let ix := (j.idxSp, j.index, j.count * 4)
  let streams := fun (a n : Nat) => (List.range n).map (fun i => a + i * j.stride)
  match j.op with
  | 0x30 => ([(s, j.src, j.len + j.tagIn)], [(d, j.dst, j.len + j.tagOut)])
  | 0x31 => ([(s, j.src + lo * j.e, (hi - lo + 1) * j.e), ix], [(d, j.dst, j.len)])
  | 0x32 => ([(s, j.src, j.len), ix], [(d, j.dst + lo * j.e, (hi - lo + 1) * j.e)])
  | 0x33 => ((streams j.src j.ways).map (fun a => (s, a, j.len / j.ways)), [(d, j.dst, j.len)])
  | 0x34 => ([(s, j.src, j.len)], (streams j.dst j.ways).map (fun a => (d, a, j.len / j.ways)))
  | 0x35 => ([(s, j.src, j.len)], (streams j.dst j.planes).map (fun a => (d, a, j.elems / 8)))
  | 0x36 => ((streams j.src j.planes).map (fun a => (s, a, j.elems / 8)), [(d, j.dst, j.len)])
  | _ => ([], [(d, j.dst, j.len)])

/-- A source or index extent overlaps a destination extent (R467). -/
def MvJob.overlaps (j : MvJob) : Bool :=
  let x := j.extents
  x.1.any (fun a => x.2.any (fun b => a.1 == b.1 && areaHits (a.2.1, a.2.2) (b.2.1, b.2.2)))

/-- The overlap ends the descriptor (R468, R469): never a plain copy; a copy with the cipher stage may be in place. -/
def MvJob.overlapEnds (j : MvJob) : Bool :=
  if j.op = 0x30 then j.cipher && j.overlaps && !(j.srcSp == j.dstSp && j.src == j.dst) else j.overlaps

/-! Chunks (R462, R463, R468) -/

/-- Distance of source and destination. -/
def MvJob.dist (j : MvJob) : Nat := if j.src ≤ j.dst then j.dst - j.src else j.src - j.dst

/-- The size of a chunk. -/
def MvJob.chunkSize (j : MvJob) : Nat :=
  if j.cipher then 16384 else if j.op == 0x30 && j.overlaps && decide (j.dist < 4096) then max 1 j.dist else 4096

def MvJob.chunkCount (j : MvJob) : Nat := ceilDiv j.len j.chunkSize

/-- The place and length of the k-th chunk in write order: an overlapping copy to a higher address goes down. -/
def MvJob.chunk (j : MvJob) (k : Nat) : Nat × Nat :=
  let down := j.op == 0x30 && !j.cipher && j.overlaps && decide (j.src < j.dst)
  let i := if down then j.chunkCount - 1 - k else k
  (i * j.chunkSize, min j.chunkSize (j.len - i * j.chunkSize))

/-- The pieces of planes in a chunk at p of n bytes: plane, offset in the plane, bytes. -/
def MvJob.planePieces (j : MvJob) (p n : Nat) : List (Nat × Nat × Nat) :=
  let m := j.elems / 8
  (List.range j.planes).filterMap (fun b =>
    let lo := max p (b * m)
    let hi := min (p + n) ((b + 1) * m)
    if lo < hi then some (b, lo - b * m, hi - lo) else none)

/-- The source spans of chunk k, in the order their bytes are used. -/
def MvJob.spans (j : MvJob) (k : Nat) : List (Nat × Nat) :=
  let c := j.chunk k
  let p := c.1
  let n := c.2
  let e := j.e
  let els := (List.range (n / e)).map (fun i => p / e + i)
  match j.op with
  | 0x30 => (j.src + p, n) :: (if p + n = j.len ∧ 0 < j.tagIn then [(j.src + j.len, j.tagIn)] else [])
  | 0x31 => els.map (fun i => (j.src + j.idxs.getD i 0 * e, e))
  | 0x33 => els.map (fun m => (j.src + m % j.ways * j.stride + m / j.ways * e, e))
  | 0x35 => (j.planePieces p n).map (fun x => (j.src + 8 * x.2.1 * e, 8 * x.2.2 * e))
  | 0x36 => (List.range j.planes).map (fun b => (j.src + b * j.stride + p / e / 8, n / e / 8))
  | 0x37 => []
  | 0x38 => []
  | _ => [(j.src + p, n)]

/-- Byte q of plane b of packed elements of e bytes. -/
def planeByte (e b q : Nat) (d : List Byte) : Byte :=
  BitVec.ofNat 8 ((List.range 8).foldl (fun v i => v + bitVal ((u8 d ((8 * q + i) * e + b / 8)).testBit (b % 8)) i) 0)

/-- Byte t of element i out of planes of m bytes each. -/
def elemByte (m i t : Nat) (d : List Byte) : Byte :=
  BitVec.ofNat 8 ((List.range 8).foldl (fun v b => v + bitVal ((u8 d ((8 * t + b) * m + i / 8)).testBit (i % 8)) b) 0)

/-- Pieces of a list of bytes: sizes taken in turn. -/
def splitBy : List Nat → List Byte → List (List Byte)
  | [], _ => []
  | n :: r, d => d.take n :: splitBy r (d.drop n)

/-- What chunk k writes, given its source bytes: addresses and bytes in write order (R462). -/
def MvJob.writes (j : MvJob) (k : Nat) (d : List Byte) : List (Nat × List Byte) :=
  let c := j.chunk k
  let p := c.1
  let n := c.2
  let e := j.e
  let els := (List.range (n / e)).map (fun i => p / e + i)
  match j.op with
  | 0x32 => (els.zip (splitBy (els.map (fun _ => e)) d)).map (fun x => (j.dst + j.idxs.getD x.1 0 * e, x.2))
  | 0x34 => (els.zip (splitBy (els.map (fun _ => e)) d)).map (fun x => (j.dst + x.1 % j.ways * j.stride + x.1 / j.ways * e, x.2))
  | 0x35 =>
    let ps := j.planePieces p n
    (ps.zip (splitBy (ps.map (fun x => 8 * x.2.2 * e)) d)).map (fun y =>
      (j.dst + y.1.1 * j.stride + y.1.2.1, (List.range y.1.2.2).map (fun q => planeByte e y.1.1 q y.2)))
  | 0x36 => [(j.dst + p, (List.range n).map (fun q => elemByte (n / e / 8) (q / e) (q % e) d))]
  | 0x37 => [(j.dst + p, (List.range n).map (fun q => (slice j.raw 32 8).getD ((p + q) % 8) 0))]
  | _ => [(j.dst + p, d.take n)]

/-! Endings (R464, R476-R478) -/

/-- MV_CHAN word 1 (R479). -/
def State.mvWord1 (s : State) (c : Nat) : State :=
  s.setRegN (Reg.MV_CHAN_W1 c) (match (s.mvChan c).job with
    | some j => 2 ^ 31 + (match j.org with | .queue g _ => g % 65536 | .ring _ _ => 0xFFFF)
    | none => 0xFFFF)

/-- The ring of a cluster: base of its control block and slots (R478, R479). -/
def State.mvRingBase (s : State) (c : Nat) : Nat := s.fld (Reg.MV_ERING c) 11 0 * 256
def State.mvRingSize (s : State) (c : Nat) : Nat := 2 ^ s.fld (Reg.MV_ERING c) 27 24

/-- Write into a cluster's shared memory as the mover does. -/
def State.sharedPut (s : State) (c o : Nat) (d : List Byte) : State :=
  let k := s.cluster c
  let full := fun w => decide (o ≤ w * 8) && decide (w * 8 + 8 ≤ o + d.length)
  (s.setCluster c { k with shared := Mem.wrN k.shared o d, poison := k.poison.filter (fun w => !full w) }).breakResv c 0 o d.length

/-- An engine-ring entry completes (R478): its completion over the slot, CONS, an edge on the line. -/
def State.ringDone (s : State) (c slot : Nat) (j : MvJob) (status bytes : Nat) : State :=
  let r : MvRing := SMap.getD s.mv.rings c {}
  let cons := (r.cons + 1) % 2 ^ 32
  let b := s.mvRingBase c
  let e := leBytes 2 (u16 j.raw 6) ++ leBytes 1 status ++ leBytes 1 128 ++ leBytes 4 bytes ++ leBytes 4 0 ++ leBytes 2 0xFFFF ++ leBytes 2 slot
    ++ zeros 16
  let s1 := { s with mv := { s.mv with rings := SMap.put s.mv.rings c { r with cons := cons } } }
  ((s1.sharedPut c (b + 64 + slot * 64) e).sharedPut c (b + 4) (leBytes 4 cons)).lineEdge c (s.fld (Reg.MV_ERING c) 20 16)

/-- The channel's descriptor leaves it: its requests of other units are withdrawn, host writes that may not have arrived are kept for a
barrier (R465). -/
def State.mvClear (s : State) (c : Nat) : State :=
  let x := s.mvChan c
  let last := match x.job with
    | some j => if j.dstSp = 0 ∧ 0 < j.bytes then
        (match (j.writes (j.k - 1) []).getLast? with
         | some (a, _) => [(j.fn, (a + (j.chunk (j.k - 1)).2 - 1) / 4 * 4)]
         | none => [])
      else []
    | none => []
  (((s.bulkDrop (.mover c)).rngCancel (.mover c)).setMvChan c { x with job := none, unarrived := x.unarrived ++ last }).mvWord1 c

/-- A descriptor ends with a status and its BYTE_COUNT. -/
def State.mvEnd (s : State) (c status bytes : Nat) : State :=
  match (s.mvChan c).job with
  | none => s
  | some j =>
    let s1 := (s.mvClear c).bump64 Reg.MV_DESCRIPTORS 1
    let s2 := s1.setMvChan c { s1.mvChan c with descs := (s1.mvChan c).descs + 1 }
    let s3 := if status = cBadDescriptor then (s2.bump Reg.MV_BAD_DESC).raise Ev.mv 2
      else if status = cOverlap then (s2.bump Reg.MV_OVERLAP).raise Ev.mv 3
      else if status = cEntropyFail then s2.bump Reg.MV_ENTROPY_FAIL
      else s2
    match j.org with
    | .queue g i => s3.request g i { status := status, bytes := bytes }
    | .ring r slot => s3.ringDone r slot j status bytes

/-- A source error of DRAM (R476). -/
def State.mvEcc (s : State) (c : Nat) (j : MvJob) : State :=
  ((s.bump Reg.MV_SRC_ECC).raise Ev.mv 4).mvEnd c cBadDescriptor j.bytes

/-- The descriptor's work has been taken from it: its entry is gone or has ended, or its ring's cluster has left service (R477, R478). -/
def State.mvDead (s : State) (j : MvJob) : Bool :=
  match j.org with
  | .queue g i => (match (s.wq? g).bind (fun q => q.entry? i) with
    | some e => e.ended
    | none => true)
  | .ring r _ => !s.inService (21 + r) || !s.flag (Reg.MV_ERING r) 31

/-- Drop such a descriptor (R477). -/
def State.mvDrop (s : State) (c : Nat) : State :=
  match (s.mvChan c).job with
  | some j => if s.mvDead j then (s.mvClear c).bump Reg.MV_ABORTED else s
  | none => s

/-! Sources (R463, R474, R475) -/

/-- Submit the next chunk as a segment of the complex; later segments keep the key the first saw. -/
def State.mvSegment (s : State) (c : Nat) (j : MvJob) : State :=
  let s1 := s.bulkSubmit j.complex (.mover c) j.slot 1 j.len
  let x := s1.complex j.complex
  (s1.setComplex j.complex (x.mapReq (.mover c) (fun r => { r with snap := j.snap }))).setJob c { j with seg := 1 }

/-- Random bytes for the chunks to come (R475): from the DRBG now, later, or never. -/
def State.mvRandom (s : State) (c : Nat) (j : MvJob) : State :=
  let n := min 65536 (j.len - (j.chunk j.k).1)
  if s.rngState = 3 then (s.bump Reg.RNG_REQ_FAILED).mvEnd c cEntropyFail j.bytes
  else if s.rngState = 1 ∧ s.cx.rng.held = [] then
    let r := s.rngServe n
    r.2.setJob c { j with rnd := r.1 }
  else (s.rngHold (.mover c) n).setJob c { j with rndWait := true }

/-- The next chunk's source: asked of the host, read from DRAM or SHARED, or none needed. -/
def State.mvAsk (s : State) (c : Nat) (j : MvJob) : State :=
  let sp := j.spans j.k
  if j.op = 0x38 then (if j.rnd.length < (j.chunk j.k).2 then s.mvRandom c { j with phase := .run } else s.setJob c { j with phase := .run })
  else if j.op = 0x37 then s.setJob c { j with phase := .run, buf := some [] }
  else if j.srcSp = 0 then (sp.foldl (fun (t : State) x => t.emit (.hostRead j.fn x.1 x.2)) s).setJob c { j with phase := .run, buf := none }
  else
    let r := s.mvReads j j.srcSp sp
    if r.2.1 then (r.2.2.setJob c j).mvEcc c j
    else
      let j1 := { j with phase := .run, buf := some r.1 }
      if j.cipher then r.2.2.mvSegment c j1 else r.2.2.setJob c j1

/-- The index array is there (R462, R469): an index not below BOUND, an overlap, or the first chunk. -/
def State.mvIndexed (s : State) (c : Nat) (j : MvJob) (b : List Byte) : State :=
  let l := (List.range j.count).map (fun i => u32 b (4 * i))
  let j1 := { j with idxs := l }
  if l.any (fun i => decide (j.bound ≤ i)) then s.mvEnd c cBadDescriptor 0
  else if j1.overlapEnds then s.mvEnd c cOverlap 0
  else s.mvAsk c j1

/-- Host data for a channel: the index array or the source of a chunk. -/
def State.mvData (s0 : State) (c : Nat) (d : List Byte) : State :=
  let s := s0.mvDrop c
  match (s.mvChan c).job with
  | none => s
  | some j => match j.phase with
    | .index => s.mvIndexed c j (fit (j.count * 4) d)
    | .run =>
      let n := (j.spans j.k).foldl (fun v x => v + x.2) 0
      if j.srcSp ≠ 0 ∨ j.buf.isSome ∨ n = 0 then s
      else
        let j1 := { j with buf := some (fit n d) }
        if j.cipher then s.mvSegment c j1 else s.setJob c j1
    | _ => s

/-- The segment of the next chunk has left its lane with the key slot it ran under; none: it found no key. -/
def State.mvSegDone (s0 : State) (c : Nat) (k : Option KeySlot) : State :=
  let s := s0.mvDrop c
  match (s.mvChan c).job with
  | none => s
  | some j =>
    if j.seg ≠ 1 then s
    else match k with
      | none => s.mvEnd c cBadDescriptor j.bytes
      | some x => s.setJob c { j with seg := 2, snap := some x }

/-- Random bytes arrive, or the DRBG has failed. -/
def State.mvRandDone (s0 : State) (c : Nat) (b : Option (List Byte)) : State :=
  let s := s0.mvDrop c
  match (s.mvChan c).job with
  | none => s
  | some j =>
    if !j.rndWait then s
    else match b with
      | none => s.mvEnd c cEntropyFail j.bytes
      | some d => s.setJob c { j with rndWait := false, rnd := d }

/-! Chunks written (R463, R464) -/

/-- The channel may write to, or read from, the host now (R144, R482). -/
def State.mvHostOk (s : State) (j : MvJob) : Bool :=
  (j.dstSp != 0 && (j.srcSp != 0 || j.op == 0x37 || j.op == 0x38) && (!j.indexed || j.idxSp != 0)) || s.fnServes j.fn

/-- Count n bytes of a chunk (R464, R479). -/
def State.mvCount (s : State) (c : Nat) (j : MvJob) (n : Nat) : State :=
  let s1 := (s.bump64 Reg.MV_BYTES n).setMvChan c { s.mvChan c with bytes := (s.mvChan c).bytes + n }
  s1.flaskCnt j.owner (fun x => { x with moverBytes := x.moverBytes + n })

/-- A chunk's writes are made; after the last the descriptor completes, else the next chunk's source is asked for. -/
def State.mvNext (s : State) (c : Nat) (j : MvJob) (status n : Nat) (ws : List (Nat × List Byte)) : State :=
  let s1 := (ws.foldl (fun (t : State) w => t.mvWrite j w.1 w.2) s).mvCount c j n
  let j1 := { j with k := j.k + 1, bytes := j.bytes + n, buf := none, seg := 0 }
  if j1.k < j.chunkCount then (s1.setJob c j1).mvAsk c j1
  else (s1.setJob c j1).mvEnd c status j1.bytes

/-- A chunk of the cipher stage: its output is a part of the whole message's (R474). -/
def State.mvCipherChunk (s : State) (c : Nat) (j : MvJob) (k : KeySlot) (d : List Byte) : State :=
  let p := j.chunk j.k
  let last := p.1 + p.2 == j.len
  let acc := j.acc ++ d.take p.2
  let x := rawCipher k j.mode j.enc j.tag j.aad j.iv acc (d.drop p.2)
  let out := slice x.2 p.1 (p.2 + (if last then j.tagOut else 0))
  let hold := j.mode == 4 && !j.enc && !k.authMode
  let j1 := { j with acc := acc }
  if !hold then
    if last && !x.1 then
      let f := s.rawAuthFail j.complex j.slot k
      f.2.mvNext c j1 f.1 p.2 [(j.dst + p.1, out)]
    else s.mvNext c j1 cOk (p.2 + (if last then j.tagOut else 0)) [(j.dst + p.1, out)]
  else if !last then s.mvNext c j1 cOk 0 []
  else if x.1 then s.mvNext c j1 cOk j.len [(j.dst, x.2)]
  else
    let f := s.rawAuthFail j.complex j.slot k
    f.2.mvNext c j1 f.1 0 [(j.dst, tagResult j.slot k.framing 1 0)]

/-- CHUNK_WRITTEN (R463): the next chunk of channel c, once its source is in the channel buffer. -/
def State.mvChunk (s0 : State) (c : Nat) : State :=
  let s := s0.mvDrop c
  match (s.mvChan c).job with
  | none => s
  | some j =>
    let n := (j.chunk j.k).2
    if j.phase ≠ .run ∨ s.mvHostOk j = false ∨ s.inService 12 = false then s
    else if j.op = 0x38 then
      (if j.rnd.length < n then s
       else s.mvNext c { j with rnd := j.rnd.drop n } cOk n (j.writes j.k (j.rnd.take n)))
    else match j.buf with
      | none => s
      | some d =>
        if j.cipher then
          (if j.seg = 2 then match j.snap with | some k => s.mvCipherChunk c j k d | none => s else s)
        else s.mvNext c j cOk n (j.writes j.k d)

/-! Starting (R456, R457, R465) -/

/-- The next descriptor of a queue: the first accepted entry not started, when its turn has come. -/
def WorkQ.mvEntry (q : WorkQ) : Option Entry :=
  match q.entries.find? (fun e => e.acc && !e.started && !e.ended) with
  | none => none
  | some e => if e.op = 0 then none else q.canStart e.idx e.op

/-- Queues of a channel that have work, those after the last served first (R457). -/
def State.mvQueue (s : State) (c : Nat) : Option (Nat × Entry) :=
  let l := s.qm.wqs.filterMap (fun (x : Nat × WorkQ) =>
    if x.2.kind = 3 ∧ x.2.chan = c then (x.2.mvEntry).map (fun e => (x.1, e)) else none)
  let k := match (s.mvChan c).lastQ with
    | some g => l.filter (fun (x : Nat × Entry) => decide (g < x.1)) ++ l.filter (fun (x : Nat × Entry) => decide (x.1 ≤ g))
    | none => l
  k.head?

/-- A descriptor enters its channel: the checks of R458 and R469, then its barrier. -/
def State.mvTake (s : State) (c : Nat) (j : MvJob) : State :=
  let s1 := (s.setJob c j).mvWord1 c
  if s.mvBad j then s1.mvEnd c cBadDescriptor 0
  else if !j.indexed && j.overlapEnds then s1.mvEnd c cOverlap 0
  else
    let u := (s.mvChan c).unarrived
    if j.barrier && !u.isEmpty then
      (u.foldl (fun (t : State) x => t.emit (.hostRead x.1 x.2 4)) s1).setJob c { j with phase := .barrier u.length }
    else s1

/-- MOVER_DESCRIPTOR_START. -/
def State.mvStart (s0 : State) (c : Nat) : State :=
  let s := s0.mvDrop c
  if (s.mvChan c).job.isSome || !s.inService 12 || !s.flag Reg.MV_CTRL 31 || !s.flag (Reg.MV_CHAN_W0 c) 31 || decide (128 ≤ c) then s
  else if c < 96 then
    match s.mvQueue c with
    | none => s
    | some (g, e) => match s.wq? g with
      | none => s
      | some q =>
        let s1 := s.setWq g (q.mapEntry e.idx (fun e => { e with started := true }))
        (s1.setMvChan c { s1.mvChan c with lastQ := some g }).mvTake c { org := .queue g e.idx, raw := e.raw, fn := q.fn }
  else
    let n := c - 96
    let r : MvRing := SMap.getD s.mv.rings n {}
    if !s.flag (Reg.MV_ERING n) 31 || !s.inService (21 + n) || r.prod == r.cons then s
    else
      let slot := r.cons % s.mvRingSize n
      let raw := Mem.rdN (s.cluster n).shared (s.mvRingBase n + 64 + slot * 64) 64
      s.mvTake c { org := .ring n slot, raw := raw, fn := u16 raw 4 % 4096 }

/-- A descriptor's own work begins (R462, R468): the index array, an empty copy, or the first chunk. -/
def State.mvBegin (s0 : State) (c op : Nat) : State :=
  let s := s0.mvDrop c
  match (s.mvChan c).job with
  | none => s
  | some j =>
    if j.phase ≠ .taken ∨ j.op ≠ op ∨ s.mvHostOk j = false ∨ s.inService 12 = false then s
    else if j.indexed then
      if j.idxSp = 0 then (s.emit (.hostRead j.fn j.index (j.count * 4))).setJob c { j with phase := .index }
      else
        let r := s.mvRead j j.idxSp j.index (j.count * 4)
        if r.2.1 then r.2.2.mvEcc c j else r.2.2.mvIndexed c j r.1
    else if op = 0x30 ∧ j.cipher = false ∧ j.srcSp = j.dstSp ∧ j.src = j.dst then s.mvEnd c cOk j.len
    else s.mvAsk c j

/-- A host read of an engine ring's entry failed: it ends CONTAINED (R476). -/
def State.mvRingContained (s : State) (n : Nat) : State :=
  match (s.mvChan (96 + n)).job with
  | some j => s.mvEnd (96 + n) cContained j.bytes
  | none => s

/-- Bytes a running descriptor has written, for its entry (R476). -/
def State.mvBytesOf (s : State) (g i : Nat) : Nat :=
  match s.mv.chans.findSome? (fun x => x.2.job.bind (fun j => if j.org = .queue g i then some j.bytes else none)) with
  | some n => n
  | none => 0

end Sys2Proof.Machine
end

