-- ==== Sys2Proof/Machine/CipherLanes.lean ====
section
/-!
DEFINITION. The lanes of the cipher complexes at work, and the restarts of the random-number generator (11 R382-R390, R398-R400).
-/

namespace Sys2Proof.Machine

open Sys2Proof

/-- A BULK request has run all its segments under slot k, or found no key (none). -/
def State.bulkEnd (s : State) (who : BulkWho) (k : Option KeySlot) : State :=
  match who with
  | .engine c t => s.cryptDone (c * 64 + t) k
  | .mover ch => s.mvSegDone ch k
  | .drive io => match k with
    | some k => s.ioCrypted io k
    | none => s.ioNoKey io

/-- SEGMENT_DISPATCH (R383, R386, R391): a lane at a segment boundary takes the next segment. -/
def execSegmentDispatch (complex lane : Nat) (s : State) : Host.Outcome State Fault Refusal :=
  finish (if 2 ≤ complex then s
    else match s.laneTake complex lane with
      | (some who, t) => t.bulkEnd who none
      | (none, t) => t)

/-- A BULK segment leaves its lane: the next segment of its request waits, or the request ends (R382). -/
def State.laneBulkDone (s : State) (c : Nat) (who : BulkWho) : State :=
  let x := s.complex c
  match x.req? who with
  | none => s
  | some r =>
    if r.done + 1 < r.total then
      s.setComplex c { x.mapReq who (fun y => { y with done := y.done + 1 }) with
                       wait := x.wait ++ [who], headAt := if x.wait.isEmpty then s.now else x.headAt }
    else
      (s.setComplex c { x with reqs := x.reqs.filter (fun y => y.who != who) }).bulkEnd who (if r.zeroized then none else r.snap)

/-- SEGMENT_DONE (R382, R385): the segment a lane holds has left it. -/
def execSegmentDone (complex lane : Nat) (s : State) : Host.Outcome State Fault Refusal :=
  finish (
    let x := s.complex complex
    if 2 ≤ complex then s
    else match SMap.get? x.lanes lane with
      | none => s
      | some w =>
        let s1 := s.setComplex complex { x with lanes := SMap.del x.lanes lane }
        match w with
        | .net h => s1.laneNetDone complex h
        | .bulk who => s1.laneBulkDone complex who)

/-- The lane holds a frame of ESP_OUT. -/
def State.laneEspOut (s : State) (w : LaneWork) : Bool :=
  match w with
  | .bulk _ => false
  | .net h => match (s.frame? h).bind (fun f => f.job) with
    | some j => (j.snap.getD {}).framing == 2
    | none => false

/-- BLOCK_PARITY_ERROR (R388): a stage slot of a lane at work finds a parity error; `again`: in a block already issued a second time. The
block is issued again on the lane, an ESP_OUT frame is redone with a new number, or the lane is retired. -/
def execBlockParityError (complex lane stage : Nat) (again : Bool) (s : State) : Host.Outcome State Fault Refusal :=
  finish (
    let x := s.complex complex
    if 2 ≤ complex then s
    else match SMap.get? x.lanes lane with
      | none => s
      | some w =>
        let s1 := (s.bump (Reg.CX_PARITY complex)).setRegN (Reg.CX_LAST_FAULT complex) (lane * 2 ^ 24 + stage % 32 * 2 ^ 16)
        let s2 := s1.raise (Ev.cx complex) 0
        let f := s2.faultOf { kind := 2, index := complex * 32 + lane } (9 + complex) stage
        if f.1 || again then f.2.retireLane complex lane 1
        else if f.2.laneEspOut w then f.2.laneReplay complex lane
        else f.2)

/-! The generator (R399, R400) -/

/-- A held request is served, or ends ENTROPY_FAIL. -/
def State.rngAnswer (s : State) (who : RngWho) (n : Nat) (ok : Bool) : State :=
  let d := if ok then s.rngServe n else ([], s.bump Reg.RNG_REQ_FAILED)
  let b := if ok then some d.1 else none
  match who with
  | .mover ch => d.2.mvRandDone ch b
  | .engine c t => d.2.randDone (c * 64 + t) b
  | .waybill inst tag =>
    let mine := fun (p : PendWb) => p.inst == inst && p.tag == tag
    match s.wb.pend.find? (fun p => mine p && (match p.wait with | .rngGet _ => true | .keyLoad _ _ _ => true | _ => false)) with
    | none => s
    | some p =>
      let only := fun (q : PendWb) => mine q && q.wait == p.wait
      if !ok then d.2.complete only .entropyFail []
      else match p.wait with
        | .keyLoad i rcd byFlask =>
          let g := generated rcd d.1
          let y := d.2.keyInstall i g.1 g.2 byFlask
          y.2.complete only .ok y.1
        | _ => d.2.complete only .ok d.1

/-- Every held request in the order they arrived, at most n. -/
def State.rngDrain (s : State) (ok : Bool) : Nat → State
  | 0 => s
  | n + 1 =>
    match s.rngNext with
    | (none, _) => s
    | (some (who, k), t) => (t.rngAnswer who k ok).rngDrain ok n

/-- The generator is instantiated: it serves what it held. -/
def State.rngReady (s : State) : State :=
  let s1 := s.setRng 1 0
  let s2 := s1.setDrbg { s1.cx.rng with count := 0, reseedAt := s1.now }
  s2.rngDrain true s2.cx.rng.held.length

/-- RESTART_ATTEMPT_END (R399, R400): the start, or a restart attempt, ends: none passed; else the test that failed (RNG_LAST_FAIL). -/
def execRestartAttemptEnd (fail : Option Nat) (s0 : State) : Host.Outcome State Fault Refusal :=
  finish (
    let n := s0.rngAttempt
    if !s0.keysOn || (s0.rngState != 0 && s0.rngState != 2) then s0
    else match fail with
      | none =>
        let s := if s0.rngState = 2 then s0.at (s0.cx.rng.attemptAt + 3000000) else s0
        let s1 := s.rngReady
        if s0.rngState = 0 then s1 else (s1.raise Ev.rng 2).completeWait .rngRestart .ok []
      | some t =>
        if s0.rngState = 0 then s0.healthFail (t % 256)
        else
          let s := (if t = 4 then s0.at (s0.cx.rng.attemptAt + 4000000) else s0).setRegN Reg.RNG_LAST_FAIL (t % 256)
          if n < 3 then
            let s1 := s.setRng 2 (n + 1)
            s1.setDrbg { s1.cx.rng with attemptAt := s1.now }
          else
            let s1 := ((s.setRng 3 3).raiseSev Ev.rng 3 2)
            (s1.rngDrain false s1.cx.rng.held.length).completeWait .rngRestart .entropyFail [])

end Sys2Proof.Machine
end

