-- ==== Sys2Proof/Machine/TrafficManager.lean ====
section
/-!
DEFINITION. The traffic manager's events and the 0x07xx opcodes (10 R355-R366).
-/

namespace Sys2Proof.Machine

open Sys2Proof

/-! Enqueue (R341, R355; 01 R26, R27; 08 R289) -/

/-- A frame that has not been enqueued yet. -/
def Frame.before (f : Frame) : Bool :=
  match f.stage with
  | .queued _ => false
  | .wire _ => false
  | .held _ => false
  | _ => true

/-- An earlier frame of the same ingress port is not enqueued yet (01 R27). -/
def State.outOfTurn (s : State) (h : Nat) (f : Frame) : Bool :=
  match f.ingress with
  | none => false
  | some (p, n) => s.fr.frames.any (fun x => x.1 != h && !x.2.copy && x.2.before &&
      (match x.2.ingress with | some (q, m) => q == p && decide (m < n) | none => false))

/-- The rate of a network or caravan port in Gb/s (01 R26; 17 R551: 100 Gb/s a lane). -/
def State.portGb (s : State) (p : Nat) : Nat := if p < 8 then modeGb (s.portMode p) else 100 * popCount 5 (s.cpLanes (p - 8))

/-- A frame whose tail has not arrived may go on cut-through to port p (01 R26; a paused class stores it, R367). -/
def State.cutThrough (s : State) (f : Frame) (p q : Nat) : Bool :=
  let cls := match (s.tmq? q).bind (fun x => s.tmNode? x.node) with | some n => n.cls | none => 0
  !f.stored && decide (f.src < 10) && decide (p < 10) && decide (s.portGb p ≤ s.portGb f.src) && !s.paused p cls

/-- The destination left service between the action and now (R289). -/
def State.destGone (s : State) (f : Frame) : Bool :=
  match f.dest with
  | none => true
  | some (.queue g) => (match s.wq? g with
    | some q => q.kind != 1 || decide (2 < q.st) || (s.fn q.fn).st == .unprovisioned
    | none => decide (g < 65536) || !s.internalRx (g - 65536))
  | _ => false

/-- TM_ENQUEUE of frame h. A frame whose payload was read again takes the place kept for
it (06 R223). -/
def State.enqueue (s : State) (h : Nat) : State :=
  match s.frame? h with
  | none => s
  | some f =>
    if f.stage != .enqueue || s.outOfTurn h f then s
    else if s.destGone f then (s.bump Reg.TM_DROP_NOQ).dropFrame h
    else match f.dest.bind s.destPort with
      | none => (s.bump Reg.TM_DROP_DOWN).dropFrame h
      | some p =>
        let r := s.pickQueue f p
        let cut := s.cutThrough f p r.1
        if f.tail && !cut then s
        else
          let s1 := (List.range r.2).foldl (fun t _ => (t.bump Reg.TM_QSEL_REJECT).raise Ev.tm 6) s
          let a := s1.admitFrame h f r.1 p
          if !a.1 then a.2.dropFrame h
          else if f.back then
            let here := match s1.tmq? r.1 with | some x => x.frames.contains h | none => false
            let qs := a.2.tm.queues.map (fun y =>
              if y.1 = r.1 then (if here then (y.1, { y.2 with frames := y.2.frames.dropLast }) else y)
              else (y.1, { y.2 with frames := y.2.frames.filter (· != h) }))
            let s2 := { a.2 with tm := { a.2.tm with queues := qs } }
            match s2.frame? h with
            | some g => s2.setFrame h { g with back := false }
            | none => s2
          else a.2

def execTmEnqueue (frame : Nat) (s : State) : Host.Outcome State Fault Refusal := finish (s.enqueue frame)

/-! Departure -/

/-- TM_DEPARTURE (R342-R348): the scheduler of port p makes one decision. -/
def execTmDeparture (port : Nat) (s : State) : Host.Outcome State Fault Refusal :=
  finish (if port < 12 then s.departure port else s)

/-! Spill (R357) -/

/-- Bytes on die ahead of frame h in a queue. -/
def State.bytesAhead (s : State) (l : List Nat) (h : Nat) : Nat :=
  (l.takeWhile (· != h)).foldl (fun n x => match s.frame? x with
    | some f => if f.spilled then n else n + f.bytes.length
    | none => n) 0

/-- SPILL_READBACK (R357): a spilled frame with less than 64 KiB of its queue ahead of it on die comes back, when its cells fit; lost
cells are handled as in 06 R220. -/
def execSpillReadback (frame : Nat) (s : State) : Host.Outcome State Fault Refusal :=
  finish (match s.frame? frame with
    | none => s
    | some f => match f.stage with
      | .queued q => match s.tmq? q with
        | none => s
        | some x =>
          if !f.spilled || !s.dramUp || decide (65536 ≤ s.bytesAhead x.frames frame)
            || decide (s.bufferCells < s.regN Reg.TM_OCC + f.cells) then s
          else
            let s1 := s.setFrame frame { f with spilled := false }
            let s2 := s1.setRegN Reg.TM_OCC (s1.regN Reg.TM_OCC + f.cells)
            let s3 := (s2.setRegN Reg.TM_SPILLED (s2.regN Reg.TM_SPILLED - f.cells)).tmThresholds
            if f.spillLost then s3.loseCells frame { f with spilled := false, spillLost := false } else s3
      | _ => s)

/-! Sampling (R360, R361) -/

/-- The sampling period in ns; 0 is off (R362). -/
def TmQ.periodNs (q : TmQ) : Nat :=
  let n := u8 q.rcd 7 % 16
  if n = 0 then 0 else 2 ^ (min n 10 - 1) * 1000

def TmQ.sampleDest (q : TmQ) : Nat := bits (u8 q.rcd 7) 5 4
def TmQ.sampleTarget (q : TmQ) : Nat := u16 q.rcd 8

/-- A sample record of queue n (R361). -/
def State.sampleRec (s : State) (n : Nat) (q : TmQ) : List Byte :=
  let p := s.tmqPort n
  let cls := match s.tmNode? q.node with | some x => x.cls | none => 0
  let sp := q.frames.any (fun h => match s.frame? h with | some f => f.spilled | none => false)
  let flow := if !s.tmPortUp p then 2 else if s.paused p cls then 1 else 0
  leBytes 2 n ++ leBytes 1 (p + cls * 16 + bitVal sp 7) ++ leBytes 1 flow ++ leBytes 4 (q.cells % 2 ^ 18)
    ++ leBytes 2 (min 0xFFFF q.frames.length) ++ leBytes 2 (min 0xFFFF (q.sojourn / 16)) ++ leBytes 4 (s.etime / 1000 % 2 ^ 32)

/-- n samples could not be delivered. -/
def State.sampleLost (s : State) (n : Nat) : State := (s.bumpN Reg.TM_SAMPLE_DROP n).raise Ev.tm 5

/-- Send a 64-byte frame of sample records to PF0 RX queue g; empty records carry QUEUE 0xFFFF. -/
def State.sampleFrame (s : State) (g : Nat) (l : List (List Byte)) : State :=
  let none_ : List Byte := [0xFF, 0xFF] ++ zeros 14
  let d := (l ++ List.replicate (4 - l.length) none_).flatten
  let s1 := { s with tm := { s.tm with sampleBuf := SMap.del s.tm.sampleBuf g } }
  if s1.pf0RxQueue g && s1.rxCanTake g then s1.rxHand g d { status := cOk } none else s1.sampleLost l.length

/-- Deliver a sample of queue n (R360). -/
def State.sampleOut (s : State) (n : Nat) (q : TmQ) (r : List Byte) : State :=
  if q.sampleDest = 1 then
    let m := s.regN (Reg.CL_ENGINE_SET (q.sampleTarget % 16))
    let cs := (List.range 32).filter (fun c => m.testBit c && s.accepting (21 + c))
    if cs.isEmpty then s.sampleLost 1
    else
      let c := cs.getD (n % cs.length) 0
      let full := decide (256 ≤ (s.cluster c).msgs.length)
      let s1 := s.postMsg c { vec := s.fld Reg.EF_SAMPLE_VEC 5 0, flask := 0, bytes := r ++ zeros 16 }
      if full then s1.sampleLost 1 else s1
  else if q.sampleDest = 2 then
    let g := q.sampleTarget
    let l := SMap.getD s.tm.sampleBuf g [] ++ [r]
    if l.length < 4 then { s with tm := { s.tm with sampleBuf := SMap.put s.tm.sampleBuf g l } } else s.sampleFrame g l
  else s

/-- TM_SAMPLE (R360): the period of queue q ends. -/
def execTmSample (q : Nat) (s : State) : Host.Outcome State Fault Refusal :=
  finish (match s.tmq? q with
    | none => s
    | some x =>
      if x.periodNs = 0 ∨ s.flag Reg.TM_CTRL 30 = false then s
      else
        let s1 := s.at x.sampleAt
        let r := s1.sampleRec q x
        (s1.setTmq q { x with sample := r, sojourn := 0, sampleAt := s1.now + x.periodNs }).sampleOut q x r)

/-- SAMPLE_FRAME_TIMER (R360): the records waiting for a PF0 RX queue leave in a frame that is not full. -/
def execSampleFrameTimer (q : Nat) (s : State) : Host.Outcome State Fault Refusal :=
  finish (match SMap.get? s.tm.sampleBuf q with
    | none => s
    | some l => s.sampleFrame q l)

/-! Records (R346, R352, R362, R363) -/

/-- Sum of MIN_CELLS into TM_MIN_RESERVED (R364). -/
def State.tmMin (s : State) : State := s.setRegN Reg.TM_MIN_RESERVED (s.tm.queues.foldl (fun n x => n + x.2.minCells) 0)

/-- A shaper record at bytes 16-31 as stored: reserved fields zero (00 R11). -/
def shaperNorm (r : List Byte) : List Byte := slice r 16 11 ++ leBytes 1 (u8 r 27 % 2) ++ slice r 28 3 ++ [0]

/-- CIR exceeds a PIR that is not unlimited (R346). -/
def shaperBad (r : List Byte) : Bool := shPir r != unlimited && decide (shPir r < shCir r)

/-- A created object is VALID (log entry 30). -/
def validOwner (r : List Byte) : List Byte := leBytes 2 (u16 r 0 % 4096 + 0x8000)

/-- WEIGHT 1-1,023. -/
def weightBad (w : Nat) : Bool := w == 0 || decide (1023 < w)

/-- A queue record as stored. -/
def queueNorm (r : List Byte) : List Byte :=
  validOwner r ++ slice r 2 4 ++ leBytes 1 (u8 r 6 % 4) ++ leBytes 1 (u8 r 7 % 64) ++ slice r 8 8 ++ shaperNorm r

/-- A field of a queue record is out of range (R362). -/
def State.queueBad (s : State) (r : List Byte) : Bool :=
  let per := u8 r 7 % 16
  let dest := bits (u8 r 7) 5 4
  weightBad (u16 r 4) || dest == 3 || (dest == 1 && decide (15 < u16 r 8)) || (per != 0 && dest == 2 && !s.pf0RxQueue (u16 r 8))
    || decide (100 < u8 r 10) || decide (u8 r 10 < u8 r 11) || u16 r 14 == 0 || shaperBad r

/-- A queue's owner does not fit node n, or the node does not exist (R339). -/
def State.nodeBad (s : State) (owner n : Nat) : Bool :=
  match s.tmNode? n with
  | none => true
  | some x => owner != 0 && owner != u16 x.rcd 0 % 4096

/-- The sum of MIN_CELLS with `more` for queue q would exceed 98,304 (R355). -/
def State.minFull (s : State) (q more : Nat) : Bool :=
  decide (98304 < s.tm.queues.foldl (fun n x => if x.1 = q then n else n + x.2.minCells) more)

def tmQueueObj : State → Waybill → Option Obj := fun _ w => some ⟨.tmQueue, w.u16 0⟩

/-! Opcodes (R366) -/

def tmQueryMeta : OpMeta := { opcode := 0x0700, cls := .r, lenOk := len 0, maxRes := 48 }

def tmQueryBody : WbBody := fun _ s =>
  let pol := (s.tm.policers.filter (fun x => (u16 x.2.rcd 4).testBit 15)).length
  let drops := s.regN Reg.TM_DROP_QUEUE + s.regN Reg.TM_DROP_BUF + s.regN Reg.TM_DROP_NOQ + s.regN Reg.TM_DROP_DOWN
    + s.regN Reg.TM_DROP_DESTROY
  .done .ok (leBytes 4 (s.regN Reg.TM_OCC) ++ leBytes 4 (s.regN Reg.TM_SPILLED) ++ leBytes 4 (s.regN Reg.TM_MIN_RESERVED)
    ++ leBytes 2 s.tm.queues.length ++ leBytes 2 s.tm.nodes.length ++ leBytes 2 pol ++ leBytes 1 (s.regN Reg.TM_STATE % 4) ++ [0]
    ++ leBytes 8 (s.reg64 Reg.TM_ENQ) ++ leBytes 8 drops ++ leBytes 1 (s.fld Reg.TM_SPILL_AREA 23 16) ++ zeros 3
    ++ leBytes 4 (s.regN Reg.TM_PANIC_COUNT) ++ zeros 4) s

def execTmQuery (w : Waybill) (s : State) : Host.Outcome State Fault Refusal := waybillCmd tmQueryMeta tmQueryBody w s

def tmqCreateMeta : OpMeta := { opcode := 0x0701, cls := .d, lenOk := len 36, maxRes := 0, obj := tmQueueObj }

def tmqCreateBody : WbBody := fun w s =>
  let q := w.u16 0
  let r := w.bytes 4 32
  let n := queueNorm r
  if 32768 ≤ q ∨ (s.tmq? q).isSome ∨ s.nodeBad (u16 r 0 % 4096) (u16 r 2) ∨ s.queueBad r then fail .badParam s
  else if s.minFull q (u16 r 12 * 8) then fail .noResource s
  else
    let x : TmQ := { rcd := n, sh := shaperFull n s.now }
    .done .ok [] (((s.setTmq q { x with sampleAt := s.now + x.periodNs }).tmMin).cfgWritten 8)

def execTmqCreate (w : Waybill) (s : State) : Host.Outcome State Fault Refusal := waybillCmd tmqCreateMeta tmqCreateBody w s

def tmqDestroyMeta : OpMeta := { opcode := 0x0702, cls := .d, lenOk := len 4, maxRes := 4, canPend := true, obj := tmQueueObj }

/-- A default queue, a work queue's bound queue or a mirror session's target. -/
def State.tmqBound (s : State) (q : Nat) : Bool :=
  decide (q < 12) || s.qm.wqs.any (fun x => x.2.tmq == q)
    || (List.range 16).any (fun j => let v := s.regN (Reg.CL_MIRROR j); v != 0 && !v.testBit 15 && bits v 31 16 == q)

/-- The queue and its record are gone. -/
def State.tmqRemove (s : State) (q : Nat) : State :=
  ({ s with tm := { s.tm with queues := SMap.del s.tm.queues q } }).tmMin.cfgWritten 8

def tmqDestroyBody : WbBody := fun w s =>
  let q := w.u16 0
  match s.tmq? q with
  | none => fail .badParam s
  | some x =>
    if s.tmqBound q then fail .busy s
    else
      let n := x.frames.length
      let s1 := s.setTmq q { x with destroying := true, dropped := n }
      let s2 := x.frames.foldl (fun t h => (t.bump Reg.TM_DROP_DESTROY).dropFrame h) s1
      match s2.tmq? q with
      | some y => if y.cells = 0 then .done .ok (leBytes 4 n) (s2.tmqRemove q)
          else .pend (.tmqDestroy q) 1000000 (some ⟨.tmQueue, q⟩) s2
      | none => .done .ok (leBytes 4 n) s2

def execTmqDestroy (w : Waybill) (s : State) : Host.Outcome State Fault Refusal := waybillCmd tmqDestroyMeta tmqDestroyBody w s

/-- TMQ_DESTROY_DONE (R366): the last cell of a queue that is being destroyed is free. -/
def execTmqDestroyDone (q : Nat) (s : State) : Host.Outcome State Fault Refusal :=
  finish (match s.tmq? q with
    | none => s
    | some x => if x.destroying && x.cells == 0 then (s.tmqRemove q).completeWait (.tmqDestroy q) .ok (leBytes 4 x.dropped) else s)

def tmqModifyMeta : OpMeta := { opcode := 0x0703, cls := .d, lenOk := len 36, maxRes := 32, obj := tmQueueObj }

/-- The fields of `new` that a mask selects, over `old`: byte ranges by mask bit. -/
def mergeRec (old new : List Byte) (mask : Nat) (fields : List (Nat × Nat × Nat)) : List Byte :=
  fields.foldl (fun r x => if mask.testBit x.1 then patch r x.2.1 (slice new x.2.1 x.2.2) else r) old

def tmqModifyBody : WbBody := fun w s =>
  let q := w.u16 0
  let mask := w.u16 2
  let r := w.bytes 4 32
  match s.tmq? q with
  | none => fail .badParam s
  | some x =>
    let m := mergeRec x.rcd r mask [(0, 2, 2), (1, 4, 2), (2, 6, 1), (3, 7, 3), (4, 10, 2), (5, 12, 4), (6, 16, 16)]
    let n := queueNorm m
    let samePort := match s.tmNode? (u16 n 2), s.tmNode? x.node with | some a, some b => a.port == b.port | _, _ => false
    if x.destroying || s.nodeBad (u16 n 0 % 4096) (u16 n 2) || !samePort || s.queueBad n then fail .badParam s
    else if s.minFull q (u16 n 12 * 8) then fail .noResource s
    else
      let y : TmQ := { x with rcd := n }
      let y1 := if mask.testBit 6 then { y with sh := shaperInit n s.now } else y
      let y2 := if mask.testBit 3 then { y1 with sampleAt := s.now + y1.periodNs } else y1
      let y3 := if mask.testBit 2 && !y2.flags.testBit 0 then { y2 with engRate := none } else y2
      .done .ok x.rcd (((s.setTmq q y3).tmMin).cfgWritten 8)

def execTmqModify (w : Waybill) (s : State) : Host.Outcome State Fault Refusal := waybillCmd tmqModifyMeta tmqModifyBody w s

/-- A flask may name only objects of its own (R366). -/
def tmqOutside : State → Waybill → Nat → Bool := fun s w f => match s.tmq? (w.u16 0) with | some x => x.owner != f | none => true

def tmqQueryMeta : OpMeta := { opcode := 0x0704, cls := .r, lenOk := len 4, maxRes := 80, flaskMay := true, outside := tmqOutside }

def tmqQueryBody : WbBody := fun w s =>
  match s.tmq? (w.u16 0) with
  | none => fail .badParam s
  | some x =>
    .done .ok (x.rcd ++ leBytes 4 x.cells ++ leBytes 4 x.frames.length ++ leBytes 4 x.peak ++ fit 16 x.sample ++ leBytes 8 x.admitted
      ++ leBytes 4 (x.drops.getD 0 0) ++ leBytes 4 (x.drops.getD 1 0) ++ leBytes 4 (x.drops.getD 2 0)) s

def execTmqQuery (w : Waybill) (s : State) : Host.Outcome State Fault Refusal := waybillCmd tmqQueryMeta tmqQueryBody w s

/-- Store a node. -/
def State.setTmNode (s : State) (n : Nat) (x : TmNode) : State := { s with tm := { s.tm with nodes := SMap.put s.tm.nodes n x } }

/-- A node record as stored. -/
def nodeNorm (r : List Byte) : List Byte :=
  validOwner r ++ leBytes 1 (u8 r 2 % 16) ++ leBytes 1 (u8 r 3 % 8) ++ slice r 4 2 ++ zeros 10 ++ shaperNorm r

def nodeCreateMeta : OpMeta := { opcode := 0x0705, cls := .d, lenOk := len 36, maxRes := 0 }

def nodeCreateBody : WbBody := fun w s =>
  let n := w.u16 0
  let r := nodeNorm (w.bytes 4 32)
  if 8192 ≤ n ∨ (s.tmNode? n).isSome ∨ !s.ownerExists (u16 r 0 % 4096) ∨ 12 ≤ u8 r 2 ∨ weightBad (u16 r 4) ∨ shaperBad r then
    fail .badParam s
  else .done .ok [] ((s.setTmNode n { rcd := r, sh := shaperFull r s.now }).cfgWritten 8)

def execNodeCreate (w : Waybill) (s : State) : Host.Outcome State Fault Refusal := waybillCmd nodeCreateMeta nodeCreateBody w s

def nodeDestroyMeta : OpMeta := { opcode := 0x0706, cls := .d, lenOk := len 4, maxRes := 0 }

def nodeDestroyBody : WbBody := fun w s =>
  let n := w.u16 0
  if (s.tmNode? n).isNone then fail .badParam s
  else if n < 12 ∨ s.tm.queues.any (fun x => x.2.node == n) then fail .busy s
  else .done .ok [] ({ s with tm := { s.tm with nodes := SMap.del s.tm.nodes n } }.cfgWritten 8)

def execNodeDestroy (w : Waybill) (s : State) : Host.Outcome State Fault Refusal := waybillCmd nodeDestroyMeta nodeDestroyBody w s

def nodeModifyMeta : OpMeta := { opcode := 0x0707, cls := .d, lenOk := len 36, maxRes := 32 }

def nodeModifyBody : WbBody := fun w s =>
  let n := w.u16 0
  let mask := w.u16 2
  let r := w.bytes 4 32
  match s.tmNode? n with
  | none => fail .badParam s
  | some x =>
    let m := nodeNorm (mergeRec x.rcd r mask [(0, 4, 2), (1, 16, 16), (2, 3, 1)])
    if u8 r 2 % 16 ≠ x.port ∨ weightBad (u16 m 4) ∨ shaperBad m then fail .badParam s
    else
      let y := { x with rcd := m }
      .done .ok x.rcd ((s.setTmNode n (if mask.testBit 1 then { y with sh := shaperInit m s.now } else y)).cfgWritten 8)

def execNodeModify (w : Waybill) (s : State) : Host.Outcome State Fault Refusal := waybillCmd nodeModifyMeta nodeModifyBody w s

/-- The shaper fields of two records differ. -/
def shaperChanged (a b : List Byte) : Bool := slice a 16 16 != slice b 16 16

/-- A parent with its new record; changed shaper fields reset its buckets (R350). -/
def TmNode.withRec (x : TmNode) (r : List Byte) (now : Nat) : TmNode :=
  let y := { x with rcd := r }
  if shaperChanged x.rcd r then { y with sh := shaperInit r now } else y

def classSetMeta : OpMeta := { opcode := 0x0708, cls := .d, lenOk := len 36, maxRes := 32 }

def classSetBody : WbBody := fun w s =>
  let r := w.bytes 4 32
  let n := leBytes 1 (u8 r 0 % 2) ++ [0] ++ slice r 2 2 ++ zeros 12 ++ shaperNorm r
  if 12 ≤ w.u8 0 ∨ 8 ≤ w.u8 1 ∨ weightBad (u16 n 2) ∨ shaperBad n then fail .badParam s
  else
    let i := w.u8 0 * 8 + w.u8 1
    let x := s.tmClass i
    .done .ok x.rcd ({ s with tm := { s.tm with classes := SMap.put s.tm.classes i (x.withRec n s.now) } }.cfgWritten 8)

def execClassSet (w : Waybill) (s : State) : Host.Outcome State Fault Refusal := waybillCmd classSetMeta classSetBody w s

/-- A signed OVERHEAD outside −64 to +63. -/
def overheadBad (n : Nat) : Bool := decide (sbyte n < -64) || decide (63 < sbyte n)

def portSetMeta : OpMeta := { opcode := 0x0709, cls := .d, lenOk := len 36, maxRes := 32 }

def portSetBody : WbBody := fun w s =>
  let r := w.bytes 4 32
  let n := slice r 0 1 ++ zeros 15 ++ shaperNorm r
  let p := w.u8 0
  if 12 ≤ p ∨ overheadBad (u8 n 0) ∨ shaperBad n then fail .badParam s
  else
    let x := s.tmPort p
    .done .ok x.rcd ({ s with tm := { s.tm with ports := SMap.put s.tm.ports p (x.withRec n s.now) } }.cfgWritten 8)

def execPortSet (w : Waybill) (s : State) : Host.Outcome State Fault Refusal := waybillCmd portSetMeta portSetBody w s

/-- A policer record as stored. -/
def policerNorm (r : List Byte) : List Byte :=
  slice r 0 1 ++ leBytes 1 (u8 r 1 % 4) ++ slice r 2 1 ++ [0] ++ leBytes 2 (u16 r 4 % 4096 + bitVal ((u16 r 4).testBit 15) 15) ++ zeros 2
    ++ slice r 8 8 ++ slice r 16 3 ++ [0] ++ slice r 20 3 ++ [0] ++ zeros 8

def policerSetMeta : OpMeta := { opcode := 0x070A, cls := .d, lenOk := len 36, maxRes := 32 }

def policerSetBody : WbBody := fun w s =>
  let n := w.u16 0
  let r := policerNorm (w.bytes 4 32)
  if 16384 ≤ n ∨ 2 < u8 r 0 ∨ overheadBad (u8 r 2) ∨ !s.ownerExists (u16 r 4 % 4096) ∨ (u8 r 0 = 2 ∧ u32 r 12 < u32 r 8)
      ∨ (u8 r 0 = 1 ∧ u32 r 12 ≠ 0) then
    fail .badParam s
  else
    let x := s.policer n
    let full := !(u8 r 1).testBit 1
    let y := { x with rcd := r, c := if full then u32 r 16 % 2 ^ 24 * tokByte else 0,
                      e := if full then u32 r 20 % 2 ^ 24 * tokByte else 0, t := s.now }
    .done .ok x.rcd ({ s with tm := { s.tm with policers := SMap.put s.tm.policers n y } }.cfgWritten 8)

def execPolicerSet (w : Waybill) (s : State) : Host.Outcome State Fault Refusal := waybillCmd policerSetMeta policerSetBody w s

def policerOutside : State → Waybill → Nat → Bool := fun s w f => u16 (s.policer (w.u16 0)).rcd 4 % 4096 != f

def policerQueryMeta : OpMeta :=
  { opcode := 0x070B, cls := .r, lenOk := len 4, maxRes := 80, flaskMay := true, outside := policerOutside }

def policerQueryBody : WbBody := fun w s =>
  if 16384 ≤ w.u16 0 then fail .badParam s
  else
    let x := s.policer (w.u16 0)
    .done .ok (x.rcd ++ ((List.range 6).map (fun i => leBytes 8 (x.counts.getD i 0))).flatten) s

def execPolicerQuery (w : Waybill) (s : State) : Host.Outcome State Fault Refusal :=
  waybillCmd policerQueryMeta policerQueryBody w s

/-- The thresholds do not fit each other (R364). -/
def thresholdsBad (spillOn spillOff panicOn panicOff : Nat) : Bool :=
  decide (spillOn ≤ spillOff) || decide (panicOn ≤ panicOff) || decide (panicOn < spillOn)
    || decide (196608 < max (max spillOn spillOff) (max panicOn panicOff))

/-- A spill area larger than 64 GiB or beyond the DRAM pools (R359; 16 R528). -/
def State.spillAreaBad (s : State) (v : Nat) : Bool :=
  let a := spillArea v
  decide (64 < bits v 23 16) || (a.2 != 0 && (decide (s.dr.span < a.1 + a.2) || s.areaBad 1 a))

def tmSetBufferMeta : OpMeta := { opcode := 0x070C, cls := .d, lenOk := len 24, maxRes := 24 }

def tmSetBufferBody : WbBody := fun w s =>
  let area := w.u32 16 % 2 ^ 24
  let area := setBits area 15 8 0
  let old := [Reg.TM_SPILL_ON, Reg.TM_SPILL_OFF, Reg.TM_PANIC_ON, Reg.TM_PANIC_OFF, Reg.TM_SPILL_AREA, Reg.TM_CTRL].map
    (fun a => leBytes 4 (s.regN a))
  if thresholdsBad (w.u32 0 % 2 ^ 18) (w.u32 4 % 2 ^ 18) (w.u32 8 % 2 ^ 18) (w.u32 12 % 2 ^ 18)
      || (area != s.regN Reg.TM_SPILL_AREA && s.spillAreaBad area) then fail .badParam s
  else if area ≠ s.regN Reg.TM_SPILL_AREA ∧ s.regN Reg.TM_SPILLED ≠ 0 then fail .busy s
  else if s.poolShort (s.setRegN Reg.TM_SPILL_AREA area) = true then fail .noResource s
  else
    let s1 := ((((s.setRegN Reg.TM_SPILL_ON (w.u32 0 % 2 ^ 18)).setRegN Reg.TM_SPILL_OFF (w.u32 4 % 2 ^ 18)).setRegN
      Reg.TM_PANIC_ON (w.u32 8 % 2 ^ 18)).setRegN Reg.TM_PANIC_OFF (w.u32 12 % 2 ^ 18)).setRegN Reg.TM_SPILL_AREA area
    .done .ok old.flatten ((s1.setCfg 8 Reg.TM_CTRL (bits (w.u32 20) 31 30 * 2 ^ 30)).tmThresholds)

def execTmSetBuffer (w : Waybill) (s : State) : Host.Outcome State Fault Refusal := waybillCmd tmSetBufferMeta tmSetBufferBody w s

end Sys2Proof.Machine
end

