-- ==== Sys2Proof/Machine/Convoy.lean ====
section
/-!
DEFINITION. The convoy's events and the 0x0Dxx opcodes but CV_FORWARD and CV_SEAL_COMMIT (17 R547-R573).
-/

namespace Sys2Proof.Machine

open Sys2Proof

/-! Training and IDENT (R549, R550, R557) -/

/-- What this device's IDENT flit carries. -/
def State.identInfo (s : State) (c : Nat) : IdentInfo :=
  { vendor := 0x1F1A, device := 0x8140, serial := s.reg64 Reg.SERIAL_LO, id := s.cvId, port := c, size := s.cvSize,
    epoch := s.regN (Reg.CP_EPOCH c) }

def State.cpEnabled (s : State) (c : Nat) : Bool := s.flag (Reg.CP_CTRL c) 31

/-- CARAVAN_TRAINING_ATTEMPT (R549, R550): the lanes trained, and the IDENT flit leaves, or they did not; a device whose ID is not below SIZE
raises WIRING. -/
def execCaravanTrainingAttempt (port : Nat) (ok : Bool) (s : State) : Host.Outcome State Fault Refusal :=
  finish (if 2 ≤ port ∨ s.cpEnabled port = false ∨ s.cpUp port = true ∨ s.inService 19 = false then s
    else if s.cvSize ≤ s.cvId then s.raise Ev.cv 6
    else if s.cvHeldDown then s
    else
      let s1 := (s.setFld (Reg.CP_STAT port) 30 30 1).setCp port { s.cp port with trained := ok }
      if ok then s1.emit (.ident port (s1.identInfo port)) else s1)

/-- The next link epoch: one more than the higher of two, skipping 0 (R557). -/
def epochAfter (a b : Nat) : Nat :=
  let n := (max a b + 1) % 65536
  if n = 0 then 1 else n

/-- The link of port c comes up; with `keep` it returned in time and its retry buffer replays, otherwise it starts afresh (R557). -/
def State.linkUp (s : State) (c : Nat) (info : IdentInfo) (keep : Bool) : State :=
  let x := s.cp c
  let s1 := if keep then s.setCp c { x with downAt := none, naked := false }
    else (s.setCp c { x with downAt := none, naked := false, tx := 0, rx := 4095, retry := [], part := [], dataCr := 2048, ctrlCr := 256,
                             unwanted := [], proposal := none }).setRegN (Reg.CP_EPOCH c) (epochAfter (s.regN (Reg.CP_EPOCH c)) info.epoch)
  let st := setBits (setBits (s1.regN (Reg.CP_STAT c)) 31 29 4) 25 23 (info.id % 4 * 2 + info.port % 2)
  let s2 := (((s1.setRegN (Reg.CP_STAT c) st).setLanes c (freshLanes (s1.cpRetired c))).raise Ev.cv 0)
  let s3 := if keep then s2.resend c none else s2
  let s4 := { s3 with cv := { s3.cv with cut := s3.cv.cut.filter (· != info.id) } }
  s4.partition.completeWait (.cpRetrain c) .ok (leBytes 4 (s4.regN (Reg.CP_STAT c)))

/-- An IDENT that does not fit keeps the port down; it is logged with the partner's convoy ID and port (R549). -/
def State.identBad (s : State) (c bit : Nat) (info : IdentInfo) : State :=
  (s.setCp c { s.cp c with trained := false }).raiseX Ev.cv bit 1 0 (leBytes 1 info.id ++ leBytes 1 info.port)

/-- IDENT (R549, R557). -/
def execIdent (port : Nat) (info : IdentInfo) (s : State) : Host.Outcome State Fault Refusal :=
  finish (if 2 ≤ port ∨ (s.cp port).trained = false ∨ s.cpUp port = true ∨ s.cpEnabled port = false then s
    else
      let n := s.cvSize
      let want := if port = 1 then (s.cvId + 1) % n else (s.cvId + n - 1) % n
      if info.id = s.cvId then s.identBad port 7 info
      else if info.vendor ≠ 0x1F1A ∨ info.device ≠ 0x8140 ∨ info.size ≠ n ∨ info.id ≠ want ∨ info.port ≠ 1 - port then
        s.identBad port 6 info
      else match (s.cp port).downAt with
        | none => s.linkUp port info false
        | some t =>
          let e := s.regN (Reg.CP_EPOCH port)
          if s.now ≤ t ∧ info.epoch = e ∧ e ≠ 0 then s.linkUp port info true else (s.cpLost port).linkUp port info false)

/-! Flits (R552-R554) -/

/-- A NAK names the last sequence received in order; one is out until a good flit comes. -/
def State.sendNak (s : State) (c : Nat) : State :=
  let x := s.cp c
  if x.naked then s else (s.setCp c { x with naked := true }).sendFlit c 3 0 true 0 0 []

/-- The payload of a data flit joins the frame being assembled; a frame starts at a flit (R561, R564). -/
def State.assemble (s : State) (c : Nat) (payload : List Byte) : State :=
  let x := s.cp c
  let d := x.part ++ payload
  let kind := u8 d 0
  let n := u16 d 2
  if (kind ≠ 1 ∧ kind ≠ 2) ∨ 16384 < n then (s.setCp c { x with part := [] }).bump (Reg.CP_PROTO_ERR c)
  else if d.length < flitsFor n * 244 then s.setCp c { x with part := d }
  else s.setCp c { x with part := [], frames := x.frames ++ [d.take (16 + n)] }

/-- Credits returned by a flit. -/
def State.credit (s : State) (c d k : Nat) : State :=
  let x := s.cp c
  s.setCp c { x with dataCr := min 2048 (x.dataCr + d), ctrlCr := min 256 (x.ctrlCr + k) }

/-- FLIT (R552-R554): a flit arrives; one with a bad CRC, of another epoch or out of sequence is discarded. What a control flit carries arrives
as its own command (log entry 28). -/
def execFlit (port : Nat) (bytes : List Byte) (s : State) : Host.Outcome State Fault Refusal :=
  finish (if 2 ≤ port ∨ s.cpUp port = false ∨ bytes.length ≠ 256 then s
    else if u32 bytes 252 ≠ crc32c (bytes.take 252) then (s.bump (Reg.CP_CRC_ERR port)).sendNak port
    else if u16 bytes 6 ≠ s.regN (Reg.CP_EPOCH port) then s
    else
      let w := u16 bytes 0
      let type := w / 4096
      let seq := w % 4096
      let ack := u16 bytes 2
      let s1 := ((s.bump64 (Reg.CP_FLITS_RX port) 1).credit port (u8 bytes 4) (u8 bytes 5)).flitAck port (ack % 4096)
      let s2 := if ack.testBit 12 then s1.resend port none else s1
      if type = 1 ∨ type = 2 then
        if seq ≠ ((s2.cp port).rx + 1) % 4096 then s2.sendNak port
        else
          let s3 := s2.setCp port { s2.cp port with rx := seq, naked := false }
          let s4 := if type = 1 then s3.assemble port (slice bytes 8 244) else s3
          s4.sendFlit port 3 0 false (if type = 1 then 1 else 0) (if type = 2 then 1 else 0) []
      else s2)

/-- NAK (R554): every flit up to the last good one is acknowledged and those after it are sent again. -/
def execNak (port last : Nat) (s : State) : Host.Outcome State Fault Refusal :=
  finish (if port < 2 ∧ s.cpUp port then (s.flitAck port (last % 4096)).resend port none else s)

/-- ACK_TIMEOUT (R554): 2 µs after the oldest held flit. -/
def execAckTimeout (port : Nat) (s : State) : Host.Outcome State Fault Refusal :=
  finish (if port < 2 ∧ s.cpUp port ∧ (s.cp port).retry ≠ [] then (s.at ((s.cp port).heldAt + 2000)).resend port none else s)

/-! Lanes and width (R555, R556) -/

/-- CARAVAN_LANE_FAULT (R555): an uncorrectable FEC codeword or a lock loss of a lane. -/
def execCaravanLaneFault (port lane : Nat) (s : State) : Host.Outcome State Fault Refusal :=
  finish (if 2 ≤ port ∨ 5 ≤ lane ∨ s.isRetired { kind := 3, index := port * 8 + lane } = true then s
    else
      let r := s.faultOf { kind := 3, index := port * 8 + lane } 19 1
      if r.1 then r.2.retireCvLane port lane 1 else r.2)

/-- A width change has completed: a CP_RETRAIN that asked for one is final. -/
def State.widthDone (s : State) (c m : Nat) : State :=
  let s1 := s.switchLanes c m
  s1.completeWait (.cpRetrain c) .ok (leBytes 4 (s1.regN (Reg.CP_STAT c)))

/-- WIDTH_PROPOSAL (R556): a width flit, or the acknowledgement of the own one. Of two crossing proposals that of the lower convoy ID wins; the
loser proposes again when a lane it wanted removed stayed. -/
def execWidthProposal (port mask id : Nat) (ack : Bool) (s : State) : Host.Outcome State Fault Refusal :=
  finish (if 2 ≤ port ∨ s.cpUp port = false then s
    else
      let x := s.cp port
      match ack, x.proposal with
      | true, none => s
      | true, some m =>
        (s.setCp port { x with proposal := none, unwanted := x.unwanted.filter (fun l => m.testBit l) }).widthDone port m
      | false, own =>
        if own.isSome && decide (s.cvId < id) then s
        else
          let m := mask % 32
          let s1 := ((s.setCp port { x with proposal := none }).emit (.width port m s.cvId true)).widthDone port m
          let left := x.unwanted.filter (fun l => m.testBit l)
          let s2 := s1.setCp port { s1.cp port with unwanted := left }
          if own.isSome && !left.isEmpty && s2.cpUp port then
            s2.propose port (left.foldl (fun k l => k - 2 ^ l) m)
          else s2)

/-! Loss (R557) -/

/-- CARAVAN_LINK_DOWN (R557). -/
def execCaravanLinkDown (port : Nat) (s : State) : Host.Outcome State Fault Refusal :=
  finish (if port < 2 then s.cpDown port else s)

/-- RETRAIN_TIMEOUT (R557): the link did not return within RETRAIN_MS. -/
def execRetrainTimeout (port : Nat) (s : State) : Host.Outcome State Fault Refusal :=
  finish (if 2 ≤ port then s
    else match (s.cp port).downAt with
      | none => s
      | some t =>
        let s1 := (s.at t).cpLost port
        s1.completeWait (.cpRetrain port) .ok (leBytes 4 (s1.regN (Reg.CP_STAT port))))

/-- ROUTE_RETURN (R560): no flit to the device is unacknowledged on the path in use, and the shortest path is up again. -/
def execRouteReturn (device : Nat) (s : State) : Host.Outcome State Fault Refusal :=
  finish (match SMap.get? s.cv.routes device, s.bestRoute device with
    | some c, some b =>
      if b ≠ c ∧ !(s.cp c).retry.any (fun f => f.target == device) then
        { s with cv := { s.cv with routes := SMap.put s.cv.routes device b } }
      else s
    | _, _ => s)

/-! End-to-end sequences (R558, R559) -/

/-- Sequence a is above b, modulo 2^32. -/
def seqAbove (a b : Nat) : Bool :=
  let d := (a + 2 ^ 32 - b % 2 ^ 32) % 2 ^ 32
  decide (1 ≤ d) && decide (d < 2 ^ 31)

/-- The higher of two sequences. -/
def seqMax (a b : Nat) : Nat := if seqAbove b a then b else a

/-- Send the requests that were held for a target. -/
def State.releaseReqs (s : State) (target : Nat) : State :=
  let l := s.cv.reqs.filter (fun r => r.target == target && r.via.isNone)
  let s1 := { s with cv := { s.cv with reqs := s.cv.reqs.filter (fun r => !(r.target == target && r.via.isNone)) } }
  l.foldl (fun t r => t.cvSend target r.what r.body) s1

/-- A SEQ_SYNC of a member (R559). -/
def State.seqSync (s : State) (peer executed next : Nat) : State :=
  let own := SMap.getD s.cv.lastSeq peer 0
  let r := SMap.getD s.cv.peers peer {}
  let r1 := if r.known || next = 0 then r else { r with known := true, floor := (next + 2 ^ 32 - 1) % 2 ^ 32 }
  { s with cv := { s.cv with lastSeq := SMap.put s.cv.lastSeq peer (seqMax own executed),
                             synced := insertNat peer s.cv.synced, peers := SMap.put s.cv.peers peer r1 } }.releaseReqs peer

/-- A VOID notice of a member (R558). -/
def State.voidIn (s : State) (peer floor : Nat) : State :=
  let r := SMap.getD s.cv.peers peer {}
  let f := if r.known then seqMax r.floor floor else floor
  { s with cv := { s.cv with peers := SMap.put s.cv.peers peer { r with known := true, floor := f, done := r.done.filter (fun x => seqAbove x f) } } }

/-- SEQ_SYNC (R559). -/
def execSeqSync (peer executed next : Nat) (s : State) : Host.Outcome State Fault Refusal :=
  finish (if s.peers.contains peer then s.seqSync peer (executed % 2 ^ 32) (next % 2 ^ 32) else s)

/-- VOID (R558). -/
def execVoid (peer floor : Nat) (s : State) : Host.Outcome State Fault Refusal :=
  finish (if s.peers.contains peer then s.voidIn peer (floor % 2 ^ 32) else s)

/-- Take a request's sequence: none when it is discarded (R558, R559). -/
def CvPeer.take (r : CvPeer) (seq : Nat) : Option CvPeer :=
  let r0 := if r.known then r else { r with known := true, floor := (seq + 2 ^ 32 - 1) % 2 ^ 32 }
  if !seqAbove seq r0.floor || r0.done.contains seq then none
  else
    let d := seq :: r0.done
    let top := d.foldl seqMax seq
    let low := (top + 2 ^ 32 - 1024) % 2 ^ 32
    let f := seqMax r0.floor (if seqAbove top r0.floor && seqAbove low r0.floor then low else r0.floor)
    some { r0 with floor := f, done := d.filter (fun x => seqAbove x f) }

/-! What control messages bring (R565-R569) -/

/-- The final reply to a request of this device arrives; interim ones change nothing: a forwarded waybill's reply whole (R573), a relayed one's status and result, a member's
part of CV_SEAL_COMMIT. -/
def State.cvReply (s : State) (peer seq : Nat) (b : List Byte) : State :=
  match s.cv.reqs.find? (fun r => r.target == peer && r.seq == seq && r.via.isSome) with
  | none => s
  | some r =>
    if (u8 b 2).testBit 0 = false then s else
    let s1 := { s with cv := { s.cv with reqs := s.cv.reqs.filter (fun x => x != r) } }
    match r.what with
    | .forward _ _ => s1.cvReqDone r .ok b
    | .relay _ _ => s1.cvReqDone r (statusOf (u16 b 8)) (b.drop 16)
    | .sealPart => s1.cvSealPart peer b
    | .ownState => s1

/-- The arbiter's ownership state reaches this member, or another partition's state reaches an arbiter without one: state, epoch, drover and
priority follow, and the change is acknowledged (R565-R567). -/
def State.adoptOwner (s : State) (peer st home prio epoch : Nat) : State :=
  if !(peer == s.arbiter || (s.arbiter == s.cvId && s.ownSt == 0)) then s
  else
    let iss := if st ≠ 2 then 0xFFFFFFFF
      else if home = s.cvId then s.cv.claimant.getD (if s.ownSt = 2 ∧ s.droverHome = s.cvId then s.drover else 0x30000000 + s.cvId)
      else 0x30000000 + home % 4
    let same := s.ownSt == st && s.drover == iss && s.devEpoch == epoch && s.fld Reg.OWN_STATE 15 8 == prio
    let s1 := { s with cv := { s.cv with claimant := if st = 2 then none else s.cv.claimant } }.emit (.convoy peer none (.ownAck (word epoch)))
    if same then s1 else ((s1.setOwner st iss prio epoch).heartbeat).notify

/-- This device is the home device. -/
def State.isHome (s : State) : Bool := s.ownSt == 2 && s.droverHome == s.cvId

/-- The home device compares every member's current digest with its own committed one (R569). -/
def State.driftCheck (s : State) : State :=
  if !s.isHome then s.setRegN Reg.CV_DRIFT 0
  else
    let own := s.cvDigests
    let bad := fun (d : Nat) => if d = s.cvId then own.2 != own.1
      else match SMap.get? s.cv.digests d with | some x => x.current != own.1 | none => false
    let m := ((List.range 4).filter bad).foldl (fun k d => k + 2 ^ d) 0
    let old := s.fld Reg.CV_DRIFT 3 0
    let s1 := s.setFld Reg.CV_DRIFT 3 0 m
    if m ≠ old ∧ m ≠ 0 then s1.raise Ev.cv 8 else s1

/-- A member's digests arrive. -/
def State.digestIn (s : State) (d committed current : Nat) : State :=
  let x : CvDigest := { committed := committed, current := current, at_ := s.now }
  ({ s with cv := { s.cv with digests := SMap.put s.cv.digests d x } }.setFld Reg.CV_DRIFT (4 + d % 4) (4 + d % 4) 0).driftCheck

/-- Carry out a control message of a member. A request it asks this device to execute passes the sequence check first (R558). -/
def State.control (s : State) (peer seq : Nat) (body : CvBody) : State :=
  let checked := fun (f : State → State) =>
    match (SMap.getD s.cv.peers peer {}).take seq with
    | none => s.bump (Reg.CP_DUP_DISCARD (SMap.getD s.cv.routes peer 0))
    | some r => f { s with cv := { s.cv with peers := SMap.put s.cv.peers peer r } }
  match body with
  | .forward w => checked (fun t => t.arrive (waybillOf (.caravan peer) (2 * (seq + 1)) w))
  | .relay opcode params => checked (fun t => t.arrive
      { inst := .caravan peer, opcode := opcode,
        wb := { inst := .caravan peer, flags := 5, version := 1, tag := BitVec.ofNat 16 (seq % 65535), issuer := word (0x30000000 + peer),
                epoch := word t.devEpoch, params := params, mtag := 2 * (seq + 1) + 1 } })
  | .ownState st home prio epoch => checked (fun t => t.adoptOwner peer st home prio epoch.toNat)
  | .ownAck _ => { s with cv := { s.cv with acks := s.cv.acks.filter (· != peer),
                                            reqs := s.cv.reqs.filter (fun r => !(r.target == peer && r.what == .ownState)) } }
  | .sync e n => s.seqSync peer e n
  | .void f => s.voidIn peer f
  | .lost q => match s.cv.reqs.find? (fun r => r.seq == q && r.via.isSome) with
    | none => s
    | some r => ({ s with cv := { s.cv with reqs := s.cv.reqs.filter (fun x => x != r) } }.bump
        (Reg.CP_LOST_REQS (SMap.getD s.cv.routes r.target 0))).cvReqDone r .linkLost [] |>.sendVoid r.target
  | .reply q b => s.cvReply peer q b
  | .digest a b => s.digestIn peer a.toNat b.toNat

/-- CONTROL_REQUEST (R558, R559, R565). -/
def execControlRequest (peer seq : Nat) (body : CvBody) (s : State) : Host.Outcome State Fault Refusal :=
  finish (if s.peers.contains peer then s.control peer (seq % 2 ^ 32) body else s)

/-- CV_FORWARD_REPLY (R573): the inner reply arrives. -/
def execCvForwardReply (peer seq : Nat) (bytes : List Byte) (s : State) : Host.Outcome State Fault Refusal :=
  finish (s.cvReply peer (seq % 2 ^ 32) bytes)

/-! Frames from other members (R561, R563, R564) -/

/-- A frame with its convoy header from port c: to this device, or on to the next member. -/
def State.convoyFrame (s : State) (c : Nat) (d : List Byte) : State :=
  let hd := d.take 16
  let b := d.drop 16
  let target := u8 hd 1 / 4 % 4
  let n := SMap.getD s.fr.seqs (8 + c) 0
  let s1 := { s with fr := { s.fr with seqs := SMap.put s.fr.seqs (8 + c) (n + 1) } }
  let f : Frame := { bytes := b, tx := false, src := 8 + c, ingress := some (8 + c, n), tc := u8 hd 14 % 8, color := bits (u8 hd 14) 4 3 }
  if target ≠ s.cvId then
    let s2 := s1.bump (Reg.CP_TRANSIT c)
    match s2.cvRoute target with
    | none => s2.bump Reg.TM_DROP_DOWN
    | some p =>
      let g := { f with stage := .enqueue, transit := some hd, dest := some (.caravan p), stored := true }
      let x := s2.newFrame g
      let r := x.2.admitFrame x.1 g (8 + p) (8 + p)
      if r.1 then r.2 else r.2.endFrame x.1
  else
    let dest := if u8 hd 0 = 1 then s1.portDest s.cvId (u8 hd 5 % 8)
      else (s1.wqOf (u16 hd 6) (u16 hd 8)).map Dest.queue
    let pop := (u8 hd 14).testBit 5 && u8 hd 0 == 2
    (s1.newFrame { f with dest := dest, tmq := (if u16 hd 12 = 0xFFFF then none else some (u16 hd 12)), stored := true,
                          edits := if pop then [.vlan 0 0 0] else [] }).2

/-- CONVOY_FRAME (R564): the oldest frame received on a caravan port is parsed here, or enqueued in transit. -/
def execConvoyFrame (port : Nat) (s : State) : Host.Outcome State Fault Refusal :=
  finish (if 2 ≤ port then s
    else match (s.cp port).frames with
      | [] => s
      | d :: r => (s.setCp port { s.cp port with frames := r }).convoyFrame port d)

/-! Digests, partitions, claims (R565-R569) -/

/-- DIGEST_PUBLISH (R569): this device's digests go to the home device, which compares. -/
def execDigestPublish (s : State) : Host.Outcome State Fault Refusal :=
  finish (if s.inService 19 = false then s
    else
      let d := s.cvDigests
      let s1 := s.setRegN Reg.CV_DIGEST d.1
      if s1.isHome then s1.driftCheck
      else if s1.ownSt = 2 ∧ s1.peers.contains s1.droverHome = true then
        (s1.setRegN Reg.CV_DRIFT 0).emit (.convoy s1.droverHome none (.digest (word d.1) (word d.2)))
      else s1.setRegN Reg.CV_DRIFT 0)

/-- DIGEST_TIMEOUT (R569): no digest from a member for 30 ms. -/
def execDigestTimeout (device : Nat) (s : State) : Host.Outcome State Fault Refusal :=
  finish (if !s.isHome || decide (s.cvSize ≤ device) || device == s.cvId then s
    else
      let s1 := match SMap.get? s.cv.digests device with | some x => s.at (x.at_ + 30000000) | none => s
      (({ s1 with cv := { s1.cv with digests := SMap.del s1.cv.digests device } }.setFld Reg.CV_DRIFT (4 + device) (4 + device) 1).setFld
        Reg.CV_DRIFT device device 0))

/-- OWNERSHIP_ACK_TIMEOUT (R565): members that have not acknowledged an ownership change within 1 ms are treated as unreachable. -/
def execOwnershipAckTimeout (s : State) : Host.Outcome State Fault Refusal :=
  finish (if s.cv.acks.isEmpty then s
    else
      let s1 := s.at (s.cv.ackAt + 1000000)
      { s1 with cv := { s1.cv with cut := s1.cv.cut ++ s1.cv.acks, acks := [] } }.partition)

/-- PARTITION_CHANGE (R566): the ring links beyond the own ones that are up. -/
def execPartitionChange (links : Nat) (s : State) : Host.Outcome State Fault Refusal :=
  finish ({ s with cv := { s.cv with links := links % 16, cut := [] } }.partition)

/-- AUTO_CLAIM (R568): the state has been NONE for 1 s and the arbiter's firmware claims as convoy peer. -/
def execAutoClaim (s : State) : Host.Outcome State Fault Refusal :=
  finish (if s.flag Reg.CV_CTRL 31 = false ∨ s.ownSt ≠ 0 ∨ s.arbiter ≠ s.cvId ∨ s.quorum = false ∨ s.fwServes = false then s
    else
      let s1 := (s.at (s.cv.noneSince + 1000000000)).openWindow.notify
      let prio := max 1 (s.fld Reg.CV_CTRL 30 24)
      { s1 with own := { s1.own with claims := s1.own.claims ++ [⟨word (0x30000000 + s.cvId), prio⟩] } })

/-! Opcodes (R573) -/

def cvQueryMeta : OpMeta := { opcode := 0x0D00, cls := .r, lenOk := len 0, maxRes := 32 }

def cvQueryBody : WbBody := fun _ s =>
  .done .ok (leBytes 4 (setBits (s.regN Reg.CV_STATE) 1 0 s.cvId) ++ leBytes 4 (s.regN Reg.CV_DRIFT) ++ leBytes 4 (s.regN Reg.CV_DIGEST)
    ++ zeros 4 ++ leBytes 4 (s.regN (Reg.CP_STAT 0)) ++ leBytes 4 (s.regN (Reg.CP_STAT 1)) ++ leBytes 4 (s.regN (Reg.CP_EPOCH 0))
    ++ leBytes 4 (s.regN (Reg.CP_EPOCH 1))) s

def execCvQuery (w : Waybill) (s : State) : Host.Outcome State Fault Refusal := waybillCmd cvQueryMeta cvQueryBody w s

/-- A new CV_CTRL value takes effect; a new SIZE makes a partition of this device alone (R548). -/
def State.setCvCtrl (s : State) (v : Nat) : State :=
  let old := s.fld Reg.CV_CTRL 2 0
  let s1 := s.setCfg 19 Reg.CV_CTRL (v - (v &&& 0x00FF00F8))
  if s1.fld Reg.CV_CTRL 2 0 = old then s1 else s1.partition

/-- SIZE may not change now (R548). -/
def State.sizeHeld (s : State) (v : Nat) : Bool := v % 8 != s.fld Reg.CV_CTRL 2 0 && (s.cpEnabled 0 || s.cpEnabled 1)

def cvSetParamsMeta : OpMeta :=
  { opcode := 0x0D01, cls := .d, lenOk := len 12, maxRes := 12, obj := fun _ _ => some ⟨.member, 4⟩ }

def cvSetParamsBody : WbBody := fun w s =>
  if s.sizeHeld (w.u32 0) then fail .busy s
  else
    let old := leBytes 4 (s.regN Reg.CV_CTRL) ++ leBytes 4 (s.regN Reg.CV_SEAL_SET_LO) ++ leBytes 4 (s.regN Reg.CV_SEAL_SET_HI)
    .done .ok old (((s.setCfg 19 Reg.CV_SEAL_SET_LO (w.u32 4)).setCfg 19 Reg.CV_SEAL_SET_HI (w.u32 8 % 2 ^ 23)).setCvCtrl (w.u32 0))

def execCvSetParams (w : Waybill) (s : State) : Host.Outcome State Fault Refusal := waybillCmd cvSetParamsMeta cvSetParamsBody w s

/-- A new CP_CTRL value takes effect: EN 0 holds the port down; a link narrower than MIN_WIDTH goes down (R551, R571). -/
def State.setCpCtrl (s : State) (c v : Nat) : State :=
  let was := s.cpEnabled c
  let s1 := s.setCfg 19 (Reg.CP_CTRL c) (bitVal (v.testBit 31) 31 + v % 8)
  if was && !s1.cpEnabled c then s1.cpHold c
  else if s1.cpUp c && decide (popCount 5 (s1.cpLanes c) < s1.minWidth c) then s1.cpDown c else s1

def cpSetMeta : OpMeta :=
  { opcode := 0x0D02, cls := .d, lenOk := len 8, maxRes := 4, obj := fun _ w => some ⟨.caravanPort, w.u8 0⟩ }

def cpSetBody : WbBody := fun w s =>
  if 1 < w.u8 0 then fail .badParam s
  else .done .ok (leBytes 4 (s.regN (Reg.CP_CTRL (w.u8 0)))) (s.setCpCtrl (w.u8 0) (w.u32 4))

def execCpSet (w : Waybill) (s : State) : Host.Outcome State Fault Refusal := waybillCmd cpSetMeta cpSetBody w s

def cpRetrainMeta : OpMeta :=
  { opcode := 0x0D03, cls := .d, lenOk := len 4, maxRes := 4, canPend := true, obj := fun _ w => some ⟨.caravanPort, w.u8 0⟩ }

def cpRetrainBody : WbBody := fun w s =>
  let c := w.u8 0
  let full := (w.u8 1).testBit 0
  let m := w.u8 2
  if 1 < c ∨ (full = false ∧ (32 ≤ m ∨ m &&& s.cpRetired c ≠ 0 ∨ popCount 5 m < s.minWidth c)) then fail .badParam s
  else if s.cpUp c = false ∨ (s.cp c).proposal.isSome = true then fail .busy s
  else .pend (.cpRetrain c) s.retrainNs (some ⟨.caravanPort, c⟩) (if full then s.cpDown c else s.propose c m)

def execCpRetrain (w : Waybill) (s : State) : Host.Outcome State Fault Refusal := waybillCmd cpRetrainMeta cpRetrainBody w s

def cvPortBackupMeta : OpMeta := { opcode := 0x0D04, cls := .d, lenOk := len 4, maxRes := 4 }

def cvPortBackupBody : WbBody := fun w s =>
  if 3 < w.u8 0 ∨ 7 < w.u8 1 then fail .badParam s
  else
    let k := w.u8 0 * 8 + w.u8 1
    .done .ok (leBytes 4 (SMap.getD s.cv.backup k 0))
      ({ s with cv := { s.cv with backup := SMap.put s.cv.backup k (w.u16 2 &&& 0x9F) } }.cfgWritten 19)

def execCvPortBackup (w : Waybill) (s : State) : Host.Outcome State Fault Refusal := waybillCmd cvPortBackupMeta cvPortBackupBody w s

def cvSealQueryMeta : OpMeta := { opcode := 0x0D07, cls := .r, lenOk := len 0, maxRes := 36 }

def cvSealQueryBody : WbBody := fun _ s =>
  let d := fun (i : Nat) => if i = s.cvId then leBytes 4 s.cvDigests.1 ++ leBytes 4 s.cvDigests.2
    else match SMap.get? s.cv.digests i with
      | some x => leBytes 4 x.committed ++ leBytes 4 x.current
      | none => zeros 8
  .done .ok (leBytes 4 (s.regN Reg.CV_DRIFT) ++ ((List.range 4).map d).flatten) s

def execCvSealQuery (w : Waybill) (s : State) : Host.Outcome State Fault Refusal := waybillCmd cvSealQueryMeta cvSealQueryBody w s

end Sys2Proof.Machine
end

