-- ==== Sys2Proof/Machine/Queues.lean ====
section
/-!
DEFINITION. Work queues, doorbells and completions: the queue engine's events and the 0x03xx opcodes (05 R167-R205).
-/

namespace Sys2Proof.Machine

open Sys2Proof

/-! Doorbells (R182-R184) -/

/-- The function a doorbell comes from. -/
def srcFn : Src → Nat
  | .pf0 l => pf0Fn l
  | .flask f => f
  | _ => 0

/-- A doorbell is discarded, counted and recorded (R183). -/
def State.dbErr (s : State) (fn slot cause : Nat) : State :=
  ((s.bump Reg.QM_DB_ERR_COUNT).setRegN Reg.QM_DB_ERR_INFO (cause * 2 ^ 28 + flaskNo fn * 2 ^ 16 + slot % 65536)).raise
    Ev.qm 0

/-- A doorbell write of `len` bytes v to a slot (R182-R184; 04 R145, R166). -/
def State.doorbell (s : State) (src : Src) (slot len v : Nat) : State :=
  let fn := srcFn src
  let st := (s.fn fn).st
  if st == .unprovisioned || st == .resetting || !s.pdOn 34 then s
  else if len ≠ 8 then s.dbErr fn slot 1
  else if bits v 31 16 ≠ slot then s.dbErr fn slot 2
  else
    let idx := bits v 15 0
    if v.testBit 32 then
      match s.cqOf fn slot with
      | none => s.dbErr fn slot 3
      | some c => match s.cq? c with
        | none => s.dbErr fn slot 3
        | some k =>
          if k.fn ≠ fn then s.dbErr fn slot 5
          else if idxSub k.widx k.cidx < idxSub idx k.cidx then s.dbErr fn slot 4
          else
            let k1 := { k with cidx := idx }
            let s1 := s.setCq c k1
            if v.testBit 33 && !k1.armed then
              let k2 := { k1 with armed := true }
              if k2.since = 0 then s1.setCq c k2 else s1.cqMessage c k2
            else s1
    else
      match s.wqOf fn slot with
      | none => s.dbErr fn slot 3
      | some g => match s.wq? g with
        | none => s.dbErr fn slot 3
        | some q =>
          if q.fn ≠ fn then s.dbErr fn slot 5
          else if q.st = 4 then s
          else
            let d := idxSub idx q.completed
            if q.size < d || decide (d < idxSub q.prod q.completed) then s.dbErr fn slot 4
            else
              let s1 := (s.setWq g { q with prod := idx }).noteStall g
              if q.kind = 1 then s1.rxPump g (q.rx.length + 1) else s1

/-- WQ_DOORBELL (R184): a doorbell write; with CQ 0 it moves PRODUCER, and a held receive frame is checked again (R193). -/
def execWqDoorbell (src : Src) (slot len : Nat) (v : DWord) (s : State) : Host.Outcome State Fault Refusal :=
  finish (s.doorbell src slot len v.toNat)

/-- CQ_DOORBELL (R182, R196): a doorbell write; with CQ 1 it moves the consumer index and may re-arm. -/
def execCqDoorbell (src : Src) (slot len : Nat) (v : DWord) (s : State) : Host.Outcome State Fault Refusal :=
  finish (s.doorbell src slot len v.toNat)

/-! Fetch (R185-R187) -/

/-- Queues the arbiter can visit, in ascending global number (R185, R186). -/
def State.fetchable (s : State) : List (Nat × WorkQ) :=
  s.qm.wqs.filter (fun x => x.2.kind != 1 && s.wantsFetch x.2 && s.credits x.2.cq != 0)

/-- A new round: every queue's allowance is WEIGHT x BURST (R186). -/
def State.newRound (s : State) : State :=
  { s with qm := { s.qm with wqs := s.qm.wqs.map (fun x =>
      (x.1, { x.2 with allowance := x.2.weight * x.2.burst, rburst := x.2.burst })) } }

/-- The queue after `last`, wrapping to the lowest (R186). -/
def afterLast (last : Option Nat) (l : List (Nat × WorkQ)) : Option (Nat × WorkQ) :=
  match last with
  | none => l.head?
  | some n => match l.find? (fun x => decide (n < x.1)) with
    | some x => some x
    | none => l.head?

/-- FETCH (R186): the arbiter visits the next eligible queue with allowance left. -/
def execFetch (s : State) : Host.Outcome State Fault Refusal :=
  finish (
    let s1 := s.qm.wqs.foldl (fun t x => if x.2.kind = 1 then t else t.noteStall x.1) s
    let have_ := s1.fetchable.filter (fun x => x.2.allowance != 0)
    let s2 := if have_.isEmpty then s1.newRound else s1
    match afterLast s2.qm.last (s2.fetchable.filter (fun x => x.2.allowance != 0)) with
    | none => s2
    | some (g, q) =>
      let s3 := s2.issueFetch g (min q.rburst q.allowance)
      match s3.wq? g with
      | none => s3
      | some q1 =>
        let took := idxSub q1.fetched q.fetched
        let s4 := s3.setWq g { q1 with allowance := q1.allowance - took }
        { s4 with qm := { s4.qm with last := some g } })

/-- FETCH_RETURN (R175, R187): the oldest outstanding read of queue q returns; its entries are checked and go on to the
ledger, or are discarded after a shutdown or reset. -/
def execFetchReturn (q : Nat) (data : List Byte) (s : State) : Host.Outcome State Fault Refusal :=
  finish (match s.wq? q with
    | none => s
    | some x => match x.reads with
      | [] => s
      | r :: rest =>
        if r.discard then s.setWq q { x with reads := rest }
        else
          let new := (List.range r.count).map (fun i =>
            let e : Entry := { idx := (r.first + i) % 65536, raw := slice data (i * 64) 64, slot := r.slots.getD i 0 }
            let bad := s.entryBad x e
            { e with started := bad, badCls := !s.classAllowed x.kind e.ledgerClass,
                     reqs := if bad then [{ status := cBadDescriptor }] else [] })
          s.setWq q { x with reads := rest, entries := x.entries ++ new })

/-- ACCEPT_COMMIT (R187, 06 R206, R209, R212, R214): the first entry of queue q not yet accepted is recorded in both
mirrors; ACCEPTED advances and the mirror word follows. -/
def execAcceptCommit (q : Nat) (s : State) : Host.Outcome State Fault Refusal :=
  finish (match s.wq? q with
    | none => s
    | some x => match x.entries.find? (fun e => !e.acc) with
      | none => s
      | some e =>
        let c := if e.badCls then 0 else e.ledgerClass
        if s.commitsStopped || decide (2 < x.st) || (s.fn x.fn).st == .resetting then s
        else if !e.badCls && decide (s.classLimit c ≤ s.regN (Reg.LG_CLASS_HELD c)) then s
        else
          let seq := s.regN Reg.LG_SEQ
          let x1 := { x.mapEntry e.idx (fun e => { e with acc := true, seq := seq, cls := c }) with
                      accepted := (x.accepted + 1) % 65536 }
          let s1 := (((s.setWq q x1).setRegN Reg.LG_SEQ (nextLedgerSeq seq)).bump64 Reg.LG_ACCEPTS 1).classHeld c true
          let s2 := if x.kind = 3 ∧ e.reqs ≠ [] then (s1.bump Reg.MV_BAD_DESC).raise Ev.mv 2 else s1
          if s2.fnServes x.fn then s2.writeMirror q else s2)

/-! Starting entries (R172-R174, R189) -/

/-- Ask for an entry's buffer: the fragment table in one read when INDIRECT, else its one buffer; with `payload` the buffer's
bytes are asked for at once (R174, 01 R28). -/
def State.askBuffer (s : State) (g : Nat) (q : WorkQ) (e : Entry) (payload : Bool) : State :=
  let a := e.addr q.kind
  if e.indirect then
    (s.setWq g (q.mapEntry e.idx (fun e => { e with started := true, wantTable := true }))).emit
      (.hostRead q.fn a (e.fragCount q.kind * 16))
  else
    let n := e.lenField q.kind
    let s1 := s.setWq g (q.mapEntry e.idx (fun e => { e with started := true, frags := [(a, n)],
                                                             want := if payload then n else 0 }))
    if payload then s1.emit (.hostRead q.fn a n) else s1

/-- NOP (R172, R191): completes OK with BYTE_COUNT 0; in an RX queue once it is at the head. -/
def execNop (q idx : Nat) (s : State) : Host.Outcome State Fault Refusal :=
  finish (match s.wq? q with
    | none => s
    | some x => match x.canStart idx 0 with
      | none => s
      | some e =>
        if !e.acc || (x.kind == 1 && !x.allBefore idx (fun y => y.rxUsed || y.ended)) then s
        else (s.setWq q (x.mapEntry idx (fun e => { e with started := true }))).request q idx { status := cOk })

/-- SEND (R173, 01 R28): the payload, or its fragment table, is read from host memory. -/
def execSend (q idx : Nat) (s : State) : Host.Outcome State Fault Refusal :=
  finish (match s.wq? q with
    | none => s
    | some x => match x.canStart idx 1 with
      | none => s
      | some e => if x.kind = 0 ∧ s.fnServes x.fn then s.askBuffer q x e true else s)

/-- RECV (R173, R190): the entry's buffer joins those the queue holds. -/
def execRecv (q idx : Nat) (s : State) : Host.Outcome State Fault Refusal :=
  finish (match s.wq? q with
    | none => s
    | some x => match x.canStart idx 0x10 with
      | none => s
      | some e =>
        if x.kind ≠ 1 ∨ !e.acc then s
        else if e.indirect && !s.fnServes x.fn then s
        else s.askBuffer q x e false)

/-- The fragments of a table (R174). -/
def fragList : Nat → List Byte → List (Nat × Nat)
  | 0, _ => []
  | n + 1, d => (u64 d 0, u16 d 8) :: fragList n (d.drop 16)

/-- A fragment table arrives: its entry's buffers, or BAD_DESCRIPTOR (R175). The entry as it now stands is the answer. -/
def State.tableArrives (s : State) (g i : Nat) (data : List Byte) : Option Entry × State :=
  match s.wq? g with
  | none => (none, s)
  | some q => match q.entry? i with
    | none => (none, s)
    | some e =>
      if !e.wantTable || e.ended then (none, s)
      else
        let fr := fragList (e.fragCount q.kind) data
        let s1 := s.setWq g (q.mapEntry i (fun e => { e with wantTable := false, frags := fr }))
        if fr.any (fun f => f.2 == 0) || fr.foldl (fun n f => n + f.2) 0 != e.total q.kind then
          (none, s1.request g i { status := cBadDescriptor })
        else (some { e with wantTable := false, frags := fr }, s1)

/-! Payloads (01 R28, 04 R152) -/

/-- The frame of a SEND entry whose payload is in the packet buffer. -/
def sendFrame (q : WorkQ) (g : Nat) (e : Entry) : Frame :=
  { bytes := e.got, tx := true, src := 10, flask := flaskNo q.fn, entry := some (g, e.idx), hint := u32 e.raw 24 % 2 ^ 24,
    csum := e.flags.testBit 3, wantTs := e.tsReq, engMeta := u32 e.raw 32, wqTmq := q.tmq,
    sendTmq := (if u16 e.raw 30 = 0xFFFF then none else some (u16 e.raw 30)), stored := true,
    assoc := (if (u16 e.raw 28).testBit 15 then some (u16 e.raw 28 % 16384) else none) }

/-- Frames enter the pipeline in entry order (04 R152): each entry from the head whose payload is whole, until one whose
payload is still being read. -/
def State.releaseFrames (s : State) (g : Nat) : List Entry → State
  | [] => s
  | e :: r =>
    if e.ended || e.frame.isSome || (e.op == 0) then s.releaseFrames g r
    else if e.want = 0 ∨ e.got.length < e.want then s
    else match s.wq? g with
      | none => s
      | some q =>
        let x := s.newFrame (sendFrame q g e)
        (x.2.modEntry g e.idx (fun e => { e with frame := some x.1 })).releaseFrames g r

/-- PAYLOAD_READ_RETURN (01 R28): payload bytes of a SEND entry reach the packet buffer; a whole payload enters the
pipeline behind the entries before it; one read again starts over at the parser, its place in its queue kept (06 R220, R223). -/
def execPayloadReadReturn (q idx : Nat) (data : List Byte) (s : State) : Host.Outcome State Fault Refusal :=
  finish (match s.wq? q with
    | none => s
    | some x => match x.entry? idx with
      | none => s
      | some e =>
        if x.kind ≠ 0 ∨ e.want = 0 ∨ e.ended ∨ e.want ≤ e.got.length then s
        else
          let e1 := { e with got := (e.got ++ data).take e.want }
          let x1 := x.mapEntry idx (fun _ => e1)
          let s1 := (s.setWq q x1).releaseFrames q x1.entries
          match e.frame with
          | none => s1
          | some h => match s1.frame? h with
            | some f => if f.stage == .reread && decide (e1.want ≤ e1.got.length) then
                s1.setFrame h { sendFrame x q e1 with back := true } else s1
            | none => s1)

/-! Completion (R178-R181, R195, 06 R215) -/

/-- COMPLETION_COMMIT (06 R215, R216): the first request for an entry's record commits in both mirrors. -/
def execCompletionCommit (q idx : Nat) (s : State) : Host.Outcome State Fault Refusal := finish (s.commitEntry q idx)

/-- COMPLETION_WRITE (R181): the committed completions at the head of a queue are written, unless its function may not
write now (04 R144, R151, R158). -/
def execCompletionWrite (q : Nat) (s : State) : Host.Outcome State Fault Refusal :=
  finish (match s.wq? q with
    | none => s
    | some x => if s.fnServes x.fn then s.writeDone q false false else s)

/-- MODERATION_TIMER (R195): MOD_TIME_US has passed since the oldest entry written after the last message. -/
def execModerationTimer (c : Nat) (s : State) : Host.Outcome State Fault Refusal :=
  finish (match s.cq? c with
    | none => s
    | some k => if k.armed && k.since != 0 then (s.at (k.oldest + k.modTimeUs * 1000)).cqMessage c k else s)

/-! Receive (R190-R193) -/

/-- RX_PREFETCH (R190): refill an RX queue to RX_PREFETCH entries, within the pool of 32,768. -/
def execRxPrefetch (q : Nat) (s : State) : Host.Outcome State Fault Refusal :=
  finish (match s.wq? q with
    | none => s
    | some x =>
      if x.kind = 1 ∧ s.wantsFetch x then
        let n := min (s.rxPrefetch - x.rxHeld) (32768 - s.rxPoolUsed)
        if s.credits x.cq = 0 then s.noteStall q else s.issueFetch q n
      else s)

/-- RX_DELIVERY_CHECK (R192): the head frame is written whole, dropped, or held. -/
def execRxDeliveryCheck (q : Nat) (s : State) : Host.Outcome State Fault Refusal :=
  finish (match s.wq? q with
    | none => s
    | some x => s.rxPump q (x.rx.length + 1))

/-- RX_HOLD_EXPIRY (R193): the head frame's hold time runs out; the next is checked at once. -/
def execRxHoldExpiry (q : Nat) (s : State) : Host.Outcome State Fault Refusal :=
  finish (match s.wq? q with
    | none => s
    | some x => match x.rx with
      | [] => s
      | f :: _ => (s.at f.deadline).rxPump q (x.rx.length + 1))

/-! Naming queues in waybills (R168, R204, R682) -/

/-- The work queue that FUNCTION and a queue number name. -/
def State.namedWq (s : State) (f n : Nat) : Option Nat := if 4096 ≤ f then none else s.wqOf (if f = 0 then 0 else f) n

/-- The completion queue that FUNCTION and a queue number name. -/
def State.namedCq (s : State) (f n : Nat) : Option Nat := if 4096 ≤ f then none else s.cqOf (if f = 0 then 0 else f) n

/-- The function of the work queue a waybill names at offsets 0 and 2. -/
def wqFn (s : State) (w : Waybill) : Option Nat :=
  if w.u16 0 = 0 then
    match s.namedWq 0 (w.u16 2) with
    | some g => (s.wq? g).map (·.fn)
    | none => some (s.namedFn w.inst 0 0)
  else some (w.u16 0)

/-- The function of the completion queue a waybill names at offsets 0 and 2. -/
def cqFn (s : State) (w : Waybill) : Option Nat :=
  if w.u16 0 = 0 then
    match s.namedCq 0 (w.u16 2) with
    | some g => (s.cq? g).map (·.fn)
    | none => some (s.namedFn w.inst 0 0)
  else some (w.u16 0)

/-- A flask names another function (R58). -/
def fnOutside : State → Waybill → Nat → Bool := fun _ w f => w.u16 0 != f

/-- The named work queue as the object a waybill acts on (02 R76). -/
def wqObj (s : State) (w : Waybill) : Option Obj := (s.namedWq (w.u16 0) (w.u16 2)).map (fun g => ⟨.workQueue, g⟩)

/-- The named completion queue as the object a waybill acts on. -/
def cqObj (s : State) (w : Waybill) : Option Obj := (s.namedCq (w.u16 0) (w.u16 2)).map (fun g => ⟨.compQueue, g⟩)

/-- An F-class opcode on a named work queue. -/
def wqMeta (op n res : Nat) : OpMeta :=
  { opcode := op, cls := .f, lenOk := len n, maxRes := res, flaskMay := true, fnOf := wqFn, outside := fnOutside,
    obj := wqObj, touches := wqFn }

/-- An F-class opcode on a named completion queue. -/
def cqMeta (op n res : Nat) : OpMeta :=
  { opcode := op, cls := .f, lenOk := len n, maxRes := res, flaskMay := true, fnOf := cqFn, outside := fnOutside,
    obj := cqObj, touches := cqFn }

/-- An opcode on a named work queue: BAD_PARAM when none has that number. -/
def onWq (f : Nat → WorkQ → WbBody) : WbBody := fun w s =>
  match s.namedWq (w.u16 0) (w.u16 2) with
  | none => fail .badParam s
  | some g => match s.wq? g with
    | none => fail .badParam s
    | some q => f g q w s

/-- An opcode on a named completion queue. -/
def onCq (f : Nat → CompQ → WbBody) : WbBody := fun w s =>
  match s.namedCq (w.u16 0) (w.u16 2) with
  | none => fail .badParam s
  | some g => match s.cq? g with
    | none => fail .badParam s
    | some q => f g q w s

/-! Creating and destroying queues (R197, R201, R204) -/

/-- The lowest number not in a list. -/
def lowestFree (used : List Nat) : Nat := ((List.range (used.length + 1)).find? (fun n => !used.contains n)).getD 0

/-- A field of WQ_CREATE's parameters is out of range or misaligned (R204). -/
def wqFieldsBad (w : Waybill) : Bool :=
  let kind := w.u8 2
  decide (3 < kind) || decide (w.u8 3 < 6) || decide (15 < w.u8 3) || w.u64 4 % 64 != 0 || w.u64 12 % 8 != 0
    || w.u8 22 == 0 || w.u8 23 == 0 || decide (64 < w.u8 23) || (decide (1000 < w.u16 24) && w.u16 24 != 0xFFFF)
    || decide (1 < w.u8 26) || (w.u8 26 != 0 && kind != 1)

/-- A default TM queue that a function may name: none, or an existing queue of the operator or of the function
(log entry 13). -/
def State.tmqNameBad (s : State) (own t : Nat) : Bool :=
  t != 0xFFFF && (match s.tmq? t with
    | none => true
    | some x => x.owner != 0 && x.owner != own)

/-- The function a create opcode names: it must exist (R682, R204). -/
def createFn (link : Nat → Nat) (s : State) (w : Waybill) : Option Nat :=
  let f := w.u16 0
  let l := link 0
  if 4096 ≤ f ∨ s.linkBad w.inst f l then none else some (s.namedFn w.inst f l)

def wqCreateMeta : OpMeta :=
  { opcode := 0x0300, cls := .f, lenOk := len 32, maxRes := 4, flaskMay := true, outside := fnOutside,
    fnOf := fun s w => some (s.namedFn w.inst (w.u16 0) (w.u8 30)),
    touches := fun s w => some (s.namedFn w.inst (w.u16 0) (w.u8 30)) }

/-- WQ_CREATE (R197, R204): the queue starts ENABLED with every index 0. -/
def wqCreateBody : WbBody := fun w s =>
  match createFn (fun _ => w.u8 30) s w with
  | none => fail .badParam s
  | some fn =>
    let own := flaskNo fn
    let kind := w.u8 2
    match s.namedCq (w.u16 0) (w.u16 20) with
    | none => fail .badParam s
    | some c =>
      let sameFn := match s.cq? c with | some k => k.fn == fn | none => false
      if wqFieldsBad w || !sameFn || s.tmqNameBad own (w.u16 28) then fail .badParam s
      else
        let mine := s.qm.wqs.filter (fun x => x.2.fn == fn)
        let full := if isPf0 fn then s.fld Reg.QM_WQ_FREE 16 0 == 0 else decide (u16 (s.fn fn).quota 0 ≤ mine.length)
        if full then fail .noResource s
        else
          let g := lowestFree (s.qm.wqs.map (·.1))
          let n := if isPf0 fn then g else lowestFree (mine.map (·.2.localNo))
          let q : WorkQ :=
            { fn := fn, localNo := n, kind := kind, sizeLog2 := w.u8 3, base := w.u64 4, mirror := w.u64 12, cq := c,
              weight := w.u8 22, burst := w.u8 23, holdUs := holdOf (w.u16 24), mode := w.u8 26, tmq := w.u16 28,
              chan := g % 96 }
          .done .ok (leBytes 2 n ++ zeros 2) (s.setWq g q).queueCounts

def execWqCreate (w : Waybill) (s : State) : Host.Outcome State Fault Refusal := waybillCmd wqCreateMeta wqCreateBody w s

def wqDestroyMeta : OpMeta := wqMeta 0x0301 4 0

/-- Remove work queue g. -/
def State.dropWq (s : State) (g : Nat) : State :=
  { s with qm := { s.qm with wqs := SMap.del s.qm.wqs g } }.queueCounts

/-- WQ_DESTROY (R201): only a SHUT queue. -/
def wqDestroyBody : WbBody := onWq fun g q _ s =>
  if q.st ≠ 4 then fail .busy s else .done .ok [] (s.dropWq g)

def execWqDestroy (w : Waybill) (s : State) : Host.Outcome State Fault Refusal := waybillCmd wqDestroyMeta wqDestroyBody w s

/-! Query and modify (R204) -/

/-- The number of a completion queue as its owner sees it. -/
def State.cqLocal (s : State) (c : Nat) : Nat := match s.cq? c with | some k => k.localNo | none => 0

/-- The WQ_QUERY result. -/
def State.wqQuery (s : State) (q : WorkQ) : List Byte :=
  leBytes 2 (flaskNo q.fn) ++ leBytes 1 q.kind ++ leBytes 1 q.st ++ leBytes 1 q.sizeLog2 ++ leBytes 1 q.weight
    ++ leBytes 1 q.burst ++ leBytes 1 q.mode ++ leBytes 2 q.prod ++ leBytes 2 q.accepted ++ leBytes 2 q.completed
    ++ leBytes 2 (s.cqLocal q.cq) ++ leBytes 2 q.holdUs ++ leBytes 2 q.rx.length ++ leBytes 8 q.noBuffer
    ++ leBytes 4 q.oversize

def wqModifyMeta : OpMeta := wqMeta 0x0302 12 32

/-- WQ_MODIFY (R204): the fields its mask selects; the result is the query before the change. -/
def wqModifyBody : WbBody := onWq fun g q w s =>
  let m := w.u8 4
  let h := w.u16 8
  if decide (15 < m) || (m.testBit 0 && w.u8 5 == 0) || (m.testBit 1 && (w.u8 6 == 0 || decide (64 < w.u8 6)))
      || (m.testBit 2 && decide (1000 < h) && h != 0xFFFF) || (m.testBit 3 && s.tmqNameBad (flaskNo q.fn) (w.u16 10)) then
    fail .badParam s
  else
    .done .ok (s.wqQuery q) (s.setWq g
      { q with weight := if m.testBit 0 then w.u8 5 else q.weight, burst := if m.testBit 1 then w.u8 6 else q.burst,
               holdUs := if m.testBit 2 then holdOf h else q.holdUs, tmq := if m.testBit 3 then w.u16 10 else q.tmq })

def execWqModify (w : Waybill) (s : State) : Host.Outcome State Fault Refusal := waybillCmd wqModifyMeta wqModifyBody w s

def wqQueryMeta : OpMeta := { wqMeta 0x0307 4 32 with cls := .r, obj := fun _ _ => none }

def wqQueryBody : WbBody := onWq fun _ q _ s => .done .ok (s.wqQuery q) s

def execWqQuery (w : Waybill) (s : State) : Host.Outcome State Fault Refusal := waybillCmd wqQueryMeta wqQueryBody w s

/-! Pause, resume, resize, shutdown (R198-R200) -/

/-- The device's completion timeout for an encoding, in ns (04 R156). -/
def ctoNs (e : Nat) : Nat :=
  if e = 1 then 80000 else if e = 2 then 8000000 else if e = 5 then 40000000 else if e = 6 then 160000000
  else if e = 9 then 640000000 else if e = 10 then 2500000000 else if e = 13 then 10000000000
  else if e = 14 then 50000000000 else 40000000

/-- The completion timeout of a function. -/
def State.fnCto (s : State) (fn : Nat) : Nat := ctoNs (s.link (s.linkOf fn)).cto

def wqPauseMeta : OpMeta := { wqMeta 0x0303 4 0 with canPend := true }

/-- WQ_PAUSE (R198): no new fetch reads; PENDING until none is outstanding. In SHUTTING or SHUT it has no effect and
answers OK (log entry 14). -/
def wqPauseBody : WbBody := onWq fun g q _ s =>
  if 3 ≤ q.st then .done .ok [] s
  else
    let s1 := s.setWq g { q with st := 2, pauseAt := s.now + s.fnCto q.fn + 1000000 }
    if q.reads.isEmpty then .done .ok [] s1
    else .pend (.wqPause g) (s.fnCto q.fn + 1000000) (some ⟨.workQueue, g⟩) s1

def execWqPause (w : Waybill) (s : State) : Host.Outcome State Fault Refusal := waybillCmd wqPauseMeta wqPauseBody w s

/-- WQ_PAUSE_DONE (R198): the last outstanding fetch read has returned, or the limit passes (TIMEOUT). -/
def execWqPauseDone (q : Nat) (s : State) : Host.Outcome State Fault Refusal :=
  finish (match s.wq? q with
    | none => s
    | some x =>
      if !s.waits (.wqPause q) then s
      else if x.reads.isEmpty then s.completeWait (.wqPause q) .ok []
      else (s.at x.pauseAt).completeWait (.wqPause q) .timeout [])

def wqResumeMeta : OpMeta := wqMeta 0x0304 4 0

/-- WQ_RESUME (R198): PAUSED becomes ENABLED; any other state is left alone. -/
def wqResumeBody : WbBody := onWq fun g q _ s =>
  .done .ok [] (if q.st = 2 then (s.setWq g { q with st := 1 }).noteStall g else s)

def execWqResume (w : Waybill) (s : State) : Host.Outcome State Fault Refusal := waybillCmd wqResumeMeta wqResumeBody w s

def wqResizeMeta : OpMeta := wqMeta 0x0305 16 0

/-- WQ_RESIZE (R199): only a PAUSED queue; the new ring must hold what is posted. -/
def wqResizeBody : WbBody := onWq fun g q w s =>
  let k := w.u8 4
  if q.st ≠ 2 then fail .busy s
  else if k < 6 ∨ 15 < k ∨ w.u64 8 % 64 ≠ 0 ∨ 2 ^ k < idxSub q.prod q.completed then fail .badParam s
  else .done .ok [] (s.setWq g { q with sizeLog2 := k, base := w.u64 8 })

def execWqResize (w : Waybill) (s : State) : Host.Outcome State Fault Refusal := waybillCmd wqResizeMeta wqResizeBody w s

def wqShutdownMeta : OpMeta := { wqMeta 0x0306 4 4 with canPend := true }

/-- WQ_SHUTDOWN (R200): steps 1-3 at once; the final reply comes with WQ_SHUTDOWN_DONE. -/
def wqShutdownBody : WbBody := onWq fun g q _ s =>
  if q.st = 4 then .done .ok (leBytes 4 0) s
  else
    let s1 := if q.st = 3 then s
      else (s.setWq g { q with st := 3, aborted := 0, shutAt := s.now + 2000000 }).endEntries g
    .pend (.wqShutdown g) 2000000 (some ⟨.workQueue, g⟩) s1

def execWqShutdown (w : Waybill) (s : State) : Host.Outcome State Fault Refusal :=
  waybillCmd wqShutdownMeta wqShutdownBody w s

/-- WQ_SHUTDOWN_DONE (R200 step 4): every entry has ended: commits and completions in entry order, the mirror, SHUT, the
reply. A frame still on the wire, a stopped ledger or a function that may not write delays it. -/
def execWqShutdownDone (q : Nat) (s : State) : Host.Outcome State Fault Refusal :=
  finish (match s.wq? q with
    | none => s
    | some x =>
      if x.st ≠ 3 ∨ s.commitsStopped ∨ !s.fnServes x.fn then s
      else
        let s1 := s.commitAll q
        if !s1.allCommitted q then s
        else
          let s2 := s1.writeDone q false false
          match s2.wq? q with
          | none => s2
          | some y =>
            let s3 := (s2.setWq q { y with st := 4 }).writeMirror q
            s3.completeWait (.wqShutdown q) .ok (leBytes 4 y.aborted))

/-! Completion queues (R195, R196, R201, R204) -/

/-- A vector beyond what the function has (R195). -/
def State.vectorBad (s : State) (fn v : Nat) : Bool := decide ((if isPf0 fn then 2048 else u8 (s.fn fn).quota 4) ≤ v)

/-- VECTOR, MOD_COUNT, MOD_TIME_US out of range (R195). -/
def State.cqParamsBad (s : State) (fn v c t : Nat) : Bool :=
  s.vectorBad fn v || c == 0 || decide (256 < c) || decide (1023 < t)

def cqCreateMeta : OpMeta :=
  { opcode := 0x0310, cls := .f, lenOk := len 24, maxRes := 4, flaskMay := true, outside := fnOutside,
    fnOf := fun s w => some (s.namedFn w.inst (w.u16 0) (w.u8 18)),
    touches := fun s w => some (s.namedFn w.inst (w.u16 0) (w.u8 18)) }

/-- CQ_CREATE (R196): ARMED, whatever AUTO_ARM holds. -/
def cqCreateBody : WbBody := fun w s =>
  match createFn (fun _ => w.u8 18) s w with
  | none => fail .badParam s
  | some fn =>
    if w.u8 2 < 6 ∨ 15 < w.u8 2 ∨ w.u64 4 % 128 ≠ 0 ∨ s.cqParamsBad fn (w.u16 12) (w.u16 14) (w.u16 16) = true then
      fail .badParam s
    else
      let mine := s.qm.cqs.filter (fun x => x.2.fn == fn)
      let full := if isPf0 fn then s.fld Reg.QM_CQ_FREE 16 0 == 0 else decide (u16 (s.fn fn).quota 2 ≤ mine.length)
      if full then fail .noResource s
      else
        let g := lowestFree (s.qm.cqs.map (·.1))
        let n := if isPf0 fn then g else lowestFree (mine.map (·.2.localNo))
        let k : CompQ :=
          { fn := fn, localNo := n, sizeLog2 := w.u8 2, base := w.u64 4, vector := w.u16 12, modCount := w.u16 14,
            modTimeUs := w.u16 16, autoArm := (w.u8 3).testBit 0 }
        .done .ok (leBytes 2 n ++ zeros 2) (s.setCq g k).queueCounts

def execCqCreate (w : Waybill) (s : State) : Host.Outcome State Fault Refusal := waybillCmd cqCreateMeta cqCreateBody w s

def cqDestroyMeta : OpMeta := cqMeta 0x0311 4 0

/-- Remove completion queue g. -/
def State.dropCq (s : State) (g : Nat) : State :=
  { s with qm := { s.qm with cqs := SMap.del s.qm.cqs g } }.queueCounts

/-- Work queues bound to completion queue g. -/
def State.boundTo (s : State) (g : Nat) : Nat := (s.qm.wqs.filter (fun x => x.2.cq == g)).length

/-- CQ_DESTROY (R201): BUSY while a work queue is bound. -/
def cqDestroyBody : WbBody := onCq fun g _ _ s =>
  if s.boundTo g ≠ 0 then fail .busy s else .done .ok [] (s.dropCq g)

def execCqDestroy (w : Waybill) (s : State) : Host.Outcome State Fault Refusal := waybillCmd cqDestroyMeta cqDestroyBody w s

def cqModifyMeta : OpMeta := cqMeta 0x0312 12 0

/-- CQ_MODIFY (R204): AUTO_ARM 1 arms the queue (R196); entries waiting are signalled then. -/
def cqModifyBody : WbBody := onCq fun g k w s =>
  if s.cqParamsBad k.fn (w.u16 6) (w.u16 8) (w.u16 10) then fail .badParam s
  else
    let a := (w.u8 4).testBit 0
    let k1 := { k with autoArm := a, vector := w.u16 6, modCount := w.u16 8, modTimeUs := w.u16 10, armed := k.armed || a }
    .done .ok [] (if a && !k.armed && k.since != 0 then s.cqMessage g k1 else s.setCq g k1)

def execCqModify (w : Waybill) (s : State) : Host.Outcome State Fault Refusal := waybillCmd cqModifyMeta cqModifyBody w s

/-- The CQ_QUERY result. -/
def State.cqQuery (s : State) (g : Nat) (k : CompQ) : List Byte :=
  leBytes 2 (flaskNo k.fn) ++ [1] ++ leBytes 1 k.sizeLog2 ++ leBytes 2 k.widx ++ leBytes 2 k.cidx ++ leBytes 2 k.vector
    ++ leBytes 1 (bitVal k.armed 0 + bitVal k.autoArm 1) ++ zeros 1 ++ leBytes 2 k.modCount ++ leBytes 2 k.modTimeUs
    ++ leBytes 2 (s.boundTo g) ++ zeros 2 ++ leBytes 4 k.stalls ++ zeros 8

def cqQueryMeta : OpMeta := { cqMeta 0x0313 4 32 with cls := .r, obj := fun _ _ => none }

def cqQueryBody : WbBody := onCq fun g k _ s => .done .ok (s.cqQuery g k) s

def execCqQuery (w : Waybill) (s : State) : Host.Outcome State Fault Refusal := waybillCmd cqQueryMeta cqQueryBody w s

def qmSetParamsMeta : OpMeta := { opcode := 0x0320, cls := .d, lenOk := len 4, maxRes := 4 }

/-- QM_SET_PARAMS (R202, R204). -/
def qmSetParamsBody : WbBody := fun w s =>
  let p := w.u8 0
  let h := w.u8 1
  if p = 0 ∨ 64 < p ∨ h = 0 then fail .badParam s
  else
    let old := s.regN Reg.QM_CTRL
    .done .ok (leBytes 1 (bits old 15 8) ++ leBytes 1 (bits old 23 16) ++ zeros 2)
      (s.setCfg 3 Reg.QM_CTRL (h * 65536 + p * 256))

def execQmSetParams (w : Waybill) (s : State) : Host.Outcome State Fault Refusal :=
  waybillCmd qmSetParamsMeta qmSetParamsBody w s

/-- QCTX_DATA0-7 (R202): the selected queue's query result. -/
def State.qctxData (s : State) (i : Nat) : Nat :=
  let g := s.fld Reg.QCTX_SEL 15 0
  let l := if s.flag Reg.QCTX_SEL 31 then (match s.cq? g with | some k => s.cqQuery g k | none => [])
    else (match s.wq? g with | some q => s.wqQuery q | none => [])
  u32 l (i * 4)

end Sys2Proof.Machine
end

