-- ==== Sys2Proof/Machine/Ledger.lean ====
section
/-!
DEFINITION. Faults of the ledger: rows, double faults, lost halves and their return (06 R230-R237).
-/

namespace Sys2Proof.Machine

open Sys2Proof

/-- Bits of LG_STATE for half A (false) or B: the state field's low bit and the LOST bit (R239). -/
def halfField (b : Bool) : Nat := if b then 6 else 4
def halfLostBit (b : Bool) : Nat := if b then 9 else 8

/-- A half's state field: 0 WHOLE, 1 REPAIRING, 2 COPYING, 3 IN_DRAM (R239). -/
def State.halfState (s : State) (b : Bool) : Nat := s.fld Reg.LG_STATE (halfField b + 1) (halfField b)

/-- Set a half's state field. -/
def State.setHalf (s : State) (b : Bool) (v : Nat) : State := s.setFld Reg.LG_STATE (halfField b + 1) (halfField b) v

/-- Set a half's LOST bit. -/
def State.setLost (s : State) (b : Bool) (v : Bool) : State :=
  s.setFld Reg.LG_STATE (halfLostBit b) (halfLostBit b) (if v then 1 else 0)

/-- Stop or resume commits. -/
def State.setPaused (s : State) (v : Bool) : State := s.setFld Reg.LG_STATE 3 3 (if v then 1 else 0)

/-- A half is whole, or lost with its mirror IN_DRAM (R237). -/
def State.halfGood (s : State) (b : Bool) : Bool :=
  if s.halfLost b then s.halfState b == 3 else s.halfState b == 0

/-- GUARANTEE follows the state of the halves and the channels' ECC_EN (R237, 16 R535). -/
def State.lgSync (s : State) : State :=
  let ecc := (List.range 4).all (fun c => s.flag (Reg.DC_CTRL c) 31)
  s.setFld Reg.LG_STATE 1 1 (if s.halfGood false && s.halfGood true && ecc then 1 else 0)

/-- MIRROR_ROW_ERROR (R230): a corrected error is counted; an uncorrectable one is served from the other mirror while the
half shows REPAIRING. -/
def execMirrorRowError (half : Bool) (row : Nat) (uncorr : Bool) (s : State) : Host.Outcome State Fault Refusal :=
  finish (
    if s.halfLost half then s
    else if !uncorr then (s.bump Reg.LG_ECC_CORR).raise Ev.lg 0
    else
      let s1 := { s with lg := { s.lg with rows := s.lg.rows ++ [(RowFault.mk half row (s.now + 10000000))] } }
      (if s1.halfState half = 0 then s1.setHalf half 1 else s1).lgSync)

/-- ROW_REPAIR_DONE (R230): the new row has been checked against the other mirror. -/
def execRowRepairDone (half : Bool) (row : Nat) (s : State) : Host.Outcome State Fault Refusal :=
  finish (
    if !(s.lg.rows.any (fun r => r.half == half && r.row == row)) then s
    else
      let rest := s.lg.rows.filter (fun r => !(r.half == half && r.row == row))
      let s1 := { s with lg := { s.lg with rows := rest } }
      let s2 := if s1.halfState half = 1 && !(rest.any (fun r => r.half == half)) then s1.setHalf half 0 else s1
      s2.lgSync.raise Ev.lg 1)

/-- One entry whose record is lost in both mirrors (R231): its work stops, the host is asked for the entry again, and it
completes ABORTED with BYTE_COUNT 0 and LEDGER_SEQ 0. An entry not yet accepted only gives its record back (R241). -/
def State.loseEntry (s : State) (g i : Nat) : State :=
  match s.wq? g with
  | none => s
  | some q => match q.entry? i with
    | none => s
    | some e =>
      let s1 := match e.frame with
        | some h => s.endFrame h
        | none => s
      if !e.acc then
        (match s1.wq? g with
         | none => s1
         | some q1 => (s1.setWq g { q1 with entries := q1.entries.filter (fun x => x.idx != i) }).freeRecord e.slot)
      else
        let s2 := s1.modEntry g i (fun e => { e with lost := true, reqs := [], won := some { status := cAborted } })
        let s3 := s2.emit (.hostRead q.fn (q.base + (i % q.size) * 64) 64)
        ((s3.bump Reg.LG_DF_COUNT).setRegN Reg.LG_DF_INFO (g % 65536 * 65536 + i % 65536)).raiseSev Ev.lg 4 2

/-- The queue-table entry of queue g is lost in both mirrors (R231): every accepted entry ends and the queue is SHUT. -/
def State.loseQueue (s : State) (g : Nat) : State :=
  match s.wq? g with
  | none => s
  | some q =>
    let s1 := q.entries.foldl (fun t e => t.loseEntry g e.idx) s
    match s1.wq? g with
    | none => s1
    | some q1 => s1.setWq g { q1 with st := 4, reads := q1.reads.map (fun r => { r with discard := true }),
                                      fetched := q1.accepted }

/-- DOUBLE_FAULT (R231): the record of an entry (some index) or the queue-table entry (none) is lost in both mirrors. -/
def execDoubleFault (q : Nat) (idx : Option Nat) (s : State) : Host.Outcome State Fault Refusal :=
  finish (match idx with
    | some i => s.loseEntry q i
    | none => s.loseQueue q)

/-- A half is lost (R232, R233): commits stop; the other half is the arbiter; it copies its mirror into the fallback area when
FALLBACK_EN is set and DRAM is in service. -/
def State.loseHalf (s : State) (half : Bool) : State :=
  if s.halfLost half then s
  else
    let s1 := ((s.setLost half true).setPaused true).setHalf half 0
    let both := s1.halfLost (!half)
    let s2 := if both then { s1 with lg := { s1.lg with copying := none, restoring := none,
                                                        rows := s1.lg.rows.filter (fun r => r.half != half) } }
      else
        let t := s1.setFld Reg.LG_STATE 2 2 (if half then 0 else 1)
        let t1 := { t with lg := { t.lg with rows := t.lg.rows.filter (fun r => r.half != half), fallbackWhole := false } }
        if t1.flag Reg.LG_CTRL 0 && t1.dramUp then
          { t1.setHalf half 2 with lg := { t1.lg with copying := some half } }
        else t1
    (s2.lgSync).raiseSev Ev.lg 2 2

/-- HALF_LOST (R232). -/
def execHalfLost (half : Bool) (s : State) : Host.Outcome State Fault Refusal := finish (s.loseHalf half)

/-- FALLBACK_COPY_DONE (R232 step 3): the fallback area is the second mirror; commits resume. -/
def execFallbackCopyDone (s : State) : Host.Outcome State Fault Refusal :=
  finish (match s.lg.copying with
    | none => s
    | some h =>
      let s1 := { s with lg := { s.lg with copying := none, inDram := some h, fallbackWhole := true } }
      ((s1.setHalf h 3).setPaused false).lgSync)

/-- Every record is lost in both mirrors (R233): every accepted entry of every queue ends under R231, every queue is SHUT. -/
def State.loseAll (s : State) : State := s.qm.wqs.foldl (fun t x => t.loseQueue x.1) s

/-- HALF_DOMAIN_RETURN (R233): the lost half's mirror is copied back or rebuilt; after the loss of both halves it becomes
the arbiter, and without a whole copy in the fallback area it restarts empty. -/
def execHalfDomainReturn (half : Bool) (s : State) : Host.Outcome State Fault Refusal :=
  finish (
    if !s.halfLost half || s.lg.restoring.isSome || !s.pdOn (if half then 43 else 1) then s
    else
      let both := s.halfLost (!half)
      let s1 := if both then s.setFld Reg.LG_STATE 2 2 (if half then 1 else 0) else s
      let s2 := if both && !s1.lg.fallbackWhole then s1.loseAll else s1
      ({ s2.setHalf half 2 with lg := { s2.lg with restoring := some half } }).lgSync)

/-- HALF_RESTORE_DONE (R233): the half is whole again; commits resume; HALF_RESTORED is raised. -/
def execHalfRestoreDone (half : Bool) (s : State) : Host.Outcome State Fault Refusal :=
  finish (
    if s.lg.restoring ≠ some half then s
    else
      let s1 := { s with lg := { s.lg with restoring := none, inDram := (if s.lg.inDram = some half then none else s.lg.inDram),
                                           fallbackWhole := false } }
      ((((s1.setLost half false).setHalf half 0).setPaused false).lgSync).raise Ev.lg 3)

end Sys2Proof.Machine
end

