-- ==== Sys2Proof/Machine/Dram.lean ====
section
/-!
DEFINITION. The DRAM channels' events and opcodes (16 R529-R545).
-/

namespace Sys2Proof.Machine

open Sys2Proof

/-- The channel serves requests: in service and among those in use. -/
def State.dramServes (s : State) (c : Nat) : Bool := s.inService (15 + c) && s.dr.used.contains c

/-- DRAM_REQUEST (R529): the requests given wait behind those that wait; the channel serves the oldest of the highest class. -/
def execDramRequest (channel : Nat) (reqs : List DramReq) (s : State) : Host.Outcome State Fault Refusal :=
  finish (
    if !s.dramServes channel then s
    else
      let x := s.chan channel
      let l := x.reqs ++ reqs.filter (fun q => decide (1 ≤ q.cls) && decide (q.cls ≤ 6))
      match nextReq l with
      | none => s
      | some q => (s.setChan channel { x with reqs := l.erase q }).serveReq channel q)

/-- REFRESH (R531, R532): issued with every postponed one, or postponed while the panic level is raised, up to the limit; the activate
tables clear with the window of 8,192 intervals (limit and window: log entry 37). -/
def execRefresh (channel rank : Nat) (s : State) : Host.Outcome State Fault Refusal :=
  finish (
    if !s.dramServes channel || s.rankSt channel rank == 0 then s
    else
      let x := s.chan channel
      let n := SMap.getD x.intervals rank 0 + 1
      let fresh := decide (8192 ≤ n)
      let x1 := { x with intervals := SMap.put x.intervals rank (if fresh then 0 else n),
                         acts := if fresh then x.acts.filter (fun e => e.1 / 32 != rank) else x.acts }
      let owed := SMap.getD x.owed rank 0
      let lim := if x.x2.contains rank then 8 else 4
      if s.flag Reg.TM_STATE 1 && decide (owed < lim) then
        (s.setChan channel { x1 with owed := SMap.put x.owed rank (owed + 1) }).bump (Reg.DC_REF_POSTPONED channel)
      else
        let keep := if s.flag Reg.TM_STATE 1 then owed else 0
        (s.setChan channel { x1 with owed := SMap.put x.owed rank keep, opened := x.opened.filter (fun e => e.1 / 32 != rank) }).emit
          (.dramCmd channel rank 0 (owed - keep + 1)))

/-- MR4_READ (R531): the temperature of each rank in degrees C sets its refresh mode; above 95 C raises TEMP_HIGH. -/
def execMr4Read (channel : Nat) (temps : List Nat) (s : State) : Host.Outcome State Fault Refusal :=
  finish (
    if !s.dramServes channel then s
    else
      let rs := (List.range 4).filter (fun r => s.rankSt channel r != 0)
      let x2 := rs.filter (fun r => decide (85 < temps.getD r 0))
      let hot := rs.filter (fun r => decide (95 < temps.getD r 0))
      let s1 := s.setChan channel { s.chan channel with x2 := x2, hot := hot }
      let s2 := s1.setFld (Reg.DC_STATE channel) 29 29 (if x2.isEmpty then 0 else 1)
      if hot.isEmpty then s2.causeOff (Ev.dc channel) 7 else s2.causeOn (Ev.dc channel) 7)

/-- DRAM_CORRECTABLE_ERROR (R536). -/
def execDramCorrectableError (line : Nat) (s : State) : Host.Outcome State Fault Refusal :=
  finish (if s.dramServes (s.dramChannel (line * 64)) && !s.dr.down then s.dramCe line else s)

/-- DRAM_UNCORRECTABLE_ERROR (R537). -/
def execDramUncorrectableError (line : Nat) (use : DramUse) (s : State) : Host.Outcome State Fault Refusal :=
  finish (if s.dramServes (s.dramChannel (line * 64)) then s.dramUe line use else s)

/-- The offset ÷ 64 of line k of a channel's share: the offset whose channel and share byte these are (R526). -/
def State.lineOf (s : State) (c k : Nat) : Nat :=
  let n := max 1 s.dr.used.length
  let base := k / 4 * (4 * n)
  match (List.range n).find? (fun i => s.dramChannel ((base + i * 4) * 64) == c) with
  | some i => base + i * 4 + k % 4
  | none => base + k % 4

/-- PATROL_SCRUB (R538, R546): the next active line is read; slices ahead of a copy pointer are skipped. -/
def execPatrolScrub (channel : Nat) (s : State) : Host.Outcome State Fault Refusal :=
  finish (
    if !s.dramServes channel || s.dr.down || s.fld (Reg.DC_CTRL channel) 23 16 == 0 then s
    else
      let x := s.chan channel
      let lines := x.map.length * 2 ^ 22
      if lines = 0 then s
      else
        let k := x.scrub
        let last := decide (lines ≤ k + 1)
        let s1 := s.setChan channel { x with scrub := if last then 0 else k + 1 }
        let s2 := if last then s1.bump (Reg.DC_SCRUB_PASSES channel) else s1
        let line := s2.lineOf channel k
        let ahead := match x.mig with
          | some m => m.todo.any (fun d => d.1 == s.dramSlice (line * 64))
          | none => false
        if ahead || !s.dramHas (line * 64) then s2 else s2.lineFound line)

/-- RETRAIN_MS as it acts, in ns (R543). -/
def State.dramRetrainNs (s : State) (c : Nat) : Nat := min 1024 (max 16 (s.fld (Reg.DC_CTRL2 c) 10 0)) * 1000000

/-- One retraining round; ranks that drift beyond correction are retired (R534). -/
def State.retrainRound (s : State) (c : Nat) (drifted : List Nat) : State :=
  drifted.foldl (fun (t : State) r => if t.rankSt c r = 1 then (t.raise (Ev.dc c) 6).rankRetire c r 1 else t)
    ((s.bump (Reg.DC_RETRAINS c)).emit (.dramCmd c 0 2 0))

/-- RETRAIN_ROUND (R534): the period is over; a round runs, or is deferred for up to four periods while the panic level is raised. -/
def execRetrainRound (channel : Nat) (drifted : List Nat) (s : State) : Host.Outcome State Fault Refusal :=
  finish (
    if !s.dramServes channel then s
    else
      let x := s.chan channel
      let s1 := s.at x.retrainAt
      let next := x.retrainAt + s.dramRetrainNs channel
      if s1.flag Reg.TM_STATE 1 && decide (x.deferred < 4) then
        s1.setChan channel { x with retrainAt := next, deferred := x.deferred + 1 }
      else (s1.setChan channel { x with retrainAt := next, deferred := 0 }).retrainRound channel drifted)

/-- MIGRATION_STEP (R540). -/
def execMigrationStep (channel : Nat) (s : State) : Host.Outcome State Fault Refusal :=
  finish (if s.dramServes channel && !s.dr.down then s.migStep channel else s)

/-! Opcodes (R545) -/

def dcQueryMeta : OpMeta := { opcode := 0x0C00, cls := .r, lenOk := len 4, maxRes := 48 }

/-- DC_STATE with PANIC, which follows the spill port's panic level (R543). -/
def State.dcState (s : State) (c : Nat) : Nat := setBits (s.regN (Reg.DC_STATE c)) 30 30 (if s.flag Reg.TM_STATE 1 then 1 else 0)

def dcQueryBody : WbBody := fun w s =>
  let c := w.u8 0
  if 3 < c then fail .badParam s
  else .done .ok (leBytes 4 (s.regN (Reg.DC_CFG c)) ++ leBytes 4 (s.dcState c) ++ leBytes 4 (s.regN (Reg.DC_MIG c))
      ++ leBytes 4 (s.regN (Reg.DC_CAP c)) ++ leBytes 8 (s.reg64 (Reg.DC_RD_BYTES c)) ++ leBytes 8 (s.reg64 (Reg.DC_WR_BYTES c))
      ++ leBytes 4 (s.regN (Reg.DC_CE_COUNT c)) ++ leBytes 4 (s.regN (Reg.DC_UE_COUNT c)) ++ leBytes 4 (s.regN (Reg.DC_NREF c)) ++ zeros 4) s

def execDcQuery (w : Waybill) (s : State) : Host.Outcome State Fault Refusal := waybillCmd dcQueryMeta dcQueryBody w s

def dcSetParamsMeta : OpMeta := { opcode := 0x0C01, cls := .d, lenOk := len 12, maxRes := 8 }

/-- New values of a channel's DC_CTRL and DC_CTRL2; the ledger's guarantee follows ECC_EN (R535). -/
def State.setDcCtrl (s : State) (c ctrl ctrl2 : Nat) : State :=
  ((s.setCfg (15 + c) (Reg.DC_CTRL c) ctrl).setCfg (15 + c) (Reg.DC_CTRL2 c) (setBits ctrl2 15 11 0)).lgSync

def dcSetParamsBody : WbBody := fun w s =>
  let cs := (List.range 4).filter (fun c => (w.u32 0).testBit c)
  match cs with
  | [] => fail .badParam s
  | c :: _ => .done .ok (leBytes 4 (s.regN (Reg.DC_CTRL c)) ++ leBytes 4 (s.regN (Reg.DC_CTRL2 c)))
      (cs.foldl (fun (t : State) d => t.setDcCtrl d (w.u32 4) (w.u32 8)) s)

def execDcSetParams (w : Waybill) (s : State) : Host.Outcome State Fault Refusal := waybillCmd dcSetParamsMeta dcSetParamsBody w s

def dcRankRetireMeta : OpMeta :=
  { opcode := 0x0C02, cls := .d, lenOk := len 4, maxRes := 8, canPend := true,
    obj := fun _ w => some ⟨.rank, w.u8 0 * 4 + w.u8 1⟩ }

def dcRankRetireBody : WbBody := fun w s =>
  let c := w.u8 0
  let r := w.u8 1
  if 3 < c ∨ 3 < r then fail .badParam s
  else if s.rankSt c r != 1 then fail .busy s
  else
    let t := s.rankRetire c r 3
    if t.dr.down then .done .ok (zeros 8) t
    else .pend (.rankRetire c r) (1000000000 + s.chanRankGib c * 1073741824 / s.migGbps c) (some ⟨.rank, c * 4 + r⟩) t

def execDcRankRetire (w : Waybill) (s : State) : Host.Outcome State Fault Refusal := waybillCmd dcRankRetireMeta dcRankRetireBody w s

def dcRetrainMeta : OpMeta := { opcode := 0x0C03, cls := .d, lenOk := len 4, maxRes := 0 }

def dcRetrainBody : WbBody := fun w s =>
  .done .ok [] ((List.range 4).foldl (fun (t : State) c =>
    if (w.u32 0).testBit c && t.dramServes c then
      (t.setChan c { t.chan c with retrainAt := t.now + t.dramRetrainNs c, deferred := 0 }).retrainRound c [] else t) s)

def execDcRetrain (w : Waybill) (s : State) : Host.Outcome State Fault Refusal := waybillCmd dcRetrainMeta dcRetrainBody w s

def dcErrInjectMeta : OpMeta := { opcode := 0x0C04, cls := .d, lenOk := len 12, maxRes := 0 }

def dcErrInjectBody : WbBody := fun w s =>
  let k := w.u8 4
  if k < 1 ∨ 2 < k ∨ s.dramHas (w.u32 0 * 64) = false then fail .badParam s
  else
    let code := if k = 1 then 1 else if (w.u8 5).testBit 0 then 3 else 2
    .done .ok [] { s with dr := { s.dr with inject := SMap.put s.dr.inject (w.u32 0) code } }

def execDcErrInject (w : Waybill) (s : State) : Host.Outcome State Fault Refusal := waybillCmd dcErrInjectMeta dcErrInjectBody w s

end Sys2Proof.Machine
end

