-- ==== Sys2Proof/Machine/Drives.lean ====
section
/-!
DEFINITION. Drive ports and storage: block entries, drives, NVMe/TCP, the opcodes 0x0B00-0x0B0B (15).
-/

namespace Sys2Proof.Machine

open Sys2Proof

/-! Block entries (05 R177; R512, R514) -/

/-- Start a block entry with opcode op. -/
def State.blockStart (s : State) (q idx op : Nat) : State :=
  match s.wq? q with
  | none => s
  | some x => match x.canStart idx op with
    | none => s
    | some e =>
      if x.kind ≠ 2 ∨ e.acc = false ∨ s.fnServes x.fn = false ∨ s.inService 14 = false then s
      else if (op = 0x21 ∨ op = 0x22) ∧ e.indirect = true then s.askBuffer q x e false
      else
        let fr := if op = 0x21 ∨ op = 0x22 then [(e.addr 2, e.lenField 2)] else []
        let e1 := { e with started := true, frags := fr }
        let x1 := x.mapEntry idx (fun _ => e1)
        (s.setWq q x1).startParts q x1 e1

def execBlkRead (q idx : Nat) (s : State) : Host.Outcome State Fault Refusal := finish (s.blockStart q idx 0x21)
def execBlkWrite (q idx : Nat) (s : State) : Host.Outcome State Fault Refusal := finish (s.blockStart q idx 0x22)
def execBlkFlush (q idx : Nat) (s : State) : Host.Outcome State Fault Refusal := finish (s.blockStart q idx 0x23)
def execBlkDeallocate (q idx : Nat) (s : State) : Host.Outcome State Fault Refusal := finish (s.blockStart q idx 0x24)
def execBlkWriteZeroes (q idx : Nat) (s : State) : Host.Outcome State Fault Refusal := finish (s.blockStart q idx 0x25)

/-- FRAGMENT_TABLE_RETURN (05 R174, R175): the table is checked; then a SEND asks for its payload, a RECV joins the buffers its queue
holds, a block entry starts its parts. -/
def execFragmentTableReturn (q idx : Nat) (data : List Byte) (s : State) : Host.Outcome State Fault Refusal :=
  finish (match s.tableArrives q idx data with
    | (none, t) => t
    | (some e, t) => match t.wq? q with
      | none => t
      | some x =>
        if x.kind = 0 then
          e.frags.foldl (fun (u : State) f => u.emit (.hostRead x.fn f.1 f.2))
            (t.modEntry q idx (fun y => { y with want := e.total 0 }))
        else if x.kind = 1 then t.rxPump q (x.rx.length + 1)
        else if x.kind = 2 then t.startParts q x e
        else t)

/-! Drive ports (R502-R507) -/

/-- The unit that owns the ports is in service and p is one of them. -/
def State.portOk (s : State) (p : Nat) : Bool := decide (p < 4) && s.inService 14

/-- DRIVE_INSERTED (R505 steps 1, 2). -/
def execDriveInserted (port : Nat) (s : State) : Host.Outcome State Fault Refusal :=
  finish (
    if !s.portOk port || s.flag (Reg.DP_PORT_STAT port) 31 then s
    else
      let s1 := (((s.setFld (Reg.DP_PORT_STAT port) 31 31 1).setDrvSt port 1).setDrive port {}).portEvent port 0 0
      if s1.flag (Reg.DP_PORT_CTRL port) 31 then s1.driveStart port else s1)

/-- DRIVE_START_STEP_DONE (R505 steps 3-8): the condition of the step the port waits in is met. -/
def execDriveStartStepDone (port : Nat) (done : DrvStep) (s : State) : Host.Outcome State Fault Refusal :=
  finish (
    let d := s.drive port
    if !s.portOk port || s.drvSt port != 2 then s
    else
      let a := Reg.DP_PORT_STAT port
      match d.step, done with
      | 1, .powerGood => s.setDrive port { d with step := 2, deadline := s.now + 200000000 }
      | 2, .linkUp sp w =>
        if sp < 1 ∨ 5 < sp ∨ ¬(w = 1 ∨ w = 2 ∨ w = 4) then s
        else (((s.setFld a 29 29 1).setFld a 10 8 w).setFld a 2 0 sp).setDrive port { d with step := 3, deadline := s.now + 100000000 }
      | 3, .waited cap =>
        let t := s.at d.deadline
        (t.setDrive port { d with step := 4, capTo := cap, deadline := t.now + cap * 500000000 }).emit (.nvmeReg port 0 1)
      | 4, .ready => s.setDrive port { d with step := 5, deadline := 0 }
      | 5, .identified serial model ns =>
        let t := s.setDrive port { d with step := 0, serial := fit 20 serial, model := fit 40 model, ns := ns, led := 1 }
        (((t.setDrvSt port 3).portEvent port 2 0).powerDone port).ioPump
      | _, _ => s)

/-- DRIVE_START_STEP_TIMEOUT (R505): the step runs out of time; identification has no limit of its own. -/
def execDriveStartStepTimeout (port : Nat) (s : State) : Host.Outcome State Fault Refusal :=
  finish (
    let d := s.drive port
    if !s.portOk port || s.drvSt port != 2 || d.step == 0 || d.step == 3 then s
    else ((if d.step = 5 then s else s.at d.deadline)).driveFail port)

/-- DRIVE_REMOVED (R506). -/
def execDriveRemoved (port : Nat) (s : State) : Host.Outcome State Fault Refusal :=
  finish (
    if !s.portOk port || !s.flag (Reg.DP_PORT_STAT port) 31 then s
    else (((s.setFld (Reg.DP_PORT_STAT port) 31 31 0).portEvent port 0 1).driveGone port 0))

/-- DRIVE_LINK_DOWN (R506). -/
def execDriveLinkDown (port : Nat) (s : State) : Host.Outcome State Fault Refusal :=
  finish (if !s.portOk port || !s.flag (Reg.DP_PORT_STAT port) 29 then s else (s.portEvent port 1 1).driveGone port 5)

/-- DRIVE_POWER_FAULT (R506). -/
def execDrivePowerFault (port : Nat) (s : State) : Host.Outcome State Fault Refusal :=
  finish (if !s.portOk port || !s.flag (Reg.DP_PORT_STAT port) 30 then s else (s.portEvent port 7 2).driveGone port 5)

/-- ATTENTION_BUTTON (R505, R507): a press starts a 5 s blink towards a start or a removal; a second one cancels it. -/
def execAttentionButton (port : Nat) (s : State) : Host.Outcome State Fault Refusal :=
  finish (
    let d := s.drive port
    if !s.portOk port || !s.flag (Reg.DP_PORT_CTRL port) 30 then s
    else if d.blink.isSome then
      (s.setDrive port { d with blink := none, led := if s.drvSt port = 3 then 1 else 0 }).powerDone port
    else if s.drvSt port = 1 then s.setDrive port { d with blink := some (.start, s.now + 5000000000), led := 2 }
    else if s.drvSt port = 3 then s.setDrive port { d with blink := some (.remove, s.now + 5000000000), led := 2 }
    else s)

/-- BLINK_EXPIRY (R505, R507). -/
def execBlinkExpiry (port : Nat) (s : State) : Host.Outcome State Fault Refusal :=
  finish (match (s.drive port).blink with
    | none => s
    | some (b, t) =>
      if !s.portOk port then s
      else match b with
        | .start => (s.at t).driveStart port
        | .remove => (s.at t).driveQuiesce port)

/-- SHUTDOWN_COMPLETE (R507 steps 2-4): no command is outstanding any more, or CMD_TIMEOUT_S is over; the shutdown is complete or 10 s have
passed; the port is DISABLED. -/
def execShutdownComplete (port : Nat) (s : State) : Host.Outcome State Fault Refusal :=
  finish (
    if !s.portOk port || s.drvSt port != 4 then s
    else
      let s1 := if s.regN (Reg.DP_PORT_OUT port) = 0 then s else s.at (s.drive port).quiesceAt
      (s1.emit (.nvmeReg port 2 1)).driveGone port 6)

/-- DRIVE_CMD_TIMEOUT (R510). -/
def execDriveCmdTimeout (port cid : Nat) (s : State) : Host.Outcome State Fault Refusal :=
  finish (match s.io? cid with
    | none => s
    | some x =>
      if !s.portOk port || x.remote || x.port != port || x.st != .issued || s.drvSt port != 3 then s
      else (s.at x.deadline).controllerReset port)

/-- CONTROLLER_FATAL (R510): CSTS.CFS reads 1. -/
def execControllerFatal (port : Nat) (s : State) : Host.Outcome State Fault Refusal :=
  finish (if !s.portOk port || (s.drvSt port != 3 && s.drvSt port != 4) then s else s.controllerReset port)

/-- CONTROLLER_RESET_DONE (R510): outstanding commands are issued once more, or the port is FAILED. -/
def execControllerResetDone (port : Nat) (ok : Bool) (s : State) : Host.Outcome State Fault Refusal :=
  finish (
    let d := s.drive port
    match d.resetting with
    | none => s
    | some t =>
      if !s.portOk port then s
      else if ok then
        let s1 := (s.setDrive port { d with resetting := none }).admGone port
        (s1.reissue false port).ioPump
      else (s.at t).driveFail port)

/-! Commands (R503, R512-R517) -/

/-- NVME_COMPLETION (05 R179; R512): of an I/O command; of the admin command of DRV_ADMIN, with the data it read; of a remote command. -/
def execNvmeCompletion (src : NvmeFrom) (cid : Nat) (cqe data : List Byte) (s : State) : Host.Outcome State Fault Refusal :=
  finish (
    let st := u16 cqe 14 / 2
    match src with
    | .admin p =>
      if !s.portOk p || (s.drive p).adm != some cid then s
      else (s.setDrive p { s.drive p with adm := none }).completeWait (.drvAdmin p cid) .ok (fit 16 cqe ++ data.take 4000)
    | .io p => match s.io? cid with
      | none => s
      | some x => if !s.portOk p || x.remote || x.port != p || x.st != .issued || (s.drive p).resetting.isSome then s else s.ioDone x st
    | .target t => match s.io? cid with
      | none => s
      | some x => if !s.inService 14 || !x.remote || x.port != t || x.st != .issued || (s.tgt t).st != 2 then s else s.ioDone x st)

/-- DRIVE_DMA_REQUEST (R503): a drive reaches the staged data of its own commands; any other request is answered Unsupported Request. -/
def execDriveDmaRequest (port : Nat) (write : Bool) (addr len : Nat) (data : List Byte) (s : State) : Host.Outcome State Fault Refusal :=
  finish (
    let n := if write then data.length else len
    if !s.portOk port then s
    else match s.dp.ios.find? (fun x => !x.remote && x.port == port && x.st == .issued && x.len != 0
        && decide (x.stage ≤ addr) && decide (addr + n ≤ x.stage + x.len)) with
      | none => (s.bump (Reg.DP_DMA_BLOCKED port)).portEvent port 6 1
      | some x =>
        if write then s.dramStore addr data
        else
          let r := s.dramFetch addr n
          if r.2.1 && x.op != 0x21 then r.2.2.ioRestage x else r.2.2.emit (.nvme port 0 r.1))

/-- C2HDATA (R516): read data of a remote command; the last PDU with the SUCCESS flag ends it. -/
def execC2hdata (t cid off : Nat) (data : List Byte) (last success : Bool) (s : State) : Host.Outcome State Fault Refusal :=
  finish (match s.io? cid with
    | none => s
    | some x =>
      if !s.inService 14 || !x.remote || x.port != t || x.st != .issued || (s.tgt t).st != 2 || x.op != 0x21
        || decide (x.len < off + data.length) then s
      else
        let s1 := (s.setTgt t { s.tgt t with rto := [] }).dramStore (x.stage + off) data
        if last && success then s1.ioDone x 0 else s1)

/-- H2CData PDUs no larger than MAXH2CDATA (R516): offset and bytes of each. -/
def h2cPdus : Nat → Nat → Nat → List Byte → List (Nat × List Byte)
  | 0, _, _, _ => []
  | n + 1, sz, off, d => if d.isEmpty then [] else (off, d.take sz) :: h2cPdus n sz (off + sz) (d.drop sz)

/-- READY_TO_TRANSFER (R516): the data asked for leaves from the staging area. -/
def execReadyToTransfer (t cid ttag off len : Nat) (s : State) : Host.Outcome State Fault Refusal :=
  finish (match s.io? cid with
    | none => s
    | some x =>
      if !s.inService 14 || !x.remote || x.port != t || x.st != .issued || (s.tgt t).st != 2 || x.nvmeOp != 1
        || decide (x.len < off + len) then s
      else
        let r := (s.setTgt t { s.tgt t with rto := [] }).dramFetch (x.stage + off) len
        if r.2.1 then r.2.2.ioRestage x
        else
          let sz := max 1 (s.tgt t).info.maxH2c
          (h2cPdus len sz off r.1).foldl (fun (u : State) p =>
            u.emit (.tcp t (x.id % max 1 (s.tgt t).info.conns + 1)
              (leBytes 2 cid ++ leBytes 2 ttag ++ leBytes 4 p.1 ++ leBytes 4 p.2.length ++ p.2))) r.2.2)

/-- DATA_DIGEST_ERROR (R517): the command is issued again up to two times. -/
def execDataDigestError (t cid : Nat) (s : State) : Host.Outcome State Fault Refusal :=
  finish (match s.io? cid with
    | none => s
    | some x =>
      if !s.inService 14 || !x.remote || x.port != t || x.st != .issued || (s.tgt t).st != 2 then s
      else
        let y := s.tgt t
        let s1 := (s.setTgt t { y with digestErrs := y.digestErrs + 1 }).raiseSev Ev.dp 5 1
        if x.tries < 2 then (s1.mapIo cid (fun z => { z with tries := z.tries + 1 })).ioIssue { x with tries := x.tries + 1 }
        else s1.ioEnd x 0x07C4)

/-- CONNECTION_CLOSE (R517): a header digest error, a TCP reset or an RTO run of 8. -/
def execConnectionClose (t : Nat) (header : Bool) (s : State) : Host.Outcome State Fault Refusal :=
  finish (
    if !s.inService 14 || (s.tgt t).st != 2 then s
    else
      let y := s.tgt t
      let s1 := if header then (s.setTgt t { y with digestErrs := y.digestErrs + 1 }).raiseSev Ev.dp 5 1 else s
      s1.targetClose t)

/-- TCP_RTO (R516, R517): a connection's retransmission timer expires; eight in a row close it. -/
def execTcpRto (t conn : Nat) (s : State) : Host.Outcome State Fault Refusal :=
  finish (
    let y := s.tgt t
    if !s.inService 14 || y.st != 2 || decide (y.info.conns < conn) then s
    else
      let n := SMap.getD y.rto conn 0 + 1
      if 8 ≤ n then s.targetClose t else (s.setTgt t { y with rto := SMap.put y.rto conn n }).emit (.tcp t conn []))

/-- TARGET_CONNECTED (R516, R517): TGT_CONNECT replies, or the outstanding commands are issued once more. -/
def execTargetConnected (t : Nat) (info : TgtInfo) (s : State) : Host.Outcome State Fault Refusal :=
  finish (
    let y := s.tgt t
    if !s.inService 14 || y.st != 1 then s
    else
      let dig := info.digests &&& (bits (u8 y.rcd 2) 2 1)
      let i := { info with digests := dig, conns := min info.conns (u8 y.rcd 1) }
      let s1 := s.setTgt t { y with st := 2, info := i, reconnects := if y.again then y.reconnects + 1 else y.reconnects, rto := [] }
      let s2 := s1.completeWait (.tgtConnect t) .ok (leBytes 2 (0xFF00 + t) ++ leBytes 1 dig ++ zeros 1 ++ leBytes 4 info.maxH2c)
      (s2.reissue true t).ioPump)

/-- RECONNECT_TIMEOUT (R517). -/
def execReconnectTimeout (t : Nat) (s : State) : Host.Outcome State Fault Refusal :=
  finish (
    let y := s.tgt t
    if !s.inService 14 || y.st != 1 || !y.again then s
    else (((s.at y.deadline).setTgt t { y with st := 0 }).endTarget t 0x07C1).raiseSev Ev.dp 4 2)

/-! Opcodes (R520) -/

def drvQueryMeta : OpMeta := { opcode := 0x0B00, cls := .r, lenOk := len 4, maxRes := 64 }

def drvQueryBody : WbBody := fun w s =>
  let p := w.u8 0
  if 3 < p then fail .badParam s
  else
    let d := s.drive p
    .done .ok (leBytes 4 (s.regN (Reg.DP_PORT_STAT p)) ++ leBytes 4 (s.regN (Reg.DP_PORT_OUT p)) ++ fit 20 d.serial ++ fit 20 d.model
      ++ leBytes 4 d.ns.length ++ leBytes 4 (s.regN (Reg.DP_PORT_RESETS p)) ++ zeros 8) s

def execDrvQuery (w : Waybill) (s : State) : Host.Outcome State Fault Refusal := waybillCmd drvQueryMeta drvQueryBody w s

def drvPowerMeta : OpMeta :=
  { opcode := 0x0B01, cls := .d, lenOk := len 4, maxRes := 4, canPend := true, obj := fun _ w => some ⟨.drivePort, w.u8 0⟩ }

def drvPowerBody : WbBody := fun w s =>
  let p := w.u8 0
  let op := w.u8 1
  let st := s.drvSt p
  let d := s.drive p
  let wait := fun (t : State) => WbOut.pend (.drvPower p) (15000000000 + s.cmdNs) (some ⟨.drivePort, p⟩) t
  let now := fun (t : State) => WbOut.done .ok (leBytes 1 (t.drvSt p) ++ zeros 3) t
  if 3 < p ∨ 2 < op then fail .badParam s
  else if st = 2 ∨ st = 4 then fail .busy s
  else if op = 0 then
    if st = 3 then wait (s.setDrive p { d with blink := some (.remove, s.now + 5000000000), led := 2 })
    else if st = 0 then now s
    else now ((s.slotOff p).setDrvSt p 6)
  else if op = 1 then
    if st = 0 ∨ st = 3 then now s else wait (s.driveStart p)
  else if st = 0 then now s
  else now (s.driveGone p 6)

def execDrvPower (w : Waybill) (s : State) : Host.Outcome State Fault Refusal := waybillCmd drvPowerMeta drvPowerBody w s

/-- Admin opcodes that DRV_ADMIN does not pass on (R520): Delete and Create I/O queues, Abort, Doorbell Buffer Config. -/
def adminRefused : List Nat := [0x00, 0x01, 0x04, 0x05, 0x08, 0x7C]

def drvAdminMeta : OpMeta :=
  { opcode := 0x0B02, cls := .d, lenOk := fun n => decide (72 ≤ n), lenW := fun w => w.params.length == 72 + w.u32 4, maxRes := 4016,
    canPend := true, obj := fun _ w => some ⟨.drivePort, w.u8 0⟩ }

def drvAdminBody : WbBody := fun w s =>
  let p := w.u8 0
  if 3 < p ∨ 2 < w.u8 1 ∨ 4000 < w.u32 4 ∨ adminRefused.contains (w.u8 8) = true then fail .badParam s
  else if s.drvSt p != 3 then fail .badParam s
  else if (s.drive p).adm.isSome || (s.drive p).resetting.isSome then fail .busy s
  else
    let cid := s.dp.next
    let s1 := { s with dp := { s.dp with next := (cid + 1) % 65536 } }.setDrive p { s.drive p with adm := some cid }
    .pend (.drvAdmin p cid) s.cmdNs (some ⟨.drivePort, p⟩)
      (s1.emit (.nvme p 0 (patch (w.bytes 8 64) 2 (leBytes 2 cid) ++ (if w.u8 1 = 1 then w.bytes 72 (w.u32 4) else []))))

def execDrvAdmin (w : Waybill) (s : State) : Host.Outcome State Fault Refusal := waybillCmd drvAdminMeta drvAdminBody w s

def tgtObj (w : Waybill) : Option Obj := some ⟨.target, w.u8 0⟩

def tgtConnectMeta : OpMeta :=
  { opcode := 0x0B03, cls := .d, lenOk := len 56, maxRes := 8, canPend := true, obj := fun _ w => tgtObj w }

def tgtConnectBody : WbBody := fun w s =>
  let t := w.u8 0
  let q := w.u16 22
  let qOk := match s.tmq? q with | some x => x.owner == 0 && !x.destroying | none => false
  if w.u8 1 < 1 ∨ 16 < w.u8 1 ∨ qOk = false then fail .badParam s
  else if (s.tgt t).st != 0 then fail .busy s
  else if (s.wqOf 0 (0xFF00 + t)).isSome then fail .noResource s
  else
    let y : Target := { rcd := patch (w.bytes 0 28) 2 [BitVec.ofNat 8 (w.u8 2 % 8), 0] ++ zeros 28, st := 1, deadline := s.now + 5000000000 }
    .pend (.tgtConnect t) 5000000000 (some ⟨.target, t⟩) (((s.setTgt t y).cfgWritten 14).emit (.tcp t 0 (w.bytes 4 24)))

def execTgtConnect (w : Waybill) (s : State) : Host.Outcome State Fault Refusal := waybillCmd tgtConnectMeta tgtConnectBody w s

def tgtDisconnectMeta : OpMeta :=
  { opcode := 0x0B04, cls := .d, lenOk := len 4, maxRes := 4, canPend := true, obj := fun _ w => tgtObj w }

/-- TGT_DISCONNECT (R520): the connections close at once and the outstanding commands end TARGET_LOST. -/
def tgtDisconnectBody : WbBody := fun w s =>
  let t := w.u8 0
  if (s.tgt t).st = 0 then fail .badParam s
  else
    let n := (s.dp.ios.filter (fun x => x.remote && x.port == t && (x.st == .issued || x.st == .ready))).length
    .done .ok (leBytes 4 n)
      ((((s.setTgt t { s.tgt t with st := 0, again := true }).endTarget t 0x07C1).cfgWritten 14).emit (.tcp t 0 []))

def execTgtDisconnect (w : Waybill) (s : State) : Host.Outcome State Fault Refusal := waybillCmd tgtDisconnectMeta tgtDisconnectBody w s

def tgtQueryMeta : OpMeta := { opcode := 0x0B05, cls := .r, lenOk := len 4, maxRes := 32 }

def tgtQueryBody : WbBody := fun w s =>
  let t := w.u8 0
  match SMap.get? s.dp.tgts t with
  | none => fail .badParam s
  | some y =>
    let n := (s.dp.ios.filter (fun x => x.remote && x.port == t && x.st == .issued)).length
    .done .ok (leBytes 1 y.st ++ leBytes 1 y.info.conns ++ leBytes 1 y.info.digests ++ zeros 1 ++ leBytes 4 n ++ leBytes 8 y.bytes
      ++ leBytes 4 y.digestErrs ++ leBytes 4 y.reconnects ++ zeros 8) s

def execTgtQuery (w : Waybill) (s : State) : Host.Outcome State Fault Refusal := waybillCmd tgtQueryMeta tgtQueryBody w s

/-! VBFs and extents -/

/-- An extent record as stored: all zero when unused, reserved fields zero (00 R11). -/
def extRec (x : List Byte) : List Byte :=
  if extKind x = 0 then zeros 48
  else if extKind x = 1 then leBytes 1 1 ++ leBytes 1 (extPort x) ++ zeros 2 ++ slice x 4 36 ++ zeros 8
  else leBytes 1 2 ++ zeros 1 ++ slice x 2 38 ++ zeros 8

/-- An extent record is bad (R511): kind, port or target out of range, no block. -/
def extBad (x : List Byte) : Bool :=
  decide (2 < extKind x) || (extKind x != 0 && extBlocks x == 0) || (extKind x == 1 && decide (3 < extPort x))
    || (extKind x == 2 && decide (255 < extTarget x))

/-- Used extents of a VBF, of an owner, of all. -/
def Vbf.used (v : Vbf) : Nat := (v.extents.filter (fun x => extKind x != 0)).length
def State.extentsOf (s : State) (owner : Nat) : Nat := (s.dp.vbfs.filter (fun v => v.owner == owner)).foldl (fun n v => n + v.used) 0
def State.extentsAll (s : State) : Nat := s.dp.vbfs.foldl (fun n v => n + v.used) 0

/-- n more extents of an owner are too many: 16,384 in all, a flask's EXTENTS cap (R511; 04 R146). -/
def State.extentsOver (s : State) (owner n : Nat) : Bool :=
  decide (16384 < s.extentsAll + n) || (owner != 0 && decide (u16 (s.fn owner).quota 18 < s.extentsOf owner + n))

/-- Replace or remove a VBF. -/
def State.setVbf (s : State) (owner n : Nat) (v : Option Vbf) : State :=
  let r := s.dp.vbfs.filter (fun x => !(x.owner == owner && x.num == n))
  { s with dp := { s.dp with vbfs := match v with
      | some x => r.takeWhile (fun y => decide (y.owner * 256 + y.num < owner * 256 + n)) ++ [x]
          ++ r.dropWhile (fun y => decide (y.owner * 256 + y.num < owner * 256 + n))
      | none => r } }

def vbfCreateMeta : OpMeta :=
  { opcode := 0x0B06, cls := .d, lenOk := fun n => decide (56 ≤ n), lenW := fun w => w.params.length == 8 + 48 * w.u8 6, maxRes := 8 }

def vbfCreateBody : WbBody := fun w s =>
  let owner := w.u16 0
  let k := w.u8 6
  let ext := (List.range k).map (fun i => w.bytes (8 + 48 * i) 48)
  if 4095 < owner ∨ k < 1 ∨ 64 < k ∨ 1 < w.u8 3 ∨ (s.vbfOf owner (w.u8 2)).isSome = true
    ∨ ext.any (fun x => extKind x == 0 || extBad x) = true then fail .badParam s
  else if s.fld Reg.DP_STAGE 20 16 = 0 ∨ s.dramUp = false ∨ 4096 ≤ s.dp.vbfs.length ∨ s.extentsOver owner k = true then fail .noResource s
  else
    let v : Vbf := { owner := owner, num := w.u8 2, blockSize := (if w.u8 3 = 1 then 4096 else 512),
                     key := (if (w.u16 4).testBit 15 then some (w.u16 4 % 16384) else none), extents := ext.map extRec }
    .done .ok (leBytes 8 v.capacity) ((s.setVbf owner v.num (some v)).cfgWritten 14)

def execVbfCreate (w : Waybill) (s : State) : Host.Outcome State Fault Refusal := waybillCmd vbfCreateMeta vbfCreateBody w s

def vbfDestroyMeta : OpMeta := { opcode := 0x0B07, cls := .d, lenOk := len 4, maxRes := 0 }

/-- Some block entry that names the VBF is outstanding. -/
def State.vbfBusy (s : State) (owner n : Nat) : Bool :=
  s.dp.ios.any (fun x => x.owner == owner && x.vbf == n)
    || s.qm.wqs.any (fun q => q.2.kind == 2 && flaskNo q.2.fn == owner
        && q.2.entries.any (fun e => !e.ended && decide (0x21 ≤ e.op) && u16 e.raw 8 == n))

def vbfDestroyBody : WbBody := fun w s =>
  match s.vbfOf (w.u16 0) (w.u8 2) with
  | none => fail .badParam s
  | some v =>
    if s.vbfBusy v.owner v.num then fail .busy s
    else .done .ok [] ((s.setVbf v.owner v.num none).cfgWritten 14)

def execVbfDestroy (w : Waybill) (s : State) : Host.Outcome State Fault Refusal := waybillCmd vbfDestroyMeta vbfDestroyBody w s

def extentSetMeta : OpMeta := { opcode := 0x0B08, cls := .d, lenOk := len 56, maxRes := 48 }

/-- Drop unused records at the end. -/
def trimExt (l : List (List Byte)) : List (List Byte) := (l.reverse.dropWhile (fun x => extKind x == 0)).reverse

def extentSetBody : WbBody := fun w s =>
  let i := w.u8 3
  let x := extRec (w.bytes 8 48)
  match s.vbfOf (w.u16 0) (w.u8 2) with
  | none => fail .badParam s
  | some v =>
    let old := v.extents.getD i (zeros 48)
    let all := (v.extents ++ List.replicate (i + 1 - v.extents.length) (zeros 48)).set i x
    if 63 < i ∨ extBad (w.bytes 8 48) = true ∨ all.all (fun y => extKind y == 0) = true then fail .badParam s
    else if s.dp.ios.any (fun y => y.owner == v.owner && y.vbf == v.num && y.extent == i && y.st == .issued) then fail .busy s
    else if extKind old = 0 ∧ extKind x ≠ 0 ∧ s.extentsOver v.owner 1 = true then fail .noResource s
    else .done .ok old ((s.setVbf v.owner v.num (some { v with extents := trimExt all })).cfgWritten 14)

def execExtentSet (w : Waybill) (s : State) : Host.Outcome State Fault Refusal := waybillCmd extentSetMeta extentSetBody w s

def vbfQueryMeta : OpMeta :=
  { opcode := 0x0B09, cls := .r, lenOk := len 4, maxRes := 272, flaskMay := true, outside := fun _ w f => w.u16 0 != f }

def vbfQueryBody : WbBody := fun w s =>
  match s.vbfOf (w.u16 0) (w.u8 2) with
  | none => fail .badParam s
  | some v => .done .ok (leBytes 8 v.capacity ++ leBytes 1 (if v.blockSize = 4096 then 1 else 0) ++ leBytes 1 v.extents.length
      ++ leBytes 2 (match v.key with | some k => 0x8000 + k | none => 0) ++ zeros 4
      ++ (v.extents.map (fun x => leBytes 1 (if s.extOn v.blockSize x then 1 else 0) ++ zeros 3)).flatten) s

def execVbfQuery (w : Waybill) (s : State) : Host.Outcome State Fault Refusal := waybillCmd vbfQueryMeta vbfQueryBody w s

/-! Unit settings -/

/-- A staging area that is too large, beyond the memory, or over another area (R518; 16 R528). -/
def State.stageBad (s : State) (v : Nat) : Bool :=
  let a := stageArea v
  decide (16 < bits v 20 16) || (a.2 != 0 && (decide (s.dr.span < a.1 + a.2) || s.areaBad 2 a))

def dpSetParamsMeta : OpMeta := { opcode := 0x0B0A, cls := .d, lenOk := len 8, maxRes := 8 }

def dpSetParamsBody : WbBody := fun w s =>
  let st := w.u32 4 &&& 0x001F00FF
  let old := s.regN Reg.DP_STAGE
  let s1 := s.setCfg 14 Reg.DP_STAGE st
  if s.stageBad st then fail .badParam s
  else if st ≠ old ∧ s.dp.vbfs.isEmpty = false then fail .busy s
  else if s.poolShort s1 = true then fail .noResource s
  else .done .ok (leBytes 4 (s.regN Reg.DP_CTRL) ++ leBytes 4 old) (s1.setCfg 14 Reg.DP_CTRL (w.u32 0 &&& 0x00FFFF00))

def execDpSetParams (w : Waybill) (s : State) : Host.Outcome State Fault Refusal := waybillCmd dpSetParamsMeta dpSetParamsBody w s

def drvPortSetMeta : OpMeta := { opcode := 0x0B0B, cls := .d, lenOk := len 8, maxRes := 4 }

def drvPortSetBody : WbBody := fun w s =>
  let p := w.u8 0
  if 3 < p then fail .badParam s
  else .done .ok (leBytes 4 (s.regN (Reg.DP_PORT_CTRL p))) (s.setCfg 14 (Reg.DP_PORT_CTRL p) (w.u32 4 &&& 0xF00000FF))

def execDrvPortSet (w : Waybill) (s : State) : Host.Outcome State Fault Refusal := waybillCmd drvPortSetMeta drvPortSetBody w s

end Sys2Proof.Machine
end

