-- ==== Sys2Proof/Machine/Engine.lean ====
section
/-!
DEFINITION. The packet engines: their events and their instructions (12 R406-R447). An instruction row runs hart's next instruction when it
is that row's; else nothing changes (log entry 7).
-/

namespace Sys2Proof.Machine

open Sys2Proof

/-! Events -/

/-- THREAD_DISPATCH (R415). -/
def execThreadDispatch (hart : Nat) (s : State) : Host.Outcome State Fault Refusal := finish (s.threadDispatch hart)

/-- TIMER_COMPARE (R418): WAIT.T retires; otherwise the compare stays pending until a dispatch. -/
def execTimerCompare (hart : Nat) (s : State) : Host.Outcome State Fault Refusal :=
  let k := s.hart hart
  finish (if k.st = .waiting then (s.at (s.pwr.coldAt + k.tcmp)).waitEnd hart
    else if k.tctl.testBit 0 then s.at (s.pwr.coldAt + k.tcmp)
    else s)

/-- RUN_LIMIT_EXPIRY (R420): values above 10,000 act as 10,000, and 0 is off. -/
def execRunLimitExpiry (hart : Nat) (s : State) : Host.Outcome State Fault Refusal :=
  let k := s.hart hart
  let us := min 10000 (s.fld (Reg.EC_CTRL (hartCl hart)) 13 0)
  finish (if us = 0 ∨ (k.st ≠ .running ∧ k.st ≠ .waiting) then s
    else (s.at (k.runAt + us * 1000)).threadFault hart 9 0 0)

/-- EVENT_LINE_EDGE (R419). -/
def execEventLineEdge (cluster line : Nat) (s : State) : Host.Outcome State Fault Refusal :=
  finish (if cluster < 32 ∧ line < 32 then s.lineEdge cluster line else s)

/-- WORKER_FAULT (R421). -/
def execWorkerFault (hart cause sub tval : Nat) (s : State) : Host.Outcome State Fault Refusal :=
  let k := s.hart hart
  finish (if hart < 2048 ∧ isSup hart = false ∧ (k.st = .running ∨ k.st = .waiting) then s.threadFault hart cause sub tval else s)

/-- An event whose occurrences the model does not count by instruction (R442). -/
def timeEvent (e : Nat) : Bool := e == 0x01 || e == 0x05 || e == 0x07 || e == 0x09 || e == 0x0A || e == 0x0C

/-- SAMPLE_OVERFLOW (R443): the record of a counter that wrapped, with the sampled PC the hardware takes; for an event in time or of the
pipeline the wrap itself is this event. A full ring discards the record (R423). -/
def execSampleOverflow (hart counter pc truePc : Nat) (s : State) : Host.Outcome State Fault Refusal :=
  let k := s.hart hart
  let i := hartEng hart
  let e := s.engine i
  let cfg := e.hpcCfg.getD counter 0
  let ev := cfg % 256
  let post := fun (t : State) (tv : Option Nat) =>
    let r := t.faultRecord hart 8 counter pc (tv.getD 0) tv.isSome
    if (t.engine i).ringRoom then t.ringPut i r else t
  finish (if !cfg.testBit 17 || !cfg.testBit (8 + hartTh hart) || decide (2048 ≤ hart) || decide (4 ≤ counter) then s
    else match k.samples.find? (fun x => x.1 == counter) with
      | some x => post (s.setHart hart { k with samples := k.samples.erase x }) (if ev = 0x06 then none else some x.2)
      | none =>
        if timeEvent ev then
          post (s.setEngine i { e with hpc := e.hpc.set counter 0 }) (if ev = 0x05 then some truePc else none)
        else s)

/-- LR_RESERVATION_EXPIRY (R412): 256 cycles after the LR. -/
def execLrReservationExpiry (hart : Nat) (s : State) : Host.Outcome State Fault Refusal :=
  finish (match (s.hart hart).resv with
    | some (_, _, e) => (s.at e).modHart hart (fun k => { k with resv := none })
    | none => s)

/-- ENGINE_HARDWARE_FAULT (R425-R427): a fault of a physical engine; should it become permanent, whether the reserve engine passes its
self-test and the words of local memory that fail ECC in the copy. -/
def execEngineHardwareFault (cluster phys cause : Nat) (selfTest : Bool) (lost : List Nat) (s : State) :
    Host.Outcome State Fault Refusal :=
  finish (if cluster < 32 ∧ phys < 9 ∧ s.inService (21 + cluster) = true then s.engineFault cluster phys cause selfTest lost else s)

/-- SUPERVISOR_FAULT (R424). -/
def execSupervisorFault (engine cause sub tval : Nat) (s : State) : Host.Outcome State Fault Refusal :=
  let k := s.hart (engine * 8)
  finish (if engine < 256 ∧ (k.st = .running ∨ k.st = .waiting) then s.threadFault (engine * 8) cause sub tval else s)

/-- SUPERVISOR_AUTO_RESTART (R424): 1 ms after the fault, by the firmware. -/
def execSupervisorAutoRestart (engine : Nat) (s : State) : Host.Outcome State Fault Refusal :=
  finish (match (s.engine engine).supAuto with
    | some t =>
      let s1 := s.at t
      if !s1.ctlUp || (s1.hart (engine * 8)).st != .faulted then s1.setEngine engine { s1.engine engine with supAuto := none }
      else s1.supStart engine (s1.restartPc (engine / 8))
    | none => s)

/-- A thread that has not switched when the kill timeout ends is killed (R447). -/
def State.exchangeKill (s : State) (h : Nat) : State :=
  if !(s.hart h).old then s
  else
    let c := hartCl h
    let s1 := ((s.killRun h).modHart h (fun k => { k with old := false, prior := .idle })).bump (Reg.EC_EXCH_KILLS c)
    let q := ((s1.cluster c).exch.map (fun x => x.seq)).getD 0
    ({ s1 with eng := { s1.eng with swaps := s1.eng.swaps.map (fun (w : Swap) => if w.seq = q then { w with killed := w.killed + 1 } else w) } }).raise
      (Ev.ec c) 8

/-- EXCHANGE_KILL_TIMEOUT (R447). -/
def execExchangeKillTimeout (cluster : Nat) (s : State) : Host.Outcome State Fault Refusal :=
  finish (match (s.cluster cluster).exch with
    | some x => (((List.range 64).foldl (fun (t : State) i => t.exchangeKill (cluster * 64 + i)) (s.at x.killAt)).supHalted cluster).exchangeCheck cluster
    | none => s)

/-! Xtilna (R429) -/

def execHdrLdB (hart : Nat) (s : State) : Host.Outcome State Fault Refusal :=
  finish (s.runInstr hart (· == .hdrLd 1) (fun w => s.xHdrLd hart w 1))
def execHdrLdH (hart : Nat) (s : State) : Host.Outcome State Fault Refusal :=
  finish (s.runInstr hart (· == .hdrLd 2) (fun w => s.xHdrLd hart w 2))
def execHdrLdW (hart : Nat) (s : State) : Host.Outcome State Fault Refusal :=
  finish (s.runInstr hart (· == .hdrLd 4) (fun w => s.xHdrLd hart w 4))
def execHdrLdD (hart : Nat) (s : State) : Host.Outcome State Fault Refusal :=
  finish (s.runInstr hart (· == .hdrLd 8) (fun w => s.xHdrLd hart w 8))
def execHdrStB (hart : Nat) (s : State) : Host.Outcome State Fault Refusal :=
  finish (s.runInstr hart (· == .hdrSt 1) (fun w => s.xHdrSt hart w 1))
def execHdrStH (hart : Nat) (s : State) : Host.Outcome State Fault Refusal :=
  finish (s.runInstr hart (· == .hdrSt 2) (fun w => s.xHdrSt hart w 2))
def execHdrStW (hart : Nat) (s : State) : Host.Outcome State Fault Refusal :=
  finish (s.runInstr hart (· == .hdrSt 4) (fun w => s.xHdrSt hart w 4))
def execHdrStD (hart : Nat) (s : State) : Host.Outcome State Fault Refusal :=
  finish (s.runInstr hart (· == .hdrSt 8) (fun w => s.xHdrSt hart w 8))
def execPktRd (hart : Nat) (s : State) : Host.Outcome State Fault Refusal :=
  finish (s.runInstr hart (· == .pktRd) (fun w => s.xPktRd hart w))
def execPktWr (hart : Nat) (s : State) : Host.Outcome State Fault Refusal :=
  finish (s.runInstr hart (· == .pktWr) (fun w => s.xPktWr hart w))
def execPktAdj (hart : Nat) (s : State) : Host.Outcome State Fault Refusal :=
  finish (s.runInstr hart (· == .pktAdj) (fun w => s.xPktAdj hart w))
def execMetaRd (hart : Nat) (s : State) : Host.Outcome State Fault Refusal :=
  finish (s.runInstr hart (· == .metaRd) (fun w => s.xMetaRd hart w))
def execMetaWr (hart : Nat) (s : State) : Host.Outcome State Fault Refusal :=
  finish (s.runInstr hart (· == .metaWr) (fun w => s.xMetaWr hart w))
def execDispose (hart : Nat) (s : State) : Host.Outcome State Fault Refusal :=
  finish (s.runInstr hart (· == .dispose) (fun w => s.xDispose hart w))
def execTlk (hart : Nat) (s : State) : Host.Outcome State Fault Refusal :=
  finish (s.runInstr hart (· == .tlk) (fun w => s.xTlk hart w))
def execCtFind (hart : Nat) (s : State) : Host.Outcome State Fault Refusal :=
  finish (s.runInstr hart (· == .ctFind) (fun w => s.xCtFind hart w))
def execCtIns (hart : Nat) (s : State) : Host.Outcome State Fault Refusal :=
  finish (s.runInstr hart (· == .ctIns) (fun w => s.xCtIns hart w))
def execCtDel (hart : Nat) (s : State) : Host.Outcome State Fault Refusal :=
  finish (s.runInstr hart (· == .ctDel) (fun w => s.xCtDel hart w))
def execCntAdd (hart : Nat) (s : State) : Host.Outcome State Fault Refusal :=
  finish (s.runInstr hart (· == .cntAdd) (fun w => s.xCntAdd hart w))
def execEnq (hart : Nat) (s : State) : Host.Outcome State Fault Refusal :=
  finish (s.runInstr hart (· == .enq) (fun w => s.xEnq hart w))
def execRateSet (hart : Nat) (s : State) : Host.Outcome State Fault Refusal :=
  finish (s.runInstr hart (· == .rateSet) (fun w => s.xRateSet hart w))
def execCrypt (hart : Nat) (s : State) : Host.Outcome State Fault Refusal :=
  finish (s.runInstr hart (· == .crypt) (fun w => s.xCrypt hart w))
def execRand (hart : Nat) (s : State) : Host.Outcome State Fault Refusal :=
  finish (s.runInstr hart (· == .rand) (fun w => s.xRand hart w))

/-- YIELD (R420): the run ends; a thread in the old image switches (R447). -/
def State.xYield (s : State) (h : Nat) : State :=
  match s.nextInstr h (· == .yield) with
  | none => s
  | some _ =>
    if s.trigHit h 2 (s.hart h).pc.toNat then s.debugHalt h 2
    else (((s.retire h ((s.hart h).pc + 4) retEv).endRun h true).switchImage h).stepEnd h

def execYield (hart : Nat) (s : State) : Host.Outcome State Fault Refusal := finish (s.xYield hart)

/-- WAIT.T (R418): a reservation ends; a compare already passed retires it at once. -/
def State.xWaitT (s : State) (h : Nat) : State :=
  match s.nextInstr h (· == .waitT) with
  | none => s
  | some _ =>
    if s.trigHit h 2 (s.hart h).pc.toNat then s.debugHalt h 2
    else
      let s1 := s.modHart h (fun k => { k with resv := none })
      if (s.hart h).tcmp ≤ s.etime then s1.waitEnd h else s1.modHart h (fun k => { k with st := .waiting })

def execWaitT (hart : Nat) (s : State) : Host.Outcome State Fault Refusal := finish (s.xWaitT hart)
def execTres (hart : Nat) (s : State) : Host.Outcome State Fault Refusal :=
  finish (s.runInstr hart (· == .tres) (fun w => s.xTres hart w))
def execTregR (hart : Nat) (s : State) : Host.Outcome State Fault Refusal :=
  finish (s.runInstr hart (· == .tregR) (fun w => s.xTregR hart w))
def execTregW (hart : Nat) (s : State) : Host.Outcome State Fault Refusal :=
  finish (s.runInstr hart (· == .tregW) (fun w => s.xTregW hart w))
def execRadd (hart : Nat) (s : State) : Host.Outcome State Fault Refusal :=
  finish (s.runInstr hart (· == .rate 0) (fun w => s.xRate hart w 0))
def execRsub (hart : Nat) (s : State) : Host.Outcome State Fault Refusal :=
  finish (s.runInstr hart (· == .rate 1) (fun w => s.xRate hart w 1))
def execRmul (hart : Nat) (s : State) : Host.Outcome State Fault Refusal :=
  finish (s.runInstr hart (· == .rate 2) (fun w => s.xRate hart w 2))
def execRdiv (hart : Nat) (s : State) : Host.Outcome State Fault Refusal :=
  finish (s.runInstr hart (· == .rate 3) (fun w => s.xRate hart w 3))
def execRmin (hart : Nat) (s : State) : Host.Outcome State Fault Refusal :=
  finish (s.runInstr hart (· == .rate 4) (fun w => s.xRate hart w 4))
def execRmax (hart : Nat) (s : State) : Host.Outcome State Fault Refusal :=
  finish (s.runInstr hart (· == .rate 5) (fun w => s.xRate hart w 5))
def execRcvtWu (hart : Nat) (s : State) : Host.Outcome State Fault Refusal :=
  finish (s.runInstr hart (· == .rcvtWu) (fun w => s.xRcvtWu hart w))
def execRcvtR (hart : Nat) (s : State) : Host.Outcome State Fault Refusal :=
  finish (s.runInstr hart (· == .rcvtR) (fun w => s.xRcvtR hart w))

/-! RISC-V -/

/-- ECALL (R422). -/
def execEcall (hart : Nat) (s : State) : Host.Outcome State Fault Refusal :=
  finish (s.runInstr hart (· == .ecall) (fun _ => (.error xEcall, s)))

/-- EBREAK (R422, R448). -/
def execEbreak (hart : Nat) (s : State) : Host.Outcome State Fault Refusal :=
  finish (s.runInstr hart (· == .ebreak) (fun _ => (.error (s.xEbreak hart), s)))

/-- RISCV_INSTRUCTION (R406, R407). -/
def execRiscvInstruction (hart : Nat) (s : State) : Host.Outcome State Fault Refusal :=
  finish (s.runInstr hart (· == .rv) (fun _ => s.rvInstr hart))

end Sys2Proof.Machine
end

