-- ==== Sys2Proof/Machine/EngineDebug.lean ====
section
/-!
DEFINITION. Engine debug (12 R448-R450): the debug module after RISC-V External Debug Support 1.0 (its register layout is log entry 40).
-/

namespace Sys2Proof.Machine

open Sys2Proof

/-! Halt, resume, reset -/

/-- DEBUG_HALT (R449): a coprocessor operation already sent completes first. -/
def State.haltHart (s : State) (h : Nat) : State :=
  let k := s.hart h
  if 2048 ≤ h ∨ k.st = .debug ∨ k.st = .unavailable then s
  else if k.wait.isSome then s.setHart h { k with haltReq := true }
  else s.debugHalt h 3

def execDebugHalt (hart : Nat) (s : State) : Host.Outcome State Fault Refusal := finish (s.haltHart hart)

/-- DEBUG_RESUME (R448): the thread is again what it was; an idle one of an old image switches (R454). -/
def State.resumeHart (s : State) (h : Nat) : State :=
  let k := s.hart h
  if k.st ≠ .debug then s
  else
    let s1 := s.setHart h { k with st := k.prior, resumeAck := true }
    if k.prior = .idle then s1.switchImage h else s1

def execDebugResume (hart : Nat) (s : State) : Host.Outcome State Fault Refusal := finish (s.resumeHart hart)

/-- HARTRESET (R448): acts as TRES KILL; havereset shows. -/
def State.resetHart (s : State) (h : Nat) : State :=
  if 2048 ≤ h ∨ (s.hart h).st = .unavailable then s
  else (((s.killRun h).modHart h (fun k => { k with haveReset := true, prior := .idle, haltReq := false })).supHalted (hartCl h)).switchImage h

def execHartreset (hart : Nat) (s : State) : Host.Outcome State Fault Refusal := finish (s.resetHart hart)

/-! Peek of memory (R450; 03 R126) -/

/-- Bytes with free values in the place of poisoned words. -/
def State.peekMem (s : State) (m : Mem) (p : List Nat) (o n : Nat) : List Byte × State :=
  (touched o n).foldl (fun (r : List Byte × State) w =>
    if p.contains w then
      let d := r.2.draw
      let lo := max (w * 8) o
      let hi := min (w * 8 + 8) (o + n)
      (patch r.1 (lo - o) ((leBytes 8 d.1).take (hi - lo)), d.2)
    else r) (Mem.rdN m o n, s)

/-- Read n bytes of hart h's map by the peek path; none where nothing is. -/
def State.peekAt (s : State) (h a n : Nat) : Option (List Byte) × State :=
  let c := hartCl h
  let e := s.engine (hartEng h)
  let k := s.cluster c
  let out := fun (r : List Byte × State) => (some r.1, r.2)
  match s.region c a n with
  | .bank o => (some (Mem.rdN (s.codeOf c (s.hart h).old) o n), s)
  | .mem o => out (s.peekMem e.mem e.poison o n)
  | .ring o => out (s.peekMem e.mem e.poison o n)
  | .ctx o => out (s.peekMem e.mem e.poison o n)
  | .shared o => out (s.peekMem k.shared k.poison o n)
  | .dram o _ => (some (s.dramRead o n), s)
  | .views o =>
    if n ≠ 4 then (none, s)
    else match s.mbView c (o / 32) with
      | none => (some (zeros 4), s)
      | some (key, b) => (some (leBytes 4 (match o % 32 with
          | 0x08 => (s.mbHead key b).toNat
          | 0x0C => s.mbStat key b
          | 0x10 => ((s.mbPair key).side b).ctrl.toNat
          | 0x14 => (s.mbLockWord key b none).toNat
          | 0x18 => ((s.mbPair key).side b).timeoutUs.toNat
          | _ => 0)), s)
  | .none => (none, s)

/-! Abstract commands -/

def State.setDm (s : State) (d : DebugModule) : State := { s with eng := { s.eng with dm := d } }

/-- cmderr is set unless one is there: 2 not supported, 3 exception, 4 hart not halted, 5 bus. -/
def State.cmdErr (s : State) (e : Nat) : State := if s.eng.dm.cmderr = 0 then s.setDm { s.eng.dm with cmderr := e } else s

/-- 64-bit arguments of abstract commands in pairs of data words. -/
def DebugModule.arg (d : DebugModule) (i : Nat) : Nat := d.data.getD (2 * i) 0 + d.data.getD (2 * i + 1) 0 * 2 ^ 32
def DebugModule.setArg (d : DebugModule) (i v : Nat) : DebugModule :=
  { d with data := (d.data.set (2 * i) (v % 2 ^ 32)).set (2 * i + 1) (v / 2 ^ 32 % 2 ^ 32) }

/-- dcsr: debugver 4, the bits kept, prv 3 for thread 0 and 0 for a worker (R408). -/
def Hart.dcsrWord (k : Hart) (h : Nat) : Nat := 4 * 2 ^ 28 + k.dcsr + (if isSup h then 3 else 0)

/-- tdata1 of a trigger: type mcontrol6, action 1 (debug mode), m, u, execute, store, load (R448). -/
def tdata1Word (v : Nat) : Nat := 6 * 2 ^ 60 + 2 ^ 12 + v

/-- A register of a halted hart by abstract-command number; none: not supported. -/
def State.dbgReg (s : State) (h n : Nat) : Option Nat :=
  let k := s.hart h
  if 0x1000 ≤ n ∧ n < 0x1020 then some (k.rx (n - 0x1000)).toNat
  else if 0x1020 ≤ n ∧ n < 0x1040 then some (k.rf (n - 0x1020))
  else if n = 0x7B0 then some (k.dcsrWord h)
  else if n = 0x7B1 then some k.pc.toNat
  else if n = 0x7A0 then some k.tselect
  else if n = 0x7A1 then some (tdata1Word (k.trigs.getD k.tselect (0, 0)).1)
  else if n = 0x7A2 then some (k.trigs.getD k.tselect (0, 0)).2
  else if n < 0x1000 then s.csrRead h n
  else none

/-- Write one; none: a read-only CSR. -/
def State.dbgSetReg (s : State) (h n v : Nat) : Option State :=
  let k := s.hart h
  let t := k.trigs.getD k.tselect (0, 0)
  if 0x1000 ≤ n ∧ n < 0x1020 then some (s.setHart h (k.wx (n - 0x1000) (BitVec.ofNat 64 v)))
  else if 0x1020 ≤ n ∧ n < 0x1040 then some (s.setHart h (k.wf (n - 0x1020) (v % 2 ^ 32)))
  else if n = 0x7B0 then some (s.setHart h { k with dcsr := (k.dcsr &&& 0x1C0) ||| (v &&& 0x9004) })
  else if n = 0x7B1 then some (s.setHart h { k with pc := BitVec.ofNat 64 (v - v % 2) })
  else if n = 0x7A0 then some (s.setHart h { k with tselect := if v < 4 then v else k.tselect })
  else if n = 0x7A1 then some (s.setHart h { k with trigs := k.trigs.set k.tselect (v &&& 0x4F, t.2) })
  else if n = 0x7A2 then some (s.setHart h { k with trigs := k.trigs.set k.tselect (t.1, v) })
  else if 3072 ≤ n ∨ n = 0x7C6 then none
  else some (s.csrWrite h n v)

/-- Any instruction but those that end or leave a run, as the program buffer runs it. -/
def State.anyInstr (s : State) (h w raw n : Nat) : Res Next :=
  match engOp w with
  | .rv => s.rvExec h w raw n
  | .hdrLd b => s.xHdrLd h w b
  | .hdrSt b => s.xHdrSt h w b
  | .pktRd => s.xPktRd h w
  | .pktWr => s.xPktWr h w
  | .pktAdj => s.xPktAdj h w
  | .metaRd => s.xMetaRd h w
  | .metaWr => s.xMetaWr h w
  | .tlk => s.xTlk h w
  | .ctFind => s.xCtFind h w
  | .ctIns => s.xCtIns h w
  | .ctDel => s.xCtDel h w
  | .cntAdd => s.xCntAdd h w
  | .enq => s.xEnq h w
  | .rateSet => s.xRateSet h w
  | .tres => s.xTres h w
  | .tregR => s.xTregR h w
  | .tregW => s.xTregW h w
  | .rate op => s.xRate h w op
  | .rcvtWu => s.xRcvtWu h w
  | .rcvtR => s.xRcvtR h w
  | .dispose => s.xDispose h w
  | .ecall => (.error (trapIllegal w), s)
  | .ebreak => (.error (trapIllegal w), s)
  | .crypt => (.error (trapIllegal w), s)
  | .rand => (.error (trapIllegal w), s)
  | .yield => (.error (trapIllegal w), s)
  | .waitT => (.error (trapIllegal w), s)

/-- Run the program buffer on hart h from byte o: EBREAK ends it; anything that traps or leaves the buffer is an exception (cmderr 3). The
hart's PC is not moved, its slots are not charged (R449). -/
def State.progbuf (s : State) (h : Nat) : Nat → Nat → State
  | 0, _ => s.cmdErr 3
  | fuel + 1, o =>
    let b := s.eng.dm.progbuf.flatMap (leBytes 4)
    if 32 < o + 2 then s.cmdErr 3
    else
      let c := u16 b o
      let short := c % 4 != 3
      let w := if short then (rvC c).getD 0 else u32 b o
      let n := if short then 2 else 4
      if 32 < o + n then s.cmdErr 3
      else if w = 0x00100073 then s
      else match s.anyInstr h w (if short then c else w) n with
        | (.error _, t) => t.cmdErr 3
        | (.ok (nxt, _), t) =>
          if nxt = (t.hart h).pc + BitVec.ofNat 64 n then t.progbuf h fuel (o + n) else t.cmdErr 3

/-- Access Register (command type 0): aarsize, postexec, transfer, write, regno. -/
def State.accessRegister (s : State) (h v : Nat) : State :=
  let size := bits v 22 20
  let n := v % 65536
  let xfer := v.testBit 17
  let wr := v.testBit 16
  let post := fun (t : State) => if v.testBit 18 && t.eng.dm.cmderr == 0 then t.progbuf h 17 0 else t
  let isF := decide (0x1020 ≤ n) && decide (n < 0x1040)
  if s.eng.dm.cmderr ≠ 0 then s
  else if (s.hart h).st ≠ .debug then s.cmdErr 4
  else if !xfer then post s
  else if size ≠ 2 ∧ (size ≠ 3 ∨ isF = true) then s.cmdErr 2
  else
    let m := if size = 2 then 2 ^ 32 else 2 ^ 64
    match s.dbgReg h n with
    | none => s.cmdErr 3
    | some x =>
      if wr then
        (match s.dbgSetReg h n (if size = 2 then sx 32 (s.eng.dm.arg 0) |>.toNat else s.eng.dm.arg 0) with
         | some t => post t
         | none => s.cmdErr 3)
      else if size = 2 then post (s.setDm { s.eng.dm with data := s.eng.dm.data.set 0 (x % m) })
      else post (s.setDm (s.eng.dm.setArg 0 (x % m)))

def execAbstractAccessRegister (hart : Nat) (command : Word) (s : State) : Host.Outcome State Fault Refusal :=
  finish (s.accessRegister hart command.toNat)

/-- Access Memory (command type 2): reads by the peek path, ordinary writes (R450). -/
def State.accessMemory (s : State) (h v : Nat) : State :=
  let n := 2 ^ bits v 22 20
  let a := s.eng.dm.arg 1
  let up := fun (t : State) => if v.testBit 19 then t.setDm (t.eng.dm.setArg 1 ((a + n) % 2 ^ 64)) else t
  if s.eng.dm.cmderr ≠ 0 then s
  else if (s.hart h).st ≠ .debug then s.cmdErr 4
  else if 8 < n ∨ v.testBit 23 = true then s.cmdErr 2
  else if a % n ≠ 0 then s.cmdErr 3
  else if v.testBit 16 then
    match s.store h a n (s.eng.dm.arg 0) with
    | (.error _, t) => t.cmdErr 5
    | (.ok _, t) => up t
  else match s.peekAt h a n with
    | (none, t) => t.cmdErr 5
    | (some b, t) =>
      up (t.setDm (if n ≤ 4 then { t.eng.dm with data := t.eng.dm.data.set 0 (leNat b) } else t.eng.dm.setArg 0 (leNat b)))

def execAbstractAccessMemory (hart : Nat) (command : Word) (s : State) : Host.Outcome State Fault Refusal :=
  finish (s.accessMemory hart command.toNat)

/-! The debug module's registers, as JTAG DMI and PF0 reach them (R448) -/

/-- The harts a dmcontrol write acts on. -/
def DebugModule.selected (d : DebugModule) : List Nat :=
  let m := if d.hasel then (List.range 2048).filter (fun h => (SMap.getD d.mask (h / 32) 0).testBit (h % 32)) else []
  if m.contains d.hartsel then m else d.hartsel :: m

/-- dmstatus (version 3, authenticated). -/
def State.dmStatus (s : State) : Nat :=
  let l := s.eng.dm.selected
  let pr := fun (b : Nat) (p : Nat → Bool) => bitVal (l.any p) b + bitVal (l.all p) (b + 1)
  let ex := fun h => decide (h < 2048)
  3 + 2 ^ 7 + pr 8 (fun h => ex h && (s.hart h).st == .debug)
    + pr 10 (fun h => ex h && (s.hart h).st != .debug && (s.hart h).st != .unavailable)
    + pr 12 (fun h => ex h && (s.hart h).st == .unavailable) + pr 14 (fun h => !ex h)
    + pr 16 (fun h => ex h && (s.hart h).resumeAck) + pr 18 (fun h => ex h && (s.hart h).haveReset)

/-- Read register n of the debug module; a read has no side effect. -/
def State.dmRead (s : State) (n : Nat) : Nat :=
  let d := s.eng.dm
  let halted := fun (h : Nat) => (s.hart h).st == .debug
  if 0x04 ≤ n ∧ n ≤ 0x07 then d.data.getD (n - 4) 0
  else if n = 0x10 then bitVal d.active 0 + d.hartsel / 1024 % 1024 * 64 + d.hartsel % 1024 * 65536 + bitVal d.hasel 26
  else if n = 0x11 then s.dmStatus
  else if n = 0x14 then d.window
  else if n = 0x15 then SMap.getD d.mask d.window 0
  else if n = 0x16 then 4 + d.cmderr * 256 + 8 * 2 ^ 24
  else if 0x20 ≤ n ∧ n ≤ 0x27 then d.progbuf.getD (n - 0x20) 0
  else if n = 0x40 then (List.range 32).foldl (fun v i => v + bitVal (halted (d.hartsel / 32 * 32 + i)) i) 0
  else if n = 0x13 then (List.range 32).foldl (fun v i =>
    v + bitVal ((List.range 32).any (fun j => halted (d.hartsel / 1024 * 1024 + i * 32 + j))) i) 0
  else if n = 0x34 then (List.range 2).foldl (fun v i => v + bitVal ((List.range 1024).any (fun j => halted (i * 1024 + j))) i) 0
  else 0

/-- Write register n of the debug module. -/
def State.dmWrite (s : State) (n v : Nat) : State :=
  let d := s.eng.dm
  if n = 0x10 then
    if !v.testBit 0 then s.setDm {}
    else
      let d1 := { d with active := true, hartsel := bits v 25 16 + bits v 15 6 * 1024, hasel := v.testBit 26 }
      let s1 := s.setDm d1
      let l := d1.selected.filter (fun h => decide (h < 2048))
      let each := fun (b : Bool) (f : State → Nat → State) (t : State) => if b then l.foldl f t else t
      let s2 := each (v.testBit 28) (fun t h => t.modHart h (fun k => { k with haveReset := false })) s1
      let s3 := each (v.testBit 29) (fun t h => t.resetHart h) s2
      let s4 := each (v.testBit 31) (fun t h => t.haltHart h) s3
      each (v.testBit 30 && !v.testBit 31) (fun t h => (t.modHart h (fun k => { k with resumeAck := false })).resumeHart h) s4
  else if !d.active then s
  else if 0x04 ≤ n ∧ n ≤ 0x07 then s.setDm { d with data := d.data.set (n - 4) v }
  else if n = 0x14 then s.setDm { d with window := v % 64 }
  else if n = 0x15 then s.setDm { d with mask := SMap.put d.mask d.window v }
  else if n = 0x16 then s.setDm { d with cmderr := d.cmderr - (d.cmderr &&& bits v 10 8) }
  else if n = 0x17 then
    (match v / 2 ^ 24 with
     | 0 => s.accessRegister d.hartsel v
     | 2 => s.accessMemory d.hartsel v
     | _ => if d.cmderr = 0 then s.cmdErr 2 else s)
  else if 0x20 ≤ n ∧ n ≤ 0x27 then s.setDm { d with progbuf := d.progbuf.set (n - 0x20) v }
  else s

end Sys2Proof.Machine
end

