-- ==== Sys2Proof/Machine/EngineWb.lean ====
section
/-!
DEFINITION. The 0x09xx opcodes (12 R453).
-/

namespace Sys2Proof.Machine

open Sys2Proof

/-- Clusters of a mask, lowest first. -/
def maskClusters (m : Nat) : List Nat := (List.range 32).filter (fun c => m.testBit c)

/-- EC_QUEUES (R451). -/
def State.ecQueues (s : State) (c : Nat) : Nat :=
  let k := s.cluster c
  k.msgs.length * 65536 + (k.queue.filter (fun i => match s.frame? i with | some f => f.stage == .engine c | none => false)).length

def engQueryMeta : OpMeta := { opcode := 0x0900, cls := .r, lenOk := len 4, maxRes := 48 }

def engQueryBody : WbBody := fun w s =>
  let c := w.u8 0
  if 31 < c then fail .badParam s
  else .done .ok (leBytes 4 (s.regN (Reg.EC_STATE c)) ++ leBytes 4 (s.regN (Reg.EC_ENGINE_MAP c)) ++ leBytes 4 (s.regN (Reg.EC_RETIRED c))
    ++ leBytes 4 (s.regN (Reg.EC_IMAGE_ID c)) ++ leBytes 4 (s.regN (Reg.EC_ALT_IMAGE_ID c)) ++ leBytes 4 (s.ecQueues c)
    ++ leBytes 8 (s.reg64 (Reg.EC_DISPATCHED c)) ++ leBytes 4 (s.regN (Reg.EC_FAULTS c)) ++ leBytes 4 (s.regN (Reg.EC_SUP_FAULTS c))
    ++ leBytes 4 (s.regN (Reg.EC_EXCH_KILLS c)) ++ zeros 4) s

def execEngQuery (w : Waybill) (s : State) : Host.Outcome State Fault Refusal := waybillCmd engQueryMeta engQueryBody w s

/-! Images (R446, R447) -/

/-- The CRC of a bank's bytes from 16 up to n (R446). -/
def bankImageCrc (m : Mem) (n : Nat) : Nat := crc32c (Mem.rdN m 16 (n - 16))

/-- The alternate bank of a cluster. -/
def State.altBank (s : State) (c : Nat) : Mem := (s.cluster c).bank (s.bankNo c + 1)

/-- A cluster of the list is exchanging. -/
def State.exchanging (s : State) (cs : List Nat) : Bool := cs.any (fun c => (s.cluster c).exch.isSome)

/-- Write image bytes into the alternate bank. -/
def State.loadBank (s : State) (clear : Bool) (id off : Nat) (d : List Byte) (c : Nat) : State :=
  let k := s.cluster c
  let m := if clear then [] else s.altBank c
  let k1 := { k.setBank (s.bankNo c + 1) (Mem.wrN m off d) with altEnd := max (if clear then 0 else k.altEnd) (off + d.length) }
  (s.setCluster c k1).setRegN (Reg.EC_ALT_IMAGE_ID c) id

def engLoadMeta : OpMeta :=
  { opcode := 0x0901, cls := .d, lenOk := fun n => decide (20 ≤ n) && decide (n ≤ 4080) && n % 4 == 0, maxRes := 4 }

def engLoadBody : WbBody := fun w s =>
  let cs := maskClusters (w.u32 0)
  let off := w.u32 4
  let n := w.params.length - 16
  match cs with
  | [] => fail .badParam s
  | c :: _ =>
    if off % 4 ≠ 0 ∨ 131072 < off + n then fail .badParam s
    else if s.exchanging cs then fail .busy s
    else
      let t := cs.foldl (State.loadBank · ((w.u8 12).testBit 0) (w.u32 8) off (w.bytes 16 n)) s
      .done .ok (leBytes 4 (bankImageCrc (t.altBank c) (t.cluster c).altEnd)) t

def execEngLoad (w : Waybill) (s : State) : Host.Outcome State Fault Refusal := waybillCmd engLoadMeta engLoadBody w s

/-- The alternate bank holds the image named, whole, with an INIT_PC (R447, R453). -/
def State.imageOk (s : State) (c id crc : Nat) : Bool :=
  let m := s.altBank c
  let n := leNat (Mem.rdN m 4 4)
  id != 0 && leNat (Mem.rdN m 0 4) == id && decide (16 ≤ n) && decide (n ≤ 131072) && n % 4 == 0
    && leNat (Mem.rdN m 8 4) == crc && bankImageCrc m n == crc && leNat (Mem.rdN m 16 8) != 0

/-- An exchange starts on a cluster (R447). -/
def State.startExchange (s : State) (seq killAt c : Nat) : State :=
  let old := s.codeOf c false
  let k := s.cluster c
  let s1 := (s.setCluster c { k with exch := some { seq := seq, killAt := killAt }, altEnd := min 131072 (leNat (Mem.rdN old 4 4)) }).setFld
    (Reg.EC_STATE c) 0 0 (1 - s.bankNo c)
  let s2 := ((s1.setRegN (Reg.EC_IMAGE_ID c) (s.regN (Reg.EC_ALT_IMAGE_ID c))).setRegN (Reg.EC_ALT_IMAGE_ID c) (s.regN (Reg.EC_IMAGE_ID c))).setFld
    (Reg.EC_STATE c) 2 2 1
  let s3 := if s2.fld (Reg.EC_STATE c) 11 8 = 0 then s2 else s2.setFld (Reg.EC_STATE c) 3 3 1
  let hs := (List.range 64).map (fun i => c * 64 + i)
  let s4 := hs.foldl (fun (t : State) h =>
    let st := (t.hart h).st
    if st = .unavailable ∨ (st = .idle ∧ isSup h = false) then t else t.modHart h (fun x => { x with old := true })) s3
  ((hs.foldl (fun (t : State) h => if (t.hart h).st = .idle then t.switchImage h else t) s4).exchangeCheck c).cfgWritten (21 + c)

def engSwapMeta : OpMeta := { opcode := 0x0902, cls := .d, lenOk := len 16, maxRes := 8, canPend := true }

def engSwapBody : WbBody := fun w s =>
  let cs := maskClusters (w.u32 0)
  let ms := w.u16 12
  match cs with
  | [] => fail .badParam s
  | c :: _ =>
    if ms < 1 ∨ 1000 < ms ∨ cs.all (fun c => s.imageOk c (w.u32 4) (w.u32 8)) = false then fail .badParam s
    else if s.exchanging cs then fail .busy s
    else
      let seq := s.eng.swapSeq
      let prev := s.regN (Reg.EC_IMAGE_ID c)
      let s1 := { s with eng := { s.eng with swapSeq := seq + 1, swaps := s.eng.swaps ++ [{ seq := seq, left := cs, prevId := prev }] } }
      let s2 := cs.foldl (State.startExchange · seq (s.now + ms * 1000000)) s1
      if s2.eng.swaps.any (fun x => x.seq == seq) then .pend (.engSwap seq) ((ms + 1) * 1000000) none s2
      else .done .ok (leBytes 4 0 ++ leBytes 4 prev) s2

def execEngSwap (w : Waybill) (s : State) : Host.Outcome State Fault Refusal := waybillCmd engSwapMeta engSwapBody w s

def engReadBankMeta : OpMeta := { opcode := 0x0903, cls := .r, lenOk := len 12, maxRes := 4080 }

def engReadBankBody : WbBody := fun w s =>
  let c := w.u8 0
  let off := w.u32 4
  let n := w.u32 8
  if 31 < c ∨ 1 < w.u8 1 ∨ n < 4 ∨ 4080 < n ∨ 131072 < off + n then fail .badParam s
  else .done .ok (Mem.rdN ((s.cluster c).bank (s.bankNo c + w.u8 1)) off n) s

def execEngReadBank (w : Waybill) (s : State) : Host.Outcome State Fault Refusal := waybillCmd engReadBankMeta engReadBankBody w s

/-! Configuration -/

/-- EC_CTRL of a cluster takes effect (R451). -/
def State.setEcCtrl (s : State) (c v : Nat) : State := s.setCfg (21 + c) (Reg.EC_CTRL c) (v &&& 0xC0003FFF)

def engSetParamsMeta : OpMeta := { opcode := 0x0904, cls := .d, lenOk := len 8, maxRes := 4 }

def engSetParamsBody : WbBody := fun w s =>
  match maskClusters (w.u32 0) with
  | [] => fail .badParam s
  | c :: r => .done .ok (leBytes 4 (s.regN (Reg.EC_CTRL c))) ((c :: r).foldl (State.setEcCtrl · · (w.u32 4)) s)

def execEngSetParams (w : Waybill) (s : State) : Host.Outcome State Fault Refusal := waybillCmd engSetParamsMeta engSetParamsBody w s

/-- An enabled window lies beyond the DRAM or over the ledger's fallback area (R453). -/
def State.winBad (s : State) (w0 w1 : Nat) : Bool :=
  let a : Area := (bits w0 17 0 * 2 ^ 20, bits w1 17 0 * 2 ^ 20)
  w0.testBit 31 && (decide (s.dr.span < a.1 + a.2) || areaHits a s.fallbackArea)

/-- A DRAM window of a cluster takes effect. -/
def State.setDramWin (s : State) (c i w0 w1 : Nat) : State :=
  (s.setCfg (21 + c) (Reg.EC_DRAM_WIN_W0 c i) (w0 &&& 0xC003FFFF)).setCfg (21 + c) (Reg.EC_DRAM_WIN_W1 c i) (w1 % 2 ^ 18)

def engDramWinMeta : OpMeta := { opcode := 0x0905, cls := .d, lenOk := len 12, maxRes := 8 }

def engDramWinBody : WbBody := fun w s =>
  let c := w.u8 0
  let i := w.u8 1
  if 31 < c ∨ 3 < i ∨ s.winBad (w.u32 4) (w.u32 8) = true then fail .badParam s
  else .done .ok (leBytes 4 (s.regN (Reg.EC_DRAM_WIN_W0 c i)) ++ leBytes 4 (s.regN (Reg.EC_DRAM_WIN_W1 c i)))
    (s.setDramWin c i (w.u32 4) (w.u32 8))

def execEngDramWin (w : Waybill) (s : State) : Host.Outcome State Fault Refusal := waybillCmd engDramWinMeta engDramWinBody w s

def engLineSetMeta : OpMeta := { opcode := 0x0906, cls := .d, lenOk := len 4, maxRes := 4 }

def engLineSetBody : WbBody := fun w s =>
  let c := w.u8 0
  let l := w.u8 1
  if 31 < c ∨ 31 < l then fail .badParam s
  else
    let a := Reg.EC_LINE_VEC c (l / 4)
    let b := 8 * (l % 4)
    .done .ok (leBytes 1 (s.fld a (b + 7) b) ++ leBytes 2 (SMap.getD (s.cluster c).lines l 0) ++ zeros 1)
      (s.setCfg (21 + c) a (setBits (s.regN a) (b + 7) b (w.u8 2 &&& 0xBF)))

def execEngLineSet (w : Waybill) (s : State) : Host.Outcome State Fault Refusal := waybillCmd engLineSetMeta engLineSetBody w s

/-- The shared-memory region of a cluster-table descriptor (R433). -/
def ctArea (v : Nat) : Area := (bits v 19 8 * 256, 2 ^ bits v 27 24 * 256)

def engCtSetMeta : OpMeta := { opcode := 0x0907, cls := .d, lenOk := len 8, maxRes := 4 }

def engCtSetBody : WbBody := fun w s =>
  let c := w.u8 0
  let i := w.u8 1
  let v := w.u32 4 &&& 0x8F0FFF3F
  let a := ctArea v
  let sz := bits v 27 24
  let kl := bits v 5 0
  let others := (List.range 8).filter (fun j => j != i && s.flag (Reg.EC_CT_DESC c j) 31)
  let bad := v.testBit 31 && (decide (sz < 2) || decide (12 < sz) || decide (kl < 1) || decide (32 < kl) || decide (2 ^ 20 < a.1 + a.2)
    || others.any (fun j => areaHits a (ctArea (s.regN (Reg.EC_CT_DESC c j)))))
  if 31 < c ∨ 7 < i ∨ bad = true then fail .badParam s
  else
    let old := s.regN (Reg.EC_CT_DESC c i)
    let s1 := s.setCfg (21 + c) (Reg.EC_CT_DESC c i) v
    let k := s1.cluster c
    let s2 := if v.testBit 31 then
        (s1.setCluster c { k with shared := Mem.clear k.shared a.1 a.2,
                                  poison := k.poison.filter (fun w => decide (w * 8 < a.1) || decide (a.1 + a.2 ≤ w * 8)) }).breakResv c 0 a.1 a.2
      else s1
    .done .ok (leBytes 4 old) s2

def execEngCtSet (w : Waybill) (s : State) : Host.Outcome State Fault Refusal := waybillCmd engCtSetMeta engCtSetBody w s

/-! Threads, counters, memory -/

def engThreadQueryMeta : OpMeta := { opcode := 0x0908, cls := .r, lenOk := len 4, maxRes := 32 }

def engThreadQueryBody : WbBody := fun w s =>
  if 31 < w.u8 0 ∨ 7 < w.u8 1 ∨ 7 < w.u8 2 then fail .badParam s
  else
    let h := w.u8 0 * 64 + w.u8 1 * 8 + w.u8 2
    let k := s.hart h
    .done .ok (leBytes 1 k.st.code ++ zeros 1 ++ leBytes 2 k.tag ++ leBytes 4 (s.frameWord h) ++ leBytes 8 k.pc.toNat ++ leBytes 8 k.slots
      ++ leBytes 8 k.tcmp) s

def execEngThreadQuery (w : Waybill) (s : State) : Host.Outcome State Fault Refusal := waybillCmd engThreadQueryMeta engThreadQueryBody w s

def engCntReadMeta : OpMeta := { opcode := 0x0909, cls := .r, lenOk := len 4, maxRes := 4080 }

def engCntReadBody : WbBody := fun w s =>
  let c := w.u8 0
  let i := w.u16 2
  if 31 < c ∨ 4095 < i then fail .badParam s
  else .done .ok ((List.range (min 510 (4096 - i))).flatMap (fun j => leBytes 8 (s.reg64 (Reg.CNT c (i + j))))) s

def execEngCntRead (w : Waybill) (s : State) : Host.Outcome State Fault Refusal := waybillCmd engCntReadMeta engCntReadBody w s

/-- n bytes at an address lie in the local memory of an engine, or in shared memory; `store`: where a waybill may write. -/
def State.engMem (s : State) (c a n : Nat) (store : Bool) : Bool :=
  a % 8 == 0 && (match s.region c a n with
    | .mem _ => true
    | .ctx _ => true
    | .ring _ => !store
    | .shared _ => true
    | _ => false)

def engMemReadMeta : OpMeta := { opcode := 0x090A, cls := .r, lenOk := len 12, maxRes := 4080 }

def engMemReadBody : WbBody := fun w s =>
  let c := w.u8 0
  let e := w.u8 1
  let n := w.u32 8
  if 31 < c ∨ 7 < e ∨ n < 8 ∨ 4080 < n ∨ n % 8 ≠ 0 ∨ s.engMem c (w.u32 4) n false = false then fail .badParam s
  else
    let r := s.peekAt (c * 64 + e * 8) (w.u32 4) n
    .done .ok (r.1.getD (zeros n)) r.2

def execEngMemRead (w : Waybill) (s : State) : Host.Outcome State Fault Refusal := waybillCmd engMemReadMeta engMemReadBody w s

def engMemWriteMeta : OpMeta :=
  { opcode := 0x090B, cls := .d, lenOk := fun n => decide (16 ≤ n) && decide (n ≤ 4080) && n % 8 == 0, maxRes := 0 }

def engMemWriteBody : WbBody := fun w s =>
  let c := w.u8 0
  let e := w.u8 1
  let n := w.params.length - 8
  if 31 < c ∨ 7 < e ∨ s.engMem c (w.u32 4) n true = false then fail .badParam s
  else .done .ok [] (s.writeRegion (c * 64 + e * 8) (w.u32 4) (w.bytes 8 n)).2

def execEngMemWrite (w : Waybill) (s : State) : Host.Outcome State Fault Refusal := waybillCmd engMemWriteMeta engMemWriteBody w s

def engRestartSupMeta : OpMeta := { opcode := 0x090C, cls := .d, lenOk := len 4, maxRes := 0 }

/-- ENG_RESTART_SUP (R424): a supervisor the debugger holds restarts when it is resumed; without a program there is none to restart. -/
def engRestartSupBody : WbBody := fun w s =>
  let c := w.u8 0
  let i := c * 8 + w.u8 1
  let k := s.hart (i * 8)
  if 31 < c ∨ 7 < w.u8 1 ∨ k.st = .unavailable then fail .badParam s
  else if !s.flag (Reg.EC_STATE c) 3 then .done .ok [] s
  else
    let t := (s.dropWait (i * 8)).supStart i (s.restartPc c)
    .done .ok [] (if k.st = .debug then t.modHart (i * 8) (fun x => { x with st := .debug, prior := .running }) else t)

def execEngRestartSup (w : Waybill) (s : State) : Host.Outcome State Fault Refusal := waybillCmd engRestartSupMeta engRestartSupBody w s

end Sys2Proof.Machine
end

