-- ==== Sys2Proof/Machine/WaybillRings.lean ====
section
/-!
DEFINITION. The waybill ring registers and the chain timer (02 R61-R64, R75), DEV_INFO and ECHO (R90).
-/

namespace Sys2Proof.Machine

open Sys2Proof

/-- Ring registers act unless the function is RESETTING or an UNPROVISIONED flask (04 R145, R158). -/
def State.ringOpen (s : State) (fn : Nat) : Bool :=
  match (s.fn fn).st with
  | .resetting => false
  | .unprovisioned => false
  | _ => true

/-- Ask the host for the request slots written and not yet asked for (R63); a contained function's ring is not read
(04 R151). -/
def State.ringFetch (s : State) (fn : Nat) : State :=
  let b := wbBase fn
  let c := s.regN (b + 8)
  let r := s.ring fn
  match ringSize c with
  | none => s
  | some n =>
    let cons := s.regN (b + 0x10)
    let avail := (s.regN (b + 0x0C) + 2 * n - cons % (2 * n)) % (2 * n)
    if !c.testBit 31 || r.stopped || !(s.fn fn).canIssue then s
    else if n < avail then (s.setRing fn { r with stopped := true }).raise (Ev.wbStatus fn) 1
    else if avail ≤ r.asked then s
    else
      let slot := (cons + r.asked) % n
      let k := avail - r.asked
      let first := min k (n - slot)
      let base := s.reg64 b
      let s1 := (s.setRing fn { r with asked := avail }).emit (.hostRead fn (base + slot * 64) (first * 64))
      if first < k then s1.emit (.hostRead fn base ((k - first) * 64)) else s1

/-- WB_REQ_PROD (R63): the producer index; each write is a doorbell. -/
def execWbReqProd (fn : Nat) (v : Word) (s : State) : Host.Outcome State Fault Refusal :=
  finish (if s.ringOpen fn then (s.setRegN (wbBase fn + 0x0C) (bits v.toNat 12 0)).ringFetch fn else s)

/-- WB_RSP_CONS (R62, R63): reply slots freed by the driver; held replies that now fit are written. -/
def execWbRspCons (fn : Nat) (v : Word) (s : State) : Host.Outcome State Fault Refusal :=
  finish (if !s.ringOpen fn then s else
    let b := wbBase fn
    let s1 := s.setRegN (b + 0x24) (bits v.toNat 12 0)
    match ringSize (s1.regN (b + 0x1C)) with
    | none => s1
    | some n =>
      let used := (s1.regN (b + 0x20) + 2 * n - s1.regN (b + 0x24) % (2 * n)) % (2 * n)
      if n < used && s1.flag (b + 0x1C) 31 then
        (s1.setRing fn { s1.ring fn with stopped := true }).raise (Ev.wbStatus fn) 1
      else s1.flushHeld)

/-- WB_REQ_CTRL (R63, R64): an invalid size stops the ring with RING_ERR; clearing ENABLE returns WB_REQ_CONS to 0. -/
def execWbReqCtrl (fn : Nat) (v : Word) (s : State) : Host.Outcome State Fault Refusal :=
  finish (if !s.ringOpen fn then s else
    let b := wbBase fn
    let old := s.flag (b + 8) 31
    let x := v.toNat
    let s1 := s.setRegN (b + 8) (x &&& 0x8000000F)
    let r := s1.ring fn
    if x.testBit 31 then
      let s2 := if old then s1 else s1.setRing fn { r with stopped := false }
      if (ringSize x).isNone then (s2.setRing fn { r with stopped := true }).raise (Ev.wbStatus fn) 0
      else s2.ringFetch fn
    else if old then (s1.setRegN (b + 0x10) 0).setRing fn { r with fetched := [], asked := 0, stopped := false }
    else s1)

/-- WB_RSP_CTRL (R63, R64): clearing ENABLE returns WB_RSP_PROD to 0, and with it PHASE to 1; setting it lets held
replies go. -/
def execWbRspCtrl (fn : Nat) (v : Word) (s : State) : Host.Outcome State Fault Refusal :=
  finish (if !s.ringOpen fn then s else
    let b := wbBase fn
    let old := s.flag (b + 0x1C) 31
    let x := v.toNat
    let s1 := s.setRegN (b + 0x1C) (x &&& 0x8000FFFF)
    if x.testBit 31 then
      if (ringSize x).isNone then (s1.setRing fn { s1.ring fn with stopped := true }).raise (Ev.wbStatus fn) 0
      else s1.flushHeld
    else if old then s1.setRegN (b + 0x20) 0 else s1)

/-- CHAIN_MEMBER_TIMEOUT (R75): the next member has not arrived within 1 ms; the chain stops and its exclusion ends. -/
def execChainMemberTimeout (inst : Instance) (s : State) : Host.Outcome State Fault Refusal :=
  finish (match s.chainOf inst with
    | some c => match c.st with
      | .next dl =>
        if s.wb.arrived.any (fun a => a.inst == inst) then s
        else (s.at dl).setChain inst (some { c with st := .late })
      | _ => s
    | none => s)

/-! DEV_INFO (R90) -/

def devInfoMeta : OpMeta :=
  { opcode := 0x0100, cls := .r, lenOk := len 0, maxRes := 32, flaskMay := true, wedged := true }

/-- The DEV_INFO result: identity, revision, firmware, slot, convoy ID, straps, serial, seconds since cold reset. -/
def State.devInfo (s : State) : List Byte :=
  leBytes 4 0x81401F1A ++ leBytes 4 (s.regN Reg.REVISION) ++ leBytes 4 (s.regN Reg.FW_VERSION)
    ++ leBytes 1 (if s.pwr.slotB then 1 else 0) ++ leBytes 1 s.pwr.convoyId
    ++ leBytes 1 (s.pwr.bootSel % 4 + bitVal s.pwr.hostBif 2) ++ zeros 1
    ++ leBytes 4 (s.regN Reg.SERIAL_LO) ++ leBytes 4 (s.regN Reg.SERIAL_HI)
    ++ leBytes 4 (s.etime / 1000000000) ++ zeros 4

def devInfoBody : WbBody := fun _ s => .done .ok s.devInfo s

def execDevInfo (w : Waybill) (s : State) : Host.Outcome State Fault Refusal := waybillCmd devInfoMeta devInfoBody w s

/-! ECHO (R90) -/

def echoMeta : OpMeta :=
  { opcode := 0x0120, cls := .r, lenOk := fun n => decide (n ≤ 4080), maxRes := 4080, flaskMay := true }

def echoBody : WbBody := fun w s => .done .ok w.params s

def execEcho (w : Waybill) (s : State) : Host.Outcome State Fault Refusal := waybillCmd echoMeta echoBody w s

/-! SETDASA, ENTDAA (R69) -/

/-- SETDASA: the I3C controller assigns a dynamic address. -/
def execSetdasa (addr : Nat) (s : State) : Host.Outcome State Fault Refusal :=
  finish (if s.pwr.pwrGoodAon then { s with wb := { s.wb with i3cDyn := some (addr % 128) } } else s)

/-- ENTDAA: the I3C controller assigns a dynamic address in its address-assignment procedure. -/
def execEntdaa (addr : Nat) (s : State) : Host.Outcome State Fault Refusal :=
  finish (if s.pwr.pwrGoodAon then { s with wb := { s.wb with i3cDyn := some (addr % 128) } } else s)

end Sys2Proof.Machine
end

