-- ==== Sys2Proof/Machine/Host.lean ====
section
/-!
DEFINITION. The host endpoint's events and the 0x02xx opcodes (04 R129-R166, R682).
-/

namespace Sys2Proof.Machine

open Sys2Proof

/-! Resets (R157-R161) -/

/-- FLR (R157, R161): Initiate Function Level Reset of a VF, or of PF0 with every function of its link. -/
def execFlr (fn : Nat) (s : State) : Host.Outcome State Fault Refusal :=
  finish (if !s.fnOn fn then s
    else if isPf0 fn then s.linkReset (s.linkOf fn) true
    else if (s.fn fn).st == .unprovisioned then s
    else s.startReset fn false true true)

/-- FLASK_RESET_DONE (R158 steps 5-8): every entry commits in entry order; a frame still on the wire or a ledger that
commits nothing delays it. -/
def execFlaskResetDone (fn : Nat) (s : State) : Host.Outcome State Fault Refusal :=
  finish (if (s.fn fn).st == .resetting && s.resetReady fn then
      ((s.fnWqs fn).foldl (fun t g => t.commitAll g) s).endReset fn
    else s)

/-- HOT_RESET (R161): every function of a link that is up is reset. -/
def execHotReset (link : Nat) (s : State) : Host.Outcome State Fault Refusal :=
  finish (if s.linkExists link && s.flag (linkStat link) 31 then (s.raise Ev.he 0).linkReset link false else s)

/-- HOST_LINK_DOWN (R161): the link leaves L0 and every function of it is reset. -/
def execHostLinkDown (link : Nat) (s : State) : Host.Outcome State Fault Refusal :=
  finish (if s.linkExists link && s.flag (linkStat link) 31 then
      ((s.setRegN (linkStat link) 0).raise Ev.he (if link = 1 then 2 else 1)).linkReset link false
    else s)

/-- HOST_LINK_UP (R129): the link reaches L0 at a speed 1-6 and a width; at 64 GT/s in Flit mode always. -/
def execHostLinkUp (link speed width : Nat) (flit : Bool) (s : State) : Host.Outcome State Fault Refusal :=
  finish (
    let wOk := [1, 2, 4, 8].contains width || (width == 16 && !s.pwr.hostBif)
    if s.linkExists link && !(s.link link).held && s.unitOn 2 && decide (1 ≤ speed) && decide (speed ≤ 6) && wOk then
      s.setRegN (linkStat link) (2 ^ 31 + bitVal (flit || speed == 6) 30 + width * 256 + speed)
    else s)

/-- VF_ENABLE_SET (R139, R161): VF Enable goes from 0 to 1; the VF BAR2 size is taken, OFFLINE flasks within NumVFs become
ACTIVE. -/
def execVfEnableSet (link numVFs : Nat) (s : State) : Host.Outcome State Fault Refusal :=
  finish (
    let k := s.link link
    let total := if !s.pwr.hostBif then 4095 else if link = 0 then 2047 else 2048
    if !s.linkExists link || k.vfEnable || decide (total < numVFs) then s
    else
      let s1 := s.setLink link { k with vfEnable := true, numVFs := numVFs, vfBar2Size := s.fld Reg.HE_VF_BAR2_SIZE 3 0 }
      { s1 with host := { s1.host with fns := s1.host.fns.map (fun x =>
          if !isPf0 x.1 && s1.linkOf x.1 == link && x.2.st == .offline && s1.vfOn x.1 then
            (x.1, { x.2 with st := .active }) else x) } })

/-- VF_ENABLE_CLEAR (R161): each ACTIVE or CONTAINED flask of the link is reset with its completions discarded and becomes
OFFLINE. -/
def execVfEnableClear (link : Nat) (s : State) : Host.Outcome State Fault Refusal :=
  finish (
    let k := s.link link
    if !k.vfEnable then s
    else
      let s1 := s.setLink link { k with vfEnable := false }
      let fl := (s1.host.fns.filter (fun x => !isPf0 x.1 && s1.linkOf x.1 == link &&
        (x.2.st == .active || x.2.st == .contained))).map (·.1)
      fl.foldl (fun t f => t.startReset f true true true) s1)

/-! Containment (R150-R156) -/

/-- HOST_READ_ERROR (R150-R152, R156): a read of function fn fails with cause 1-5. It belongs to its waybill request ring,
to entry `idx` of local queue `queue`, or (no idx) to that queue's fetch, or (queue 0xFFFF) to a descriptor of engine ring `idx`. The
entry completes CONTAINED with the bytes a mover had written; unless a reset runs, the function is contained. -/
def execHostReadError (fn cause : Nat) (ring : Bool) (queue : Nat) (idx : Option Nat) (addr : Nat) (s : State) :
    Host.Outcome State Fault Refusal :=
  finish (
    let st := (s.fn fn).st
    if cause = 0 ∨ 5 < cause then s
    else if st != .active && st != .contained then s
    else
      let s1 := (s.contain fn cause addr queue ring).aerLog fn cause
      if ring then
        let r := s1.ring fn
        s1.setRing fn { r with asked := 0, fetched := [] }
      else if queue = 0xFFFF then (match idx with
        | some n => s1.mvRingContained n
        | none => s1)
      else match s1.wqOf fn queue with
        | none => s1
        | some g => match idx with
          | none => s1.dropReads g
          | some i => s1.request g i { status := cContained, bytes := s1.mvBytesOf g i })

/-- FLASK_CTRL_RELEASE (R155): a write of 1 to RELEASE. -/
def execFlaskCtrlRelease (f : Nat) (s : State) : Host.Outcome State Fault Refusal :=
  finish (if isPf0 f || decide (4096 ≤ f) then s else
    let t := s.release f
    if (s.fn f).st == .contained then t.ringFetch f else t)

/-! Vectors (R140-R143) -/

/-- MSIX_VECTOR_UNMASK (R141): the vector's mask clears and its pending message is sent. -/
def execMsixVectorUnmask (fn v : Nat) (s : State) : Host.Outcome State Fault Refusal :=
  finish (if !s.fnOn fn || decide (s.vectors fn ≤ v) then s
    else (s.setFld (vecBase fn v + 12) 0 0 0).flushVectors fn)

/-- MSIX_ENABLE (R142, R143): INTx and MSI-X delivery change over. -/
def execMsixEnable (fn : Nat) (en : Bool) (s : State) : Host.Outcome State Fault Refusal :=
  finish (if !s.fnOn fn then s
    else
      let s1 := s.setFn fn { s.fn fn with msixEn := en }
      let s2 := if isPf0 fn then s1.intxUpdate (s.linkOf fn) else s1
      s2.flushVectors fn)

/-- INTX_ACK (R143): pending bit v of PF0 of a link clears. -/
def execIntxAck (link v : Nat) (s : State) : Host.Outcome State Fault Refusal :=
  finish (if s.linkExists link then s.clearPend (pf0Fn link) (v % 2048) else s)

/-! Service (R144) -/

/-- FUNCTION_SERVICE_STOP (R144): the function enters D3hot or loses Bus Master Enable. -/
def execFunctionServiceStop (fn : Nat) (d3hot : Bool) (s : State) : Host.Outcome State Fault Refusal :=
  finish (if !s.fnOn fn then s
    else s.setFn fn (if d3hot then { s.fn fn with d3hot := true } else { s.fn fn with busMaster := false }))

/-- FUNCTION_SERVICE_RESUME (R144): the function is in D0 with Bus Master Enable set; service resumes. -/
def execFunctionServiceResume (fn : Nat) (s : State) : Host.Outcome State Fault Refusal :=
  finish (if !s.fnOn fn then s
    else ((s.setFn fn { s.fn fn with d3hot := false, busMaster := true }).resumeFn fn).ringFetch fn)

/-! BAR2 (R138, R139) -/

/-- VF_BAR2_SIZE_WRITE (R139): while VF Enable is 0, HE_VF_BAR2_SIZE becomes 1 MiB, the one size the capability offers. -/
def execVfBar2SizeWrite (link size : Nat) (s : State) : Host.Outcome State Fault Refusal :=
  finish (if s.linkExists link && !(s.link link).vfEnable && size == 0 then s.setCfg 2 Reg.HE_VF_BAR2_SIZE 8 else s)

/-- BAR2_ACCESS (R138, R139): PF0 reaches DRAM from HE_BAR2_BASE on; a flask its private area. -/
def execBar2Access (src : Src) (write : Bool) (off len : Nat) (data : List Byte) (s : State) :
    Host.Outcome State Fault Refusal :=
  finish (
    let n := if write then data.length else len
    match src with
    | .pf0 l =>
      let a := s.fld Reg.HE_BAR2_BASE 9 0 * 2 ^ 28 + off
      if !s.linkExists l || decide (2 ^ (28 + (s.link l).bar2Size) < off + n) then s
      else
        let s1 := if s.dramBytes < a + n then s.logAccess 2 (srcIssuer src) off n else s
        if write then s1.dramWrite a data else s1.emit (.readData src (s1.dramRead a n))
    | .flask f =>
      let x := s.fn f
      let size := u16 x.quota 16 * 1024
      if !s.vfOn f || decide (4096 * 2 ^ (s.link (s.linkOf f)).vfBar2Size < off + n) then s
      else if write then s.dramWrite (x.dramBase + off) (data.take (size - off))
      else s.emit (.readData src (fit n (s.dramRead (x.dramBase + off) (min n (size - off)))))
    | _ => s)

/-! The 0x02xx opcodes (R165, R682) -/

/-- The function a flask opcode names, or none when the number or LINK is out of range. -/
def hostFn (s : State) (w : Waybill) : Option Nat :=
  let f := w.u16 0
  if 4096 ≤ f ∨ s.linkBad w.inst f (w.u8 2) = true then none else some (s.namedFn w.inst f (w.u8 2))

/-- The flask an opcode acts on, as the object it holds (02 R76). -/
def flaskObj (s : State) (w : Waybill) : Option Obj := (hostFn s w).map (fun f => ⟨.flask, f⟩)

def flaskQueryMeta : OpMeta :=
  { opcode := 0x0200, cls := .r, lenOk := len 4, maxRes := 48, flaskMay := true, containExempt := true,
    stateExempt := true, outside := fun _ w f => w.u16 0 != 0 && w.u16 0 != f }

/-- The FLASK_QUERY result; queues in use are work queues. -/
def State.flaskQuery (s : State) (fn : Nat) : List Byte :=
  let f := s.fn fn
  let en := if f.msixEn && !f.fnMask then
      ((List.range (s.vectors fn)).filter (fun v => !s.flag (vecBase fn v + 12) 0)).length else 0
  leBytes 1 f.st.code ++ leBytes 1 (s.linkOf fn) ++ zeros 2 ++ leBytes 4 (s.fnEpoch fn) ++ leBytes 4 f.cause ++ f.quota
    ++ leBytes 2 (s.fnWqs fn).length ++ leBytes 1 (min 255 en) ++ zeros 1

def flaskQueryBody : WbBody := fun w s =>
  match issuerFlask w.inst with
  | some f => .done .ok (s.flaskQuery f) s
  | none => match hostFn s w with
    | none => fail .badParam s
    | some fn => .done .ok (s.flaskQuery fn) s

def execFlaskQuery (w : Waybill) (s : State) : Host.Outcome State Fault Refusal :=
  waybillCmd flaskQueryMeta flaskQueryBody w s

def flaskCreateMeta : OpMeta :=
  { opcode := 0x0201, cls := .d, lenOk := len 36, maxRes := 0,
    obj := fun _ w => some ⟨.flask, w.u16 0⟩ }

/-- FLASK_CREATE (R149): UNPROVISIONED becomes OFFLINE, or ACTIVE when its VF is enabled. -/
def flaskCreateBody : WbBody := fun w s =>
  let f := w.u16 0
  let q := quotaOf (w.bytes 4 32)
  if f = 0 ∨ 4096 ≤ f ∨ (s.fn f).st ≠ .unprovisioned ∨ quotaBad q = true then fail .badParam s
  else match s.grant f q with
    | none => fail .noResource s
    | some t =>
      let x := t.fn f
      let st := if t.vfOn f then .active else .offline
      let s1 := t.setFn f { x with st := st, generation := x.generation + 1, containCount := 0, created := true }
      let s2 := { s1 with tally := { s1.tally with flasks := SMap.put s1.tally.flasks f {}, shadowFlask := SMap.del s1.tally.shadowFlask f } }
      .done .ok [] s2.queueCounts

def execFlaskCreate (w : Waybill) (s : State) : Host.Outcome State Fault Refusal :=
  waybillCmd flaskCreateMeta flaskCreateBody w s

def flaskDestroyMeta : OpMeta :=
  { opcode := 0x0202, cls := .d, lenOk := len 4, maxRes := 0, canPend := true, containExempt := true,
    obj := fun _ w => some ⟨.flask, w.u16 0⟩ }

/-- FLASK_DESTROY (R149, R160): an ACTIVE or CONTAINED flask is reset first; a running reset is awaited. -/
def flaskDestroyBody : WbBody := fun w s =>
  let f := w.u16 0
  if f = 0 ∨ 4096 ≤ f then fail .badParam s
  else match (s.fn f).st with
    | .unprovisioned => .done .ok [] s
    | .offline => .done .ok [] (s.freeFlask f)
    | .resetting => .pend (.flaskDestroy f) 20000000 (some ⟨.flask, f⟩) (s.setFn f { s.fn f with thenDestroy := true })
    | _ =>
      let s1 := s.startReset f false false true
      .pend (.flaskDestroy f) 20000000 (some ⟨.flask, f⟩) (s1.setFn f { s1.fn f with thenDestroy := true })

def execFlaskDestroy (w : Waybill) (s : State) : Host.Outcome State Fault Refusal :=
  waybillCmd flaskDestroyMeta flaskDestroyBody w s

def flaskSetQuotaMeta : OpMeta :=
  { opcode := 0x0203, cls := .d, lenOk := len 36, maxRes := 32, containExempt := true,
    obj := fun _ w => some ⟨.flask, w.u16 0⟩ }

/-- FLASK_SET_QUOTA (R148): the checks in their order; the result is the previous record. -/
def flaskSetQuotaBody : WbBody := fun w s =>
  let f := w.u16 0
  let q := quotaOf (w.bytes 4 32)
  if f = 0 ∨ 4096 ≤ f then fail .badParam s
  else
    let x := s.fn f
    if x.st = .unprovisioned then fail .badParam s
    else if x.st = .resetting then fail .busy s
    else if quotaBad q then fail .badParam s
    else if u8 q 4 ≠ u8 x.quota 4 ∧ x.msixEn = true then fail .busy s
    else match s.grant f q with
      | none => fail .noResource s
      | some t => .done .ok x.quota (t.raiseFlask f 3)

def execFlaskSetQuota (w : Waybill) (s : State) : Host.Outcome State Fault Refusal :=
  waybillCmd flaskSetQuotaMeta flaskSetQuotaBody w s

/-- An opcode that names a flask or PF0 by FLASK and LINK. -/
def fnMeta (op : Nat) (c : Cls) : OpMeta :=
  { opcode := op, cls := c, lenOk := len 4, maxRes := 0, flaskMay := true,
    fnOf := fun s w => some (s.namedFn w.inst (w.u16 0) (w.u8 2)), outside := fun _ w f => w.u16 0 != f, obj := flaskObj }

def flaskResetMeta : OpMeta := { fnMeta 0x0204 .f with canPend := true, containExempt := true }

/-- FLASK_RESET (R158, R160, R165): flask 0 acts as an FLR of that PF0. -/
def flaskResetBody : WbBody := fun w s =>
  match hostFn s w with
  | none => fail .badParam s
  | some fn =>
    if (s.fn fn).st = .unprovisioned then fail .badParam s
    else
      .pend (.flaskReset fn) 10000000 (some ⟨.flask, fn⟩)
        (if isPf0 fn then s.linkReset (s.linkOf fn) true else s.startReset fn false false true)

def execFlaskReset (w : Waybill) (s : State) : Host.Outcome State Fault Refusal :=
  waybillCmd flaskResetMeta flaskResetBody w s

def flaskReleaseMeta : OpMeta := { fnMeta 0x0205 .f with containExempt := true }

/-- FLASK_RELEASE (R155): OK with no effect while not CONTAINED. -/
def flaskReleaseBody : WbBody := fun w s =>
  match hostFn s w with
  | none => fail .badParam s
  | some fn => .done .ok [] (if (s.fn fn).st = .contained then (s.release fn).ringFetch fn else s)

def execFlaskRelease (w : Waybill) (s : State) : Host.Outcome State Fault Refusal :=
  waybillCmd flaskReleaseMeta flaskReleaseBody w s

def flaskContainMeta : OpMeta :=
  { (fnMeta 0x0206 .d) with
      flaskMay := false
      touches := fun s w => (if w.u16 0 = 0 then hostFn s w else none) }

/-- FLASK_CONTAIN (R150, R166): cause 0x06. -/
def flaskContainBody : WbBody := fun w s =>
  match hostFn s w with
  | none => fail .badParam s
  | some fn =>
    match (s.fn fn).st with
    | .unprovisioned => fail .badParam s
    | .active => .done .ok [] (s.contain fn 6 0 0 false)
    | .contained => .done .ok [] (s.countContain fn)
    | _ => .done .ok [] s

def execFlaskContain (w : Waybill) (s : State) : Host.Outcome State Fault Refusal :=
  waybillCmd flaskContainMeta flaskContainBody w s

def flaskListMeta : OpMeta := { opcode := 0x0207, cls := .r, lenOk := len 4, maxRes := 1024 }

/-- FLASK_LIST (R165). -/
def flaskListBody : WbBody := fun w s =>
  let a := w.u16 0
  let n := w.u16 2
  if a = 0 ∨ n = 0 ∨ 1024 < n ∨ 4096 < a + n then fail .badParam s
  else .done .ok ((List.range n).map (fun i => BitVec.ofNat 8 (s.fn (a + i)).st.code)) s

def execFlaskList (w : Waybill) (s : State) : Host.Outcome State Fault Refusal :=
  waybillCmd flaskListMeta flaskListBody w s

def linkQueryMeta : OpMeta := { opcode := 0x0208, cls := .r, lenOk := len 4, maxRes := 8 }

/-- LINK_QUERY (R165). -/
def linkQueryBody : WbBody := fun w s =>
  let l := w.u8 0
  if 1 < l then fail .badParam s
  else .done .ok (leBytes 4 (s.regN (linkStat l)) ++ leBytes 2 (s.link l).numVFs ++ zeros 2) s

def execLinkQuery (w : Waybill) (s : State) : Host.Outcome State Fault Refusal :=
  waybillCmd linkQueryMeta linkQueryBody w s

end Sys2Proof.Machine
end

