-- ==== Sys2Proof/Machine/OpsTable.lean ====
section
/-!
DEFINITION. Table commands: entry images, placement, the two generations, charges, rebuilds (09 R308-R325, R332).
-/

namespace Sys2Proof.Machine

open Sys2Proof

/-! Levels, memory and cache of a table -/

/-- KiB of a resident generation (R313). -/
def Table.kib (t : Table) (g : Gen) : Nat := if t.resident then genBytes t.desc g.sizeLog2 / 1024 else 0

/-- Evict lines, each a free choice, until the cached tables' lines fit (R313). -/
def State.fitCache (s : State) : Nat → State
  | 0 => s
  | n + 1 =>
    if s.lk.cache.length ≤ s.cacheLines then s
    else
      let r := s.draw
      let v := r.1 % max 1 s.lk.cache.length
      State.fitCache { r.2 with lk := { r.2.lk with cache := r.2.lk.cache.eraseIdx v } } n

/-- LK_RESIDENT changes from `old` to `new` KiB of a table. -/
def State.resident (s : State) (old new : Nat) : State :=
  let s1 := s.setRegN Reg.LK_RESIDENT (s.regN Reg.LK_RESIDENT + new - old)
  s1.fitCache s1.lk.cache.length

/-- More resident KiB than the cache allows (R313). -/
def State.residentBad (s : State) (more : Nat) : Bool := decide (12288 < s.regN Reg.LK_RESIDENT + more)

/-- TABLE_HIGH when the occupancy first rises above HIGH_WATER; armed again 5 points below it (R320). -/
def State.tableLevel (s : State) (n : Nat) : State :=
  match s.table? n with
  | none => s
  | some t =>
    let c := t.count t.act * 100
    let ways := 2 * 2 ^ t.act.sizeLog2
    if !t.highOff && decide (t.highWater * ways < c) then
      ((s.setTable n { t with highOff := true }).setRegN Reg.LK_LAST_FULL n).raise Ev.lk 1
    else if t.highOff && decide (c ≤ (t.highWater - 5) * ways) then s.setTable n { t with highOff := false }
    else s

/-! Charges (R319) -/

/-- Entries charged to an owner. -/
def State.charged (s : State) (o : Nat) : Nat := SMap.getD s.lk.charge o 0

/-- Change an owner's charge. -/
def State.charge (s : State) (o : Nat) (up : Bool) : State :=
  let n := if up then s.charged o + 1 else s.charged o - 1
  { s with lk := { s.lk with charge := if n = 0 then SMap.del s.lk.charge o else SMap.put s.lk.charge o n } }

/-- One more entry would take an owner beyond its cap. -/
def State.quotaFull (s : State) (o : Nat) : Bool := o != 0 && decide (u32 (s.fn o).quota 12 ≤ s.charged o)

/-! Entry images (R308, R309) -/

/-- An owner holds what a result names. -/
def State.holdsQueue (s : State) (o fn q tgt : Nat) : Bool := fn == o && (tgt.testBit 2 || (s.wqOf o q).isSome)
def State.holdsTmq (s : State) (o q : Nat) : Bool := match s.tmq? q with | some x => x.owner == o | none => false

/-- The checks of R309 on an image for table t. -/
def State.imageBad (s : State) (t : Table) (e : List Byte) : Bool :=
  let fl := u8 e t.ctrl
  let eo := u16 e (t.ctrl + 2)
  let r := t.result e
  let kind := u8 r 0 % 4
  let tgt := u8 r 1
  let any := fun (p : Nat → Bool) => p t.owner || p (eo % 4096)
  (slice e t.keyLen (t.keySize - t.keyLen)).any (· != 0) || !fl.testBit 0 || fl / 8 != 0 || decide (4096 ≤ eo)
    || (t.owner != 0 && eo != t.owner) || u8 r 0 / 64 != 0
    || (if kind = 1 then decide (64 ≤ tgt) else if kind = 2 then decide (8 ≤ tgt) else tgt != 0)
    || (kind != 2 && u16 r 2 != 0) || decide (0x4000 ≤ u16 r 12) || decide (0x2000 ≤ u16 r 14)
    || (kind == 2 && !any (fun o => s.holdsQueue o (u16 r 2) (u16 r 4) tgt))
    || (kind == 3 && !any (fun o => s.holdsTmq o (u16 r 4)))
    || ((u8 r 0).testBit 2 && !any (fun o => s.holdsTmq o (u16 r 6)))
    || ((u8 r 0).testBit 4 && !any (fun o => s.slotHeldBy (u16 r 12) o))
    || ((u8 r 0).testBit 5 && !any (fun o => listOwner (s.actList (u16 r 14)) == o))

/-- The image as stored: HIT 0, AGE from AGE_INIT (R308). -/
def Table.stored (t : Table) (e : List Byte) : List Byte :=
  patch (fit t.entrySize e) t.ctrl [BitVec.ofNat 8 (u8 e t.ctrl % 4), BitVec.ofNat 8 t.ageInit]

/-! Placement (R317) -/

/-- A way that can take an entry. -/
def Table.free (t : Table) (g : Gen) (i : Nat) : Bool := !g.bad.contains i && !t.valid (t.way g i)

/-- Put `e` into bucket b, moving entries on to their other bucket, within n moves; ways that fail parity take no part. -/
def Table.kick (t : Table) (key : Nat) : Nat → Gen → List Byte → Nat → Option (Nat × Gen)
  | 0, _, _, _ => none
  | n + 1, g, e, b =>
    match [2 * b, 2 * b + 1].find? (t.free g) with
    | some w => some (0, g.put w e)
    | none =>
      let good := [2 * b, 2 * b + 1].filter (fun w => !g.bad.contains w)
      match good with
      | [] => none
      | _ =>
        let v := good.getD (Config.lkPlace g.seed key (n + 1) % good.length) (2 * b)
        let old := t.way g v
        let c := g.buckets (old.take t.keyLen)
        (t.kick key n (g.put v e) old (if b = c.1 then c.2 else c.1)).map (fun x => (x.1 + 1, x.2))

/-- Place a new entry: a free way of either candidate bucket, else by at most 32 relocations: how many, and the generation. -/
def Table.place (t : Table) (g : Gen) (e : List Byte) : Option (Nat × Gen) :=
  let key := e.take t.keyLen
  let free := (g.cands key).filter (t.free g)
  match free with
  | [] => t.kick (leNat key) 33 g e (g.buckets key).1
  | _ => some (0, g.put (free.getD (Config.lkPlace g.seed (leNat key) 0 % free.length) 0) e)

/-! The shadow (R321-R325) -/

/-- Learned inserts held for a FLIP that will not come count as failed (log entry 26). -/
def State.dropHeld (s : State) (n : Nat) : State :=
  match s.table? n with
  | none => s
  | some t => (s.setTable n { t with heldFull := [] }).bumpN Reg.LK_LEARN_FAIL t.heldFull.length

/-- Free the shadow: its memory, its cache lines; the state is NONE. -/
def State.freeShadow (s : State) (n : Nat) : State :=
  match s.table? n with
  | none => s
  | some t => match t.shadow with
    | none => s
    | some g =>
      let s1 := (s.setTable n { t with shadow := none, rebuild := 0, copied := 0 }).dropLines n g.tag
      (s1.resident (t.kib g) 0).dropHeld n

/-- The shadow has no room: the rebuild fails (R323). -/
def State.rebuildFail (s : State) (n : Nat) : State :=
  match s.table? n with
  | none => s
  | some t =>
    let s1 := (s.freeShadow n).setRegN Reg.LK_LAST_FULL n
    if t.rebuild = 2 then s1.raise Ev.lk 4 else s1.completeWait (.tblRehash n) .rehashNeeded []

/-- Write an entry into the shadow: in place where its key is, else placed; none: no room. -/
def Table.shadowPut (t : Table) (g : Gen) (e : List Byte) (onlyIfThere : Bool) : Option Gen :=
  match t.find g (e.take t.keyLen) with
  | some i => some (g.put i e)
  | none => if onlyIfThere then some g else (t.place g e).map (·.2)

/-- Entries of the active generation that stand in another way than before. -/
def movedEntries (t : Table) (old new : Gen) : List (List Byte) :=
  (new.ways.filter (fun x => t.valid x.2 && SMap.get? old.ways x.1 != some x.2)).map (·.2)

/-- Put several entries into the shadow. -/
def Table.shadowAll (t : Table) (g : Gen) : List (List Byte) → Bool → Option Gen
  | [], _ => some g
  | e :: l, b => match t.shadowPut g e b with
    | none => none
    | some g1 => t.shadowAll g1 l b

/-- Carry a change to the shadow (R323): the shadow as `f` leaves it, or the rebuild fails. -/
def State.toShadow (s : State) (n : Nat) (f : Table → Gen → Option Gen) : State :=
  match s.table? n with
  | none => s
  | some t => match t.shadow with
    | none => s
    | some g => match f t g with
      | some g1 => s.setTable n { t with shadow := some g1 }
      | none => s.rebuildFail n

/-! Commands (R316-R320) -/

def rOk : Nat := 0
def rExists : Nat := 1
def rNotFound : Nat := 2
def rFull : Nat := 3
def rNotOwner : Nat := 4
def rBadParam : Nat := 5
def rQuota : Nat := 6
def rParity : Nat := 7
def rNoTable : Nat := 8

/-- What a command answers: RESULT, relocations, an entry read. -/
structure CmdRes where
  result : Nat
  relocs : Nat := 0
  data : List Byte := []
  st : State

/-- INSERT of a checked image of a key that is not there. -/
def State.cmdPlace (s : State) (n : Nat) (t : Table) (e : List Byte) : CmdRes :=
  let o := t.entOwner e
  if s.quotaFull o then { result := rQuota, st := s }
  else match t.place t.act e with
    | none => { result := rFull, st := (s.setRegN Reg.LK_LAST_FULL n).raise Ev.lk 0 }
    | some (k, g) =>
      let s1 := ((s.setTable n { t with act := g }).charge o true).tableLevel n
      { result := rOk, relocs := k, st := s1.toShadow n (fun t1 sh => t1.shadowAll sh (movedEntries t t.act g) false) }

/-- UPDATE of the way i that holds the image's key. -/
def State.cmdRewrite (s : State) (n : Nat) (t : Table) (i : Nat) (e : List Byte) : CmdRes :=
  let o := t.entOwner e
  let was := t.entOwner (t.way t.act i)
  if o ≠ was ∧ s.quotaFull o = true then { result := rQuota, st := s }
  else
    let s1 := s.setTable n { t with act := t.act.put i e }
    let s2 := if o = was then s1 else (s1.charge was false).charge o true
    { result := rOk, st := s2.toShadow n (fun t1 sh => t1.shadowPut sh e true) }

/-- An entry leaves way i of the active generation: its VALID clears and its owner's charge ends; of the shadow too. -/
def State.removeWay (s : State) (n : Nat) (t : Table) (i : Nat) : State :=
  let e := t.way t.act i
  let s1 := s.setTable n { t with act := t.act.put i (patch e t.ctrl [BitVec.ofNat 8 (setBits (u8 e t.ctrl) 0 0 0)]) }
  let s2 := (s1.charge (t.entOwner e) false).toShadow n (fun t1 sh =>
    match t1.find sh (e.take t1.keyLen) with
    | some j => let x := t1.way sh j
                some (sh.put j (patch x t1.ctrl [BitVec.ofNat 8 (setBits (u8 x t1.ctrl) 0 0 0)]))
    | none => some sh)
  s2.tableLevel n

/-- CLEAR_AT (R316, R332): the way is cleared and passes parity again; a valid entry of the active generation ends its owner's
charge, or the table owner's when that owner has no charge. -/
def State.clearWay (s : State) (n : Nat) (t : Table) (shadow : Bool) (i : Nat) : State :=
  let wipe := fun (g : Gen) => { g.put i [] with bad := g.bad.filter (· != i) }
  if shadow then s.setTable n { t with shadow := t.shadow.map wipe }
  else
    let e := t.way t.act i
    let s1 := s.setTable n { t with act := wipe t.act }
    if !t.valid e then s1
    else
      let o := t.entOwner e
      let s2 := s1.charge (if s1.charged o = 0 then t.owner else o) false
      (s2.toShadow n (fun t1 sh => match t1.find sh (e.take t1.keyLen) with
        | some j => some (sh.put j [])
        | none => some sh)).tableLevel n

/-- The way a READ_AT or CLEAR_AT names: its generation and index; none: not there. -/
def Table.named (t : Table) (gen : Bool) (bucket : Nat) (way : Bool) : Option (Gen × Nat) :=
  match (if gen then t.shadow else some t.act) with
  | none => none
  | some g => if bucket < 2 ^ g.sizeLog2 then some (g, 2 * bucket + (if way then 1 else 0)) else none

/-- Carry out command `op` on table n with image or key `img`; `may`: the issuer may write (R318). A way that READ_AT or CLEAR_AT
names and that is not there is BAD_PARAM, as an OP outside R316 is (log entry 27). -/
def State.command (s0 : State) (op n : Nat) (img : List Byte) (gen : Bool) (bucket : Nat) (way may : Bool) : CmdRes :=
  let s := s0.bump Reg.LK_COMMANDS
  match s.table? n with
  | none => { result := rNoTable, st := s }
  | some t =>
    let key := img.take t.keyLen
    let at_ := t.find t.act key
    if op ≠ 5 ∧ op ≠ 6 ∧ may = false then { result := rNotOwner, st := s }
    else match op with
      | 1 =>
        if s.imageBad t img then { result := rBadParam, st := s }
        else if at_.isSome then { result := rExists, st := s }
        else s.cmdPlace n t (t.stored img)
      | 2 =>
        if s.imageBad t img then { result := rBadParam, st := s }
        else match at_ with
          | none => { result := rNotFound, st := s }
          | some i => s.cmdRewrite n t i (t.stored img)
      | 3 =>
        if s.imageBad t img then { result := rBadParam, st := s }
        else match at_ with
          | none => s.cmdPlace n t (t.stored img)
          | some i => s.cmdRewrite n t i (t.stored img)
      | 4 => (match at_ with
          | none => { result := rNotFound, st := s }
          | some i => { result := rOk, st := s.removeWay n t i })
      | 5 => (match at_ with
          | none => { result := rNotFound, data := zeros t.entrySize, st := s }
          | some i => { result := rOk, data := t.way t.act i, st := s })
      | 6 => (match t.named gen bucket way with
          | none => { result := rBadParam, st := s }
          | some (g, i) => { result := if g.bad.contains i then rParity else rOk, data := t.way g i, st := s })
      | 7 => (match t.named gen bucket way with
          | none => { result := rBadParam, st := s }
          | some (_, i) => { result := rOk, st := s.clearWay n t gen i })
      | _ => { result := rBadParam, st := s }

/-! Removing entries (R325, R336) -/

/-- Remove the entries of table n that a test picks: how many, and the state. -/
def State.removeIf (s : State) (n : Nat) (p : Table → List Byte → Bool) : Nat × State :=
  match s.table? n with
  | none => (0, s)
  | some t =>
    let ws := (t.act.ways.filter (fun x => t.valid x.2 && !t.act.bad.contains x.1 && p t x.2)).map (·.1)
    (ws.length, ws.foldl (fun u i => match u.table? n with | some t1 => u.removeWay n t1 i | none => u) s)

/-- Table n goes: its entries' charges end, its memory and lines are free. -/
def State.destroyTable (s : State) (n : Nat) : Nat × State :=
  match s.table? n with
  | none => (0, s)
  | some t =>
    let es := t.act.ways.filter (fun x => t.valid x.2)
    let s1 := es.foldl (fun u x => u.charge (t.entOwner x.2) false) s
    let s2 := (s1.dropLines n 0).dropLines n 1
    let s3 := s2.resident (t.kib t.act + (match t.old with | some g => t.kib g | none => 0)) 0
    ((es.filter (fun x => !t.act.bad.contains x.1)).length,
     { s3 with lk := { s3.lk with tables := SMap.del s3.lk.tables n } })

end Sys2Proof.Machine
end

