-- ==== Sys2Proof/Machine/Mailbox.lean ====
section
/-!
DEFINITION. Mailboxes and the event fabric (14; 15 R520 0x0B10-0x0B12).
-/

namespace Sys2Proof.Machine

open Sys2Proof

/-- A word read from a side goes back to its reader. -/
def State.mbAnswer (x : Word × State) (user : MbUser) (key : Nat) : State :=
  match user with
  | .host src => x.2.emit (.readData src (leBytes 4 x.1.toNat))
  | u => x.2.emit (.mbWord u key x.1)

def execMbTx (user : MbUser) (key : Nat) (side : Bool) (w : Word) (s : State) : Host.Outcome State Fault Refusal :=
  finish (s.mbTx user key side w false)

def execMbTxEom (user : MbUser) (key : Nat) (side : Bool) (w : Word) (s : State) : Host.Outcome State Fault Refusal :=
  finish (s.mbTx user key side w true)

def execMbRx (user : MbUser) (key : Nat) (side : Bool) (s : State) : Host.Outcome State Fault Refusal :=
  finish (State.mbAnswer (s.mbRx user key side) user key)

def execMbLockRead (user : MbUser) (key : Nat) (side : Bool) (s : State) : Host.Outcome State Fault Refusal :=
  finish (State.mbAnswer (s.mbLockRead user key side) user key)

def execMbLockWrite (user : MbUser) (key : Nat) (side : Bool) (s : State) : Host.Outcome State Fault Refusal :=
  finish (s.mbLockWrite user key side)

/-- R490: the queue is flushed, TIMEOUT on the sending side, FLUSHED on the receiving side. -/
def execMbSendTimeout (key : Nat) (side : Bool) (s : State) : Host.Outcome State Fault Refusal :=
  finish (match ((s.mbPair key).side side).timer with
    | none => s
    | some t => ((s.at t).mbFlush key side).mbErr key side 4)

/-- R494: the held notification is delivered once the receiving unit is in service. -/
def execMbWakeDone (key : Nat) (side : Bool) (s : State) : Host.Outcome State Fault Refusal :=
  finish (
    let x := (s.mbPair key).side side
    if !x.held || !s.mbInService (s.mbOwner key side) then s
    else ((s.mbWakeEnd key side).modSide key side (fun y => { y with held := false })).mbDeliver key side)

/-- R494: a wake that has not completed within 5 ms. -/
def execWakeFail (key : Nat) (side : Bool) (s : State) : Host.Outcome State Fault Refusal :=
  finish (match ((s.mbPair key).side side).wake with
    | none => s
    | some t => ((s.at t).mbWakeEnd key side).raiseSev Ev.mb 0 1)

/-- The effect of MB_LOCK_FREE (R496): the lock of the side named is released by force. -/
def State.mbLockFree (s : State) (v : Nat) : State :=
  let key := if v.testBit 31 then 64 + bits v 27 16 else bits v 5 0
  let b := v.testBit 7
  match ((s.mbPair key).side b).lock with
  | none => s
  | some _ => (s.modSide key b (fun x => { x with lock := none })).raise Ev.mb 1

/-- R493, R496: a forced release; it empties neither queue. -/
def execMbLockFree (src : Src) (compl : Word) (s : State) : Host.Outcome State Fault Refusal :=
  finish (s.guarded src Reg.MB_LOCK_FREE compl (fun v t => t.mbLockFree v))

/-! Opcodes 0x0B10-0x0B12 -/

def mbAssignMeta : OpMeta := { opcode := 0x0B10, cls := .d, lenOk := len 4, maxRes := 4 }

def mbAssignBody : WbBody := fun w s =>
  let key := w.u8 0
  let en := (w.u8 1).testBit 0
  let c := w.u8 2
  if key < 36 ∨ 63 < key ∨ 31 < c then fail .badParam s
  else
    let p := s.mbPair key
    let others := (List.range 28).filter (fun i => 36 + i != key && s.mbOwner (36 + i) true == .cluster c)
    if !p.ab.isEmpty || !p.ba.isEmpty || p.a.lock.isSome || p.b.lock.isSome then fail .busy s
    else if en && decide (7 ≤ others.length) then fail .noResource s
    else
      let a := Reg.MB_PAIR_CFG (key - 36)
      .done .ok (leBytes 4 (s.regN a)) (s.setCfg 13 a (bitVal en 31 + bitVal ((w.u8 1).testBit 1) 30 + c))

def execMbAssign (w : Waybill) (s : State) : Host.Outcome State Fault Refusal := waybillCmd mbAssignMeta mbAssignBody w s

def efRouteSetMeta : OpMeta := { opcode := 0x0B11, cls := .d, lenOk := len 12, maxRes := 4 }

/-- A route names what its kind can reach (R495). -/
def routeIndexOk (v : Nat) : Bool :=
  match bits v 30 28 with
  | 2 => decide (bits v 10 0 < 32)
  | 3 => decide (bits v 10 0 < 64)
  | _ => true

def efRouteSetBody : WbBody := fun w s =>
  let u := w.u8 0
  let r := w.u8 1
  if 54 < u ∨ 1 < w.u8 2 ∨ (unitStatusRegs u).length ≤ r ∨ routeIndexOk (w.u32 4) = false then fail .badParam s
  else
    let a := if w.u8 2 = 0 then Reg.EF_ROUTE0 (u * 8 + r) else Reg.EF_ROUTE1 (u * 8 + r)
    .done .ok (leBytes 4 (s.regN a)) (s.setCfg 13 a (setBits (w.u32 4) 21 11 0))

def execEfRouteSet (w : Waybill) (s : State) : Host.Outcome State Fault Refusal := waybillCmd efRouteSetMeta efRouteSetBody w s

def efSetSampleVecMeta : OpMeta := { opcode := 0x0B12, cls := .d, lenOk := len 4, maxRes := 4 }

def efSetSampleVecBody : WbBody := fun w s =>
  if 63 < w.u8 0 then fail .badParam s
  else .done .ok (leBytes 4 (s.regN Reg.EF_SAMPLE_VEC)) (s.setCfg 13 Reg.EF_SAMPLE_VEC (w.u8 0))

def execEfSetSampleVec (w : Waybill) (s : State) : Host.Outcome State Fault Refusal :=
  waybillCmd efSetSampleVecMeta efSetSampleVecBody w s

end Sys2Proof.Machine
end

