-- ==== Sys2Proof/Machine/Movers.lean ====
section
/-!
DEFINITION. The movers' descriptors, events and 0x0Axx opcodes (13 R455-R482).
-/

namespace Sys2Proof.Machine

open Sys2Proof

/-! Descriptors (R459-R462, R468, R475) -/

def execMvCopy (chan : Nat) (s : State) : Host.Outcome State Fault Refusal := finish (s.mvBegin chan 0x30)
def execMvGather (chan : Nat) (s : State) : Host.Outcome State Fault Refusal := finish (s.mvBegin chan 0x31)
def execMvScatter (chan : Nat) (s : State) : Host.Outcome State Fault Refusal := finish (s.mvBegin chan 0x32)
def execMvInterleave (chan : Nat) (s : State) : Host.Outcome State Fault Refusal := finish (s.mvBegin chan 0x33)
def execMvDeinterleave (chan : Nat) (s : State) : Host.Outcome State Fault Refusal := finish (s.mvBegin chan 0x34)
def execMvBitplane (chan : Nat) (s : State) : Host.Outcome State Fault Refusal := finish (s.mvBegin chan 0x35)
def execMvBitplaneInv (chan : Nat) (s : State) : Host.Outcome State Fault Refusal := finish (s.mvBegin chan 0x36)
def execMvFill (chan : Nat) (s : State) : Host.Outcome State Fault Refusal := finish (s.mvBegin chan 0x37)
def execMvRandom (chan : Nat) (s : State) : Host.Outcome State Fault Refusal := finish (s.mvBegin chan 0x38)

/-! Events -/

/-- MOVER_DESCRIPTOR_START (R457). -/
def execMoverDescriptorStart (chan : Nat) (s : State) : Host.Outcome State Fault Refusal := finish (s.mvStart chan)

/-- CHUNK_WRITTEN (R463). -/
def execChunkWritten (chan : Nat) (s : State) : Host.Outcome State Fault Refusal := finish (s.mvChunk chan)

/-- BARRIER_READ_RETURN (R465): one of the reads a barrier waits for is back; after the last every earlier descriptor has arrived. -/
def execBarrierReadReturn (chan : Nat) (s0 : State) : Host.Outcome State Fault Refusal :=
  finish (
    let s := s0.mvDrop chan
    let x := s.mvChan chan
    match x.job with
    | none => s
    | some j => match j.phase with
      | .barrier (n + 2) => s.setJob chan { j with phase := .barrier (n + 1) }
      | .barrier _ => s.setMvChan chan { x with job := some { j with phase := .taken }, unarrived := [] }
      | _ => s)

/-- MOVER_FAULT (R466): the descriptor goes back to its first chunk not written and reads that chunk's source again; an index array
that has not come is read again. -/
def execMoverFault (chan : Nat) (s0 : State) : Host.Outcome State Fault Refusal :=
  finish (
    let s := s0.mvDrop chan
    match (s.mvChan chan).job with
    | none => s
    | some j =>
      let s1 := ((s.bulkDrop (.mover chan)).rngCancel (.mover chan)).bump Reg.MV_REPLAYS
      let s2 := s1.raise Ev.mv 1
      let s3 := match j.org with
        | .queue g i => s2.countReplay (some (g, i))
        | .ring _ _ => s2.countReplay none
      let j1 := { j with buf := none, seg := 0, rnd := [], rndWait := false }
      match j.phase with
      | .run => s3.mvAsk chan j1
      | .index => (s3.emit (.hostRead j.fn j.index (j.count * 4))).setJob chan j1
      | _ => s3)

/-- ENGINE_RING_PROD (R478): the mover sees the PROD a thread of the cluster stored. -/
def execEngineRingProd (cluster : Nat) (s : State) : Host.Outcome State Fault Refusal :=
  finish (
    if 31 < cluster ∨ s.flag (Reg.MV_ERING cluster) 31 = false ∨ s.inService 12 = false then s
    else
      let p := u32 (Mem.rdN (s.cluster cluster).shared (s.mvRingBase cluster) 4) 0
      let r : MvRing := SMap.getD s.mv.rings cluster {}
      let back := decide (2 ^ 31 ≤ (p + 2 ^ 32 - r.prod) % 2 ^ 32)
      let far := decide (s.mvRingSize cluster < (p + 2 ^ 32 - r.cons) % 2 ^ 32)
      if back || far then s.raise Ev.mv 0
      else { s with mv := { s.mv with rings := SMap.put s.mv.rings cluster { r with prod := p } } })

/-! The 0x0Axx opcodes (R481) -/

def mvQueryMeta : OpMeta := { opcode := 0x0A00, cls := .r, lenOk := len 0, maxRes := 48 }

def mvQueryBody : WbBody := fun _ s =>
  let busy := (List.range 128).foldl (fun n c => n + bitVal (s.mvChan c).job.isSome c) 0
  .done .ok (leBytes 4 (s.regN Reg.MV_CTRL) ++ leBytes 16 busy ++ leBytes 8 (s.reg64 Reg.MV_BYTES) ++ leBytes 8 (s.reg64 Reg.MV_DESCRIPTORS)
    ++ leBytes 4 (s.regN Reg.MV_OVERLAP) ++ leBytes 4 (s.regN Reg.MV_BAD_DESC) ++ leBytes 4 (s.regN Reg.MV_REPLAYS)) s

def execMvQuery (w : Waybill) (s : State) : Host.Outcome State Fault Refusal := waybillCmd mvQueryMeta mvQueryBody w s

def mvBindMeta : OpMeta := { opcode := 0x0A01, cls := .d, lenOk := len 4, maxRes := 4 }

/-- MV_BIND (R456): from the queue's next descriptor. -/
def mvBindBody : WbBody := fun w s =>
  let g := w.u16 0
  match s.wq? g with
  | none => fail .badParam s
  | some q =>
    if q.kind ≠ 3 ∨ 95 < w.u8 2 then fail .badParam s
    else .done .ok (leBytes 1 q.chan ++ zeros 3) (s.setWq g { q with chan := w.u8 2 })

def execMvBind (w : Waybill) (s : State) : Host.Outcome State Fault Refusal := waybillCmd mvBindMeta mvBindBody w s

/-- Write word 0 of a channel, its reserved bits 0 (R479). -/
def State.setMvChanCfg (s : State) (c v : Nat) : State :=
  s.setCfg 12 (Reg.MV_CHAN_W0 c) (bits v 31 31 * 2 ^ 31 + bits v 27 20 * 2 ^ 20 + bits v 14 0)

/-- Write MV_CTRL, its reserved bits 0 (R479). -/
def State.setMvCtrl (s : State) (v : Nat) : State :=
  s.setCfg 12 Reg.MV_CTRL (bits v 31 31 * 2 ^ 31 + bits v 22 16 * 65536 + bits v 6 0)

def mvChanSetMeta : OpMeta := { opcode := 0x0A02, cls := .d, lenOk := len 8, maxRes := 4 }

def mvChanSetBody : WbBody := fun w s =>
  let c := w.u8 0
  if 127 < c then fail .badParam s
  else .done .ok (leBytes 4 (s.regN (Reg.MV_CHAN_W0 c))) (s.setMvChanCfg c (w.u32 4))

def execMvChanSet (w : Waybill) (s : State) : Host.Outcome State Fault Refusal := waybillCmd mvChanSetMeta mvChanSetBody w s

def mvSetParamsMeta : OpMeta := { opcode := 0x0A03, cls := .d, lenOk := len 4, maxRes := 4 }

def mvSetParamsBody : WbBody := fun w s => .done .ok (leBytes 4 (s.regN Reg.MV_CTRL)) (s.setMvCtrl (w.u32 0))

def execMvSetParams (w : Waybill) (s : State) : Host.Outcome State Fault Refusal := waybillCmd mvSetParamsMeta mvSetParamsBody w s

def mvEngRingMeta : OpMeta := { opcode := 0x0A04, cls := .d, lenOk := len 8, maxRes := 4 }

/-- The area of an engine ring of an MV_ERING value. -/
def ringArea (v : Nat) : Nat × Nat := (bits v 11 0 * 256, 64 + 64 * 2 ^ bits v 27 24)

/-- MV_ENG_RING (R478): the ring of a cluster, its indices 0. -/
def mvEngRingBody : WbBody := fun w s =>
  let c := w.u8 0
  let v := w.u32 4
  let v1 := bits v 31 31 * 2 ^ 31 + bits v 27 24 * 2 ^ 24 + bits v 20 16 * 65536 + bits v 11 0
  let a := ringArea v
  let tables := (List.range 8).filter (fun j => s.flag (Reg.EC_CT_DESC c j) 31)
  let bad := decide (bits v 27 24 < 4) || decide (8 < bits v 27 24) || decide (2 ^ 20 < a.1 + a.2)
    || tables.any (fun j => areaHits a (ctArea (s.regN (Reg.EC_CT_DESC c j))))
  let r : MvRing := SMap.getD s.mv.rings c {}
  if 31 < c ∨ bad = true then fail .badParam s
  else if r.cons ≠ r.prod then fail .busy s
  else
    let s1 := { s with mv := { s.mv with rings := SMap.del s.mv.rings c } }
    .done .ok (leBytes 4 (s.regN (Reg.MV_ERING c))) (s1.setCfg 12 (Reg.MV_ERING c) v1)

def execMvEngRing (w : Waybill) (s : State) : Host.Outcome State Fault Refusal := waybillCmd mvEngRingMeta mvEngRingBody w s

def mvChanQueryMeta : OpMeta := { opcode := 0x0A05, cls := .r, lenOk := len 4, maxRes := 24 }

def mvChanQueryBody : WbBody := fun w s =>
  let c := w.u8 0
  let bound := (s.qm.wqs.filter (fun (x : Nat × WorkQ) => x.2.kind == 3 && x.2.chan == c)).length
  if 127 < c then fail .badParam s
  else .done .ok (leBytes 4 (s.regN (Reg.MV_CHAN_W0 c)) ++ leBytes 4 (s.regN (Reg.MV_CHAN_W1 c)) ++ leBytes 2 bound ++ zeros 2
    ++ leBytes 8 (s.mvChan c).bytes ++ leBytes 4 (s.mvChan c).descs) s

def execMvChanQuery (w : Waybill) (s : State) : Host.Outcome State Fault Refusal := waybillCmd mvChanQueryMeta mvChanQueryBody w s

end Sys2Proof.Machine
end

