-- ==== Sys2Proof/Machine/Ownership.lean ====
section
/-!
DEFINITION. The ownership commands: election window, heartbeat deadline, HB_KICK and the 0x01xx ownership opcodes
(02 R80-R90).
-/

namespace Sys2Proof.Machine

open Sys2Proof

/-- ELECTION_WINDOW_CLOSE (R80): the 10 ms window ends; without an open window nothing happens (log entry 7). -/
def execElectionWindowClose (s : State) : Host.Outcome State Fault Refusal :=
  finish (match s.own.window with
    | some t => (s.at t).closeWindow
    | none => s)

/-- HEARTBEAT_DEADLINE (R83): three periods have passed since the last counted heartbeat. -/
def execHeartbeatDeadline (s : State) : Host.Outcome State Fault Refusal :=
  finish (if s.ownSt = 2 then (s.at (s.own.lastHb + 3 * s.regN Reg.HB_PERIOD * 1000000)).revoke else s)

/-- HB_KICK (R83): a write of the current epoch by the drover from PF0 counts; any other is discarded and logged. -/
def execHbKick (src : Src) (v : Word) (s : State) : Host.Outcome State Fault Refusal :=
  let isPf := match src with | .pf0 _ => true | _ => false
  finish (if isPf && s.ownSt == 2 && s.drover == srcIssuer src && v.toNat == s.devEpoch && !s.revocationDue then s.heartbeat
    else s.logKind 0x10 2 1 1 (srcIssuer src) (leBytes 4 Reg.HB_KICK ++ leBytes 1 4))

/-- OWN_OVERRIDE (R84): the complement of the guarded write arrives. -/
def execOwnOverride (src : Src) (compl : Word) (s : State) : Host.Outcome State Fault Refusal :=
  finish (s.guarded src Reg.OWN_OVERRIDE compl (fun v t => t.override v))

/-! The convoy (17 R565, R566) -/

/-- A request relayed by a member: it arrives from a peer with an odd message tag. -/
def isRelay (w : Waybill) : Bool := (match w.inst with | .caravan _ => true | _ => false) && w.mtag % 2 == 1

/-- A member relays a request to the arbiter, and its waybill waits for the reply (17 R565); the arbiter decides itself. A relayed request
carries an odd message tag. Without quorum a CLAIM finds no one to decide (17 R566). -/
def relayed (opcode : Nat) (body : WbBody) : WbBody := fun w s =>
  if s.arbiter = s.cvId ∨ isRelay w = true then body w s
  else
    let s1 := if opcode = 0x0101 then { s with cv := { s.cv with claimant := some (derivedIssuer w.inst) } } else s
    .pend (.cvForward w.tag.toNat) 20000000 none
      (s1.cvSend s.arbiter (.relay w.inst w.tag) (.relay (BitVec.ofNat 16 opcode) w.params))

/-! CLAIM (R78-R81) -/

def claimMeta : OpMeta :=
  { opcode := 0x0101, cls := .d, lenOk := len 4, maxRes := 12, canPend := true,
    ownerExempt := fun _ => true }

/-- Join the window's claims: a second claim of an issuer counts once, with its later priority (R80). -/
def joinClaims (l : List Claim) (c : Claim) : List Claim := l.filter (fun d => d.issuer != c.issuer) ++ [c]

def claimBody : WbBody := fun w s =>
  let iss := derivedIssuer w.inst
  let prio := w.u8 0
  match prioRange iss with
  | none => fail .notOwner s
  | some (lo, hi) =>
    if isRelay w = false ∧ (prio < lo ∨ hi < prio) then fail .badParam s
    else if !s.quorum then .done .busy s.claimResult s
    else if s.ownSt = 2 then
      if s.drover = iss then
        let s1 := s.setFld Reg.OWN_STATE 15 8 prio
        .done .ok s1.claimResult s1
      else if s.fld Reg.OWN_STATE 15 8 < prio then
        let s1 := (s.takeOwner iss prio).raise Ev.own 1
        .done .ok s1.claimResult s1
      else .done .busy s.claimResult s
    else
      let s1 := if s.ownSt = 0 then s.openWindow.notify else s
      .pend .claim 11000000 none
        { s1 with own := { s1.own with claims := joinClaims s1.own.claims ⟨word iss, prio⟩ } }

def execClaim (w : Waybill) (s : State) : Host.Outcome State Fault Refusal := waybillCmd claimMeta (relayed claimMeta.opcode claimBody) w s

/-! RELEASE (R82) -/

def releaseMeta : OpMeta := { opcode := 0x0102, cls := .d, lenOk := len 0, maxRes := 4 }

def releaseBody : WbBody := fun _ s =>
  let s1 := ((s.dropOwner true).raise Ev.own 1).notify
  .done .ok (leBytes 4 s1.devEpoch) s1

def execRelease (w : Waybill) (s : State) : Host.Outcome State Fault Refusal := waybillCmd releaseMeta (relayed releaseMeta.opcode releaseBody) w s

/-! GRANT (R82) -/

def grantMeta : OpMeta := { opcode := 0x0103, cls := .d, lenOk := len 8, maxRes := 4 }

def grantBody : WbBody := fun w s =>
  let succ := w.u32 0
  let prio := w.u8 4
  match prioRange succ with
  | none => fail .badParam s
  | some (lo, hi) =>
    if !s.validCandidate succ || succ == s.drover || prio < lo || hi < prio then fail .badParam s
    else
      let s1 := (s.takeOwner succ prio).raise Ev.own 1
      .done .ok (leBytes 4 s1.devEpoch) s1

def execGrant (w : Waybill) (s : State) : Host.Outcome State Fault Refusal := waybillCmd grantMeta (relayed grantMeta.opcode grantBody) w s

/-! HEARTBEAT (R83) -/

def heartbeatMeta : OpMeta := { opcode := 0x0104, cls := .d, lenOk := len 0, maxRes := 4 }

def heartbeatBody : WbBody := fun _ s =>
  .done .ok (leBytes 4 (3 * s.regN Reg.HB_PERIOD)) s.heartbeat

def execHeartbeat (w : Waybill) (s : State) : Host.Outcome State Fault Refusal :=
  waybillCmd heartbeatMeta (relayed heartbeatMeta.opcode heartbeatBody) w s

/-! OWNER_QUERY (R90) -/

def ownerQueryMeta : OpMeta := { opcode := 0x0105, cls := .r, lenOk := len 0, maxRes := 16, wedged := true }

def ownerQueryBody : WbBody := fun _ s => .done .ok s.ownerQuery s

def execOwnerQuery (w : Waybill) (s : State) : Host.Outcome State Fault Refusal :=
  waybillCmd ownerQueryMeta ownerQueryBody w s

/-! SET_HEARTBEAT (R83) -/

def setHeartbeatMeta : OpMeta := { opcode := 0x0106, cls := .d, lenOk := len 4, maxRes := 4 }

def setHeartbeatBody : WbBody := fun w s =>
  let p := w.u32 0
  if p < 10 || 10000 < p then fail .badParam s
  else .done .ok (leBytes 4 (s.regN Reg.HB_PERIOD)) (s.setRegN Reg.HB_PERIOD p).heartbeat

def execSetHeartbeat (w : Waybill) (s : State) : Host.Outcome State Fault Refusal :=
  waybillCmd setHeartbeatMeta setHeartbeatBody w s

/-! REVOKE (R84) -/

def revokeMeta : OpMeta :=
  { opcode := 0x0107, cls := .d, lenOk := len 0, maxRes := 4, wedged := true,
    ownerExempt := fun i => issuerKind i == 2 || issuerKind i == 5 }

def revokeBody : WbBody := fun w s =>
  let k := issuerKind (derivedIssuer w.inst)
  if k != 2 && k != 5 then fail .notOwner s
  else if s.ownSt ≠ 2 then fail .busy s
  else
    let s1 := s.revoke
    .done .ok (leBytes 4 s1.devEpoch) s1

def execRevoke (w : Waybill) (s : State) : Host.Outcome State Fault Refusal := waybillCmd revokeMeta (relayed revokeMeta.opcode revokeBody) w s

end Sys2Proof.Machine
end

