-- ==== Sys2Proof/Machine/Ports.lean ====
section
/-!
DEFINITION. The network ports: received and transmitted frames, link state, flow control, the PTP clock and the 0x0Exx opcodes (18; 01
R25-R30).
-/

namespace Sys2Proof.Machine

open Sys2Proof

/-! Link state (R577-R579) -/

/-- A port the lane configuration creates. -/
def State.hasPort (s : State) (p : Nat) : Bool := decide (p < 8) && s.portMode p != 0

def State.adminUp (s : State) (p : Nat) : Bool := s.flag (npBase p) 31
def State.looped (s : State) (p : Nat) : Bool := s.flag (npBase p) 28

/-- A port event, its port in NP_LAST. -/
def State.npEvent (s : State) (p bit : Nat) : State := (s.setRegN Reg.NP_LAST p).raise Ev.np bit

/-- Port p comes up (R578). -/
def State.netUp (s : State) (p : Nat) : State :=
  if !s.hasPort p || !s.adminUp p || s.portUp p then s
  else
    let s1 := s.setRegN (npBase p + 4) (setBits (s.regN (npBase p + 4)) 31 27 0x1C)
    ({ s1 with np := { s1.np with anAt := SMap.del s1.np.anAt p } }.npEvent p 0).flowCheck p

/-- The pauses and the flow control of port p end with its link (log entry 31). -/
def State.netQuiet (s : State) (p : Nat) : State :=
  let keep := fun (m : SMap Nat) => m.filter (fun x => x.1 / 8 != p)
  { s with np := { s.np with pauseEnd := keep s.np.pauseEnd, refresh := keep s.np.refresh } }

/-- Port p goes down (R578): a frame on the wire drops at egress and its entry completes OK, but for ADMIN_UP cleared, which finishes
it. -/
def State.netDown (s : State) (p : Nat) (admin : Bool) (bits_ : Nat) : State :=
  if !s.portUp p then s.setFld (npBase p + 4) 31 0 bits_
  else
    let s1 := (((s.setFld (npBase p + 4) 31 0 bits_).netQuiet p).bump (Reg.NP_LINK_DOWNS p)).npEvent p 1
    if admin then s1
    else s1.fr.frames.foldl (fun t x => if x.2.stage == .wire p then t.dropFrame x.1 else t) s1

/-- Port p starts to train; a looped port is up at once (R589). -/
def State.netTrain (s : State) (p : Nat) : State :=
  if !s.hasPort p then s
  else if s.looped p && s.adminUp p then s.netUp p
  else s.emit (.netTrain p)

/-- NET_LINK_UP (R578): training is done, lock is held, no fault is signalled. -/
def execNetLinkUp (port : Nat) (s : State) : Host.Outcome State Fault Refusal := finish (s.netUp port)

/-- NET_LINK_DOWN (R577, R578): lock is lost, hi_ber, a local or a remote fault; or negotiation found no common mode, which leaves the port
down and is tried again after 1 s. A looped port hears nothing from its lanes (R589). -/
def execNetLinkDown (port : Nat) (why : LinkFault) (s : State) : Host.Outcome State Fault Refusal :=
  finish (if !s.hasPort port || s.looped port then s
    else match why with
      | .noMode =>
        if s.portUp port || s.flag (npBase port) 30 then s
        else { (s.npEvent port 2) with np := { s.np with anAt := SMap.put s.np.anAt port (s.now + 1000000000) } }
      | .hiBer => (if s.flag (npBase port + 4) 28 then s else s.npEvent port 3).netDown port false (2 ^ 28 + 2 ^ 30)
      | .lock => s.netDown port false 0
      | .localFault => s.netDown port false (2 ^ 29 + 2 ^ 30)
      | .remoteFault => s.netDown port false (2 ^ 27 + 2 ^ 29 + 2 ^ 30))

/-- AN_RESTART (R577): 1 s after AN_FAIL negotiation restarts. -/
def execAnRestart (port : Nat) (s : State) : Host.Outcome State Fault Refusal :=
  finish (match SMap.get? s.np.anAt port with
    | none => s
    | some t =>
      let s1 := s.at t
      { s1 with np := { s1.np with anAt := SMap.del s1.np.anAt port } }.netTrain port)

/-! MAC flow control (R581, R582) -/

/-- The partner pauses class c of port p for q quanta; 0 ends the pause. -/
def State.pauseClass (s : State) (p c q : Nat) : State :=
  let k := p * 8 + c
  if q = 0 then
    { s.setFld (npBase p + 4) (8 + c) (8 + c) 0 with np := { s.np with pauseEnd := SMap.del s.np.pauseEnd k } }
  else
    { s.setFld (npBase p + 4) (8 + c) (8 + c) 1 with
      np := { s.np with pauseEnd := SMap.put s.np.pauseEnd k (s.now + s.quantaNs p q) } }

/-- A PAUSE frame at port p. -/
def State.pauseIn (s : State) (p q : Nat) : State :=
  if s.portFlow p = 1 then (List.range 8).foldl (fun t c => t.pauseClass p c q) (s.bump (Reg.NP_RX_PAUSE p))
  else s.bump (Reg.NP_MAC_CTRL_DROP p)

/-- A PFC frame at port p: the classes enabled, their quanta. -/
def State.pfcIn (s : State) (p enable : Nat) (q : Nat → Nat) : State :=
  if s.portFlow p = 2 then
    (List.range 8).foldl (fun t c => if enable.testBit c then t.pauseClass p c (q c) else t) (s.bump (Reg.NP_RX_PAUSE p))
  else s.bump (Reg.NP_MAC_CTRL_DROP p)

/-- PAUSE (R581). -/
def execPause (port quanta : Nat) (s : State) : Host.Outcome State Fault Refusal :=
  finish (if port < 8 ∧ s.portUp port then s.pauseIn port (quanta % 65536) else s)

/-- PFC (R581). -/
def execPfc (port enable : Nat) (quanta : List Nat) (s : State) : Host.Outcome State Fault Refusal :=
  finish (if port < 8 ∧ s.portUp port then s.pfcIn port enable (fun c => quanta.getD c 0 % 65536) else s)

/-- PAUSE_EXPIRY (R581): the pause of a class has lasted its time. -/
def execPauseExpiry (port cls : Nat) (s : State) : Host.Outcome State Fault Refusal :=
  finish (match SMap.get? s.np.pauseEnd (port * 8 + cls % 8) with
    | none => s
    | some t => (s.at t).pauseClass port (cls % 8) 0)

/-- PFC_REFRESH (R582): 0x8000 quanta have passed with the count above XON. -/
def execPfcRefresh (port prio : Nat) (s : State) : Host.Outcome State Fault Refusal :=
  finish (match SMap.get? s.np.refresh (port * 8 + prio % 8) with
    | none => s
    | some t =>
      let s1 := s.at t
      let pfc := s1.portFlow port == 2
      let s2 := s1.sendPause port pfc (if pfc then 2 ^ (prio % 8) else 0xFF) 0xFFFF
      { s2 with np := { s2.np with refresh := SMap.put s2.np.refresh (port * 8 + prio % 8) (s2.now + s2.quantaNs port 0x8000) } })

/-! Reception (R580-R589; 01 R25-R27) -/

/-- The receive priority of a frame (R582). -/
def State.rxPriority (s : State) (p : Nat) (b : List Byte) : Nat :=
  if isTpid (be16 b 12) then u8 b 14 / 32 else s.fld (npBase p) 23 21

/-- A MAC Control frame: the MAC consumes it (R581). -/
def State.macControl (s : State) (p : Nat) (b : List Byte) : State :=
  if be16 b 14 = 0x0001 then s.pauseIn p (be16 b 16)
  else if be16 b 14 = 0x0101 then s.pfcIn p (u8 b 17) (fun c => be16 b (18 + 2 * c))
  else s.bump (Reg.NP_MAC_CTRL_DROP p)

/-- A good frame goes to the packet buffer; `tail`: its tail is still to come. With the buffer's domain off it is dropped here (01 R36). -/
def State.bufferFrame (s : State) (p : Nat) (b : List Byte) (tail : Bool) : State :=
  let s1 := if tail then s else (s.bump64 (Reg.NP_RX_FRAMES p) 1).bump64 (Reg.NP_RX_BYTES p) b.length
  let mode := s.fld (npBase p) 27 26
  let sec := be16 b 12 == 0x88E5
  if be16 b 12 = 0x8808 then s1.macControl p b
  else if decide (2 ≤ mode) && !sec && be16 b 12 != 0x888E then (s1.bump (Reg.NP_MACSEC_REQ_DROP p)).raise Ev.np 5
  else if !s.inService 8 then s1
  else
    let n := SMap.getD s1.fr.seqs p 0
    let s2 := { s1 with fr := { s1.fr with seqs := SMap.put s1.fr.seqs p (n + 1) } }
    let ms := sec && mode != 0
    let f : Frame := { bytes := b, tx := false, src := p, ingress := some (p, n), rxPrio := s.rxPriority p b, ts := s.stamp p true,
                       tail := tail, stored := ms, stage := if ms then .macsec else .parse 0 0 false false }
    (s2.newFrame f).2.flowCheck p

/-- A frame arrives at the MAC of port p (R580). -/
def State.receive (s : State) (p : Nat) (b : List Byte) (fcsOk : Bool) : State :=
  if !fcsOk then s.bump (Reg.NP_RX_FCS_ERR p)
  else if b.length < 60 then s.bump (Reg.NP_RX_RUNT p)
  else if s.maxFrame p < b.length then s.bump (Reg.NP_RX_TOOLONG p)
  else s.bufferFrame p b false

/-- The tail of frame h arrives (01 R26, 10 R356): its charge becomes that of its length; with a bad FCS it drops, unless it is being
sent, which ends it with a bad FCS. -/
def State.tailIn (s : State) (p h : Nat) (fcsOk : Bool) : State :=
  let s0 := if fcsOk then s else s.bump (Reg.NP_RX_FCS_ERR p)
  match s0.frame? h with
  | none => s0
  | some f =>
    if !f.tail || f.src != p then s
    else
      let c := cellsOf f.bytes.length
      let s1 := match f.charge with
        | none => s0.setFrame h { f with tail := false }
        | some q =>
          let x := match s0.tmq? q with
            | some y => s0.setTmq q { y with cells := y.cells + c - f.cells }
            | none => s0
          ((x.setRegN Reg.TM_OCC (x.regN Reg.TM_OCC + c - f.cells)).setFrame h { f with tail := false, cells := c }).tmThresholds
      let sending := match f.stage with | .wire _ => true | _ => false
      if fcsOk then (s1.bump64 (Reg.NP_RX_FRAMES p) 1).bump64 (Reg.NP_RX_BYTES p) f.bytes.length
      else if sending then match s1.frame? h with
        | some g => s1.setFrame h { g with badFcs := true }
        | none => s1
      else s1.endFrame h

/-- FRAME_RECEIVED (R580): a frame, its head or its tail from the partner of a port that is up and not looped (R589, R593). -/
def execFrameReceived (port : Nat) (part : RxPart) (bytes : List Byte) (fcsOk : Bool) (s : State) :
    Host.Outcome State Fault Refusal :=
  finish (if 8 ≤ port ∨ s.portUp port = false ∨ s.looped port = true then s
    else match part with
      | .whole => s.receive port bytes fcsOk
      | .head => if bytes.length < 60 ∨ s.maxFrame port < bytes.length ∨ be16 bytes 12 = 0x8808 then s else s.bufferFrame port bytes true
      | .tail h => s.tailIn port h fcsOk)

/-- The slot of a SecTAG's channel: the entry of port and SCI, or the lowest-numbered valid one of the port, and its AN (11 R380). -/
def State.rxSlot (s : State) (p : Nat) (b : List Byte) : Option Nat :=
  let t := secTag b
  let hit := s.cx.rxsc.find? (fun e => (u8 e.2 1).testBit 7 && u8 e.2 1 % 8 == p &&
    (match t.2.2.2.1 with | some sci => u64 e.2 4 == sci | none => true))
  match hit with
  | none => none
  | some e =>
    let v := u16 e.2 (12 + 2 * (t.1 % 4))
    if v < 16384 then some v else none

/-- MACSEC_RECEIVE (11 R380): a frame with a SecTAG is verified and decrypted before pass 0. -/
def execMacsecReceive (frame : Nat) (s : State) : Host.Outcome State Fault Refusal :=
  finish (match s.frame? frame with
    | none => s
    | some f =>
      if f.stage != .macsec || f.tail then s
      else match s.rxSlot f.src f.bytes with
        | none => s.cxDrop (Reg.CX_NO_KEY 0) frame
        | some slot =>
          let k := s.keySlot slot
          if k.st ≠ 2 then s.cxDrop (Reg.CX_NO_KEY 0) frame
          else if k.framing ≠ 5 then s.cxDrop (Reg.CX_FORMAT_DROP 0) frame
          else
            let s1 := s.countSegment 0 slot (f.bytes.length - 12)
            let r := macsecIn k f.bytes
            match r.1 with
            | .ok =>
              let s2 := (s1.setKeySlot slot { s1.keySlot slot with rcd := r.2.2.rcd, win := r.2.2.win }).seqMoved 0 slot
              s2.setFrame frame { f with bytes := r.2.1, decrypted := true, stage := .parse 0 0 false false }
            | .replay =>
              let k1 := s1.keySlot slot
              (s1.setKeySlot slot { k1 with replayDrops := k1.replayDrops + 1 }).cxDrop (Reg.CX_REPLAY_DROP 0) frame
            | .auth _ _ =>
              let k1 := s1.keySlot slot
              (s1.setKeySlot slot { k1 with authFails := k1.authFails + 1 }).cxDrop (Reg.CX_AUTH_FAIL 0) frame
            | _ => s1.cxDrop (Reg.CX_FORMAT_DROP 0) frame)

/-! Transmission (R580, R586, R589; 01 R29, R30; 06 R229) -/

/-- The frame port p is sending. -/
def State.onWireOf (s : State) (p : Nat) : Option (Nat × Frame) := s.fr.frames.find? (fun x => x.2.stage == .wire p)

/-- A frame padded to 60 bytes. -/
def padded (b : List Byte) : List Byte := b ++ zeros (60 - b.length)

/-- FRAME_TX_DONE (R580, R586): the last byte has left the MAC; a looped port receives the frame itself (R589). -/
def execFrameTxDone (port : Nat) (s : State) : Host.Outcome State Fault Refusal :=
  finish (if 8 ≤ port then s
    else match s.onWireOf port with
      | none => s
      | some (h, f) =>
        if f.tail then s
        else
          let b := padded f.wire
          let loop := s.looped port && s.portUp port
          let s1 := if loop then s else s.emit (.netFrame port b f.badFcs)
          if f.badFcs then (s1.bump (Reg.NP_TX_ERR port)).endFrame h
          else
            let s2 := ((s1.bump64 (Reg.NP_TX_FRAMES port) 1).bump64 (Reg.NP_TX_BYTES port) b.length).txComplete f f.txTs
            let s3 := s2.endFrame h
            if loop then s3.receive port b true else s3)

/-- TX_FAULT_ON_WIRE (06 R229): the bytes sent so far end in an inverted FCS; the frame is replayed from its cells at the head of its
queue, or from host memory when they are lost. -/
def execTxFaultOnWire (port sent : Nat) (cellsLost : Bool) (s : State) : Host.Outcome State Fault Refusal :=
  finish (if 8 ≤ port then s
    else match s.onWireOf port with
      | none => s
      | some (h, f) =>
        let s1 := (s.emit (.netFrame port (padded (f.wire.take sent)) true)).bump (Reg.NP_TX_ERR port)
        let s2 := (s1.bump Reg.LG_TX_RESTARTS).replayFrame f
        match f.charge with
        | none => s2.dropFrame h
        | some q => match s2.tmq? q with
          | none => s2.dropFrame h
          | some x =>
            let s3 := s2.setTmq q { x with frames := h :: x.frames }
            if cellsLost then
              (match f.entry with
               | some _ => s3.loseCells h f
               | none => (s2.dropFrame h))
            else s3.setFrame h { f with stage := .queued q, wire := [], txTs := none })

/-! The PTP clock (R584, R587) -/

/-- The clock is taken anew from its value now. -/
def State.ptpRebase (s : State) (v : Nat) : State :=
  { s with np := { s.np with ptp := v, ptpAt := s.now, ppsSec := v / ptpUnit / 1000000000 } }

/-- PPS_MS in ns; 0 acts as 1. -/
def State.ppsNs (s : State) : Nat := max 1 (s.fld Reg.PTP_CTRL 7 0) * 1000000

/-- PPS_OUT (R587): the nanoseconds pass 0 and PTP_PPS_OUT rises. -/
def execPpsOut (s : State) : Host.Outcome State Fault Refusal :=
  finish (if s.flag Reg.PTP_CTRL 31 = false ∨ s.pdOn 36 = false then s
    else
      let goal := (s.np.ppsSec + 1) * 1000000000 * ptpUnit
      let dt := ceilDiv (goal - s.ptpNow) ((ptpUnit : Int) + s.ptpFreq).toNat
      let s1 := s.at (s.now + dt)
      { s1 with np := { s1.np with ppsSec := s1.ptpNow / ptpUnit / 1000000000, ppsEnd := some (s1.now + s1.ppsNs) },
                pins := { s1.pins with ppsOut := some true } })

/-- PPS_OUT_END (R587): PTP_PPS_OUT has been high for PPS_MS milliseconds. -/
def execPpsOutEnd (s : State) : Host.Outcome State Fault Refusal :=
  finish (match s.np.ppsEnd with
    | none => s
    | some t => let s1 := s.at t
                { s1 with np := { s1.np with ppsEnd := none }, pins := { s1.pins with ppsOut := some false } })

/-- PPS_IN (R587): a rising edge on PTP_PPS_IN latches the clock. -/
def execPpsIn (s : State) : Host.Outcome State Fault Refusal :=
  finish (if s.flag Reg.PTP_CTRL 30 = false ∨ s.pdOn 36 = false then s
    else
      let n := s.ptpNs
      ((s.setRegN Reg.PTP_PPS_IN_NS (n % 1000000000)).setRegN Reg.PTP_PPS_IN_SEC (n / 1000000000 % 2 ^ 32)).raise Ev.np 4)

/-! Opcodes (R592) -/

def npQueryMeta : OpMeta := { opcode := 0x0E00, cls := .r, lenOk := len 4, maxRes := 64 }

def npQueryBody : WbBody := fun w s =>
  let p := w.u8 0
  if 7 < p then fail .badParam s
  else .done .ok (leBytes 4 (s.regN (npBase p)) ++ leBytes 4 (s.regN (npBase p + 4)) ++ leBytes 4 (s.regN (npBase p + 8))
    ++ leBytes 4 (s.regN (npBase p + 12)) ++ leBytes 1 (s.portMode p) ++ zeros 3 ++ leBytes 8 (s.reg64 (Reg.NP_RX_FRAMES p))
    ++ leBytes 8 (s.reg64 (Reg.NP_TX_FRAMES p)) ++ leBytes 4 (s.regN (Reg.NP_RX_FCS_ERR p)) ++ leBytes 4 (s.regN (Reg.NP_FEC_CORR p))
    ++ leBytes 4 (s.regN (Reg.NP_FEC_UNCORR p)) ++ leBytes 4 (s.regN (Reg.NP_LINK_DOWNS p)) ++ zeros 12) s

def execNpQuery (w : Waybill) (s : State) : Host.Outcome State Fault Refusal := waybillCmd npQueryMeta npQueryBody w s

/-- Lanes of a mode (R575). -/
def modeWidth (m : Nat) : Nat := [0, 8, 4, 2, 1, 8, 4, 2, 1, 4, 1].getD m 0

/-- The configuration R576 refuses: a mode above 10, a port not at a multiple of its width, a lane used twice. -/
def lanesBad (v : Nat) : Bool :=
  let m := fun p => bits v (4 * p + 3) (4 * p)
  (List.range 8).any (fun p => decide (10 < m p) || (m p != 0 && (p % modeWidth (m p) != 0 || decide (8 < p + modeWidth (m p)))))
  || (List.range 8).any (fun l => decide (1 < ((List.range 8).filter (fun p => decide (p ≤ l) && decide (l < p + modeWidth (m p)))).length))

def npLaneSetMeta : OpMeta :=
  { opcode := 0x0E01, cls := .d, lenOk := len 4, maxRes := 4, canPend := true, obj := fun _ _ => some ⟨.lanes, 0⟩ }

/-- The changed ports go down and train in their new mode in this step, so the reply is final at once (log entry 32). -/
def npLaneSetBody : WbBody := fun w s =>
  let v := w.u32 0
  let old := s.regN Reg.NP_LANE_CFG
  if lanesBad v then fail .badParam s
  else
    let ch := (List.range 8).filter (fun p => bits v (4 * p + 3) (4 * p) != bits old (4 * p + 3) (4 * p))
    let s1 := ch.foldl (fun t p => t.netDown p false 0) s
    let s2 := s1.setCfg 20 Reg.NP_LANE_CFG v
    .done .ok (leBytes 4 old) (ch.foldl (fun t p => t.netTrain p) s2)

def execNpLaneSet (w : Waybill) (s : State) : Host.Outcome State Fault Refusal := waybillCmd npLaneSetMeta npLaneSetBody w s

/-- NP_PORT_CTRL takes a value: ADMIN_UP and LOOPBACK act on the link (R578, R589). -/
def State.setPortCtrl (s : State) (p v : Nat) : State :=
  let was := s.adminUp p
  let wasLoop := s.looped p
  let s1 := s.setCfg 20 (npBase p) (v - (v &&& 0x1F8000))
  if was && !s1.adminUp p then s1.netDown p true 0
  else if s1.adminUp p && (!was || wasLoop != s1.looped p) then
    (if wasLoop && !s1.looped p then s1.netDown p false 0 else s1).netTrain p
  else s1

def npPortSetMeta : OpMeta := { opcode := 0x0E02, cls := .d, lenOk := len 16, maxRes := 12 }

/-- A port that the lane configuration does not create is no such port (log entry 33). -/
def npPortSetBody : WbBody := fun w s =>
  let p := w.u8 0
  let mask := w.u8 1
  let flow := w.u32 8
  if !s.hasPort p || (mask.testBit 1 && decide (bits flow 23 12 ≤ bits flow 11 0)) then fail .badParam s
  else
    let old := leBytes 4 (s.regN (npBase p)) ++ leBytes 4 (s.regN (npBase p + 8)) ++ leBytes 4 (s.regN (npBase p + 12))
    let s1 := if mask.testBit 1 then s.setCfg 20 (npBase p + 8) flow else s
    let s2 := if mask.testBit 2 then s1.setCfg 20 (npBase p + 12) (w.u32 12) else s1
    let s3 := if mask.testBit 0 then s2.setPortCtrl p (w.u32 4) else s2
    .done .ok old (s3.flowCheck p)

def execNpPortSet (w : Waybill) (s : State) : Host.Outcome State Fault Refusal := waybillCmd npPortSetMeta npPortSetBody w s

def npRetrainMeta : OpMeta := { opcode := 0x0E03, cls := .d, lenOk := len 4, maxRes := 0 }

def npRetrainBody : WbBody := fun w s =>
  let p := w.u8 0
  if !s.hasPort p then fail .badParam s else .done .ok [] ((s.netDown p false 0).netTrain p)

def execNpRetrain (w : Waybill) (s : State) : Host.Outcome State Fault Refusal := waybillCmd npRetrainMeta npRetrainBody w s

def ptpGetMeta : OpMeta := { opcode := 0x0E04, cls := .r, lenOk := len 0, maxRes := 16 }

def ptpGetBody : WbBody := fun _ s =>
  .done .ok (leBytes 8 (s.ptpNs / 1000000000) ++ leBytes 4 (s.ptpNs % 1000000000) ++ leBytes 4 (s.regN Reg.PTP_FREQ)) s

def execPtpGet (w : Waybill) (s : State) : Host.Outcome State Fault Refusal := waybillCmd ptpGetMeta ptpGetBody w s

def ptpAdjustMeta : OpMeta := { opcode := 0x0E05, cls := .d, lenOk := len 16, maxRes := 4 }

def ptpAdjustBody : WbBody := fun w s =>
  let res := leBytes 4 (s.regN Reg.PTP_FREQ)
  let v := w.u64 4
  match w.u8 0 with
  | 0 =>
    let step : Int := if v < 2 ^ 63 then v else (v : Int) - 2 ^ 64
    let t := (s.ptpNow : Int) + step * ptpUnit
    if t < 0 then fail .badParam s else .done .ok res (s.ptpRebase t.toNat)
  | 1 =>
    let f := (word v).toInt
    if f < -500000000 ∨ 500000000 < f then fail .badParam s
    else .done .ok res ((s.ptpRebase s.ptpNow).setReg Reg.PTP_FREQ (word v))
  | 2 =>
    if 999999999 < w.u32 12 then fail .badParam s
    else .done .ok res (s.ptpRebase ((v % 2 ^ 48 * 1000000000 + w.u32 12) * ptpUnit))
  | _ => fail .badParam s

def execPtpAdjust (w : Waybill) (s : State) : Host.Outcome State Fault Refusal := waybillCmd ptpAdjustMeta ptpAdjustBody w s

def ptpPpsSetMeta : OpMeta := { opcode := 0x0E06, cls := .d, lenOk := len 4, maxRes := 4 }

def ptpPpsSetBody : WbBody := fun w s =>
  .done .ok (leBytes 4 (s.regN Reg.PTP_CTRL))
    (s.setCfg 20 Reg.PTP_CTRL (bits (w.u32 0) 31 30 * 2 ^ 30 + bits (w.u32 0) 7 0))

def execPtpPpsSet (w : Waybill) (s : State) : Host.Outcome State Fault Refusal := waybillCmd ptpPpsSetMeta ptpPpsSetBody w s

end Sys2Proof.Machine
end

