-- ==== Sys2Proof/Machine/OpsSeal.lean ====
section
/-!
DEFINITION. The configuration seal: configuration images, page CRCs, sweeps, commits (03 R115-R124; 02 R92).
-/

namespace Sys2Proof.Machine

open Sys2Proof

/-! Images (R115, R117) -/

/-- A register holds configuration (R115): of CLK_ISLAND only the clusters' (20 R653). -/
def isCfg (a : Nat) : Bool :=
  match findReg a with
  | some d => d.cfg && !(decide (Reg.CLK_ISLAND 32 ≤ a) && decide (a < Reg.CLK_ISLAND 52))
  | none => false

/-- The bits of a configuration register that are configuration: its writable bits; all of one that only waybills change; SET_MHZ. -/
def cfgMask (a : Nat) : Nat :=
  match findReg a with
  | some d => if d.rw = 0 then 0xFFFFFFFF else d.rw
  | none => 0

/-- The configuration registers of unit u, ascending (R117). -/
def cfgRegs (u : Nat) : List Nat :=
  (regDescs.filter (fun d => d.cfg)).foldl (fun l d =>
    (List.range d.n1).foldl (fun l i => (List.range d.n2).foldl (fun l j =>
      let a := d.base + i * d.s1 + j * d.s2
      if unitOfReg a = u ∧ isCfg a = true then insertNat a l else l) l) l) []

/-- An array of n records of k bytes. -/
def recsOf (m : Recs) (n k : Nat) : List Byte := (List.range n).flatMap (fun i => fit k (SMap.getD m i []))

/-- The configuration arrays of unit u in image order (04 R164, 07 R264, 08 R303, 09 R335, 10 R365, 12 R452, 15 R519, 16 R544, 17 R572). -/
def State.cfgArrays (s : State) (u : Nat) : List Byte :=
  if u = 2 then (List.range 4095).flatMap (fun i => fit 32 (s.fn (i + 1)).quota)
  else if u = 5 then
    recsOf (s.parser.rx.nodes s.parser.rx.gen) 256 64 ++ recsOf (s.parser.tx.nodes s.parser.tx.gen) 256 64
  else if u = 6 then
    recsOf s.cl.groups 48 72 ++ recsOf s.cl.rules 32768 16 ++ recsOf s.cl.lists 8192 72 ++ recsOf s.cl.entries 65536 32
      ++ recsOf s.cl.templates 2048 128
  else if u = 7 then
    (List.range 64).flatMap (fun n => match s.table? n with
      | some t => patch (patch (fit 32 t.desc) 3 [0]) 16 (zeros 4)
      | none => zeros 32) ++ recsOf s.lk.profiles 256 8 ++ recsOf s.lk.learns 256 32
  else if u = 8 then
    recsOf (s.tm.queues.map (fun x => (x.1, x.2.rcd))) 32768 32 ++ recsOf (s.tm.nodes.map (fun x => (x.1, x.2.rcd))) 8192 32
      ++ (List.range 96).flatMap (fun i => fit 32 (SMap.getD s.tm.classes i { rcd := defaultClassRec }).rcd)
      ++ (List.range 12).flatMap (fun i => fit 32 (SMap.getD s.tm.ports i { rcd := defaultPortRec i }).rcd)
      ++ recsOf (s.tm.policers.map (fun x => (x.1, x.2.rcd))) 16384 32
  else if u = 14 then
    let v := s.dp.vbfs.flatMap (fun v => leBytes 2 v.owner ++ leBytes 1 v.num ++ leBytes 1 v.extents.length
      ++ leBytes 2 v.blockSize ++ leBytes 2 (match v.key with | some k => 0x8000 + k | none => 0))
    let e := s.dp.vbfs.flatMap (fun v => v.extents.flatMap (fun x => fit 48 x))
    fit (4096 * 8) v ++ fit (16384 * 48) e ++ recsOf (s.dp.tgts.map (fun x => (x.1, x.2.rcd))) 256 56
  else if 15 ≤ u ∧ u ≤ 18 then fit 256 (SMap.getD s.dr.ch (u - 15) {}).timing
  else if u = 19 then (List.range 32).flatMap (fun i => leBytes 4 (SMap.getD s.cv.backup i 0))
  else if 21 ≤ u ∧ u ≤ 52 then Mem.rdN ((s.cluster (u - 21)).bank (s.bankNo (u - 21))) 0 131072
  else []

/-- The configuration image of unit u (R117). -/
def State.cfgImage (s : State) (u : Nat) : List Byte :=
  (cfgRegs u).flatMap (fun a => leBytes 4 (s.regN a &&& cfgMask a)) ++ s.cfgArrays u

/-- A configuration word with its dormant bits as 0: of a register whose bit 31 enables what the others set up, those others while it is 0
(R120; DEDUCED). -/
def State.liveWord (s : State) (a : Nat) : Nat :=
  let v := s.regN a &&& cfgMask a
  let gated := (decide (Reg.EF_ROUTE0 0 ≤ a) && decide (a < Reg.EF_ROUTE0 440)) || (decide (Reg.MB_PAIR_CFG 0 ≤ a) && decide (a < Reg.MB_PAIR_CFG 28))
    || (List.range 32).any (fun c => a == Reg.MV_ERING c || (List.range 8).any (fun i => a == Reg.EC_CT_DESC c i))
  if gated && !v.testBit 31 then 0 else v

/-- The image with its dormant bits as 0 (R118, R120): also the mask of a group whose EN is 0. -/
def State.liveImage (s : State) (u : Nat) : List Byte :=
  let arr := s.cfgArrays u
  let groups := (List.range 48).flatMap (fun g =>
    let r := fit 72 (SMap.getD s.cl.groups g [])
    if (u8 r 64).testBit 0 then r else patch r 0 (zeros 64))
  (cfgRegs u).flatMap (fun a => leBytes 4 (s.liveWord a)) ++ (if u = 6 then groups ++ arr.drop groups.length else arr)

/-- The CRCs of an image's 64 KiB pages. -/
def pageCrcs (b : List Byte) : List Nat :=
  (List.range (ceilDiv b.length 65536)).map (fun i => crc32c ((b.drop (65536 * i)).take 65536))

/-! References (R119, R122-R124) -/

/-- The seal of unit u. -/
def State.sealUnit (s : State) (u : Nat) : SealUnit := SMap.getD s.sealSt.units u {}

/-- Store the seal of unit u. -/
def State.setSealUnit (s : State) (u : Nat) (x : SealUnit) : State :=
  { s with sealSt := { s.sealSt with units := SMap.put s.sealSt.units u x } }

/-- Unit u holds a committed reference. -/
def State.isSealed (s : State) (u : Nat) : Bool := s.flag (unitHdr u + 4) 0

/-- Unit u's domain is off with its configuration saved (R119, R123). -/
def State.savedUnit (s : State) (u : Nat) : Bool := s.pwr.savedOff.contains (unitDomain u)

/-- Unit u takes references: page CRCs and SEAL_REF, SEALED set, WRITTEN, DRIFT_SWEEPS and CONFIG_DRIFT cleared (R119). -/
def State.takeRefs (s : State) (u : Nat) (all live : List Nat) (crc : Nat) : State :=
  let h := unitHdr u
  let x := s.sealUnit u
  let s1 := s.setSealUnit u { x with refAll := all, refLive := live, committing := false, fresh := false, done := false, tries := 0, newAll := [],
                                     newLive := [] }
  ((((s1.setRegN (h + 8) crc).setFld (h + 4) 0 0 1).setFld (h + 4) 1 1 0).setFld (h + 0x10) 29 29 0).setFld (h + 0x10) 15 0 0

/-- Unit u takes references from its configuration as it stands (R116 case 5, R119). -/
def State.refresh (s : State) (u : Nat) : State :=
  let img := s.cfgImage u
  s.takeRefs u (pageCrcs img) (pageCrcs (s.liveImage u)) (crc32c img)

/-- Unit u drops its references (R122). -/
def State.unseal (s : State) (u : Nat) : State :=
  let h := unitHdr u
  let s1 := { s with sealSt := { s.sealSt with units := SMap.del s.sealSt.units u } }
  ((((s1.setFld (h + 4) 1 0 0).setRegN (h + 8) 0).setRegN (h + 0xC) 0).setRegN (h + 0x10) 0).setRegN (h + 0x14) 0
    |>.setRegN (h + 0x18) 0

/-- The device seal digest over the committed references, a unit without one counting as 0 (R92, R119). -/
def State.sealDigest (s : State) : Nat :=
  crc32c ((List.range 55).flatMap (fun u => leBytes 4 (if s.isSealed u then s.regN (unitHdr u + 8) else 0)))

/-- The digest over the units' current images (R119): of a unit switched off by waybill that of its saved configuration, of one forced off 0. -/
def State.currentDigest (s : State) : Nat :=
  crc32c ((List.range 55).flatMap (fun u => leBytes 4
    (if s.unitOn u then s.regN (unitHdr u + 0xC) else if s.savedUnit u then crc32c (s.cfgImage u) else 0)))

/-- A commit ends without new references: BUSY, SEAL_MISMATCH. -/
def State.sealDrop (s : State) : State :=
  { s with sealSt := { s.sealSt with units := s.sealSt.units.map (fun x =>
      (x.1, { x.2 with committing := false, fresh := false, done := false, tries := 0, newAll := [], newLive := [] })) } }

/-- The waybills that wait for the commit. -/
def Wait.isSeal : Wait → Bool
  | .sealCommit _ _ => true
  | _ => false

/-- A commit starts (R119): the powered units take their references from sweeps, those switched off by waybill at once from what was saved. -/
def State.sealStart (s : State) : State :=
  (List.range 55).foldl (fun (t : State) u =>
    let x := t.sealUnit u
    if t.unitOn u then t.setSealUnit u { x with committing := true, fresh := false, tries := 0, done := false }
    else if t.savedUnit u then
      let img := t.cfgImage u
      t.setSealUnit u { x with committing := true, done := true, newAll := pageCrcs img, newLive := pageCrcs (t.liveImage u), newRef := crc32c img }
    else t) s

/-- This device's own part of CV_SEAL_COMMIT is under way (17 R570). -/
def State.cvSealing (s : State) : Bool :=
  s.waits .cvSealCommit && (match SMap.get? s.cv.sealReplies s.cvId with | some b => b.isEmpty | none => false)

/-- A commit waits for the units' sweeps. -/
def State.sealing (s : State) : Bool := s.wb.pend.any (fun p => p.wait.isSeal) || s.cvSealing

/-- The commit under way ends: its waybills get their final replies; after a commit that a member asked for, the digests go to that member
before the reply (log entry 42); this device's own part of CV_SEAL_COMMIT is in. -/
def State.sealAnswer (s : State) (st : Status) (res : List Byte) : State :=
  let d := s.cvDigests
  let s1 := s.wb.pend.foldl (fun (t : State) p => match p.inst with
    | .caravan c => if p.wait.isSeal && st == .ok then t.emit (.convoy c none (.digest (word d.1) (word d.2))) else t
    | _ => t) s
  let own := s1.cvSealing
  let s2 := s1.complete (fun p => p.wait.isSeal) st res
  if own then s2.cvSealPart s2.cvId (replyBytes 0x0110 1 res.length 0 st.code 0 s2.devEpoch res) else s2

/-- The reference unit u would have after the commit under way. -/
def State.newRefOf (s : State) (u : Nat) : Nat :=
  let x := s.sealUnit u
  if x.committing && x.done then x.newRef else 0

/-- The commit under way ends once no powered unit is left to take a sweep: the digest is checked, then the references are taken
(R92, R119). -/
def State.sealFinish (s : State) : State :=
  if s.sealing = false then s
  else if (List.range 55).any (fun u => let x := s.sealUnit u; x.committing && !x.done && s.unitOn u) then s
  else
    let units := (List.range 55).filter (fun u => let x := s.sealUnit u; x.committing && x.done)
    let digest := crc32c ((List.range 55).flatMap (fun u => leBytes 4 (s.newRefOf u)))
    let bad := s.wb.pend.any (fun p => match p.wait with
      | .sealCommit check expected => check && expected != digest
      | _ => false)
    if bad then s.sealDrop.sealAnswer .sealMismatch []
    else
      let s1 := units.foldl (fun (t : State) u => let x := t.sealUnit u; t.takeRefs u x.newAll x.newLive x.newRef) s
      let s2 := { s1 with sealSt := { s1.sealSt with digest := digest } }
      s2.sealAnswer .ok (leBytes 4 digest ++ leBytes 4 units.length)

/-! Sweeps (R118-R121) -/

/-- The pages in which two lists of page CRCs differ. -/
def diffPages (a b : List Nat) : List Nat := (List.range (max a.length b.length)).filter (fun i => a[i]? != b[i]?)

/-- A map of pages. -/
def pageMap (l : List Nat) : Nat := l.foldl (fun m i => m ||| 2 ^ i) 0

/-- The comparison of a sealed unit's sweep with its references (R121). -/
def State.sweepCompare (s : State) (u : Nat) (all live : List Nat) : State :=
  let h := unitHdr u
  let x := s.sealUnit u
  let d := diffPages all x.refAll
  let lv := !(diffPages live x.refLive).isEmpty
  let was := s.flag (h + 0x10) 31
  let wasLive := s.flag (h + 0x10) 30
  let m := pageMap d
  let written := s.flag (h + 0x10) 29
  let first := d.headD 0
  let s1 := ((s.setSealUnit u { x with lastDiff := d }).setRegN (h + 0x14) (m % 2 ^ 32)).setRegN (h + 0x18) (m / 2 ^ 32)
  let sweeps := s.fld (h + 0x10) 15 0 + (if d.isEmpty then 0 else 1)
  let s2 := s1.setRegN (h + 0x10) (bitVal (!d.isEmpty) 31 + bitVal (!d.isEmpty && lv) 30 + bitVal written 29 + first * 2 ^ 16 + min 0xFFFF sweeps)
  if !d.isEmpty && (!was || (lv && !wasLive) || d != x.lastDiff) then
    (s2.raiseX (Ev.unitStatus u) 1 1 0 []).logKind (unitRange u) 3 u 1 0 (leBytes 1 first ++ leBytes 1 (bitVal lv 0 + bitVal written 1))
  else s2

/-- Unit u completes a sweep (R118-R122). The duration of a sweep is free (at most 1,000 µs). -/
def State.sweep (s : State) (u : Nat) : State :=
  if decide (54 < u) || !s.unitOn u || s.unitState u == 0 then s
  else
    let img := s.cfgImage u
    let all := pageCrcs img
    let live := pageCrcs (s.liveImage u)
    let d := s.draw
    let s1 := (d.2.setRegN (unitHdr u + 0xC) (crc32c img)).setRegN (unitHdr u + 0x1C) (d.1 % 1001)
    let s2 := if s1.isSealed u then s1.sweepCompare u all live else s1
    let x := s2.sealUnit u
    let y := { x with dirty := false }
    if !x.committing || x.done then (s2.setSealUnit u y).sealFinish
    else if !x.fresh then s2.setSealUnit u { y with fresh := true }
    else if x.dirty then
      if 3 ≤ x.tries then ((s2.setSealUnit u y).sealDrop).sealAnswer .busy []
      else s2.setSealUnit u { y with tries := x.tries + 1 }
    else (s2.setSealUnit u { y with done := true, newAll := all, newLive := live, newRef := crc32c img }).sealFinish

end Sys2Proof.Machine
end

