-- ==== Sys2Proof/Machine/OpsTally.lean ====
section
/-!
DEFINITION. Tally marks, shadow banks, pages; retirements of named parts, control cores, SRAM rows (19 R594-R620).
-/

namespace Sys2Proof.Machine

open Sys2Proof

/-! Counters of a unit (R605) -/

/-- n 4-byte counters from a, and n 8-byte counters from a. -/
def words4 (a n : Nat) : List (Nat × Bool) := (List.range n).map (fun i => (a + 4 * i, false))
def words8 (a n : Nat) : List (Nat × Bool) := (List.range n).map (fun i => (a + 8 * i, true))

/-- The counter registers of unit u in ascending offset; true: an 8-byte pair. -/
def unitCounters (u : Nat) : List (Nat × Bool) :=
  if u = 1 then words4 Reg.MCTP_IC_DROP 3
  else if u = 2 then words4 Reg.HE_CONTAIN_COUNT 1
  else if u = 3 then words8 Reg.QM_RX_NO_BUFFER 2 ++ words4 Reg.QM_DB_ERR_COUNT 2
  else if u = 4 then words8 Reg.LG_ACCEPTS 2 ++ words4 Reg.LG_RACE_LOST 5
  else if u = 5 then words8 Reg.PS_RX_PASSES 2 ++ words4 Reg.PS_RX_ERRORS 7 ++ words4 (Reg.PS_ERR_COUNT 0) 13
  else if u = 6 then words8 Reg.CL_HITS 2 ++ words4 Reg.CL_NO_DEST 12
  else if u = 7 then words8 Reg.LK_LOOKUPS 3 ++ words4 Reg.LK_PARITY_MISS 9
  else if u = 8 then words8 Reg.TM_ENQ 2 ++ words4 Reg.TM_DROP_QUEUE 10
  else if u = 9 ∨ u = 10 then words8 (Reg.CX_BLOCKS (u - 9)) 2 ++ words4 (Reg.CX_PARITY (u - 9)) 9
  else if u = 11 then words8 Reg.RNG_BYTES 1 ++ words4 Reg.RNG_HEALTH_FAILS 2
  else if u = 12 then words8 Reg.MV_BYTES 2 ++ words4 Reg.MV_OVERLAP 6
  else if u = 14 then (List.range 4).flatMap (fun p =>
    words4 (Reg.DP_DMA_BLOCKED p) 1 ++ words8 (Reg.DP_PORT_BYTES p) 1 ++ words4 (Reg.DP_PORT_IOS p) 2)
  else if 15 ≤ u ∧ u ≤ 18 then words8 (Reg.DC_RD_BYTES (u - 15)) 2 ++ words4 (Reg.DC_CE_COUNT (u - 15)) 8
  else if u = 19 then (List.range 2).flatMap (fun p => words8 (Reg.CP_FLITS_TX p) 2 ++ words4 (Reg.CP_CRC_ERR p) 8)
  else if u = 20 then (List.range 8).flatMap (fun p => words8 (Reg.NP_RX_FRAMES p) 4 ++ words4 (Reg.NP_RX_FCS_ERR p) 11)
  else if 21 ≤ u ∧ u ≤ 52 then words8 (Reg.EC_DISPATCHED (u - 21)) 5 ++ words4 (Reg.EC_FAULTS (u - 21)) 9
  else if u = 53 then words8 Reg.EV_WRITTEN 1 ++ words4 Reg.EV_OVERWRITTEN 2 ++ words4 Reg.FT_TRANSIENT 2
  else []

/-- A counter as it reads now. -/
def State.counter (s : State) (c : Nat × Bool) : Nat := if c.2 then s.reg64 c.1 else s.regN c.1

/-- The counters of a unit as they read now. -/
def State.counters (s : State) (u : Nat) : List Nat := (unitCounters u).map s.counter

/-- Sum of two lists of counters. -/
def addLists (a b : List Nat) : List Nat := (List.range (max a.length b.length)).map (fun i => a.getD i 0 + b.getD i 0)

/-- Set the counters of a unit to 0. -/
def State.zeroCounters (s : State) (u : Nat) : State :=
  (unitCounters u).foldl (fun t c => if c.2 then t.setReg64 c.1 0 else t.setRegN c.1 0) s

/-- The firmware takes a unit's counters into its base (R598): all of them, or those of the last mark. -/
def State.foldBase (s : State) (u : Nat) (now : Bool) : State :=
  let v := if now then s.counters u else SMap.getD s.tally.shadow u []
  ({ s with tally := { s.tally with base := SMap.put s.tally.base u (addLists (SMap.getD s.tally.base u []) v),
                                    shadow := SMap.del s.tally.shadow u } }).zeroCounters u

/-- FLASK_SLOTS registers of cluster c (R605). -/
def inSlots (c a : Nat) : Bool := decide (Reg.FLASK_SLOTS c 0 ≤ a) && decide (a < Reg.FLASK_SLOTS c 0 + 0x8000)

/-- The part of a flask's counters that unit u counts goes back to its value at the last mark (R598). -/
def rollBack (u : Nat) (old x : FlaskCnt) : FlaskCnt :=
  if u = 3 then { x with rxFrames := old.rxFrames, rxBytes := old.rxBytes, txFrames := old.txFrames, txBytes := old.txBytes, rxDrops := old.rxDrops }
  else if u = 9 then { x with cipherBytes := old.cipherBytes }
  else if u = 12 then { x with moverBytes := old.moverBytes }
  else if u = 14 then { x with driveBytes := old.driveBytes, driveIos := old.driveIos }
  else x

/-- Unit u is reset, or its domain forced off, without warning (R598): its counts since the last mark are lost. -/
def State.loseCounts (s : State) (u : Nat) : State :=
  let s1 := s.foldBase u false
  let fl := s1.tally.flasks.map (fun (x : Nat × FlaskCnt) =>
    let old := (SMap.getD s1.tally.shadowFlask x.1 {}).cnt
    let y := rollBack u old x.2
    if 21 ≤ u ∧ u ≤ 52 then
      let a := Reg.FLASK_SLOTS (u - 21) x.1
      let was := (SMap.getD s1.tally.shadowSlots a 0).toNat + (SMap.getD s1.tally.shadowSlots (a + 4) 0).toNat * 2 ^ 32
      (x.1, { y with engineSlots := y.engineSlots - (s1.reg64 a - was) })
    else (x.1, y))
  { s1 with tally := { s1.tally with flasks := fl, lostUnits := s1.tally.lostUnits ||| 2 ^ u } }

/-! Marks (R594-R596) -/

/-- EPOCH_S as it acts (R621). -/
def State.epochS (s : State) : Nat := min 3600 (max 1 (s.fld Reg.TL_CTRL 11 0))

/-- A flask as the mark passes. -/
def State.shadowOf (s : State) (f : Nat) : FlaskShadow :=
  let x := s.fn f
  { cnt := { SMap.getD s.tally.flasks f {} with tableEntries := SMap.getD s.lk.charge f 0, keySlots := s.keysHeld f },
    st := x.st.code, created := x.created, destroyed := x.destroyed, generation := x.generation }

/-- The mark passes the units in service and the flasks (R31, R596). -/
def State.passMark (s : State) : State :=
  let units := (List.range 55).filter (fun u => s.unitOn u && !(unitCounters u).isEmpty)
  let sh := units.foldl (fun m u => SMap.put m u (s.counters u)) s.tally.shadow
  let fl := (0 :: (s.host.fns.map (·.1)).filter (fun f => decide (0 < f) && decide (f < 4096))).map (fun f => (f, s.shadowOf f))
  let slots := s.regs.filter (fun x => (List.range 32).any (fun c => inSlots c x.1))
  { s with tally := { s.tally with shadow := sh, shadowFlask := fl, shadowSlots := slots, shadowUnclaimed := s.tally.unclaimed },
           host := { s.host with fns := s.host.fns.map (fun x => (x.1, { x.2 with created := false, destroyed := false })) } }

/-- The AOC injects a mark: it takes the next number, and the next one follows EPOCH_S later (R594, R595). -/
def State.mark (s : State) (forced : Bool) : State :=
  let n := s.tally.nextEpoch
  let m : Mark := { epoch := n, etime := s.etime, ptp := tsField s.ptpNs, period := s.tally.period, forced := forced }
  let s1 := s.passMark
  let t := s1.tally
  let from_ := if forced then s.now else t.nextMark
  ({ s1 with tally := { t with marks := t.marks ++ [m], nextEpoch := n + 1, lastMark := s.now, nextMark := from_ + s.epochS * 1000000000,
                               period := s.epochS } }).raise Ev.tl 0

/-- Mark 0, when the units first enter service after cold reset (R594): no page. -/
def State.markZero (s : State) : State :=
  let s1 := s.passMark
  ({ s1 with tally := { s1.tally with marksOn := true, nextEpoch := 1, lastMark := s.now, nextMark := s.now + s.epochS * 1000000000,
                                      period := s.epochS } }).raise Ev.tl 0

/-! Pages (R597-R604) -/

/-- A flask record (R603); an UNPROVISIONED number reads 0 but in the page of its destruction (R604). -/
def flaskRecord (f : Nat) (x : FlaskShadow) : List Byte :=
  if f ≠ 0 ∧ x.st = 0 ∧ x.destroyed = false then zeros 128
  else
    let c := x.cnt
    leBytes 2 f ++ leBytes 1 x.st ++ leBytes 1 (bitVal x.created 0 + bitVal x.destroyed 1) ++ leBytes 4 x.generation ++ leBytes 8 c.rxFrames
      ++ leBytes 8 c.rxBytes ++ leBytes 8 c.txFrames ++ leBytes 8 c.txBytes ++ leBytes 8 c.rxDrops ++ leBytes 8 c.cipherBytes
      ++ leBytes 8 c.moverBytes ++ leBytes 8 c.driveBytes ++ leBytes 8 c.driveIos ++ leBytes 8 c.engineSlots ++ leBytes 8 c.tableEntries
      ++ leBytes 4 c.keySlots ++ zeros 28

/-- A unit image (R605). -/
def State.unitImage (s : State) (u : Nat) : List Byte :=
  let v := addLists (SMap.getD s.tally.base u []) (SMap.getD s.tally.shadow u [])
  let k := unitCounters u
  ((List.range k.length).flatMap (fun i => if (k.getD i (0, false)).2 then leBytes 8 (v.getD i 0) else leBytes 4 (min 0xFFFFFFFF (v.getD i 0)))).take 4096

/-- Set a range of DRAM to zero bytes. -/
def State.dramZero (s : State) (a n : Nat) : State :=
  { s with dram := s.dram.filter (fun x => decide (x.1 < a) || decide (a + n ≤ x.1)) }

/-- The control complex can gather (R597). -/
def State.canGather (s : State) : Bool := s.ctlUp && s.flag Reg.TL_CTRL 31

/-- The firmware gathers the shadow banks and writes the page of the latest mark, its header last (R597, R601, R602). -/
def State.gather (s : State) : State :=
  match s.tally.marks.getLast? with
  | none => s
  | some m =>
    let t := s.tally
    let gap := t.prevPage + 1 != m.epoch
    let lost := t.lostUnits != 0
    let flasks := (t.shadowFlask.filter (fun x => x.1 != 0 && x.2.st != 0)).length
    let flags := 1 + bitVal gap 1 + bitVal lost 2 + bitVal m.forced 3
    let hdr := leBytes 8 m.epoch ++ leBytes 8 t.prevPage ++ leBytes 8 m.etime ++ leBytes 8 m.ptp ++ leBytes 4 m.period ++ leBytes 2 flags
      ++ leBytes 2 flasks ++ leBytes 8 t.shadowUnclaimed ++ leBytes 8 t.lostUnits ++ zeros 8
    let recs := t.shadowFlask.map (fun x => (x.1, flaskRecord x.1 x.2))
    let pages := s.fld Reg.TL_AREA 31 24
    let base := (s.fld Reg.TL_AREA 17 0 + m.epoch % pages) * 2 ^ 20
    let s1 := { s with tally := { t with marks := [], header := hdr, records := recs, prevPage := m.epoch, lostUnits := 0 } }
    let s2 := if pages = 0 then s1
      else
        let z := s1.dramZero base (2 ^ 20)
        let r := recs.foldl (fun (x : State) e => x.dramStore (base + 0x1000 + e.1 * 128) e.2) z
        let i := (List.range 55).foldl (fun (x : State) u => x.dramStore (base + 0x81000 + u * 0x1000) (s.unitImage u)) r
        i.dramStore base hdr
    let s3 := (s2.setReg64 Reg.TL_EPOCH_LO m.epoch).raise Ev.tl 1
    let note := fun (x : State) (b : Nat) => (x.logKind 0x0F 0x30 53 1 0 (leBytes 8 m.epoch)).raise Ev.tl b
    let s4 := if gap then note s3 2 else s3
    if lost then note s4 3 else s4

/-! Control cores (R615, R616) -/

/-- FT_CAP.CORES follows. -/
def State.coresCap (s : State) : State := s.setFld Reg.FT_CAP 12 10 s.tally.cores.length

/-- A control core is retired now: it stops and the reserve core starts, or capacity is lost. -/
def State.retireCoreNow (s : State) (c reason : Nat) : State :=
  let p : Part := { kind := 4, index := c }
  let t := s.tally
  let s1 := s.markRetired p 53 reason
  if !t.cores.contains c then { s1 with tally := { s1.tally with coreReserve := s1.tally.coreReserve && c != 4 } }
  else
    let s2 := { s1 with tally := { s1.tally with cores := t.cores.filter (· != c) } }.coresCap
    if t.coreReserve then
      let s3 := s2.beginRetire p reason
      { s3 with tally := { s3.tally with coreStarting := some c } }
    else s2.logDegraded 4 53 (s2.tally.cores == [])

/-- A retirement of a control core is running. -/
def State.coreBusy (s : State) : Bool := s.tally.coreStarting.isSome

/-- Retire a control core, or wait behind another (R613). -/
def State.retireCore (s : State) (c reason : Nat) : State :=
  if 4 < c ∨ s.isRetired { kind := 4, index := c } = true then s
  else if s.coreBusy then s.queueRetire { kind := 4, index := c } reason
  else s.retireCoreNow c reason

/-- Begin waiting retirements of control cores until one runs. -/
def State.drainCores (s : State) : Nat → State
  | 0 => s
  | n + 1 =>
    if s.coreBusy then s
    else match s.tally.queue.find? (fun r => r.part.kind == 4) with
      | none => s
      | some r =>
        ({ s with tally := { s.tally with queue := s.tally.queue.filter (fun x => x.part != r.part) } }.retireCoreNow r.part.index r.reason).drainCores n

/-- The reserve core enters service under the retired core's number, or fails its self-test (R613, R615). -/
def State.reserveCore (s : State) (pass : Bool) : State :=
  match s.tally.coreStarting with
  | none => s
  | some c =>
    let s1 := { s with tally := { s.tally with coreStarting := none, coreReserve := false } }
    let s2 := if pass then
        ({ s1 with tally := { s1.tally with cores := s1.tally.cores ++ [4] } }.coresCap).logReserve 4 c 4 53
      else (s1.markRetired { kind := 4, index := 4 } 53 4).logDegraded 4 53 (s1.tally.cores == [])
    (s2.endRetire 53).drainCores 5

/-! SRAM rows (R618, R619) -/

/-- Array codes of this model (R622 gives no values; log entry 41): 0 packet buffer, 1 and 2 ledger mirrors, 3 lookup cache, 5 engine local
memory, 6 cluster shared memory, 7 key store, 8 event log, 9 parse nodes, 10 rules, 11 key entries, 12 action lists, 13 templates,
14 instruction banks, 15 scheduler records. -/
def sramArrays : List Nat := [0, 1, 2, 3, 5, 6, 7, 8, 9, 10, 11, 12, 13, 14, 15]

/-- The unit an array belongs to. -/
def sramUnit (a : Nat) : Nat :=
  if a = 0 then 8 else if a ≤ 2 then 4 else if a = 3 then 7 else if a = 5 ∨ a = 6 ∨ a = 14 then 21 else if a = 7 then 11
  else if a = 8 then 53 else if a = 9 then 5 else if a = 15 then 8 else 6

/-- The contents of a row that could not be corrected (R618): frames whose cells are lost; words of engine or shared memory; key slots; log
slots. The other arrays have another source. -/
def State.rowLost (s : State) (a : Nat) (lost : List Nat) : State :=
  if a = 0 then lost.foldl (fun (t : State) h => match t.frame? h with
    | some f => t.loseCells h f
    | none => t) s
  else if a = 5 then lost.foldl (fun (t : State) w =>
    let i := w / 16384
    let g := t.engine i
    if 256 ≤ i ∨ g.poison.contains (w % 16384) then t
    else (t.setEngine i { g with poison := g.poison ++ [w % 16384] }).poisonHit (i / 8)) s
  else if a = 6 then lost.foldl (fun (t : State) w =>
    let c := w / 131072
    let k := t.cluster c
    if 32 ≤ c ∨ k.poison.contains (w % 131072) then t
    else (t.setCluster c { k with poison := k.poison ++ [w % 131072] }).poisonHit c) s
  else if a = 7 then lost.foldl (fun (t : State) i =>
    if 16384 ≤ i then t else ((t.zeroizeSlot i (srcIssuer .aoc) false).setRegN Reg.KS_LAST_LOST i).raiseSev Ev.ks 3 2) s
  else if a = 8 then { s with tally := { s.tally with log := lost.foldl (fun m i => SMap.del m i) s.tally.log } }
  else s

/-- A row is given up: a redundant row takes its place, or the row leaves its pool, or stays in use degraded (R614, R618, R619). -/
def State.retireRow (s : State) (a row reason : Nat) : State :=
  let p : Part := { kind := 6, index := a * 65536 + row }
  let used := SMap.getD s.tally.sramUsed a 0
  let s1 := s.markRetired p (sramUnit a) reason
  if used < Config.sramSpare a then
    ({ s1 with tally := { s1.tally with sramUsed := SMap.put s1.tally.sramUsed a (used + 1) } }).logReserve 6 row used (sramUnit a)
  else
    let s2 := { s1 with tally := { s1.tally with sramRetired := SMap.put s1.tally.sramRetired a (SMap.getD s1.tally.sramRetired a 0 + 1) } }
    let s3 := if a = 8 ∧ row < 32 then
        let t := { s2 with tally := { s2.tally with skipped := insertNat row s2.tally.skipped } }
        t.setFld Reg.EV_CAP 14 0 ((32 - t.tally.skipped.length) * 512)
      else if a = 1 ∨ a = 2 then s2.setRegN Reg.LG_FREE (s2.poolSize - s2.lg.used.length)
      else if a = 7 then s2.setRegN Reg.KS_FREE (16384 - (s2.cx.slots.filter (fun x => x.2.st != 0)).length - s2.sramLost 7)
      else s2
    s3.logDegraded 6 (sramUnit a) false

/-! Retiring a named part (R612, R617, R620) -/

/-- The part exists, is not retired, and may be retired: a DRAM rank only while it is active (R620). -/
def State.partNamed (s : State) (p : Part) : Bool :=
  !s.isRetired p && (if p.kind = 1 then decide (p.index / 16 < 32) && decide (p.index % 16 < 9)
    else if p.kind = 2 then decide (p.index / 32 < 2) && decide (p.index % 32 < 22)
    else if p.kind = 3 then decide (p.index / 8 < 2) && decide (p.index % 8 < 5)
    else if p.kind = 4 then decide (p.index < 5)
    else if p.kind = 5 then decide (p.index < 16) && s.rankSt (p.index / 4) (p.index % 4) == 1
    else p.kind == 6 && sramArrays.contains (p.index / 65536))

/-- Retire a part. -/
def State.retirePart (s : State) (p : Part) (reason : Nat) : State :=
  let i := p.index
  if p.kind = 1 then s.retireEngine (i / 16) (i % 16) reason true []
  else if p.kind = 2 then s.retireLane (i / 32) (i % 32) reason
  else if p.kind = 3 then s.retireCvLane (i / 8) (i % 8) reason
  else if p.kind = 4 then s.retireCore i reason
  else if p.kind = 5 then s.rankRetire (i / 4) (i % 4) reason
  else if p.kind = 6 then s.retireRow (i / 65536) (i % 65536) reason
  else s

/-- A reserve part for p is free (R617). -/
def State.reserveFree (s : State) (p : Part) : Bool :=
  if p.kind = 1 then (s.reserveEngine (p.index / 16)).isSome
  else if p.kind = 2 then !(s.laneReserve (p.index / 32)).isEmpty && (s.complex (p.index / 32)).substFor.isNone
  else if p.kind = 4 then s.tally.coreReserve && !s.coreBusy
  else false

/-- The part a waybill or RSV_FORCE names (R621, R622). -/
def partOf (v : Nat) : Part := { kind := bits v 31 28, index := bits v 23 0 }

/-- The unit of a part; of an SRAM row that of its array. -/
def partHome (p : Part) : Nat := if p.kind = 6 then sramUnit (p.index / 65536) else partUnit p

/-- RSV_FORCE takes effect (R620): the part is retired with reason 3, or its health record is cleared. -/
def State.rsvForce (s : State) (src : Src) (v : Nat) : State :=
  let p := partOf v
  if v.testBit 27 then
    if s.isRetired p && !s.tally.restore.contains p then
      { s with tally := { s.tally with restore := s.tally.restore ++ [p], health := s.tally.health.filter (· != p),
                                       sector := s.tally.sector.filter (· != p) } }
    else s.guardError 53 Reg.RSV_FORCE v src
  else if s.partNamed p then s.retirePart p 3
  else s.guardError 53 Reg.RSV_FORCE v src

end Sys2Proof.Machine
end

