-- ==== Sys2Proof/Machine/OpsPower.lean ====
section
/-!
DEFINITION. Power domains, unit resets, clocks, the thermal trip (20 R626-R636; 03 R122, R123; 01 R36).
-/

namespace Sys2Proof.Machine

open Sys2Proof

/-! Registers of a unit -/

/-- The units of domain d (01 R22). -/
def unitsOf (d : Nat) : List Nat := (List.range 55).filter (fun u => unitDomain u == d)

/-- The registers a test names go back to their reset values. -/
def State.dropRegs (s : State) (p : Nat → Bool) : State := { s with regs := s.regs.filter (fun x => !p x.1) }

/-- A register of a unit header (03 R105). -/
def isHdr (a : Nat) : Bool := (hdrOf a).isSome

/-- A flask's function epoch, which only a cold reset clears (02 R56). -/
def isFnEpoch (a : Nat) : Bool := decide (0x04000000 ≤ a) && (a - 0x04000000) % 0x10000 == 0x302C

/-- The frames a test names are dropped: a transmit entry completes OK (01 R29, R36). -/
def State.dropFrames (s : State) (p : Frame → Bool) : State :=
  s.fr.frames.foldl (fun (t : State) x => if p x.2 then t.dropFrame x.1 else t) s

/-! Retired parts (19 R613) -/

/-- A part recorded as retired stays out of service when its unit starts: a reserve part stands in for it, or capacity is gone. -/
def State.applyRetired (s : State) (p : Part) : State :=
  let i := p.index
  if p.kind = 1 then
    let c := i / 16
    let s1 := s.setFld (Reg.EC_RETIRED c) (i % 16) (i % 16) 1
    match s1.logicalOf c (i % 16) with
    | none => s1
    | some e => match s1.reserveEngine c with
      | some q => s1.setFld (Reg.EC_ENGINE_MAP c) (4 * e + 3) (4 * e) q
      | none =>
        let s2 := s1.setFld (Reg.EC_ENGINE_MAP c) (4 * e + 3) (4 * e) 15
        let s3 := (List.range 8).foldl (fun (t : State) j => t.modHart ((c * 8 + e) * 8 + j) (fun k => { k with st := .unavailable })) s2
        (s3.setFld (Reg.EC_STATE c) 11 8 (s3.fld (Reg.EC_STATE c) 11 8 - 1)).setFld Reg.FT_CAP 31 23 (s3.fld Reg.FT_CAP 31 23 - 1)
  else if p.kind = 2 then
    let c := i / 32
    let was := (s.regN (Reg.CX_LANE_ACTIVE c)).testBit (i % 32)
    let s1 := (s.setFld (Reg.CX_LANE_RETIRED c) (i % 32) (i % 32) 1).setFld (Reg.CX_LANE_ACTIVE c) (i % 32) (i % 32) 0
    match was, s1.laneReserve c with
    | true, l :: _ => (s1.setFld (Reg.CX_LANE_ACTIVE c) l l 1).cxCap c
    | _, _ => s1.cxCap c
  else if p.kind = 3 then s.setFld (Reg.CP_STAT (i / 8)) (5 + i % 8) (5 + i % 8) 1
  else if p.kind = 4 then
    let t := s.tally
    if i = 4 then { s with tally := { t with coreReserve := false } }
    else
      let rest := t.cores.filter (· != i)
      { s with tally := { t with cores := (if t.coreReserve then rest ++ [4] else rest), coreReserve := false } }.coresCap
  else if p.kind = 6 then
    let a := i / 65536
    let used := SMap.getD s.tally.sramUsed a 0
    if used < Config.sramSpare a then { s with tally := { s.tally with sramUsed := SMap.put s.tally.sramUsed a (used + 1) } }
    else
      let s1 := { s with tally := { s.tally with sramRetired := SMap.put s.tally.sramRetired a (SMap.getD s.tally.sramRetired a 0 + 1) } }
      if a = 8 ∧ i % 65536 < 32 then
        let s2 := { s1 with tally := { s1.tally with skipped := insertNat (i % 65536) s1.tally.skipped } }
        s2.setFld Reg.EV_CAP 14 0 ((32 - s2.tally.skipped.length) * 512)
      else if a = 1 ∨ a = 2 then s1.setRegN Reg.LG_FREE s1.poolSize
      else if a = 7 then s1.setRegN Reg.KS_FREE (16384 - s1.sramLost 7)
      else s1
  else s

/-- The parts of a unit recorded as retired are taken out when it starts; SRAM rows, control cores and ranks only at start-up. -/
def State.applyUnit (s : State) (u : Nat) : State :=
  (s.tally.retired.filter (fun p => decide (p.kind ≤ 3) && partUnit p == u)).foldl (fun (t : State) p => t.applyRetired p) s

/-! What a domain loses when it is forced off (R629; 01 R36) -/

/-- Everything a cluster holds. -/
def State.clusterClear (s : State) (c : Nat) : State :=
  let own := fun (h : Nat) => h / 64 == c
  let s1 := s.dropFrames (fun f => match f.stage with
    | .engine x => x == c
    | .thread x _ => x == c
    | _ => false)
  let s2 := (s1.eng.harts.filter (fun x => own x.1)).foldl (fun (t : State) x => t.dropWait x.1) s1
  { s2 with eng := { s2.eng with clusters := SMap.del s2.eng.clusters c, harts := s2.eng.harts.filter (fun x => !own x.1),
                                 engines := s2.eng.engines.filter (fun x => x.1 / 8 != c) } }

/-- Every function's reset completes at once, its completions and replies discarded (04 R158, R161). -/
def State.functionsGone (s : State) : State :=
  let s1 := (s.linkReset 0 false).linkReset 1 false
  let s2 := (s1.host.fns.map (·.1)).foldl (fun (t : State) fn =>
    if (t.fn fn).st == .resetting then ((t.fnWqs fn).foldl (fun t g => t.commitAll g) t).endReset fn else t) s1
  let down := fun (t : State) (l : Nat) => if t.flag (linkStat l) 31 then t.emit (.linkDrop l) else t
  let s3 := down (down s2 0) 1
  { s3 with host := {}, qm := {} }

/-- The engines' and movers' work in the mailbox domain is gone; a queue's running descriptor starts again later (R626; 13 R477). -/
def State.moversGone (s : State) : State :=
  let s1 := s.mv.chans.foldl (fun (t : State) x => match x.2.job with
    | some j =>
      let t1 := (t.bulkDrop (.mover x.1)).rngCancel (.mover x.1)
      (match j.org with
       | .queue g i => t1.modEntry g i (fun e => { e with started := false })
       | .ring _ _ => t1)
    | none => t) s
  { s1 with mv := {}, mb := { s1.mb with pairs := [], skip := [] },
            qm := { s1.qm with wqs := s1.qm.wqs.map (fun x => (x.1, { x.2 with chan := 0 })) } }

/-- The cipher domain's work is gone: frames in a complex drop, requests fail for want of a key or of entropy. -/
def State.cipherGone (s : State) : State :=
  let s1 := s.dropFrames (fun f => match f.stage with
    | .cipher => true
    | .macsec => true
    | _ => false)
  let ws := (s1.cx.in_.reqs ++ s1.cx.eg.reqs).map (·.who)
  let s2 := { s1 with cx := { s1.cx with in_ := {}, eg := {}, slots := [] } }
  let s3 := ws.foldl (fun (t : State) w => t.bulkEnd w none) s2
  let s4 := s3.rngDrain false s3.cx.rng.held.length
  { s4 with cx := {} }

/-- Drive ports and targets are gone: every command outstanding ends DRIVE_ABSENT (15 R506). -/
def State.drivesGone (s : State) : State :=
  let s1 := (List.range 4).foldl (fun (t : State) p => t.driveGone p 0) s
  let s2 := s1.dp.ios.foldl (fun (t : State) x => if x.st == .done then t else t.ioEnd x 0x07C0) s1
  { s2 with dp := {} }

/-- DRAM contents are gone (16 R542): forwarding tables in DRAM lose their entries. -/
def State.dramGone (s : State) : State :=
  let s1 := (s.dramDown 0).dropFrames (fun f => f.spilled)
  let s2 := (s1.lk.tables.filter (fun x => !x.2.resident)).foldl (fun (t : State) x => (t.removeIf x.1 (fun _ _ => true)).2) s1
  { s2 with dram := [], dr := { down := true } }

/-- What domain d holds beside registers is lost. -/
def State.domainLost (s : State) (d : Nat) : State :=
  if d = 1 then
    let s1 := s.loseHalf false
    { s1 with tally := { s1.tally with log := [] }, mb := { s1.mb with ctlEvents := [] } }
  else if 2 ≤ d ∧ d ≤ 33 then s.clusterClear (d - 2)
  else if d = 34 then s.functionsGone
  else if d = 35 then s.drivesGone
  else if d = 36 then
    let s1 := (List.range 8).foldl (fun (t : State) p => t.netDown p false 0) s
    { s1 with np := { ptpAt := s1.now } }
  else if d = 37 then { (s.cpHold 0).cpHold 1 with cv := {} }
  else if d = 38 then s.dramGone
  else if d = 39 then s.cipherGone
  else if d = 40 then
    { s.dropFrames (fun f => match f.stage with
        | .parse _ _ _ _ => true
        | .lookup => true
        | _ => false) with parser := {}, cl := {} }
  else if d = 41 then { s.dropFrames (fun _ => true) with tm := TmState.initial }
  else if d = 42 then s.moversGone
  else if d = 43 then
    { (s.dropFrames (fun f => match f.stage with
        | .lookup => true
        | _ => false)).loseHalf true with lk := {} }
  else s

/-- The registers of a unit of a domain forced off go back to reset values; a header keeps its seal (03 R123) until the unit returns. The
ledger's stay while its other half is powered. -/
def State.unitLost (s : State) (d u : Nat) : State :=
  if u = 4 ∧ s.pdOn 43 = true then s
  else
    let s1 := s.dropRegs (fun a => unitOfReg a == u && !isHdr a && !isFnEpoch a)
    if unitDomain u = d then s1.setFld (unitHdr u) 3 0 0 else s1

/-- Domain d enters a state with a log entry of a severity. -/
def State.setPdSev (s : State) (d : Nat) (st : PdSt) (sev : Nat) : State :=
  let s1 := { s with pwr := { s.pwr with pd := (if st = PdSt.off then SMap.del s.pwr.pd d else SMap.put s.pwr.pd d st) } }
  let a := if d < 32 then Reg.PD_STATE_LO else Reg.PD_STATE_HI
  (s1.setFld a (d % 32) (d % 32) (if st = PdSt.on then 1 else 0)).raiseSev Ev.ao 2 sev

/-- Domain d is forced off: no drain, no save; its units' counts since the last mark are lost (R629; 03 R123; 19 R598). -/
def State.forceOff (s : State) (d : Nat) : State :=
  if s.pdSt d == .off then
    { s with pwr := { s.pwr with savedOff := s.pwr.savedOff.filter (· != d) } }
  else
    let us := unitsOf d
    let s1 := us.foldl (fun (t : State) u => if u = 4 then t else t.loseCounts u) s
    let s2 := us.foldl (fun (t : State) u => t.unitLost d u) (s1.domainLost d)
    let s3 := if d = 43 ∧ s.pdOn 1 = false then s2.dropRegs (fun a => unitOfReg a == 4) else s2
    let s4 := { s3 with pwr := { s3.pwr with savedOff := s3.pwr.savedOff.filter (· != d), wake := s3.pwr.wake.filter (· != d),
                                             pdWait := s3.pwr.pdWait.filter (fun x => x.1 != d) } }
    (s4.setPdSev d PdSt.off 3).completeWait (.pdSet d true) .busy [] |>.completeWait (.pdSet d false) .busy []

/-- Domain d is powered up; it is ON when its rail has settled (R628, R629). -/
def State.powerUp (s : State) (d : Nat) : State := if s.pdSt d == .off then s.setPd d .ramping else s

/-- A cluster holds an image in its active bank. -/
def State.hasImage (s : State) (c : Nat) : Bool := !((s.cluster c).bank (s.bankNo c)).isEmpty

/-- A cluster enters service: its supervisors start at INIT_PC (12 R447). -/
def State.clusterStart (s : State) (c : Nat) : State :=
  if s.hasImage c then
    (List.range 8).foldl (fun (t : State) e => t.supStart (c * 8 + e) (t.initPc c)) (s.setFld (Reg.EC_STATE c) 3 3 1)
  else s

/-- What starts with a unit's domain: the generator, the PTP clock, the host links, a cluster with an image; CV_STATE shows the strap. -/
def State.unitStarts (s : State) (u : Nat) : State :=
  if u = 2 then
    { s with host := { s.host with link0 := { s.host.link0 with held := s.pwr.perst }, link1 := { s.host.link1 with held := s.pwr.perst1 } } }
  else if u = 11 then s.rngStart
  else if u = 19 then s.setFld Reg.CV_STATE 1 0 s.cvId
  else if u = 20 then { s with np := { s.np with ptpAt := s.now } }
  else if 21 ≤ u ∧ u ≤ 52 then s.clusterStart (u - 21)
  else s

/-- Domain d is ON: its units pass START, with reset values and SEALED 0 unless their configuration was saved, and enter SERVICE once
start-up is done (R628, R629; 03 R123). -/
def State.domainUp (s : State) (d : Nat) : State :=
  let saved := s.pwr.savedOff.contains d
  let s1 := s.setPd d .on
  let s2 := { s1 with pwr := { s1.pwr with savedOff := s1.pwr.savedOff.filter (· != d), wake := s1.pwr.wake.filter (· != d) } }
  let s3 := (unitsOf d).foldl (fun (t : State) u =>
    let t1 := if saved then t else t.unseal u
    let t2 := t1.applyUnit u
    let t3 := t2.setUnitState u 1
    (if t3.pwr.ready then t3.setUnitState u 2 else t3).unitStarts u) s2
  s3.completeWait (.pdSet d true) .ok (3 :: zeros 3)

/-! PD_OFF (R629) -/

/-- A bit of PD_OFF that would switch off domain d is ignored. -/
def State.offIgnored (s : State) (d : Nat) : Bool :=
  d == 0 || decide (43 < d) || ((d == 1 || d == 43) && (!s.pdOn (44 - d) || s.halfLost false || s.halfLost true))
    || (s.lg.inDram.isSome && d == 38)

/-- The PD_OFF register of domain d. -/
def offReg (d : Nat) : Nat := if d < 32 then Reg.PD_OFF_LO else Reg.PD_OFF_HI

/-- Bit d of PD_OFF becomes 1 or 0; an ignored bit is logged. -/
def State.setOff (s : State) (src : Nat) (d : Nat) (on : Bool) : State :=
  let a := offReg d
  if s.flag a (d % 32) == on then s
  else if on && s.offIgnored d then s.logKind 0x10 1 1 1 src (leBytes 4 a ++ leBytes 4 (2 ^ (d % 32)))
  else if on then (s.setFld a (d % 32) (d % 32) 1).forceOff d
  else (s.setFld a (d % 32) (d % 32) 0).powerUp d

/-- A completed guarded write of PD_OFF_LO or PD_OFF_HI. -/
def State.pdOff (s : State) (src : Src) (hi : Bool) (v : Nat) : State :=
  (List.range (if hi then 12 else 32)).foldl (fun (t : State) i =>
    let d := if hi then 32 + i else i
    if d = 0 then t else t.setOff (srcIssuer src) d (v.testBit i)) s

/-! Switching off by waybill (R627) -/

/-- The domains PD_SET may name (R626). -/
def pdByWaybill (d : Nat) : Bool := (decide (2 ≤ d) && decide (d ≤ 33)) || d == 35 || d == 36 || d == 37

/-- The domain's own condition (R627 step 2). -/
def State.pdReady (s : State) (d : Nat) : Bool :=
  if d = 35 then (List.range 4).all (fun p => [0, 5, 6].contains (s.drvSt p))
  else if d = 36 then (List.range 8).all (fun p => !s.adminUp p)
  else if d = 37 then !s.flag (Reg.CP_CTRL 0) 31 && !s.flag (Reg.CP_CTRL 1) 31
  else true

/-- Work inside the domain's units remains (R627 step 4); a cluster's supervisors are no work. -/
def State.pdBusy (s : State) (d : Nat) : Bool :=
  if d = 35 then s.dp.ios.any (fun x => x.st != .done)
  else if d = 36 then s.fr.frames.any (fun x => match x.2.stage with | .wire p => decide (p < 8) | _ => false)
  else if d = 37 then s.fr.frames.any (fun x => match x.2.stage with | .wire p => decide (8 ≤ p) | _ => false)
  else
    let c := d - 2
    !(s.cluster c).queue.isEmpty || s.eng.harts.any (fun x => hartCl x.1 == c && !isSup x.1 && x.2.run != .none)

/-- What the units of domain d hold beside configuration is lost; the configuration is saved (R627 step 5; 03 R123). -/
def State.saveOff (s : State) (d : Nat) : State :=
  let us := unitsOf d
  let s1 := us.foldl (fun (t : State) u => t.foldBase u true) s
  let s2 := if 2 ≤ d ∧ d ≤ 33 then
      let k := s1.cluster (d - 2)
      let b := s1.bankNo (d - 2)
      let t := s1.clusterClear (d - 2)
      (t.setCluster (d - 2) (({} : Cluster).setBank b (k.bank b))).setFld (Reg.EC_STATE (d - 2)) 3 3 0
    else if d = 35 then { s1 with dp := { vbfs := s1.dp.vbfs, tgts := s1.dp.tgts.map (fun x => (x.1, { rcd := x.2.rcd })) } }
    else if d = 36 then { s1 with np := { ptpAt := s1.now } }
    else { s1 with cv := { backup := s1.cv.backup } }
  let s3 := us.foldl (fun (t : State) u =>
    (t.dropRegs (fun a => unitOfReg a == u && !isHdr a && !isCfg a && !(decide (21 ≤ u) && a == Reg.EC_STATE (u - 21)))).setFld (unitHdr u) 3 0 0) s2
  { s3 with pwr := { s3.pwr with savedOff := insertNat d s3.pwr.savedOff } }.setPd d .off

/-- The wait of PD_SET off ends: the domain is switched off, or its units return to service (R627). -/
def State.pdDrained (s : State) (d : Nat) : State :=
  if s.pwr.pdWait.any (fun x => x.1 == d) then
    let s1 := { s with pwr := { s.pwr with pdWait := s.pwr.pdWait.filter (fun x => x.1 != d) } }
    if s1.pdBusy d ∨ s1.pdReady d = false then s1.completeWait (.pdSet d false) .busy []
    else (s1.saveOff d).completeWait (.pdSet d false) .ok (zeros 4)
  else s

/-! Unit reset (R636; 03 R122) -/

/-- Accepted work inside a unit is replayed as after a transient fault (06 R220). -/
def State.unitReplay (s : State) (u : Nat) : State :=
  if 21 ≤ u ∧ u ≤ 52 then (List.range 8).foldl (fun (t : State) e => t.abandonRuns ((u - 21) * 8 + e)) s
  else if u = 9 ∨ u = 10 then (List.range 22).foldl (fun (t : State) l => t.laneReplay (u - 9) l) s
  else if u = 12 then s.mv.chans.foldl (fun (t : State) x => match x.2.job with
    | some j => if j.phase = .run ∧ j.seg = 0 ∧ j.rndWait = false then t.mvAsk x.1 { j with buf := none } else t
    | none => t) s
  else if u = 8 then
    s.fr.frames.foldl (fun (t : State) x => match x.2.stage with
      | .queued _ => (t.freeCells x.2).setFrame x.1 { x.2 with stage := .enqueue, cells := 0, charge := none, spilled := false }
      | _ => t) s
  else s

/-- The configuration arrays of unit u go back to reset values. -/
def State.resetArrays (s : State) (u : Nat) : State :=
  if u = 2 then { s with host := { s.host with fns := s.host.fns.map (fun (x : Nat × Fn) => (x.1, { x.2 with quota := zeros 32 })) } }.queueCounts
  else if u = 5 then
    let p := s.parser
    { s with parser := { p with rx := p.rx.setBank p.rx.gen [] 0, tx := p.tx.setBank p.tx.gen [] 0 } }
  else if u = 6 then
    { (s.setRegN Reg.CL_ENTRIES 0).setRegN Reg.CL_RULES 0 with
      cl := { s.cl with groups := [], entries := [], rules := [], lists := [], templates := [], tmplOwner := [], hits := [], badEntries := [],
                        badRules := [], badLists := [] } }
  else if u = 7 then
    let s1 := s.lk.tables.foldl (fun (t : State) x => (t.destroyTable x.1).2) s
    { s1 with lk := { s1.lk with profiles := [], learns := [] } }
  else if u = 8 then { s with tm := TmState.initial }
  else if u = 14 then { s with dp := { s.dp with vbfs := [], tgts := [] } }
  else if 15 ≤ u ∧ u ≤ 18 then s.setChan (u - 15) { s.chan (u - 15) with timing := zeros 256 }
  else if u = 19 then { (s.cpHold 0).cpHold 1 with cv := { ((s.cpHold 0).cpHold 1).cv with backup := [] } }
  else if u = 20 then (List.range 8).foldl (fun (t : State) p => t.netDown p true 0) s
  else if 21 ≤ u ∧ u ≤ 52 then
    let c := u - 21
    (s.setCluster c ((s.cluster c).setBank (s.bankNo c) [])).setFld (Reg.EC_STATE c) 3 3 0
  else s

/-- Unit u is reset: its configuration goes back to reset values, SEALED to 0, UNIT_STATE to RESET (R634, R636). -/
def State.unitReset (s : State) (u : Nat) : State :=
  let s1 := (s.unitReplay u).resetArrays u
  let s2 := s1.dropRegs (fun a => unitOfReg a == u && isCfg a)
  (s2.unseal u).setUnitState u 0

/-- The units that cannot be reset alone (R636). -/
def unitFixed (u : Nat) : Bool := u == 0 || u == 1 || u == 4 || decide (54 < u)

/-- A reset unit returns through START to SERVICE (R636). -/
def State.unitBack (s : State) (u : Nat) : State :=
  if decide (54 < u) || !s.unitOn u || s.unitState u != 0 || !s.pwr.ready then s
  else ((s.setUnitState u 1).setUnitState u 2).completeWait (.unitReset u) .ok []

/-! Clocks (R630, R631) -/

/-- Island i runs from CLK_REF (R630). -/
def onClkRef (i : Nat) : Bool := i != 33 && i != 34 && i != 36 && i != 37

/-- NOW_MHZ of every island: the lowest of its set clock, its aging limit and, for clusters, the thermal limit; without CLK_REF the islands
on it stand still and CI33 has its oscillator (R630, R631). -/
def State.clkSync (s : State) : State :=
  (List.range 52).foldl (fun (t : State) i =>
    let a := Reg.CLK_ISLAND i
    let set_ := t.fld a 31 16
    let lim := min set_ (SMap.getD t.pwr.aging i set_)
    let now := if i < 32 then min lim t.pwr.thermalMhz else lim
    let waits := t.pwr.clkWait.any (fun x => x.1 == i)
    let v := if t.pwr.refclkLost && onClkRef i then 0 else if t.pwr.refclkLost && i == 33 then 50
      else if waits then min now (t.fld a 15 0) else now
    t.setFld a 15 0 v) s

/-- The setpoint the AOC wants for the clocks wanted, within 650-850 mV in 1 mV steps (R632). -/
def State.wantMv (s : State) : Nat :=
  let fastest := (List.range 52).foldl (fun m i => max m (s.fld (Reg.CLK_ISLAND i) 31 16)) 0
  let margin := (List.range 52).foldl (fun m i => min m (s.fld (Reg.AG_MARGIN i) 15 0)) 65535
  min 850 (max 650 (Config.vcoreFor fastest margin))

/-- The AOC sends a setpoint to the regulator (R632; 21 R669). -/
def State.sendMv (s : State) (mv : Nat) : State :=
  { s with pwr := { s.pwr with vcoreTarget := mv, vcoreOk := false } }.emit (.avs mv)

/-! The thermal trip (R633) -/

/-- Every domain but PD0 is forced off, THERMTRIP_N asserts, THERM_TRIP is raised and logged with severity 3. -/
def State.thermalTrip (s : State) : State :=
  let s1 := (List.range 43).foldl (fun (t : State) i => t.forceOff (i + 1)) s
  { s1 with pwr := { s1.pwr with tripped := true } }.raiseSev Ev.ao 4 3

end Sys2Proof.Machine
end

