-- ==== Sys2Proof/Machine/OpsBoot.lean ====
section
/-!
DEFINITION. Resets of the device, firmware slots, start-up, fuses (20 R634-R645, R652).
-/

namespace Sys2Proof.Machine

open Sys2Proof

/-- AO_STATE follows the state of the AOC (R652). -/
def State.aoSync (s : State) : State :=
  let p := s.pwr
  s.setRegN Reg.AO_STATE (bitVal p.ready 31 + bitVal p.recovery 30 + bitVal p.fallback 29 + bitVal p.slotB 28 + p.step % 16 * 2 ^ 24
    + bitVal p.debugOpen 6 + p.convoyId % 4 * 16 + p.bootSel % 4 * 4 + bitVal p.hostBif 1)

/-! Firmware slots (R638-R643) -/

/-- Bytes of the boot flash; an erased byte is 0xFF (kept complemented). -/
def State.flashRead (s : State) (a n : Nat) : List Byte := (Mem.rdN s.pwr.flash a n).map (fun b => ~~~b)
def State.flashWrite (s : State) (a : Nat) (d : List Byte) : State :=
  { s with pwr := { s.pwr with flash := Mem.wrN s.pwr.flash a (d.map (fun b => ~~~b)) } }
def State.flashErase (s : State) (a : Nat) : State := { s with pwr := { s.pwr with flash := Mem.clear s.pwr.flash a 65536 } }

/-- Where a slot starts (R638). -/
def slotBase (b : Bool) : Nat := if b then 0x1000000 else 0

/-- A slot's header (R639). -/
def State.slotHeader (s : State) (b : Bool) : List Byte := s.flashRead (slotBase b) 4096

/-- The fused SVN. -/
def State.fusedSvn (s : State) : Nat := s.fld Reg.FUSE_STAT 6 0

/-- A header verifies (R640): MAGIC, version, a key that is not revoked and hashes to its fuse, the signature, SVN. -/
def State.headerOk (s : State) (b : Bool) : Bool :=
  let h := s.slotHeader b
  let k := u8 h 5
  let pub := slice h 392 97
  u32 h 0 == 0x4E4C4954 && u8 h 4 == 1 && decide (k < 4) && !s.flag Reg.FUSE_STAT (8 + k)
    && SMap.get? s.pwr.keyHash k == some (beNat (sha384 pub)) && decide (s.fusedSvn ≤ u32 h 12)
    && ecdsaOk pub (slice h 3968 96) (slice h 0 3968)

/-- A stage hashes to the value in the header (R639, R640): A (false) or B. -/
def State.stageOk (s : State) (b second : Bool) : Bool :=
  let h := s.slotHeader b
  let d := s.flashRead (slotBase b + if second then 0x81000 else 0x1000) (u32 h (if second then 20 else 16))
  sha384 d == slice h (if second then 72 else 24) 48

/-- A slot verifies in full (R640). -/
def State.slotOk (s : State) (b : Bool) : Bool := s.headerOk b && s.stageOk b false && s.stageOk b true

/-- The slot runs: start-up has passed its header and recovery is not set. -/
def State.slotRuns (s : State) (b : Bool) : Bool := !s.pwr.recovery && decide (2 < s.pwr.step) && s.pwr.slotB == b

/-! Resets (R634, R635) -/

/-- A register of PD0 that a cold or device reset keeps: those of the identity, always-on and debug units apart from headers, PF0's waybill
rings, ownership, counters and what start-up shows. -/
def keptReg (a : Nat) : Bool :=
  let u := unitOfReg a
  decide (a < 0x04000000) && (u == 0 || u == 1 || u == 54) && !isHdr a
    && !(decide (0x1000 ≤ a) && decide (a < 0x1200)) && !(decide (0x10100 ≤ a) && decide (a < 0x10200))
    && !([Reg.AO_STATE, Reg.FW_VERSION, Reg.FW_SVN, Reg.PD_STATE_LO, Reg.PD_STATE_HI, Reg.PD_OFF_LO, Reg.PD_OFF_HI].contains a)
    && !((unitCounters 1).any (fun c => c.1 == a))

/-- The links that are up go down: the hosts see a surprise link-down (R635). -/
def State.dropLinks (s : State) : State :=
  let down := fun (t : State) (l : Nat) => if t.flag (linkStat l) 31 then t.emit (.linkDrop l) else t
  down (down s 0) 1

/-- Every domain but PD0 is reset, with ownership; PD0 keeps the last-word file, the straps, the fuses, the flash with its health sector, and
the AOC's own bus addresses (R634). `device` false: a cold reset, which waits for PWR_GOOD and PERST_N. -/
def State.resetAll (s : State) (device : Bool) : State :=
  let t := s.dropLinks
  let p := t.pwr
  { State.reset with
    regs := t.regs.filter (fun x => keptReg x.1)
    wb := { eids := t.wb.eids, i3cDyn := t.wb.i3cDyn, bmcLast := t.wb.bmcLast, reasm := t.wb.reasm }
    eng := { dm := t.eng.dm }
    tally := { lastWord := t.tally.lastWord, sector := t.tally.sector, retired := t.tally.sector }
    pwr := { bootSel := p.bootSel, convoyId := p.convoyId, hostBif := p.hostBif, perstSeen := p.perstSeen && device,
             pwrGoodAon := p.pwrGoodAon, pwrGood := p.pwrGood, perst := p.perst, perst1 := p.perst1, attempt := if device then p.attempt else 0,
             refclkLost := p.refclkLost, hotC8 := p.hotC8, temps := p.temps, thermalMhz := p.thermalMhz, railHold := p.railHold,
             vcoreTarget := (if device then p.vcoreTarget else 800), vcoreOk := (if device then p.vcoreOk else true),
             fuse := p.fuse, keyHash := p.keyHash, flash := p.flash, flashOp := p.flashOp, bootRecord := p.bootRecord, coldAt := t.now,
             step := 1 }
    now := t.now
    out := t.out
    free := t.free
    pending := t.pending }

/-- RST_CAUSE: the cause, and of a device reset the count (R652). -/
def State.setCause (s : State) (cause : Nat) (device : Bool) : State :=
  let n := s.fld Reg.RST_CAUSE 15 0
  s.setRegN Reg.RST_CAUSE (cause * 2 ^ 24 + (if device then min 65535 (n + 1) else n))

/-- Every domain but PD0 is off, no firmware runs (R643). -/
def State.enterRecovery (s : State) : State :=
  let s1 := (List.range 43).foldl (fun (t : State) i => if t.pdSt (i + 1) == .off then t else t.setPd (i + 1) .off) s.dropLinks
  { s1 with host := { s1.host with link0 := { s1.host.link0 with held := true }, link1 := { s1.host.link1 with held := true } },
            pwr := { s1.pwr with recovery := true, ready := false, watchdog := none } }.aoSync

/-- Step 2 begins with the slot to try first (R637, R641, R644): `other`, the slot not named, as after a watchdog reset. -/
def State.bootStart (s : State) (other : Bool) : State :=
  let p := s.pwr
  let named := if p.bootSel = 0 then p.bootRecord.getD 0 == 1 else p.bootSel == 2
  let b := if p.bootSel = 0 then named != other else named
  let s1 := { s with pwr := { p with step := 2, slotB := b, fallback := b != named, tried := [], recovery := false, watchdog := some (s.now + 5000000000) } }
  if p.bootSel = 3 then s1.enterRecovery else s1.aoSync

/-- A device reset (R634, R635): start-up restarts at step 2 with the straps already latched; the entry names its cause with severity 3
(19 R608). -/
def State.deviceReset (s : State) (cause : Nat) (other : Bool) : State :=
  let s1 := (s.resetAll true).setCause cause true
  let s2 := if s1.pwr.perstSeen then s1.bootStart other else s1.aoSync
  s2.record Ev.ao 3 0 (leBytes 1 cause)

/-- A cold reset: PWR_GOOD has fallen. -/
def State.coldReset (s : State) : State := ((s.resetAll false).setCause 1 false).aoSync

/-- A power-on reset (R634): nothing is kept but the fuses and the boot flash, which need no power. -/
def State.powerOn (s : State) : State :=
  let t := s.dropLinks
  { State.reset with
    regs := t.regs.filter (fun x => x.1 == Reg.FUSE_STAT)
    tally := { sector := t.tally.sector, retired := t.tally.sector }
    pwr := { keyHash := t.pwr.keyHash, flash := t.pwr.flash, bootRecord := t.pwr.bootRecord, coldAt := t.now }
    now := t.now
    out := t.out
    free := t.free
    pending := t.pending }.setFld Reg.FUSE_STAT 31 31 0

/-! Start-up (R644, R645) -/

/-- The slot being tried fails: the other one where BOOT_SEL allows, or recovery (R640, R643). -/
def State.slotFails (s : State) : State :=
  let p := s.pwr
  let other := if p.slotB then 0 else 1
  if p.bootSel = 0 ∧ p.tried.contains other = false then
    let off := fun (t : State) (d : Nat) => if t.pdSt d == .off then t else (unitsOf d).foldl (fun (u : State) n => u.setUnitState n 0) (t.setPd d .off)
    let s1 := off (off s.dropLinks 34) 1
    ({ s1 with host := { s1.host with link0 := { s1.host.link0 with held := true }, link1 := { s1.host.link1 with held := true } },
               pwr := { s1.pwr with tried := (if p.slotB then 1 else 0) :: p.tried, slotB := !p.slotB, fallback := true, step := 2 } }.aoSync).raise Ev.ao 1
  else s.enterRecovery

/-- A step is done: the next begins. -/
def State.toStep (s : State) (n : Nat) : State := { s with pwr := { s.pwr with step := n } }.aoSync

/-- The firmware starts and logs what the AOC held (R645). -/
def State.flushAoc (s : State) : State :=
  let l := s.tally.aocHeld
  l.foldl (fun (t : State) e => t.logWrite e) { s with tally := { s.tally with aocHeld := [] } }

/-- Step 8: configuration from the image header, units in SERVICE, mark 0, READY, ownership NONE with epoch 0 (R644). -/
def State.bootReady (s : State) : State :=
  let h := s.slotHeader s.pwr.slotB
  let s1 := (s.setRegN Reg.NP_LANE_CFG (u32 h 128)).setRegN Reg.TL_AREA (setBits (u32 h 132) 23 18 0)
  let s2 := s1.setFld Reg.CV_CTRL 2 0 (u8 h 124)
  let s3 := (List.range 4).foldl (fun (t : State) c => t.setChan c { t.chan c with timing := slice h 136 256 }) s2
  let s4 := (List.range 55).foldl (fun (t : State) u => if t.unitOn u then t.setUnitState u 2 else t) s3
  let s5 := { s4 with pwr := { s4.pwr with ready := true, watchdog := none, attempt := 0, subsys := u32 h 120 }, cv := { s4.cv with noneSince := s4.now } }
  (s5.lgSync.markZero).aoSync

/-- A start-up step completes, or fails (R644): the header of the slot and stages A and B are verified in steps 2, 3 and 4. -/
def State.bootStep (s : State) (ok : Bool) (train : List DramPop) : State :=
  let p := s.pwr
  let n := p.step
  if p.refclkLost || p.recovery || p.ready || p.tripped || !p.pwrGoodAon then s
  else if n = 0 then (if ok then s.toStep 1 else s.enterRecovery)
  else if n = 1 then s
  else if n = 2 then
    if ok && s.headerOk p.slotB then
      let h := s.slotHeader p.slotB
      ((s.setRegN Reg.FW_VERSION (u32 h 8)).setRegN Reg.FW_SVN (u32 h 12 % 128)).toStep 3
    else s.slotFails
  else if n = 3 then
    if ok && s.stageOk p.slotB false then (s.domainUp 34).toStep 4 else s.slotFails
  else if n = 4 then
    if ok && s.stageOk p.slotB true then
      let s1 := (s.tally.retired.filter (fun x => x.kind == 4)).foldl (fun (t : State) x => t.applyRetired x) s
      ((s1.domainUp 1).toStep 5).flushAoc
    else s.slotFails
  else if !ok then s
  else if n = 5 then
    let s1 := (List.range 44).foldl (fun (t : State) d =>
      let t1 := t.setFld (offReg d) (d % 32) (d % 32) 0
      if t1.pdOn d then t1 else t1.domainUp d) s
    ((s1.tally.retired.filter (fun x => x.kind == 6)).foldl (fun (t : State) x => t.applyRetired x) s1).toStep 6
  else if n = 6 then
    let s1 := s.dramTrained train
    let mhz := (List.range 4).foldl (fun m c => max m ([0, 1200, 1300, 1400, 1500, 1600].getD (s1.fld (Reg.DC_CFG c) 31 29) 0)) 0
    let s2 := if mhz = 0 then s1 else [38, 39, 40, 41].foldl (fun (t : State) i => t.setRegN (Reg.CLK_ISLAND i) (mhz * 65536 + mhz)) s1
    s2.toStep 7
  else if n = 7 then s.toStep 8
  else if n = 8 then s.bootReady
  else s

/-! Fuses (R652) -/

/-- The keys that are not revoked. -/
def State.liveKeys (s : State) : List Nat := (List.range 4).filter (fun k => !s.flag Reg.FUSE_STAT (8 + k))

/-- A completed guarded write of FUSE_PROG: programming starts, or the write is discarded and logged. -/
def State.fuseProg (s : State) (src : Src) (v : Nat) : State :=
  let op := bits v 31 28
  let k := bits v 1 0
  let bad := s.pwr.fuse.isSome || op == 0 || decide (3 < op) || (op == 1 && s.liveKeys == [k])
    || (op == 2 && decide (s.fld Reg.FW_SVN 6 0 < s.fusedSvn + 1))
  if bad then s.guardError 1 Reg.FUSE_PROG v src
  else { s.setFld Reg.FUSE_STAT 31 31 1 with pwr := { s.pwr with fuse := some { op := op, key := k } } }

/-- Programming ends. -/
def State.fuseDone (s : State) : State :=
  match s.pwr.fuse with
  | none => s
  | some f =>
    let s1 := { s.setFld Reg.FUSE_STAT 31 31 0 with pwr := { s.pwr with fuse := none } }
    if f.op = 1 then s1.setFld Reg.FUSE_STAT (8 + f.key) (8 + f.key) 1
    else if f.op = 2 then s1.setFld Reg.FUSE_STAT 6 0 (s1.fusedSvn + 1)
    else
      let s2 := s1.setFld Reg.FUSE_STAT 12 12 1
      if s2.pwr.debugOpen then s2 else s2.setDm {}

/-! The boot flash (R642) -/

/-- A running write of the boot flash ends: the waybill that asked for it is final; a slot switch may reset the device. -/
def State.flashDone (s : State) : State :=
  match s.pwr.flashOp with
  | none => s
  | some (.data a erase d) =>
    let s1 := { s with pwr := { s.pwr with flashOp := none } }
    let s2 := if erase then s1.flashErase a else s1
    (s2.flashWrite a d).completeWait .flashWrite .ok []
  | some (.record slot now) =>
    let prev := s.pwr.bootRecord.getD 0
    let s1 := { s with pwr := { s.pwr with flashOp := none, bootRecord := some slot } }
    let s2 := s1.completeWait .slotSwitch .ok (leBytes 1 prev ++ zeros 3)
    if now then s2.deviceReset 4 false else s2

/-! RST_CTRL (R635, R636) -/

/-- A completed guarded write of RST_CTRL. -/
def State.rstCtrl (s : State) (src : Src) (v : Nat) : State :=
  let u := bits v 5 0
  if v.testBit 31 then s.deviceReset 2 false
  else if !v.testBit 30 then s
  else if unitFixed u then s.guardError 1 Reg.RST_CTRL v src
  else (s.loseCounts u).unitReset u

/-! Straps and links (R637; 04 R130, R161) -/

/-- A fundamental reset of a link: it goes down and its functions are reset. -/
def State.linkPerst (s : State) (l : Nat) : State :=
  let s1 := if s.flag (linkStat l) 31 then (s.setRegN (linkStat l) 0).emit (.linkDrop l) else s
  let s2 := s1.setLink l { s1.link l with held := true }
  if s2.unitOn 2 then (s2.raise Ev.he 0).linkReset l false else s2

/-- A link may train when the endpoint is released and its fundamental reset is deasserted. -/
def State.linkFree (s : State) (l : Nat) : State :=
  s.setLink l { s.link l with held := !s.unitOn 2 || (if l = 1 then s.pwr.perst1 else s.pwr.perst) }

/-- PERST_N rises: HOST_BIF is latched; at the first rise after PWR_GOOD the other straps too, and step 2 begins. -/
def State.perstUp (s : State) (bootSel convoyId : Nat) (hb : Bool) : State :=
  let s0 := { s with pwr := { s.pwr with perst := false } }
  let s1 : State := if hb = s0.pwr.hostBif then s0
    else
      let t : State := s0.linkPerst 1
      let t1 : State := { t with pwr := { t.pwr with hostBif := hb } }
      t1.linkFree 1
  let s2 : State := (s1.linkFree 0).aoSync
  let p : PowerState := s2.pwr
  if p.step = 1 ∧ p.pwrGood = true ∧ p.railHold = false ∧ p.perstSeen = false then
    ({ s2 with pwr := { p with bootSel := bootSel % 4, convoyId := convoyId % 4, perstSeen := true } }).bootStart false
  else s2

end Sys2Proof.Machine
end

