-- ==== Sys2Proof/Machine/Power.lean ====
section
/-!
DEFINITION. The events of power, reset and start-up and the 0x10xx opcodes (20 R626-R655; 21 R669-R672; 19 R617), and the guarded registers
of the always-on block.
-/

namespace Sys2Proof.Machine

open Sys2Proof

/-! Power and reset pins (R634, R637, R644; 21 R670-R672) -/

/-- POWER_ON (R634): VDD_AON rises. -/
def execPowerOn (s : State) : Host.Outcome State Fault Refusal := finish s.powerOn

/-- VDD_AON_LOSS (R672): a power-on reset. -/
def execVddAonLoss (s : State) : Host.Outcome State Fault Refusal := finish s.powerOn

/-- PWR_GOOD_AON (R644): step 0 begins. -/
def execPwrGoodAon (s : State) : Host.Outcome State Fault Refusal :=
  finish (if s.pwr.pwrGoodAon then s else { s with pwr := { s.pwr with pwrGoodAon := true, step := 0 } })

/-- PWR_GOOD_RISE (R644; 21 R669, R670): the rails are good, the regulator at its boot voltage, CLK_REF stable. -/
def execPwrGoodRise (s : State) : Host.Outcome State Fault Refusal :=
  finish (if s.pwr.pwrGood then s
    else
      let s1 := { s with pwr := { s.pwr with pwrGood := true, perstSeen := false, refclkLost := false } }
      (s1.setFld Reg.PWR_NOW 31 16 s1.pwr.vcoreTarget).clkSync)

/-- PWR_GOOD_FALL (R634; 21 R672): a cold reset, one only when a rail failed with it. -/
def execPwrGoodFall (s : State) : Host.Outcome State Fault Refusal :=
  finish (if !s.pwr.pwrGood then s
    else
      let s1 := { s with pwr := { s.pwr with pwrGood := false } }
      if s1.pwr.railHold ∨ s1.pwr.step = 0 then s1 else s1.coldReset)

/-- RAIL_UNDERVOLTAGE (R672): acts as PWR_GOOD falling; the reset is held. -/
def execRailUndervoltage (s : State) : Host.Outcome State Fault Refusal :=
  finish (if s.pwr.railHold ∨ s.pwr.pwrGoodAon = false ∨ s.pwr.step = 0 then s
    else
      let s1 := { s with pwr := { s.pwr with railHold := true } }
      if s1.pwr.pwrGood then s1.coldReset else s1)

/-- RAIL_RETURN (R672): every rail has been in range for 1 ms. -/
def execRailReturn (s : State) : Host.Outcome State Fault Refusal :=
  finish { s with pwr := { s.pwr with railHold := false } }

/-- PERST_N (R637, R655; 04 R130, R161): level false, asserted; true, deasserted with the straps as they stand. -/
def execPerstN (level : Bool) (bootSel convoyId : Nat) (hostBif : Bool) (s : State) : Host.Outcome State Fault Refusal :=
  finish (if level == !s.pwr.perst then s
    else if level then s.perstUp bootSel convoyId hostBif
    else { s with pwr := { s.pwr with perst := true } }.linkPerst 0)

/-- PERST1_N (04 R130, R161): the fundamental reset of link 1, which exists under bifurcation. -/
def execPerst1N (level : Bool) (s : State) : Host.Outcome State Fault Refusal :=
  finish (if level == !s.pwr.perst1 then s
    else
      let s1 := { s with pwr := { s.pwr with perst1 := !level } }
      if !s1.pwr.hostBif then s1 else if level then s1.linkFree 1 else s1.linkPerst 1)

/-! Start-up -/

/-- BOOT_STEP_DONE (R644). -/
def execBootStepDone (ok : Bool) (train : List DramPop) (s : State) : Host.Outcome State Fault Refusal := finish (s.bootStep ok train)

/-- BOOT_WATCHDOG (R641): a device reset with cause 6 and the other slot under BOOT_SEL 0; the second attempt is the last. -/
def execBootWatchdog (s : State) : Host.Outcome State Fault Refusal :=
  finish (match s.pwr.watchdog with
    | none => s
    | some t =>
      let s1 := s.at t
      if s1.pwr.ready then s1
      else if s1.pwr.attempt = 0 then
        ({ s1 with pwr := { s1.pwr with attempt := 1 } }.deviceReset 6 true).raise Ev.ao 0
      else s1.enterRecovery)

/-- DOMAIN_SWITCH_DONE (R628). -/
def execDomainSwitchDone (domain : Nat) (s : State) : Host.Outcome State Fault Refusal :=
  finish (if s.pdSt domain == .ramping && !s.pwr.tripped then s.domainUp domain else s)

/-- PD_SET_DONE (R627): the wait of PD_SET off ends. -/
def execPdSetDone (domain : Nat) (s : State) : Host.Outcome State Fault Refusal := finish (s.pdDrained domain)

/-- UNIT_RESET_DONE (R636). -/
def execUnitResetDone (unit : Nat) (s : State) : Host.Outcome State Fault Refusal := finish (s.unitBack unit)

/-- DEVICE_RESET_DELAY_EXPIRY (R648). -/
def execDeviceResetDelayExpiry (s : State) : Host.Outcome State Fault Refusal :=
  finish (match s.pwr.devReset with
    | none => s
    | some (t, cause) => (s.at t).deviceReset cause false)

/-! Temperature, clocks, voltage (R630-R633; 19 R617; 21 R669) -/

/-- THROT_C as it acts (R652). -/
def State.throtC (s : State) : Nat := min 104 (max 85 (s.fld Reg.THERM_CTRL 7 0))

/-- The hottest island and its temperature in 1/8 degree. -/
def hottest (l : List Half) : Nat × Int :=
  (l.zipIdx).foldl (fun (b : Nat × Int) x => if b.2 < x.1.toInt then (x.2, x.1.toInt) else b) (0, -32768)

/-- TEMPERATURE_READ (R633): the sensors of all islands are read, with the power telemetry; 110 degrees trips. -/
def execTemperatureRead (temps : List Half) (power : Nat) (s : State) : Host.Outcome State Fault Refusal :=
  finish (if temps.isEmpty ∨ s.pwr.pwrGoodAon = false then s
    else
      let h := hottest (temps.take 52)
      let s1 := (s.setRegN Reg.TEMP (h.1 * 65536 + (BitVec.ofInt 16 h.2).toNat)).setFld Reg.PWR_NOW 15 0 (min 65535 power)
      let s2 := { s1 with pwr := { s1.pwr with hotC8 := h.2.toNat } }
      if 880 ≤ h.2.toNat ∧ s2.pwr.tripped = false then s2.thermalTrip else s2)

/-- THROTTLE_STEP (R633): every 10 ms cluster clocks go down by 100 MHz above THROT_C, and up again below THROT_C - 2. -/
def execThrottleStep (s : State) : Host.Outcome State Fault Refusal :=
  finish (
    let p := s.pwr
    if s.throtC * 8 < p.hotC8 then
      (if 500 < p.thermalMhz then ({ s with pwr := { p with thermalMhz := max 500 (p.thermalMhz - 100) } }.clkSync).raise Ev.ao 3 else s)
    else if p.hotC8 < (s.throtC - 2) * 8 ∧ p.thermalMhz < 2000 then
      { s with pwr := { p with thermalMhz := min 2000 (p.thermalMhz + 100) } }.clkSync
    else s)

/-- REFCLK_LOST (R630). -/
def execRefclkLost (s : State) : Host.Outcome State Fault Refusal :=
  finish (if s.pwr.refclkLost ∨ s.pwr.pwrGoodAon = false then s
    else ({ s with pwr := { s.pwr with refclkLost := true } }.clkSync).raise Ev.ao 5)

/-- AVS_RETRY (R669): an unconfirmed setpoint is sent again. -/
def execAvsRetry (s : State) : Host.Outcome State Fault Refusal :=
  finish (if s.pwr.vcoreOk then s else s.emit (.avs s.pwr.vcoreTarget))

/-- VOLTAGE_CONFIRMED (R632, R669): the clocks that wait are raised. -/
def execVoltageConfirmed (mv : Nat) (s : State) : Host.Outcome State Fault Refusal :=
  finish (if s.pwr.vcoreOk ∨ mv ≠ s.pwr.vcoreTarget then s
    else { s.setFld Reg.PWR_NOW 31 16 mv with pwr := { s.pwr with vcoreOk := true, clkWait := [] } }.clkSync)

/-- WARN_MV and RETIRE_MV as they act (19 R621). -/
def State.warnMv (s : State) : Nat := s.fld Reg.FT_CTRL 14 10
def State.retireMv (s : State) : Nat := min (s.fld Reg.FT_CTRL 9 5) (s.warnMv - 1)

/-- The island of a part with a monitor of its own (19 R617): engine, cipher lane, control core. -/
def partIsland (p : Part) : Nat := if p.kind = 1 then p.index / 16 else if p.kind = 2 then 42 + p.index / 32 else 32

/-- One island's margin is read: its registers, the warning once per crossing (R617). -/
def State.marginIsland (s : State) (i mv : Nat) : State :=
  let a := Reg.AG_MARGIN i
  let worst := if s.tally.marginsRead then min mv (s.fld a 31 16) else mv
  let s1 := s.setRegN a (min worst 65535 * 65536 + min mv 65535)
  if mv < s1.warnMv then
    if s1.tally.warned.contains i then s1
    else
      ({ s1 with tally := { s1.tally with warned := i :: s1.tally.warned } }.logKind 0x0F 0x20 53 1 0
        (leBytes 1 i ++ leBytes 2 mv ++ leBytes 2 (s1.fld (Reg.CLK_ISLAND i) 15 0))).raise Ev.tl 8
  else { s1 with tally := { s1.tally with warned := s1.tally.warned.filter (· != i), stepping := s1.tally.stepping.filter (· != i) } }

/-- One step of an island that lost its margin: 100 MHz down, not below half the nominal clock (R617). -/
def State.clockStep (s : State) (i mv : Nat) : State :=
  let cur := s.fld (Reg.CLK_ISLAND i) 15 0
  let lim := max (clkNominal i / 2) (cur - 100)
  if cur ≤ lim then s
  else
    let s1 := { s with pwr := { s.pwr with aging := SMap.put s.pwr.aging i lim } }.clkSync
    (s1.logKind 0x0F 0x20 53 1 0 (leBytes 1 i ++ leBytes 2 mv ++ leBytes 2 lim)).raise Ev.tl 9

/-- MARGIN_READ (19 R617): the margins of all islands, in mV, and of the parts with a monitor of their own. A part below RETIRE_MV is retired
where a reserve part is free; otherwise its island steps down. The rail follows the margins (R632). -/
def execMarginRead (islands : List Nat) (parts : List PartMargin) (s : State) : Host.Outcome State Fault Refusal :=
  finish (
    let s1 := (islands.take 52).zipIdx.foldl (fun (t : State) x => t.marginIsland x.2 x.1) s
    let s2 := { s1 with tally := { s1.tally with marginsRead := true } }
    let step := fun (t : State) (i : Nat) => { t with tally := { t.tally with stepping := insertNat i t.tally.stepping } }
    let s3 := parts.foldl (fun (t : State) m =>
      let p : Part := { kind := m.kind, index := m.index }
      if t.retireMv ≤ m.mv ∨ ! [1, 2, 4].contains m.kind ∨ t.partNamed p = false then t
      else if t.flag Reg.FT_CTRL 15 && t.reserveFree p then t.retirePart p 2
      else step t (partIsland p)) s2
    let s4 := (islands.take 52).zipIdx.foldl (fun (t : State) x => if x.1 < t.retireMv then step t x.2 else t) s3
    let s5 := s4.tally.stepping.foldl (fun (t : State) i => t.clockStep i (t.fld (Reg.AG_MARGIN i) 15 0)) s4
    if s5.wantMv = s5.pwr.vcoreTarget then s5 else s5.sendMv s5.wantMv)

/-! Guarded registers of the always-on block (R629, R635, R636, R652) -/

def execRstCtrlDevice (src : Src) (compl : Word) (s : State) : Host.Outcome State Fault Refusal :=
  finish (s.guarded src Reg.RST_CTRL compl (fun v t => t.rstCtrl src v))

def execRstCtrlUnit (src : Src) (compl : Word) (s : State) : Host.Outcome State Fault Refusal :=
  finish (s.guarded src Reg.RST_CTRL compl (fun v t => t.rstCtrl src v))

def execPdOff (src : Src) (hi : Bool) (compl : Word) (s : State) : Host.Outcome State Fault Refusal :=
  finish (s.guarded src (if hi then Reg.PD_OFF_HI else Reg.PD_OFF_LO) compl (fun v t => t.pdOff src hi v))

def execRevokeKey (src : Src) (compl : Word) (s : State) : Host.Outcome State Fault Refusal :=
  finish (s.guarded src Reg.FUSE_PROG compl (fun v t => t.fuseProg src v))

def execRaiseSvn (src : Src) (compl : Word) (s : State) : Host.Outcome State Fault Refusal :=
  finish (s.guarded src Reg.FUSE_PROG compl (fun v t => t.fuseProg src v))

def execDebugLock (src : Src) (compl : Word) (s : State) : Host.Outcome State Fault Refusal :=
  finish (s.guarded src Reg.FUSE_PROG compl (fun v t => t.fuseProg src v))

/-- FUSE_PROGRAM_DONE (R652). -/
def execFuseProgramDone (s : State) : Host.Outcome State Fault Refusal := finish s.fuseDone

/-- FLASH_WRITE_DONE (R642). -/
def execFlashWriteDone (s : State) : Host.Outcome State Fault Refusal := finish s.flashDone

/-! The 0x10xx opcodes (R654) -/

/-- The controller and the debugger need not be drover (R649). -/
def aocExempt (i : Nat) : Bool := issuerKind i == 2 || issuerKind i == 5

def pwrQueryMeta : OpMeta := { opcode := 0x1000, cls := .r, lenOk := len 0, maxRes := 24, wedged := true }

def pwrQueryBody : WbBody := fun _ s =>
  .done .ok ([Reg.TEMP, Reg.PWR_NOW, Reg.PD_STATE_LO, Reg.PD_STATE_HI, Reg.PD_OFF_LO, Reg.PD_OFF_HI].flatMap (fun a => leBytes 4 (s.regN a))) s

def execPwrQuery (w : Waybill) (s : State) : Host.Outcome State Fault Refusal := waybillCmd pwrQueryMeta pwrQueryBody w s

def clkQueryMeta : OpMeta := { opcode := 0x1001, cls := .r, lenOk := len 4, maxRes := 208 }

def clkQueryBody : WbBody := fun w s =>
  let n := w.u8 1
  if n = 0 ∨ 52 < w.u8 0 + n then fail .badParam s
  else .done .ok ((List.range n).flatMap (fun i => leBytes 4 (s.regN (Reg.CLK_ISLAND (w.u8 0 + i))))) s

def execClkQuery (w : Waybill) (s : State) : Host.Outcome State Fault Refusal := waybillCmd clkQueryMeta clkQueryBody w s

def pdSetMeta : OpMeta :=
  { opcode := 0x1002, cls := .d, lenOk := len 4, maxRes := 4, canPend := true, obj := fun _ w => some ⟨.domain, w.u8 0⟩ }

/-- PD_SET (R626-R628). Switching a forced-off domain on clears its PD_OFF bit and powers it up as R629 gives (log entry 44). -/
def pdSetBody : WbBody := fun w s =>
  let d := w.u8 0
  if pdByWaybill d = false ∨ 1 < w.u8 1 then fail .badParam s
  else if w.u8 1 = 1 then
    if s.pdOn d then .done .ok (3 :: zeros 3) s
    else .pend (.pdSet d true) 20000000 (some ⟨.domain, d⟩)
      (if s.forcedOff d then s.setOff (derivedIssuer w.inst) d false else s.powerUp d)
  else if s.pdSt d == .off then .done .ok (zeros 4) s
  else if !s.pdOn d || !s.pdReady d then fail .busy s
  else .pend (.pdSet d false) 20000000 (some ⟨.domain, d⟩) { s with pwr := { s.pwr with pdWait := s.pwr.pdWait ++ [(d, s.now + 10000000)] } }

def execPdSet (w : Waybill) (s : State) : Host.Outcome State Fault Refusal := waybillCmd pdSetMeta pdSetBody w s

def pdForceMeta : OpMeta := { opcode := 0x1003, cls := .d, lenOk := len 4, maxRes := 8, wedged := true, ownerExempt := aocExempt }

/-- PD_FORCE (R629). -/
def pdForceBody : WbBody := fun w s =>
  let d := w.u8 0
  let on := w.u8 1 == 0
  if d = 0 ∨ 43 < d ∨ 1 < w.u8 1 ∨ (on = true ∧ s.forcedOff d = false ∧ s.offIgnored d = true) then fail .badParam s
  else
    let t := s.setOff (derivedIssuer w.inst) d on
    .done .ok (leBytes 4 (t.regN Reg.PD_OFF_LO) ++ leBytes 4 (t.regN Reg.PD_OFF_HI)) t

def execPdForce (w : Waybill) (s : State) : Host.Outcome State Fault Refusal := waybillCmd pdForceMeta pdForceBody w s

def deviceResetMeta : OpMeta := { opcode := 0x1004, cls := .d, lenOk := len 4, maxRes := 0, wedged := true, ownerExempt := aocExempt }

/-- DEVICE_RESET (R633, R649): the reset follows its delay, after the reply. -/
def deviceResetBody : WbBody := fun w s =>
  if 1000 < w.u16 0 then fail .badParam s
  else if s.pwr.tripped = true ∧ s.throtC * 8 ≤ s.pwr.hotC8 then fail .busy s
  else .done .ok [] { s with pwr := { s.pwr with devReset := some (s.now + w.u16 0 * 1000000, if s.pwr.tripped then 5 else 3) } }

def execDeviceReset (w : Waybill) (s : State) : Host.Outcome State Fault Refusal := waybillCmd deviceResetMeta deviceResetBody w s

def unitResetMeta : OpMeta :=
  { opcode := 0x1005, cls := .d, lenOk := len 4, maxRes := 0, canPend := true, obj := fun _ w => some ⟨.unit, w.u8 0⟩ }

/-- UNIT_RESET (R636). -/
def unitResetBody : WbBody := fun w s =>
  let u := w.u8 0
  if unitFixed u then fail .badParam s
  else .pend (.unitReset u) 10000000 (some ⟨.unit, u⟩) ((s.foldBase u true).unitReset u)

def execUnitReset (w : Waybill) (s : State) : Host.Outcome State Fault Refusal := waybillCmd unitResetMeta unitResetBody w s

def fwQueryMeta : OpMeta := { opcode := 0x1006, cls := .r, lenOk := len 0, maxRes := 36, recovery := true }

/-- State of a slot: 0 blank, 1 valid, 2 invalid. -/
def State.slotState (s : State) (b : Bool) : Nat :=
  if (s.slotHeader b).all (· == 0xFF) then 0 else if s.slotOk b then 1 else 2

def fwQueryBody : WbBody := fun _ s =>
  .done .ok ([false, true].flatMap (fun b =>
    let h := s.slotHeader b
    leBytes 1 (s.slotState b) ++ leBytes 1 (if s.slotRuns b then 1 else 0) ++ slice h 5 1 ++ zeros 1 ++ slice h 8 8 ++ zeros 4)
    ++ leBytes 4 (s.regN Reg.FUSE_STAT)) s

def execFwQuery (w : Waybill) (s : State) : Host.Outcome State Fault Refusal := waybillCmd fwQueryMeta fwQueryBody w s

/-- The boot flash as an object (02 R76). -/
def flashObj : State → Waybill → Option Obj := fun _ _ => some ⟨.flash, 0⟩

def fwWriteMeta : OpMeta :=
  { opcode := 0x1007, cls := .d, lenOk := fun n => decide (16 ≤ n) && decide (n ≤ 4076), lenW := fun w => w.params.length == 12 + w.u32 8, maxRes := 0,
    canPend := true, recovery := true, obj := flashObj }

/-- FW_WRITE (R642). -/
def fwWriteBody : WbBody := fun w s =>
  let b := w.u8 0 == 1
  let erase := (w.u8 1).testBit 0
  let n := w.u32 8
  if 1 < w.u8 0 ∨ 2 ^ 24 < w.u32 4 + n ∨ (erase = true ∧ w.u32 4 % 65536 ≠ 0) then fail .badParam s
  else if s.slotRuns b ∨ s.pwr.flashOp.isSome = true then fail .busy s
  else .pend .flashWrite 500000000 (some ⟨.flash, 0⟩)
    { s with pwr := { s.pwr with flashOp := some (.data (slotBase b + w.u32 4) erase (w.bytes 12 n)) } }

def execFwWrite (w : Waybill) (s : State) : Host.Outcome State Fault Refusal := waybillCmd fwWriteMeta fwWriteBody w s

def fwSlotSwitchMeta : OpMeta :=
  { opcode := 0x1008, cls := .d, lenOk := len 4, maxRes := 4, canPend := true, wedged := true, recovery := true, ownerExempt := aocExempt, obj := flashObj }

/-- FW_SLOT_SWITCH (R642): the named slot is verified in full. A write of the flash that still runs ends first. -/
def fwSlotSwitchBody : WbBody := fun w s =>
  if 1 < w.u8 0 ∨ s.slotOk (w.u8 0 == 1) = false then fail .badParam s
  else
    let t := s.flashDone
    .pend .slotSwitch 1000000000 (some ⟨.flash, 0⟩) { t with pwr := { t.pwr with flashOp := some (.record (w.u8 0) ((w.u8 1).testBit 0)) } }

def execFwSlotSwitch (w : Waybill) (s : State) : Host.Outcome State Fault Refusal := waybillCmd fwSlotSwitchMeta fwSlotSwitchBody w s

/-- A cluster clock in the range of CLK_SET. -/
def mhzOk (m : Nat) : Bool := decide (500 ≤ m) && decide (m ≤ 2000) && m % 100 == 0

/-- Set the clocks of clusters (R631, R632, R669): a clock is lowered at once; a raise that needs a higher setpoint waits until that is
confirmed. -/
def State.setClocks (s : State) (cs : List Nat) (mhz : Nat) : State :=
  let up := cs.filter (fun c => decide (s.fld (Reg.CLK_ISLAND c) 31 16 < mhz))
  let s1 := cs.foldl (fun (t : State) c => (t.setFld (Reg.CLK_ISLAND c) 31 16 mhz).cfgWritten 1) s
  let mv := s1.wantMv
  let s2 := if mv = s1.pwr.vcoreTarget ∧ s1.pwr.vcoreOk = true then s1
    else
      let t := if mv = s1.pwr.vcoreTarget then s1 else s1.sendMv mv
      { t with pwr := { t.pwr with clkWait := t.pwr.clkWait ++ up.map (fun c => (c, mhz)) } }
  s2.clkSync

def clkSetMeta : OpMeta := { opcode := 0x1009, cls := .d, lenOk := len 8, maxRes := 4 }

def clkSetBody : WbBody := fun w s =>
  let cs := maskClusters (w.u32 0)
  match cs with
  | [] => fail .badParam s
  | c :: _ =>
    if mhzOk (w.u16 4) = false then fail .badParam s
    else .done .ok (leBytes 4 (s.fld (Reg.CLK_ISLAND c) 31 16)) (s.setClocks cs (w.u16 4))

def execClkSet (w : Waybill) (s : State) : Host.Outcome State Fault Refusal := waybillCmd clkSetMeta clkSetBody w s

def thermSetMeta : OpMeta := { opcode := 0x100A, cls := .d, lenOk := len 4, maxRes := 4 }

def thermSetBody : WbBody := fun w s =>
  .done .ok (leBytes 4 (s.regN Reg.THERM_CTRL)) (s.setCfg 1 Reg.THERM_CTRL (w.u32 0 % 256))

def execThermSet (w : Waybill) (s : State) : Host.Outcome State Fault Refusal := waybillCmd thermSetMeta thermSetBody w s

def dbgUnlockMeta : OpMeta := { opcode := 0x100B, cls := .d, lenOk := len 0, maxRes := 0 }

/-- DBG_UNLOCK (R651). -/
def dbgUnlockBody : WbBody := fun _ s => .done .ok [] { s with pwr := { s.pwr with debugOpen := true } }.aoSync

def execDbgUnlock (w : Waybill) (s : State) : Host.Outcome State Fault Refusal := waybillCmd dbgUnlockMeta dbgUnlockBody w s

end Sys2Proof.Machine
end

