-- ==== Sys2Proof/Machine/Seal.lean ====
section
/-!
DEFINITION. The configuration seal's commands: sweeps, SEAL_COMMIT, SEAL_QUERY (03 R118-R124; 02 R90, R92).
-/

namespace Sys2Proof.Machine

open Sys2Proof

/-- SEAL_SWEEP (R118-R122): a unit completes a sweep. -/
def execSealSweep (unit : Nat) (s : State) : Host.Outcome State Fault Refusal := finish (s.sweep unit)

def sealCommitMeta : OpMeta :=
  { opcode := 0x0110, cls := .d, lenOk := len 8, maxRes := 8, canPend := true, obj := fun _ _ => some ⟨.sealRef, 0⟩ }

/-- SEAL_COMMIT (R92): BUSY while another D-class waybill is PENDING. -/
def sealCommitBody : WbBody := fun w s =>
  if s.wb.pend.any (fun p => p.cls == .d) then fail .busy s
  else .pend (.sealCommit ((w.u32 0).testBit 0) (w.u32 4)) 5000000 (some ⟨.sealRef, 0⟩) s.sealStart

def execSealCommit (w : Waybill) (s : State) : Host.Outcome State Fault Refusal := waybillCmd sealCommitMeta sealCommitBody w s

def sealQueryMeta : OpMeta := { opcode := 0x0111, cls := .r, lenOk := len 0, maxRes := 16 }

/-- SEAL_QUERY: the sealed units whose latest sweep differed, and of those the ones with LIVE set. -/
def sealQueryBody : WbBody := fun _ s =>
  let drift := (List.range 55).filter (fun u => s.isSealed u && s.flag (unitHdr u + 0x10) 31)
  .done .ok (leBytes 4 s.sealSt.digest ++ leBytes 4 s.currentDigest ++ leBytes 4 drift.length
    ++ leBytes 4 (drift.filter (fun u => s.flag (unitHdr u + 0x10) 30)).length) s

def execSealQuery (w : Waybill) (s : State) : Host.Outcome State Fault Refusal := waybillCmd sealQueryMeta sealQueryBody w s

end Sys2Proof.Machine
end

