-- ==== Sys2Proof/Machine/Tables.lean ====
section
/-!
DEFINITION. The table command ports, the lookup engine's events and the 0x06xx opcodes (09 R312-R337).
-/

namespace Sys2Proof.Machine

open Sys2Proof

/-! Command ports (R314-R318) -/

/-- The image in TB_DATA of port p. -/
def State.tbImage (s : State) (p : Nat) : List Byte :=
  (List.range 16).flatMap (fun j => leBytes 4 (s.regN (Reg.TB_DATA p j)))

/-- Put an entry into TB_DATA. -/
def State.setTbImage (s : State) (p : Nat) (d : List Byte) : State :=
  (List.range (d.length / 4)).foldl (fun t j => t.setRegN (Reg.TB_DATA p j) (u32 d (4 * j))) s

/-- The command of port p runs: BUSY clears, RESULT and RELOCS are final, a READ has its entry in TB_DATA; after NOT_FOUND
TB_DATA reads zero (R315, R316). -/
def State.portCommand (s : State) (p op : Nat) : State :=
  let c := s.regN (Reg.TB_CMD p)
  if 2 ≤ p ∨ !s.flag (Reg.TB_STAT p) 31 ∨ bits c 31 28 ≠ op then s
  else
    let may := s.ownSt == 2 && s.drover == SMap.getD s.lk.ports p 0xFFFFFFFF
    let r := s.command op (bits c 25 20) (s.tbImage p) (c.testBit 19) (s.fld (Reg.TB_BUCKET p) 25 0) (c.testBit 18) may
    let old := r.st.fld (Reg.TB_STAT p) 15 8
    let k := if op = 1 ∨ op = 3 then min 255 r.relocs else old
    let s1 := r.st.setRegN (Reg.TB_STAT p) (k * 256 + r.result)
    if r.result = rNotFound then s1.setTbImage p (zeros 64) else s1.setTbImage p r.data

/-- INSERT on port p (R316, R317). -/
def execInsert (port : Nat) (s : State) : Host.Outcome State Fault Refusal := finish (s.portCommand port 1)
/-- UPDATE on port p (R316). -/
def execUpdate (port : Nat) (s : State) : Host.Outcome State Fault Refusal := finish (s.portCommand port 2)
/-- REPLACE on port p (R316). -/
def execReplace (port : Nat) (s : State) : Host.Outcome State Fault Refusal := finish (s.portCommand port 3)
/-- DELETE on port p (R316). -/
def execDelete (port : Nat) (s : State) : Host.Outcome State Fault Refusal := finish (s.portCommand port 4)
/-- READ on port p (R316). -/
def execRead (port : Nat) (s : State) : Host.Outcome State Fault Refusal := finish (s.portCommand port 5)
/-- READ_AT on port p (R316). -/
def execReadAt (port : Nat) (s : State) : Host.Outcome State Fault Refusal := finish (s.portCommand port 6)
/-- CLEAR_AT on port p (R316, R332). -/
def execClearAt (port : Nat) (s : State) : Host.Outcome State Fault Refusal := finish (s.portCommand port 7)

/-! Events of the lookup engine -/

/-- LOOKUP_DRAM_READ (R312): the lines a waiting lookup lacked are in the cache; the lookup completes and the list goes on. -/
def State.lookupRead (s : State) (h : Nat) (pf : List ParFault) : State :=
  match s.frame? h with
  | none => s
  | some f => match f.stage, f.cont.acts with
    | .lookup, a :: _ =>
      let s1 := match s.profileKey (u8 a 1) f.ps.key with
        | none => s
        | some (n, t, key) => (s.missingLines n t (t.genFor f.lkTag) key).foldl (fun u l => u.loadLine l) s
      s1.runActs actFuel h f pf
    | _, _ => s

/-- The lookup of a frame whose lines are there is its list's next action (R291). -/
def execLookupDramRead (frame : Nat) (faults : List ParFault) (s : State) : Host.Outcome State Fault Refusal :=
  finish (s.lookupRead frame faults)

/-- COPIER_STEP (R322): one active bucket goes into the shadow; after the last one the rebuild is READY. -/
def State.copierStep (s : State) (n : Nat) : State :=
  match s.table? n with
  | none => s
  | some t => match t.shadow with
    | none => s
    | some sh =>
      if t.rebuild ≠ 1 then s
      else
        let es := [2 * t.copied, 2 * t.copied + 1].filterMap (fun i =>
          let e := t.way t.act i
          if t.valid e && !t.act.bad.contains i && (t.find sh (e.take t.keyLen)).isNone then some e else none)
        match t.shadowAll sh es false with
        | none => s.rebuildFail n
        | some g =>
          let t1 := { t with shadow := some g, copied := t.copied + 1 }
          if t1.copied < 2 ^ t.act.sizeLog2 then s.setTable n t1
          else ((s.setTable n { t1 with rebuild := 2 }).raise Ev.lk 4).completeWait (.tblRehash n) .ok []

def execCopierStep (t : Nat) (s : State) : Host.Outcome State Fault Refusal := finish (s.copierStep t)

/-- A lookup that began on the old generation of table n still waits. -/
def State.oldLookups (s : State) (n tag : Nat) : Bool :=
  s.fr.frames.any (fun x => match x.2.stage, x.2.cont.acts with
    | .lookup, a :: _ => (match s.profileKey (u8 a 1) x.2.ps.key with
        | some (m, _, _) => m == n && x.2.lkTag == some tag
        | none => false)
    | _, _ => false)

/-- TBL_FLIP_DONE (R324): no lookup reads the old generation any more; it is freed and TBL_FLIP gets its final reply. -/
def execTblFlipDone (t : Nat) (s : State) : Host.Outcome State Fault Refusal :=
  finish (match s.table? t with
    | none => s
    | some x => match x.old with
      | none => s
      | some g =>
        if s.oldLookups t g.tag then s
        else
          let s1 := ((s.setTable t { x with old := none }).dropLines t g.tag).resident (x.kib g) 0
          s1.completeWait (.tblFlip t) .ok (leBytes 1 x.act.sizeLog2 ++ zeros 3))

/-- TABLE_BULK_DONE (R336): a TBL_DESTROY or TBL_FLUSH has done its buckets. -/
def execTableBulkDone (t : Nat) (s : State) : Host.Outcome State Fault Refusal :=
  finish (match s.table? t with
    | none => s
    | some x => match x.bulk with
      | none => s
      | some (3, _) =>
        let r := s.destroyTable t
        (r.2.completeWait (.tblDestroy t) .ok (leBytes 4 r.1)).cfgWritten 7
      | some (filter, o) =>
        let r := (s.setTable t { x with bulk := none }).removeIf t (fun y e =>
          if filter = 0 then true else if filter = 1 then !y.static e else y.entOwner e == o)
        r.2.completeWait (.tblFlush t filter o) .ok (leBytes 4 r.1))

/-- The entry the firmware inserts from a learn record (R329). -/
def learnEntry (t : Table) (p r : List Byte) : List Byte :=
  let src := u8 r 3 / 2 % 16
  let res := slice p 16 16
  let res1 := if (u8 p 6).testBit 0 && decide (src < 8) then
      patch res 0 [BitVec.ofNat 8 (u8 res 0 / 4 * 4 + 1), BitVec.ofNat 8 src] else res
  fit t.keySize (slice r 16 t.keyLen)
    ++ [BitVec.ofNat 8 (1 + (if (u8 p 6).testBit 2 then 2 else 0)), 0] ++ slice r 4 2 ++ res1

/-- LEARN_INSERT (R329): the firmware takes the oldest learn record and inserts its entry. -/
def State.learnInsert (s : State) : State :=
  match s.lk.queue with
  | [] => s
  | x :: rest =>
    let s1 := { s with lk := { s.lk with queue := rest } }
    let p := s1.learnProfile x.profile
    let n := u8 x.record 2 % 64
    match s1.table? n with
    | none => s1.bump Reg.LK_LEARN_FAIL
    | some t =>
      let r := s1.command (if (u8 p 6).testBit 1 then 3 else 1) n (learnEntry t p x.record) false 0 false true
      if r.result = rOk then r.st
      else match r.st.table? n with
        | none => r.st.bump Reg.LK_LEARN_FAIL
        | some t1 =>
          if r.result = rFull ∧ t1.rebuild ≠ 0 ∧ t1.heldFull.length < 4096 then
            r.st.setTable n { t1 with heldFull := t1.heldFull ++ [x] }
          else r.st.bump Reg.LK_LEARN_FAIL

def execLearnInsert (s : State) : Host.Outcome State Fault Refusal := finish (if s.ctlUp then s.learnInsert else s)

/-- The aged record of an entry (R328). -/
def State.agedRecord (s : State) (n : Nat) (t : Table) (e : List Byte) : List Byte :=
  [3, 0, BitVec.ofNat 8 n, 0] ++ leBytes 2 (t.entOwner e) ++ [0xFF, 0xFF] ++ zeros 4 ++ leBytes 4 s.microsec
    ++ fit 44 (e.take t.keyLen) ++ zeros 4

/-- One way of an aging sweep (R330); `fresh`: the first sweep after a FLIP reloads AGE and expires none (R324). -/
def State.ageWay (s : State) (n : Nat) (fresh : Bool) (i : Nat) : State :=
  match s.table? n with
  | none => s
  | some t =>
    let e := t.way t.act i
    let put := fun (flags age : Nat) =>
      s.setTable n { t with act := t.act.put i (patch e t.ctrl [BitVec.ofNat 8 flags, BitVec.ofNat 8 age]) }
    let fl := u8 e t.ctrl
    if !t.valid e || t.act.bad.contains i then s
    else if fresh then put fl t.ageInit
    else if t.static e then s
    else if t.hitBit e then put (setBits fl 2 2 0) t.ageInit
    else if 1 < t.age e then put fl (t.age e - 1)
    else
      let s1 := (s.removeWay n t i).bump Reg.LK_AGED
      if t.notify = 0xFFFF then s1
      else match s1.deliverRecord t.owner t.notify (s1.agedRecord n t e) with
        | some s2 => s2
        | none => s1.bump Reg.LK_LEARN_DROPPED

/-- AGE_SWEEP (R330, R331): the sweep whose period has come; one that begins a whole period late raises AGE_LATE. -/
def State.ageSweep (s : State) (n : Nat) : State :=
  match s.table? n with
  | none => s
  | some t =>
    if !s.flag Reg.LK_CTRL 1 || t.agePeriod == 0 || t.rebuild != 0 then s
    else
      let per := t.agePeriod * 1000000
      let s1 := s.at t.sweepAt
      let s2 := if t.sweepAt + per ≤ s1.now then s1.raise Ev.lk 6 else s1
      let s3 := s2.setTable n { t with sweepAt := t.sweepAt + per, fresh := false }
      (t.act.ways.map (·.1)).foldl (fun u i => u.ageWay n t.fresh i) s3

def execAgeSweep (t : Nat) (s : State) : Host.Outcome State Fault Refusal := finish (s.ageSweep t)

/-! Scope of the table opcodes (R336) -/

/-- The table a waybill names. -/
def tblObj : State → Waybill → Option Obj := fun _ w => some ⟨.table, w.u8 0⟩

/-- The function of an entry opcode: the owning flask; any other table makes it D-class. -/
def tblFn : State → Waybill → Option Nat := fun s w =>
  match s.table? (w.u8 0) with
  | some t => if t.owner = 0 then some 0xFFFF else some t.owner
  | none => some 0xFFFF

/-- A flask driver may name only its own tables. -/
def tblOutside : State → Waybill → Nat → Bool := fun s w f =>
  match s.table? (w.u8 0) with
  | some t => t.owner != f
  | none => true

/-- An F-class table opcode. -/
def tblMeta (op : Nat) (l : Nat → Bool) (res : Nat) (pend : Bool) : OpMeta :=
  { opcode := op, cls := .f, lenOk := l, maxRes := res, canPend := pend, flaskMay := true, fnOf := tblFn, outside := tblOutside,
    obj := tblObj }

/-- The status of a RESULT code. -/
def resultStatus (r : Nat) : Status :=
  if r = rOk then .ok else if r = rFull then .rehashNeeded else if r = rQuota then .noResource
  else if r = rNotOwner then .notOwner else .badParam

/-- An entry opcode carries out command `op` on an entry, or on a key. -/
def entryOp (op : Nat) (key : Bool) : WbBody := fun w s =>
  let n := w.u8 0
  match s.table? n with
  | none => .done .badParam (leBytes 1 rNoTable ++ zeros 3) s
  | some t =>
    if w.params.length ≠ 4 + (if key then t.keySize else t.entrySize) then fail .badLength s
    else
      let r := s.command op n (fit 64 (w.params.drop 4)) false 0 false true
      .done (resultStatus r.result) (leBytes 1 r.result ++ leBytes 1 r.relocs ++ zeros 2) r.st

/-- Lengths of an entry or key parameter list. -/
def entryLen (n : Nat) : Bool := n == 36 || n == 68
def keyLens (n : Nat) : Bool := n == 16 || n == 48

def execTblInsert (w : Waybill) (s : State) : Host.Outcome State Fault Refusal :=
  waybillCmd (tblMeta 0x0603 entryLen 4 false) (entryOp 1 false) w s

def execTblUpdate (w : Waybill) (s : State) : Host.Outcome State Fault Refusal :=
  waybillCmd (tblMeta 0x0604 entryLen 4 false) (entryOp 2 false) w s

def execTblReplace (w : Waybill) (s : State) : Host.Outcome State Fault Refusal :=
  waybillCmd (tblMeta 0x0605 entryLen 4 false) (entryOp 3 false) w s

def execTblDelete (w : Waybill) (s : State) : Host.Outcome State Fault Refusal :=
  waybillCmd (tblMeta 0x0606 keyLens 4 false) (entryOp 4 true) w s

def tblReadMeta : OpMeta :=
  { opcode := 0x0607, cls := .r, lenOk := keyLens, maxRes := 64, flaskMay := true, outside := tblOutside }

def tblReadBody : WbBody := fun w s =>
  let n := w.u8 0
  match s.table? n with
  | none => fail .badParam s
  | some t =>
    if w.params.length ≠ 4 + t.keySize then fail .badLength s
    else
      let r := s.command 5 n (fit 64 (w.params.drop 4)) false 0 false true
      if r.result = rOk then .done .ok r.data r.st else .done .badParam [] r.st

def execTblRead (w : Waybill) (s : State) : Host.Outcome State Fault Refusal := waybillCmd tblReadMeta tblReadBody w s

/-! Queries -/

def tblQueryMeta : OpMeta :=
  { opcode := 0x0600, cls := .r, lenOk := len 4, maxRes := 56, flaskMay := true, outside := tblOutside }

def tblQueryBody : WbBody := fun w s =>
  match s.table? (w.u8 0) with
  | none => fail .badParam s
  | some t =>
    .done .ok (t.desc ++ leBytes 1 t.act.sizeLog2 ++ leBytes 1 (match t.shadow with | some g => g.sizeLog2 | none => 0)
      ++ leBytes 1 t.rebuild ++ leBytes 1 (if t.rebuild = 2 then 1 else 0) ++ leBytes 4 t.act.seed
      ++ leBytes 4 (t.count t.act) ++ leBytes 4 t.copied ++ leBytes 8 t.lookups) s

def execTblQuery (w : Waybill) (s : State) : Host.Outcome State Fault Refusal := waybillCmd tblQueryMeta tblQueryBody w s

def tblWalkMeta : OpMeta :=
  { opcode := 0x0608, cls := .r, lenOk := len 8, maxRes := 4080, flaskMay := true, outside := tblOutside }

/-- TBL_WALK: bucket images; a walk ends at the last bucket. -/
def tblWalkBody : WbBody := fun w s =>
  match s.table? (w.u8 0) with
  | none => fail .badParam s
  | some t => match (if w.u8 1 = 0 then some t.act else if w.u8 1 = 1 then t.shadow else none) with
    | none => fail .badParam s
    | some g =>
      let n := w.u16 2
      let first := w.u32 4
      let all := 2 ^ g.sizeLog2
      if n = 0 ∨ (if t.wide then 31 else 63) < n ∨ all ≤ first then fail .badParam s
      else
        let k := min n (all - first)
        .done .ok (leBytes 4 (first + k) ++ leBytes 1 g.sizeLog2 ++ zeros 3
          ++ (List.range (2 * k)).flatMap (fun i => t.way g (2 * first + i))) s

def execTblWalk (w : Waybill) (s : State) : Host.Outcome State Fault Refusal := waybillCmd tblWalkMeta tblWalkBody w s

def lkTestMeta : OpMeta := { opcode := 0x0611, cls := .r, lenOk := len 68, maxRes := 68 }

/-- LK_TEST: a lookup of the active generation that sets no HIT and counts nothing. -/
def lkTestBody : WbBody := fun w s =>
  let hit := match s.profileKey (w.u8 0) (w.bytes 4 64) with
    | none => none
    | some (_, t, key) => (t.find t.act key).map (t.way t.act)
  .done .ok (leBytes 1 (if hit.isSome then 1 else 0) ++ zeros 3 ++ fit 64 (hit.getD [])) s

def execLkTest (w : Waybill) (s : State) : Host.Outcome State Fault Refusal := waybillCmd lkTestMeta lkTestBody w s

/-! Creating and destroying tables -/

/-- A descriptor's fields are in range (R306). -/
def descOk (d : List Byte) : Bool :=
  decide (u8 d 0 < 64) && decide (u8 d 1 ≤ 1) && u8 d 2 != 0 && decide (u8 d 2 ≤ if u8 d 1 = 1 then 44 else 12)
    && decide (6 ≤ u8 d 3) && decide (u8 d 3 ≤ 26) && decide (u8 d 6 ≤ 1) && decide (50 ≤ u8 d 7) && decide (u8 d 7 ≤ 95)
    && (u16 d 8 == 0 || (decide (10 ≤ u16 d 8) && decide (u16 d 8 ≤ 60000))) && u8 d 10 != 0

/-- A descriptor as stored: reserved fields zero. -/
def descOf (d : List Byte) : List Byte :=
  slice d 0 4 ++ leBytes 2 (u16 d 4 % 4096) ++ slice d 6 5 ++ zeros 1 ++ slice d 12 2 ++ zeros 2 ++ slice d 16 4 ++ zeros 12

def tblCreateMeta : OpMeta := { opcode := 0x0601, cls := .d, lenOk := len 32, maxRes := 0, obj := tblObj }

def tblCreateBody : WbBody := fun w s =>
  let d := descOf (w.bytes 0 32)
  let n := u8 d 0
  let t : Table := { desc := d, act := { sizeLog2 := u8 d 3, seed := u32 d 16 }, sweepAt := s.now + u16 d 8 * 1000000 }
  if descOk d = false ∨ (s.table? n).isSome then fail .badParam s
  else if s.poolHas (genBytes d (u8 d 3)) = false ∨ s.residentBad (t.kib t.act) = true then fail .noResource s
  else .done .ok [] (((s.setTable n t).resident 0 (t.kib t.act)).cfgWritten 7)

def execTblCreate (w : Waybill) (s : State) : Host.Outcome State Fault Refusal := waybillCmd tblCreateMeta tblCreateBody w s

/-- An enabled lookup or learn profile names table n. -/
def State.profileNames (s : State) (n : Nat) : Bool :=
  let p := fun (x : Nat × List Byte) => (u8 x.2 0).testBit 7 && u8 x.2 0 % 64 == n
  s.lk.profiles.any p || s.lk.learns.any p

/-- The time of a command over every bucket (R336). -/
def bulkLimit (t : Table) : Nat := 10000000 + 100 * 2 ^ t.act.sizeLog2

def tblDestroyMeta : OpMeta :=
  { opcode := 0x0602, cls := .d, lenOk := len 4, maxRes := 4, canPend := true, obj := tblObj }

/-- TBL_DESTROY: a rebuild is cancelled first (R325); the buckets go while the waybill is PENDING. -/
def tblDestroyBody : WbBody := fun w s =>
  let n := w.u8 0
  match s.table? n with
  | none => fail .badParam s
  | some t =>
    if s.profileNames n then fail .busy s
    else
      let s1 := (s.freeShadow n).completeWait (.tblRehash n) .aborted []
      match s1.table? n with
      | none => fail .badParam s
      | some t1 => .pend (.tblDestroy n) (bulkLimit t) (some ⟨.table, n⟩) (s1.setTable n { t1 with bulk := some (3, 0) })

def execTblDestroy (w : Waybill) (s : State) : Host.Outcome State Fault Refusal :=
  waybillCmd tblDestroyMeta tblDestroyBody w s

/-! Rebuild (R322-R325) -/

def tblRehashBody : WbBody := fun w s =>
  let n := w.u8 0
  match s.table? n with
  | none => fail .badParam s
  | some t =>
    let k := w.u8 1
    let g : Gen := { sizeLog2 := k, seed := w.u32 4, tag := 1 - t.act.tag }
    if k < 6 ∨ 26 < k then fail .badParam s
    else if t.rebuild ≠ 0 ∨ t.bulk.isSome ∨ t.old.isSome then fail .busy s
    else if s.poolHas (genBytes t.desc k) = false ∨ s.residentBad (t.kib g) = true then fail .noResource s
    else
      .pend (.tblRehash n) (bulkLimit t) (some ⟨.table, n⟩)
        ((s.setTable n { t with shadow := some g, rebuild := 1, copied := 0 }).resident 0 (t.kib g))

def execTblRehash (w : Waybill) (s : State) : Host.Outcome State Fault Refusal :=
  waybillCmd (tblMeta 0x0609 (len 8) 0 true) tblRehashBody w s

/-- TBL_FLIP (R324): the generations swap; the failures held for it go to the front of the learn queue, in order (R329). -/
def tblFlipBody : WbBody := fun w s =>
  let n := w.u8 0
  match s.table? n with
  | none => fail .badParam s
  | some t => match t.shadow with
    | none => fail .badParam s
    | some g =>
      if t.rebuild ≠ 2 then fail .busy s
      else
        let t1 := { t with act := g, old := some t.act, shadow := none, rebuild := 0, copied := 0, fresh := true,
                           heldFull := [] }
        let s1 := s.setTable n t1
        let s2 := { s1 with lk := { s1.lk with queue := t.heldFull ++ s1.lk.queue } }
        .pend (.tblFlip n) 50000 (some ⟨.table, n⟩) (s2.tableLevel n)

def execTblFlip (w : Waybill) (s : State) : Host.Outcome State Fault Refusal :=
  waybillCmd (tblMeta 0x060A (len 4) 4 true) tblFlipBody w s

def tblRehashCancelBody : WbBody := fun w s =>
  let n := w.u8 0
  match s.table? n with
  | none => fail .badParam s
  | some t =>
    if t.rebuild = 0 then fail .badParam s
    else .done .ok [] ((s.freeShadow n).completeWait (.tblRehash n) .aborted [])

def execTblRehashCancel (w : Waybill) (s : State) : Host.Outcome State Fault Refusal :=
  waybillCmd (tblMeta 0x060B (len 4) 0 false) tblRehashCancelBody w s

def tblFlushBody : WbBody := fun w s =>
  let n := w.u8 0
  match s.table? n with
  | none => fail .badParam s
  | some t =>
    if 2 < w.u8 1 then fail .badParam s
    else if t.rebuild ≠ 0 then fail .busy s
    else .pend (.tblFlush n (w.u8 1) (w.u16 2)) (bulkLimit t) (some ⟨.table, n⟩)
      (s.setTable n { t with bulk := some (w.u8 1, w.u16 2) })

def execTblFlush (w : Waybill) (s : State) : Host.Outcome State Fault Refusal :=
  waybillCmd (tblMeta 0x060C (len 4) 4 true) tblFlushBody w s

/-! Parameters and profiles -/

/-- KiB of all generations of a table (R313). -/
def Table.allKib (x : Table) : Nat :=
  x.kib x.act + (match x.shadow with | some g => x.kib g | none => 0) + (match x.old with | some g => x.kib g | none => 0)

/-- The descriptor d with the fields TBL_SET_PARAMS selects. -/
def descSet (d : List Byte) (w : Waybill) : List Byte :=
  let m := w.u8 1
  let d1 := if m.testBit 0 then patch d 6 (w.bytes 2 1) else d
  let d2 := if m.testBit 1 then patch d1 7 (w.bytes 3 1) else d1
  let d3 := if m.testBit 2 then patch d2 8 (w.bytes 4 3) else d2
  if m.testBit 3 then patch d3 12 (w.bytes 8 2) else d3

/-- Table t as TBL_SET_PARAMS leaves it at time `now`. -/
def Table.withParams (t : Table) (w : Waybill) (now : Nat) : Table :=
  let d := descSet t.desc w
  { t with desc := d, sweepAt := if (w.u8 1).testBit 2 then now + u16 d 8 * 1000000 else t.sweepAt }

def tblSetParamsMeta : OpMeta := { opcode := 0x060D, cls := .d, lenOk := len 12, maxRes := 32, obj := tblObj }

def tblSetParamsBody : WbBody := fun w s =>
  let n := w.u8 0
  match s.table? n with
  | none => fail .badParam s
  | some t =>
    let t1 := t.withParams w s.now
    if descOk t1.desc = false then fail .badParam s
    else if s.residentBad (t1.allKib - t.allKib) then fail .noResource s
    else .done .ok t.desc ((((s.setTable n t1).resident t.allKib t1.allKib).tableLevel n).cfgWritten 7)

def execTblSetParams (w : Waybill) (s : State) : Host.Outcome State Fault Refusal :=
  waybillCmd tblSetParamsMeta tblSetParamsBody w s

/-- A profile's key range is bad for the table it names (R310, R326). -/
def State.profileBad (s : State) (table off k : Nat) : Bool :=
  decide (63 < off) || decide (64 < off + k) || (match s.table? table with | some t => k != t.keyLen | none => false)

def lookupProfileSetMeta : OpMeta := { opcode := 0x060E, cls := .d, lenOk := len 12, maxRes := 8 }

def lookupProfileSetBody : WbBody := fun w s =>
  let p := w.u8 0
  if s.profileBad (w.u8 4 % 64) (w.u8 5) (w.u8 6) then fail .badParam s
  else .done .ok (s.lookupProfile p)
    (({ s with lk := { s.lk with profiles := SMap.put s.lk.profiles p (w.bytes 4 3 ++ zeros 5) } }).cfgWritten 7)

def execLookupProfileSet (w : Waybill) (s : State) : Host.Outcome State Fault Refusal :=
  waybillCmd lookupProfileSetMeta lookupProfileSetBody w s

def learnProfileSetMeta : OpMeta := { opcode := 0x060F, cls := .d, lenOk := len 36, maxRes := 32 }

def learnProfileSetBody : WbBody := fun w s =>
  let p := w.u8 0
  let r := w.bytes 4 32
  if 1 < u8 r 1 ∨ s.profileBad (u8 r 0 % 64) (u8 r 4) (u8 r 5) = true then fail .badParam s
  else
    let rc := [BitVec.ofNat 8 (setBits (u8 r 0) 6 6 0)] ++ slice r 1 5 ++ [BitVec.ofNat 8 (u8 r 6 % 8)] ++ zeros 9 ++ slice r 16 16
    .done .ok (s.learnProfile p) (({ s with lk := { s.lk with learns := SMap.put s.lk.learns p rc } }).cfgWritten 7)

def execLearnProfileSet (w : Waybill) (s : State) : Host.Outcome State Fault Refusal :=
  waybillCmd learnProfileSetMeta learnProfileSetBody w s

/-- Change LK_LEARN_RATE. -/
def State.setLearnRate (s : State) (v : Nat) : State :=
  ({ s with lk := { s.lk with bucket := s.lk.bucket.retune (s.regN Reg.LK_LEARN_RATE) v s.now } }).setCfg 7 Reg.LK_LEARN_RATE v

def lkSetParamsMeta : OpMeta := { opcode := 0x0610, cls := .d, lenOk := len 8, maxRes := 8 }

def lkSetParamsBody : WbBody := fun w s =>
  .done .ok (leBytes 4 (s.regN Reg.LK_CTRL) ++ leBytes 4 (s.regN Reg.LK_LEARN_RATE))
    ((s.setCfg 7 Reg.LK_CTRL (setBits (w.u32 0) 15 2 0)).setLearnRate (w.u32 4))

def execLkSetParams (w : Waybill) (s : State) : Host.Outcome State Fault Refusal :=
  waybillCmd lkSetParamsMeta lkSetParamsBody w s

end Sys2Proof.Machine
end

