-- ==== Sys2Proof/Machine/Tallies.lean ====
section
/-!
DEFINITION. Tally marks and pages, faults of parts, the 0x0Fxx opcodes (19 R594-R624).
-/

namespace Sys2Proof.Machine

open Sys2Proof

/-! Events -/

/-- TALLY_MARK_TIMER (R594): the scheduled mark. -/
def execTallyMarkTimer (s : State) : Host.Outcome State Fault Refusal :=
  finish (if s.tally.marksOn then (s.at s.tally.nextMark).mark false else s)

/-- TALLY_GATHER (R597). -/
def execTallyGather (s : State) : Host.Outcome State Fault Refusal := finish (if s.canGather then s.gather else s)

/-- PART_FAULT (R612): a hardware fault detected in a part is transient, or makes the part permanent and retires it. -/
def execPartFault (kind index cause : Nat) (s : State) : Host.Outcome State Fault Refusal :=
  finish (
    let p : Part := { kind := kind, index := index }
    if !s.partNamed p || kind == 5 then s
    else if kind = 1 then s.engineFault (index / 16) (index % 16) cause true []
    else
      let r := s.faultOf p (partHome p) cause
      if r.1 then r.2.retirePart p 1 else r.2)

/-- HEALTH_SECTOR_WRITE (R613): the oldest retirement not yet recorded is recorded in the health sector. -/
def execHealthSectorWrite (s : State) : Host.Outcome State Fault Refusal :=
  finish (match s.tally.health with
    | [] => s
    | p :: r => { s with tally := { s.tally with health := r, sector := s.tally.sector ++ [p] } })

/-- CONTROL_CORE_FAULT (R615): a control core in service has become permanent. -/
def execControlCoreFault (core : Nat) (s : State) : Host.Outcome State Fault Refusal :=
  finish (if s.tally.cores.contains core then s.retireCore core 1 else s)

/-- RESERVE_CORE_READY (R615). -/
def execReserveCoreReady (pass : Bool) (s : State) : Host.Outcome State Fault Refusal := finish (s.reserveCore pass)

/-- SRAM_ROW_FAULT (R618, R619): an uncorrectable error in a row: what it held is rebuilt or lost, and the row is given up. -/
def execSramRowFault (array row : Nat) (lost : List Nat) (s : State) : Host.Outcome State Fault Refusal :=
  finish (if !s.partNamed { kind := 6, index := array * 65536 + row % 65536 } then s
    else (s.rowLost array lost).retireRow array (row % 65536) 1)

/-! Reading (R624) -/

/-- Milliseconds until the next scheduled mark (R621). -/
def State.nextMs (s : State) : Nat := if s.tally.marksOn then (s.tally.nextMark - s.now) / 1000000 % 2 ^ 22 else 0

def tallyQueryMeta : OpMeta := { opcode := 0x0F00, cls := .r, lenOk := len 0, maxRes := 24, flaskMay := true }

def tallyQueryBody : WbBody := fun _ s =>
  .done .ok (leBytes 8 (s.reg64 Reg.TL_EPOCH_LO) ++ leBytes 4 (s.regN Reg.TL_AREA) ++ leBytes 4 s.nextMs ++ leBytes 4 (s.fld Reg.TL_CTRL 11 0)
    ++ leBytes 2 (u16 s.tally.header 36) ++ zeros 2) s

def execTallyQuery (w : Waybill) (s : State) : Host.Outcome State Fault Refusal := waybillCmd tallyQueryMeta tallyQueryBody w s

def tallySetMeta : OpMeta := { opcode := 0x0F01, cls := .d, lenOk := len 8, maxRes := 8 }

/-- A TL_AREA value that R600 refuses. -/
def State.tallyAreaBad (s : State) (v : Nat) : Bool :=
  let a := tallyArea v
  a.2 != 0 && (decide (s.dr.span < a.1 + a.2) || s.areaBad 3 a)

/-- Write TL_CTRL and TL_AREA, reserved bits 0. -/
def State.setTlCtrl (s : State) (v : Nat) : State := s.setCfg 53 Reg.TL_CTRL (bits v 31 31 * 2 ^ 31 + bits v 11 0)
def State.setTlArea (s : State) (v : Nat) : State := s.setCfg 53 Reg.TL_AREA (bits v 31 24 * 2 ^ 24 + bits v 17 0)

def tallySetBody : WbBody := fun w s =>
  if s.tallyAreaBad (w.u32 4) then fail .badParam s
  else if s.poolShort (s.setTlArea (w.u32 4)) then fail .noResource s
  else .done .ok (leBytes 4 (s.regN Reg.TL_CTRL) ++ leBytes 4 (s.regN Reg.TL_AREA)) ((s.setTlCtrl (w.u32 0)).setTlArea (w.u32 4))

def execTallySet (w : Waybill) (s : State) : Host.Outcome State Fault Refusal := waybillCmd tallySetMeta tallySetBody w s

def tallyMarkMeta : OpMeta := { opcode := 0x0F02, cls := .d, lenOk := len 0, maxRes := 8 }

def tallyMarkBody : WbBody := fun _ s => .done .ok (leBytes 8 s.tally.nextEpoch) (s.mark true)

def execTallyMark (w : Waybill) (s : State) : Host.Outcome State Fault Refusal := waybillCmd tallyMarkMeta tallyMarkBody w s

def tallyReadMeta : OpMeta :=
  { opcode := 0x0F03, cls := .r, lenOk := len 12, maxRes := 4032, flaskMay := true,
    outside := fun _ w f => w.u16 8 != f || w.u16 10 != 1 }

/-- The header and records of epoch e (0: the latest) as they are still held; none: never written, overwritten. -/
def State.page (s : State) (e first n : Nat) : Option (List Byte) :=
  let t := s.tally
  let latest := s.reg64 Reg.TL_EPOCH_LO
  let pages := s.fld Reg.TL_AREA 31 24
  if latest = 0 then none
  else if e = 0 ∨ e = latest then
    some (t.header ++ (List.range n).flatMap (fun i => SMap.getD t.records (first + i) (zeros 128)))
  else if pages = 0 then none
  else
    let base := (s.fld Reg.TL_AREA 17 0 + e % pages) * 2 ^ 20
    let h := Mem.rdN s.dram base 64
    if u64 h 0 = e ∧ (u16 h 36).testBit 0 ∧ e < latest then some (h ++ Mem.rdN s.dram (base + 0x1000 + first * 128) (n * 128)) else none

def tallyReadBody : WbBody := fun w s =>
  let n := w.u16 10
  if n = 0 ∨ 31 < n ∨ 4096 < w.u16 8 + n then fail .badParam s
  else match s.page (w.u64 0) (w.u16 8) n with
    | none => fail .badParam s
    | some b => .done .ok b s

def execTallyRead (w : Waybill) (s : State) : Host.Outcome State Fault Refusal := waybillCmd tallyReadMeta tallyReadBody w s

/-- A log entry as it reads (R607). -/
def LogEntry.bytes (e : LogEntry) : List Byte :=
  leBytes 8 e.time ++ leBytes 2 e.code ++ leBytes 1 e.unit ++ leBytes 1 e.info ++ leBytes 4 e.issuer ++ leBytes 4 e.value ++ fit 12 e.data

/-- Log entry number w as it reads. -/
def State.logAt (s : State) (w : Nat) : List Byte :=
  match SMap.get? s.tally.log (logSlot s.tally.skipped w) with
  | some e => e.bytes
  | none => zeros 32

def logReadMeta : OpMeta := { opcode := 0x0F04, cls := .r, lenOk := len 12, maxRes := 4072 }

def logReadBody : WbBody := fun w s =>
  let n := w.u16 8
  let written := s.reg64 Reg.EV_WRITTEN
  let first := max (w.u64 0) (written - s.fld Reg.EV_CAP 14 0)
  if n = 0 ∨ 127 < n then fail .badParam s
  else .done .ok (leBytes 8 written ++ (List.range (min n (written - first))).flatMap (fun i => s.logAt (first + i))) s

def execLogRead (w : Waybill) (s : State) : Host.Outcome State Fault Refusal := waybillCmd logReadMeta logReadBody w s

def lastwordReadMeta : OpMeta := { opcode := 0x0F05, cls := .r, lenOk := len 0, maxRes := 512, wedged := true }

def lastwordReadBody : WbBody := fun _ s => .done .ok (fit 512 (s.tally.lastWord.flatMap (fun e => e.entry.bytes))) s

def execLastwordRead (w : Waybill) (s : State) : Host.Outcome State Fault Refusal := waybillCmd lastwordReadMeta lastwordReadBody w s

def lastwordClearMeta : OpMeta := { opcode := 0x0F06, cls := .d, lenOk := len 0, maxRes := 4 }

def lastwordClearBody : WbBody := fun _ s =>
  .done .ok (leBytes 4 s.tally.lastWord.length) { s with tally := { s.tally with lastWord := [] } }

def execLastwordClear (w : Waybill) (s : State) : Host.Outcome State Fault Refusal := waybillCmd lastwordClearMeta lastwordClearBody w s

def faultQueryMeta : OpMeta := { opcode := 0x0F07, cls := .r, lenOk := len 4, maxRes := 224 }

def faultQueryBody : WbBody := fun w s =>
  let n := w.u8 1
  if n = 0 ∨ 52 < w.u8 0 + n then fail .badParam s
  else .done .ok (leBytes 4 (s.regN Reg.FT_CAP) ++ leBytes 4 (s.regN Reg.FT_TRANSIENT) ++ leBytes 4 (s.regN Reg.FT_PERMANENT)
    ++ leBytes 4 (s.regN Reg.FT_LAST) ++ (List.range n).flatMap (fun i => leBytes 4 (s.regN (Reg.AG_MARGIN (w.u8 0 + i))))) s

def execFaultQuery (w : Waybill) (s : State) : Host.Outcome State Fault Refusal := waybillCmd faultQueryMeta faultQueryBody w s

def faultSetParamsMeta : OpMeta := { opcode := 0x0F08, cls := .d, lenOk := len 4, maxRes := 4 }

/-- Write FT_CTRL, its reserved bit 0. -/
def State.setFtCtrl (s : State) (v : Nat) : State := s.setCfg 53 Reg.FT_CTRL (setBits v 4 4 0)

def faultSetParamsBody : WbBody := fun w s => .done .ok (leBytes 4 (s.regN Reg.FT_CTRL)) (s.setFtCtrl (w.u32 0))

def execFaultSetParams (w : Waybill) (s : State) : Host.Outcome State Fault Refusal := waybillCmd faultSetParamsMeta faultSetParamsBody w s

/-! Parts -/

/-- A part in service. -/
def State.partActive (s : State) (p : Part) : Bool :=
  let i := p.index
  if p.kind = 1 then (s.logicalOf (i / 16) (i % 16)).isSome
  else if p.kind = 2 then (s.regN (Reg.CX_LANE_ACTIVE (i / 32))).testBit (i % 32)
  else if p.kind = 3 then (s.cpLanes (i / 8)).testBit (i % 8) || (!s.cpUp (i / 8) && decide (i % 8 < 4))
  else if p.kind = 4 then s.tally.cores.contains i
  else s.rankSt (i / 4) (i % 4) == 1

/-- Every part of a kind but the SRAM rows. -/
def State.partsOfKind (s : State) (k : Nat) : List Part :=
  let mk := fun (outer inner step : Nat) => (List.range outer).flatMap (fun i => (List.range inner).map (fun j => Part.mk k (i * step + j)))
  if k = 1 then mk 32 9 16 else if k = 2 then mk 2 22 32 else if k = 3 then mk 2 5 8 else if k = 4 then mk 1 5 0
  else (mk 4 4 4).filter (fun p => s.rankSt (p.index / 4) (p.index % 4) != 0)

/-- State of a part as RESERVE_QUERY gives it. -/
def State.partState (s : State) (p : Part) : Nat :=
  if s.tally.restore.contains p then 3 else if s.isRetired p then 2 else if s.partActive p then 0 else 1

def reserveQueryMeta : OpMeta := { opcode := 0x0F09, cls := .r, lenOk := len 4, maxRes := 1152 }

def reserveQueryBody : WbBody := fun w s =>
  let k := w.u8 0
  if k = 0 ∨ 6 < k then fail .badParam s
  else if k = 6 then
    .done .ok (sramArrays.flatMap (fun a => leBytes 1 a ++ leBytes 1 (Config.sramSpare a - SMap.getD s.tally.sramUsed a 0)
      ++ leBytes 2 (SMap.getD s.tally.sramRetired a 0))) s
  else .done .ok ((s.partsOfKind k).flatMap (fun p => leBytes 3 p.index ++ leBytes 1 (s.partState p))) s

def execReserveQuery (w : Waybill) (s : State) : Host.Outcome State Fault Refusal := waybillCmd reserveQueryMeta reserveQueryBody w s

def reserveRetireMeta : OpMeta := { opcode := 0x0F0A, cls := .d, lenOk := len 4, maxRes := 0, canPend := true }

/-- Time limit of RESERVE_RETIRE: the substitution time of the part's chapter and 1 s. -/
def State.retireLimit (s : State) (p : Part) : Nat :=
  1000000000 + (if p.kind = 5 then s.chanRankGib (p.index / 4) * 1073741824 / s.migGbps (p.index / 4) else 5000000)

def reserveRetireBody : WbBody := fun w s =>
  let v := w.u32 0
  let p := partOf v
  if v.testBit 27 ∨ s.partNamed p = false then fail .badParam s
  else if s.retiring (partHome p) then fail .busy s
  else
    let t := s.retirePart p 3
    if t.tally.running.any (fun r => r.part == p) then .pend (.reserveRetire p.kind p.index) (s.retireLimit p) none t
    else .done .ok [] t

def execReserveRetire (w : Waybill) (s : State) : Host.Outcome State Fault Refusal := waybillCmd reserveRetireMeta reserveRetireBody w s

end Sys2Proof.Machine
end

