-- ==== Sys2Proof/Machine/OpTable.lean ====
section
/-!
DEFINITION. The waybill opcodes and what carries them out, by opcode (00 R21): what WAYBILL_START and the AOC look up.
-/

namespace Sys2Proof.Machine

open Sys2Proof

/-- An opcode's checks and meaning. -/
abbrev OpRow := OpMeta × WbBody

/-- The opcodes of Cipher.lean. -/
def cipherOps : List OpRow :=
  [(cxQueryMeta, cxQueryBody), (keyAllocMeta, keyAllocBody), (keyLoadMeta, keyLoadBody), (keyUpdateMeta, keyUpdateBody),
   (keyFreeMeta, keyFreeBody), (keyZeroizeMeta, keyZeroizeBody), (keyQueryMeta, keyQueryBody),
   (tlsResyncMeta, tlsResyncBody), (macsecRxscSetMeta, macsecRxscSetBody), (cxSetParamsMeta, cxSetParamsBody),
   (cxKatMeta, cxKatBody), (rngGetMeta, rngGetBody), (rngQueryMeta, rngQueryBody), (rngSetParamsMeta, rngSetParamsBody),
   (rngRestartMeta, rngRestartBody)]

/-- The opcodes of Classifier.lean. -/
def classifierOps : List OpRow :=
  [(clQueryMeta, clQueryBody), (groupSetMeta, groupSetBody), (groupReadMeta, groupReadBody),
   (tollAllocMeta, tollAllocBody), (tollFreeMeta, tollFreeBody), (tollQueryMeta, tollQueryBody),
   (actionSetMeta, actionSetBody), (actionReadMeta, actionReadBody), (ruleAddMeta, ruleAddBody),
   (ruleDeleteMeta, ruleDeleteBody), (ruleModifyMeta, ruleModifyBody), (ruleQueryMeta, ruleQueryBody),
   (clSetParamsMeta, clSetParamsBody), (engineSetDefineMeta, engineSetDefineBody), (mirrorSetMeta, mirrorSetBody),
   (templateSetMeta, templateSetBody), (clTestMeta, clTestBody), (clClearMeta, clClearBody)]

/-- The opcodes of Convoy.lean. -/
def convoyOps : List OpRow :=
  [(cvQueryMeta, cvQueryBody), (cvSetParamsMeta, cvSetParamsBody), (cpSetMeta, cpSetBody), (cpRetrainMeta, cpRetrainBody),
   (cvPortBackupMeta, cvPortBackupBody), (cvSealQueryMeta, cvSealQueryBody)]

/-- The opcodes of Dram.lean. -/
def dramOps : List OpRow :=
  [(dcQueryMeta, dcQueryBody), (dcSetParamsMeta, dcSetParamsBody), (dcRankRetireMeta, dcRankRetireBody),
   (dcRetrainMeta, dcRetrainBody), (dcErrInjectMeta, dcErrInjectBody)]

/-- The opcodes of Drives.lean. -/
def drivesOps : List OpRow :=
  [(drvQueryMeta, drvQueryBody), (drvPowerMeta, drvPowerBody), (drvAdminMeta, drvAdminBody),
   (tgtConnectMeta, tgtConnectBody), (tgtDisconnectMeta, tgtDisconnectBody), (tgtQueryMeta, tgtQueryBody),
   (vbfCreateMeta, vbfCreateBody), (vbfDestroyMeta, vbfDestroyBody), (extentSetMeta, extentSetBody),
   (vbfQueryMeta, vbfQueryBody), (dpSetParamsMeta, dpSetParamsBody), (drvPortSetMeta, drvPortSetBody)]

/-- The opcodes of EngineWb.lean. -/
def engineWbOps : List OpRow :=
  [(engQueryMeta, engQueryBody), (engLoadMeta, engLoadBody), (engSwapMeta, engSwapBody),
   (engReadBankMeta, engReadBankBody), (engSetParamsMeta, engSetParamsBody), (engDramWinMeta, engDramWinBody),
   (engLineSetMeta, engLineSetBody), (engCtSetMeta, engCtSetBody), (engThreadQueryMeta, engThreadQueryBody),
   (engCntReadMeta, engCntReadBody), (engMemReadMeta, engMemReadBody), (engMemWriteMeta, engMemWriteBody),
   (engRestartSupMeta, engRestartSupBody)]

/-- The opcodes of Host.lean. -/
def hostOps : List OpRow :=
  [(flaskQueryMeta, flaskQueryBody), (flaskCreateMeta, flaskCreateBody), (flaskDestroyMeta, flaskDestroyBody),
   (flaskSetQuotaMeta, flaskSetQuotaBody), (flaskResetMeta, flaskResetBody), (flaskReleaseMeta, flaskReleaseBody),
   (flaskContainMeta, flaskContainBody), (flaskListMeta, flaskListBody), (linkQueryMeta, linkQueryBody)]

/-- The opcodes of Mailbox.lean. -/
def mailboxOps : List OpRow :=
  [(mbAssignMeta, mbAssignBody), (efRouteSetMeta, efRouteSetBody), (efSetSampleVecMeta, efSetSampleVecBody)]

/-- The opcodes of Movers.lean. -/
def moversOps : List OpRow :=
  [(mvQueryMeta, mvQueryBody), (mvBindMeta, mvBindBody), (mvChanSetMeta, mvChanSetBody),
   (mvSetParamsMeta, mvSetParamsBody), (mvEngRingMeta, mvEngRingBody), (mvChanQueryMeta, mvChanQueryBody)]

/-- The opcodes of Ownership.lean. -/
def ownershipOps : List OpRow :=
  [(claimMeta, relayed claimMeta.opcode claimBody), (releaseMeta, relayed releaseMeta.opcode releaseBody),
   (grantMeta, relayed grantMeta.opcode grantBody), (heartbeatMeta, relayed heartbeatMeta.opcode heartbeatBody),
   (ownerQueryMeta, ownerQueryBody), (setHeartbeatMeta, setHeartbeatBody),
   (revokeMeta, relayed revokeMeta.opcode revokeBody)]

/-- The opcodes of Parser.lean. -/
def parserOps : List OpRow :=
  [(parseGraphLoadMeta, parseGraphLoadBody), (parseGraphActivateMeta, parseGraphActivateBody),
   (parseGraphReadMeta, parseGraphReadBody), (parseSetDepthMeta, parseSetDepthBody), (parseSetExcMeta, parseSetExcBody),
   (parseSetGeneveMeta, parseSetGeneveBody), (parseQueryMeta, parseQueryBody), (parseTestMeta, parseTestBody)]

/-- The opcodes of Ports.lean. -/
def portsOps : List OpRow :=
  [(npQueryMeta, npQueryBody), (npLaneSetMeta, npLaneSetBody), (npPortSetMeta, npPortSetBody),
   (npRetrainMeta, npRetrainBody), (ptpGetMeta, ptpGetBody), (ptpAdjustMeta, ptpAdjustBody),
   (ptpPpsSetMeta, ptpPpsSetBody)]

/-- The opcodes of Power.lean. -/
def powerOps : List OpRow :=
  [(pwrQueryMeta, pwrQueryBody), (clkQueryMeta, clkQueryBody), (pdSetMeta, pdSetBody), (pdForceMeta, pdForceBody),
   (deviceResetMeta, deviceResetBody), (unitResetMeta, unitResetBody), (fwQueryMeta, fwQueryBody),
   (fwWriteMeta, fwWriteBody), (fwSlotSwitchMeta, fwSlotSwitchBody), (clkSetMeta, clkSetBody),
   (thermSetMeta, thermSetBody), (dbgUnlockMeta, dbgUnlockBody)]

/-- The opcodes of Queues.lean. -/
def queuesOps : List OpRow :=
  [(wqCreateMeta, wqCreateBody), (wqDestroyMeta, wqDestroyBody), (wqModifyMeta, wqModifyBody), (wqQueryMeta, wqQueryBody),
   (wqPauseMeta, wqPauseBody), (wqResumeMeta, wqResumeBody), (wqResizeMeta, wqResizeBody),
   (wqShutdownMeta, wqShutdownBody), (cqCreateMeta, cqCreateBody), (cqDestroyMeta, cqDestroyBody),
   (cqModifyMeta, cqModifyBody), (cqQueryMeta, cqQueryBody), (qmSetParamsMeta, qmSetParamsBody)]

/-- The opcodes of Seal.lean. -/
def sealOps : List OpRow :=
  [(sealCommitMeta, sealCommitBody), (sealQueryMeta, sealQueryBody)]

/-- The opcodes of Tables.lean. -/
def tablesOps : List OpRow :=
  [(tblMeta 0x0603 entryLen 4 false, entryOp 1 false), (tblMeta 0x0604 entryLen 4 false, entryOp 2 false),
   (tblMeta 0x0605 entryLen 4 false, entryOp 3 false), (tblMeta 0x0606 keyLens 4 false, entryOp 4 true),
   (tblReadMeta, tblReadBody), (tblQueryMeta, tblQueryBody), (tblWalkMeta, tblWalkBody), (lkTestMeta, lkTestBody),
   (tblCreateMeta, tblCreateBody), (tblDestroyMeta, tblDestroyBody), (tblMeta 0x0609 (len 8) 0 true, tblRehashBody),
   (tblMeta 0x060A (len 4) 4 true, tblFlipBody), (tblMeta 0x060B (len 4) 0 false, tblRehashCancelBody),
   (tblMeta 0x060C (len 4) 4 true, tblFlushBody), (tblSetParamsMeta, tblSetParamsBody),
   (lookupProfileSetMeta, lookupProfileSetBody), (learnProfileSetMeta, learnProfileSetBody),
   (lkSetParamsMeta, lkSetParamsBody)]

/-- The opcodes of Tallies.lean. -/
def talliesOps : List OpRow :=
  [(tallyQueryMeta, tallyQueryBody), (tallySetMeta, tallySetBody), (tallyMarkMeta, tallyMarkBody),
   (tallyReadMeta, tallyReadBody), (logReadMeta, logReadBody), (lastwordReadMeta, lastwordReadBody),
   (lastwordClearMeta, lastwordClearBody), (faultQueryMeta, faultQueryBody), (faultSetParamsMeta, faultSetParamsBody),
   (reserveQueryMeta, reserveQueryBody), (reserveRetireMeta, reserveRetireBody)]

/-- The opcodes of TrafficManager.lean. -/
def trafficManagerOps : List OpRow :=
  [(tmQueryMeta, tmQueryBody), (tmqCreateMeta, tmqCreateBody), (tmqDestroyMeta, tmqDestroyBody),
   (tmqModifyMeta, tmqModifyBody), (tmqQueryMeta, tmqQueryBody), (nodeCreateMeta, nodeCreateBody),
   (nodeDestroyMeta, nodeDestroyBody), (nodeModifyMeta, nodeModifyBody), (classSetMeta, classSetBody),
   (portSetMeta, portSetBody), (policerSetMeta, policerSetBody), (policerQueryMeta, policerQueryBody),
   (tmSetBufferMeta, tmSetBufferBody)]

/-- The opcodes of WaybillRings.lean. -/
def waybillRingsOps : List OpRow :=
  [(devInfoMeta, devInfoBody), (echoMeta, echoBody)]

/-- Every opcode but CV_FORWARD and CV_SEAL_COMMIT, which stand in CvForward.lean. -/
def opRows : List OpRow :=
  cipherOps ++ classifierOps ++ convoyOps ++ dramOps ++ drivesOps ++ engineWbOps ++ hostOps ++ mailboxOps ++ moversOps ++
    ownershipOps ++ parserOps ++ portsOps ++ powerOps ++ queuesOps ++ sealOps ++ tablesOps ++ talliesOps ++
    trafficManagerOps ++ waybillRingsOps

end Sys2Proof.Machine
end

