-- ==== Sys2Proof/Machine/CvForward.lean ====
section
/-!
DEFINITION. CV_FORWARD and CV_SEAL_COMMIT (17 R567, R570, R573), and the whole opcode table.
-/

namespace Sys2Proof.Machine

open Sys2Proof

/-! CV_FORWARD (R573) -/

/-- The class of an opcode whose waybill has these parameters: CV_FORWARD takes that of its inner waybill; an opcode that no chapter
defines is treated as read-only, since nothing is checked of it. The first argument bounds how deep waybills lie in waybills. -/
def classOf : Nat → Nat → List Byte → Cls
  | 0, _, _ => .r
  | k + 1, op, params =>
    if op = 0x0D05 then classOf k (u16 params 4) (params.drop 20)
    else if op = 0x0D06 then .d
    else match opRows.find? (fun r => r.1.opcode == op) with
      | some r => r.1.cls
      | none => .r

/-- The class of the inner waybill of a CV_FORWARD. -/
def innerClass (w : Waybill) : Cls := classOf 256 (w.u16 4) (w.params.drop 20)

/-- The time limit (ns) that an opcode's table states; 1 s where it states none (02 R77). Where the limit depends on the target's own
state, the longest it can be. -/
def opcodeLimit (op : Nat) (params : List Byte) : Nat :=
  if op = 0x0804 then 100000
  else if op = 0x060A then 50000
  else if op = 0x0702 ∨ op = 0x0E01 then 1000000
  else if op = 0x0306 then 2000000
  else if op = 0x0110 then 5000000
  else if op = 0x0204 ∨ op = 0x1005 then 10000000
  else if op = 0x0101 then 11000000
  else if op = 0x0802 ∨ op = 0x0813 then 12000000
  else if op = 0x0810 then 13000000
  else if op = 0x0202 ∨ op = 0x0511 ∨ op = 0x0D06 ∨ op = 0x1002 then 20000000
  else if op = 0x0D03 then 100000000
  else if op = 0x1007 then 500000000
  else if op = 0x0902 then (u16 params 12 + 1) * 1000000
  else if op = 0x0F0A then 1005000000
  else if op = 0x0B03 then 5000000000
  else if op = 0x0303 then 64001000000
  else if op = 0x0C02 then 1000000000 + 64 * 1073741824
  else if op = 0x0B02 then 255000000000
  else if op = 0x0B01 then 270000000000
  else 1000000000

/-- CV_FORWARD's checks: the class is the inner waybill's; its length is that of the inner waybill (R573). -/
def cvForwardMeta (w : Waybill) : OpMeta :=
  { opcode := 0x0D05, cls := innerClass w, lenOk := fun n => decide (20 ≤ n) && decide (n ≤ 4080),
    lenW := fun w => w.params.length == 20 + w.u16 8, maxRes := 4080, canPend := true }

/-- CV_FORWARD (R567, R573): the inner waybill goes to the target as a control request, and its reply comes back whole. -/
def cvForwardBody : WbBody := fun w s =>
  let d := w.u8 0
  if s.peers.contains d = false then fail .badParam s
  else
    .pend (.cvForward w.tag.toNat) (opcodeLimit (w.u16 4) (w.params.drop 20) + 10000000) none
      (s.cvSend d (.forward w.inst w.tag) (.forward (w.params.drop 4)))

def execCvForward (w : Waybill) (s : State) : Host.Outcome State Fault Refusal := waybillCmd (cvForwardMeta w) cvForwardBody w s

/-! CV_SEAL_COMMIT (R570) -/

def cvSealCommitMeta : OpMeta :=
  { opcode := 0x0D06, cls := .d, lenOk := len 8, maxRes := 36, canPend := true, obj := fun _ _ => some ⟨.sealRef, 0⟩ }

/-- The SEAL_COMMIT waybill that goes to a member. -/
def State.memberCommit (s : State) : List Byte :=
  leBytes 2 0x0110 ++ leBytes 1 5 ++ leBytes 1 1 ++ leBytes 2 8 ++ leBytes 2 0 ++ leBytes 4 (0x30000000 + s.cvId) ++ leBytes 4 s.devEpoch
    ++ zeros 8

/-- CV_SEAL_COMMIT: SEAL_COMMIT on this device and on every reachable member (R570; 02 R92). -/
def cvSealCommitBody : WbBody := fun w s =>
  if s.wb.pend.any (fun p => p.cls == .d) then fail .busy s
  else
    let s1 := s.sealStart
    let s2 := { s1 with cv := { s1.cv with sealCheck := (w.u32 0).testBit 0,
                                           sealReplies := s1.cvMembers.foldl (fun (m : SMap (List Byte)) d => SMap.put m d []) [] } }
    .pend .cvSealCommit 20000000 (some ⟨.sealRef, 0⟩)
      (s2.peers.foldl (fun (t : State) d => t.cvSend d .sealPart (.forward t.memberCommit)) s2)

def execCvSealCommit (w : Waybill) (s : State) : Host.Outcome State Fault Refusal := waybillCmd cvSealCommitMeta cvSealCommitBody w s

/-- What carries out opcode op of waybill w; none: an opcode that no chapter defines (00 R21). -/
def opOf (op : Nat) (w : Waybill) : Option OpRow :=
  if op = 0x0D05 then some (cvForwardMeta w, cvForwardBody)
  else if op = 0x0D06 then some (cvSealCommitMeta, cvSealCommitBody)
  else opRows.find? (fun r => r.1.opcode == op)

end Sys2Proof.Machine
end

