-- ==== Sys2Proof/Machine/WaybillStart.lean ====
section
/-!
DEFINITION. Starting waybills: WAYBILL_START, undefined opcodes, time limits of PENDING waybills, the AOC's wait for the control complex
(00 R21; 02 R48, R62, R64, R69, R71-R77).
-/

namespace Sys2Proof.Machine

open Sys2Proof

/-- The checks of an opcode that no chapter defines (R48): its waybills run as those of a version that is not 1. -/
def undefMeta (op : Nat) : OpMeta := { opcode := op, cls := .r, lenOk := fun _ => true, maxRes := 0 }

/-- Nothing follows the checks of an undefined opcode. -/
def undefBody : WbBody := fun _ s => fail .badOpcode s

/-- What carries out a waybill of any opcode, and the waybill as it is checked: one whose header names more parameters than it has or may
have counts as longer than any transport allows (00 R17 step 1); an undefined opcode as a version that is not 1 (R48). -/
def anyOp (op : Nat) (w : Waybill) (badLen : Bool) : OpMeta × WbBody × Waybill :=
  let w1 := if badLen then { w with params := zeros 4081 } else w
  match opOf op w1 with
  | some r => (r.1, r.2, w1)
  | none => (undefMeta op, undefBody, { w1 with version := 0 })

/-- Start a waybill of any opcode. -/
def State.startAny (s : State) (op : Nat) (w : Waybill) (badLen : Bool) : State :=
  let r := anyOp op w badLen
  runWb r.1 r.2.1 r.2.2 s

/-- UNDEFINED_OPCODE (00 R21; R48): BAD_OPCODE for an opcode that no chapter defines and for a version that is not 1. -/
def execUndefinedOpcode (opcode : Half) (w : Waybill) (s : State) : Host.Outcome State Fault Refusal :=
  finish (if (opOf opcode.toNat w).isSome ∧ w.version = 1 then s
    else runWb (undefMeta opcode.toNat) undefBody { w with version := 0 } s)

/-! WAYBILL_START (R62, R71) -/

/-- The transport instances with work that are served now: waybills that have arrived, request slots read; of the AOC's instances alone
while the firmware does not serve (R69). -/
def State.workers (s : State) : List Instance :=
  ((s.wb.arrived.map (·.inst) ++ (s.wb.rings.filter (fun x => !x.2.fetched.isEmpty)).map (fun x => Instance.ring x.1)).eraseDups).filter
    (fun i => s.fwServes || aocInstance i)

/-- Round-robin order (R71): an instance is visited again once every other instance with work has been visited in this round. -/
def State.turnOf (s : State) (i : Instance) : Option State :=
  let seen := s.wb.served.contains i
  if seen && s.workers.any (fun j => j != i && !s.wb.served.contains j) then none
  else some { s with wb := { s.wb with served := if seen then [i] else s.wb.served ++ [i] } }

/-- The reply ring's free slots, less those reserved and those of held replies, cover the waybill's reservation (R62). -/
def State.roomFor (s : State) (i : Instance) (op : Nat) (w : Waybill) : Bool :=
  match i with
  | .ring fn =>
    let m := (anyOp op w false).1
    let owed := (s.ring fn).reserved + ((s.wb.held.filter (fun h => h.inst == i)).map (·.slots)).sum
    (match s.replyRoom fn with
     | some n => decide (reservation s i m.maxRes m.canPend + owed ≤ n)
     | none => false)
  | _ => true

/-- The firmware takes the next waybill of a function's request ring (R61, R64): as many slots as it fills; a header whose PARAM_LEN
exceeds 4,080 takes one slot, is answered BAD_LENGTH and stops the ring. -/
def State.startRing (s : State) (fn : Nat) : State :=
  let b := wbBase fn
  let r := s.ring fn
  let n := u16 r.fetched 4
  let ovr := decide (4080 < n)
  let k := if ovr then 1 else slotsFor n
  match ringSize (s.regN (b + 8)) with
  | none => s
  | some size =>
    if r.stopped || s.isContained fn || !s.ringOpen fn || !s.flag (b + 8) 31 || decide (r.fetched.length < k * 64) then s
    else
      let a := waybillOf (.ring fn) 0 (r.fetched.take (k * 64))
      if !s.roomFor (.ring fn) a.opcode.toNat a.wb then s
      else
        let s1 := (s.setRing fn { r with fetched := r.fetched.drop (k * 64), asked := r.asked - k }).setRegN (b + 0x10)
          ((s.regN (b + 0x10) + k) % (2 * size))
        let s2 := s1.startAny a.opcode.toNat a.wb ovr
        if ovr then (s2.setRing fn { s2.ring fn with stopped := true }).raise (Ev.wbStatus fn) 0 else s2

/-- The next waybill of a transport instance starts, when it can. -/
def State.serve (s : State) (i : Instance) : State :=
  match s.wb.arrived.find? (fun a => a.inst == i) with
  | some a =>
    if !s.roomFor i a.opcode.toNat a.wb then s
    else { s with wb := { s.wb with arrived := s.wb.arrived.eraseP (fun a => a.inst == i) } }.startAny a.opcode.toNat a.wb a.badLen
  | none => match i with
    | .ring fn => s.startRing fn
    | _ => s

/-- WAYBILL_START (R71): the firmware takes the next waybill of an instance; while it does not serve, only the AOC's instances are served
(R69; 20 R645). -/
def execWaybillStart (inst : Instance) (s : State) : Host.Outcome State Fault Refusal :=
  finish (if !s.fwServes && !aocInstance inst then s
    else match s.turnOf inst with
      | some s1 => s1.serve inst
      | none => s)

/-! Time limits (R69, R77) -/

/-- What a PENDING waybill that times out leaves (R77): a change that waits for others is given up; an operation under way goes on. -/
def State.giveUp (s : State) (p : PendWb) : State :=
  match p.wait with
  | .sealCommit _ _ => s.sealDrop
  | .cvSealCommit => { s.sealDrop with cv := { s.cv with sealReplies := [], reqs := s.cv.reqs.filter (fun r => r.what != .sealPart) } }
  | .keyLoad _ _ _ => s.setDrbg { s.cx.rng with held := s.cx.rng.held.filter (fun x => x.1 != .waybill p.inst p.tag) }
  | .rngGet _ => s.setDrbg { s.cx.rng with held := s.cx.rng.held.filter (fun x => x.1 != .waybill p.inst p.tag) }
  | .drvAdmin port _ => s.setDrive port { s.drive port with adm := none }
  | .tgtConnect t => s.setTgt t { s.tgt t with st := 0 }
  | .cvForward _ => { s with cv := { s.cv with
      reqs := s.cv.reqs.filter (fun r => r.what != .forward p.inst p.tag && r.what != .relay p.inst p.tag) } }
  | .pdSet d false => { s with pwr := { s.pwr with pdWait := s.pwr.pdWait.filter (fun x => x.1 != d) } }
  | .claim | .flaskReset _ | .flaskDestroy _ | .wqPause _ | .wqShutdown _ | .clClear | .tblDestroy _ | .tblRehash _ | .tblFlip _
  | .tblFlush _ _ _ | .tmqDestroy _ | .keyFree _ | .rngRestart | .engSwap _ | .drvPower _ | .tgtDisconnect _ | .reserveRetire _ _
  | .rankRetire _ _ | .cpRetrain _ | .npLaneSet | .pdSet _ true | .unitReset _ | .flashWrite | .slotSwitch => s

/-- PENDING_TIMEOUT (R77): the waybill with this tag reaches its limit and completes TIMEOUT. -/
def execPendingTimeout (inst : Instance) (tag : Half) (s : State) : Host.Outcome State Fault Refusal :=
  finish (match s.wb.pend.find? (fun p => p.inst == inst && p.tag == tag) with
    | none => s
    | some p => ((s.at p.deadline).giveUp p).completeOne p .timeout [])

/-- AOC_FORWARD_TIMEOUT (R69): the control complex has not taken the oldest forwarded waybill within 50 ms; the AOC carries it out itself or
answers TIMEOUT. -/
def execAocForwardTimeout (s : State) : Host.Outcome State Fault Refusal :=
  finish (match s.wb.arrived.find? (fun a => a.deadline.isSome) with
    | none => s
    | some a =>
      let r := anyOp a.opcode.toNat a.wb a.badLen
      let s1 := { s with wb := { s.wb with arrived := s.wb.arrived.eraseP (fun a => a.deadline.isSome) } }
      aocRun r.1 r.2.1 r.2.2 ((s1.at (a.deadline.getD 0)).noteBmc a.inst))

end Sys2Proof.Machine
end

