-- ==== Sys2Proof/Machine/Mctp.lean ====
section
/-!
DEFINITION. MCTP: packets, reassembly, control commands, waybills that arrive as messages (02 R67-R69). The layout of packets and control
messages is that of DSP0236 (PRESUMED, log entry 43).
-/

namespace Sys2Proof.Machine

open Sys2Proof

/-- A binding is in service (R69): SMBus and I3C while the AOC is powered, VDM while the host endpoint is. -/
def State.mctpUp (s : State) (b : Nat) : Bool := if b < 2 then s.pwr.pwrGoodAon else b == 2 && s.inService 2

/-! Control commands (R68) -/

/-- The response to a control request: instance ID, command, completion code, data. -/
def State.mctpAnswer (s : State) (r : McRequest) (cmd cc : Nat) (data : List Byte) : State :=
  s.emit (.mctp r.binding r.srcEid r.tag ([0x00] ++ leBytes 1 (r.instId % 32) ++ leBytes 1 cmd ++ leBytes 1 cc ++ data))

/-- Set Endpoint ID: operations 0 set and 1 force assign the endpoint ID; 0 and 0xFF are no endpoint IDs; a simple endpoint takes no other
operation. -/
def State.mctpSetEid (s : State) (r : McRequest) : State :=
  let op := u8 r.data 0 % 4
  let e := u8 r.data 1
  if r.data.length ≠ 2 then s.mctpAnswer r 1 3 []
  else if 2 ≤ op ∨ e = 0 ∨ e = 255 then s.mctpAnswer r 1 2 []
  else { s with wb := { s.wb with eids := SMap.put s.wb.eids r.binding e } }.mctpAnswer r 1 0 ([0x00] ++ leBytes 1 e ++ [0x00])

/-- Get Endpoint ID: the endpoint ID of the binding (0 before assignment), a simple endpoint with a dynamic ID. -/
def State.mctpGetEid (s : State) (r : McRequest) : State :=
  if r.data.length ≠ 0 then s.mctpAnswer r 2 3 []
  else s.mctpAnswer r 2 0 (leBytes 1 (SMap.getD s.wb.eids r.binding 0) ++ [0x00, 0x00])

/-- The 128 bits of the UUID built from the serial (R68). -/
def uuidOf (hi lo : Nat) : Nat :=
  let sn := hi * 2 ^ 32 + lo
  0x1F1A8140 * 2 ^ 96 + bits sn 63 48 * 2 ^ 80 + 8 * 2 ^ 76 + bits sn 47 36 * 2 ^ 64 + 2 * 2 ^ 62 + bits sn 35 0

/-- Get Endpoint UUID: most significant byte first. -/
def State.mctpUuid (s : State) (r : McRequest) : State :=
  if r.data.length ≠ 0 then s.mctpAnswer r 3 3 []
  else s.mctpAnswer r 3 0 (leBytes 16 (uuidOf (s.regN Reg.SERIAL_HI) (s.regN Reg.SERIAL_LO))).reverse

/-- Get MCTP Version Support: one entry, 1.3, for the base specification, control messages and vendor defined messages. -/
def State.mctpVersion (s : State) (r : McRequest) : State :=
  if r.data.length ≠ 1 then s.mctpAnswer r 4 3 []
  else if [0xFF, 0x00, 0x7E].contains (u8 r.data 0) then s.mctpAnswer r 4 0 [0x01, 0xF1, 0xF3, 0xFF, 0x00]
  else s.mctpAnswer r 4 0x80 []

/-- Get Message Type Support: vendor defined – PCI, beside control messages. -/
def State.mctpTypes (s : State) (r : McRequest) : State :=
  if r.data.length ≠ 0 then s.mctpAnswer r 5 3 [] else s.mctpAnswer r 5 0 [0x01, 0x7E]

/-- Get Vendor Defined Message Support: the one set, by PCI vendor ID 0x1F1A; the set's own 16-bit number, which no rule gives, is free. -/
def State.mctpVendor (s : State) (r : McRequest) : State :=
  if r.data.length ≠ 1 then s.mctpAnswer r 6 3 []
  else if u8 r.data 0 ≠ 0 then s.mctpAnswer r 6 2 []
  else
    let d := s.draw
    d.2.mctpAnswer r 6 0 ([0xFF, 0x00, 0x1F, 0x1A] ++ leBytes 2 (d.1 % 65536))

/-- A control request of a binding in service. -/
def mctpControl (r : McRequest) (f : State → McRequest → State) (s : State) : Host.Outcome State Fault Refusal :=
  finish (if s.mctpUp r.binding then f s r else s)

/-- SET_ENDPOINT_ID. -/
def execSetEndpointId (r : McRequest) (s : State) : Host.Outcome State Fault Refusal := mctpControl r State.mctpSetEid s

/-- GET_ENDPOINT_ID. -/
def execGetEndpointId (r : McRequest) (s : State) : Host.Outcome State Fault Refusal := mctpControl r State.mctpGetEid s

/-- GET_ENDPOINT_UUID. -/
def execGetEndpointUuid (r : McRequest) (s : State) : Host.Outcome State Fault Refusal := mctpControl r State.mctpUuid s

/-- GET_MCTP_VERSION_SUPPORT. -/
def execGetMctpVersionSupport (r : McRequest) (s : State) : Host.Outcome State Fault Refusal := mctpControl r State.mctpVersion s

/-- GET_MESSAGE_TYPE_SUPPORT. -/
def execGetMessageTypeSupport (r : McRequest) (s : State) : Host.Outcome State Fault Refusal := mctpControl r State.mctpTypes s

/-- GET_VENDOR_DEFINED_MESSAGE_SUPPORT. -/
def execGetVendorDefinedMessageSupport (r : McRequest) (s : State) : Host.Outcome State Fault Refusal :=
  mctpControl r State.mctpVendor s

/-- Any control command by its code; ERROR_UNSUPPORTED_CMD for every other. -/
def State.mctpCommand (s : State) (cmd : Nat) (r : McRequest) : State :=
  if cmd = 1 then s.mctpSetEid r
  else if cmd = 2 then s.mctpGetEid r
  else if cmd = 3 then s.mctpUuid r
  else if cmd = 4 then s.mctpVersion r
  else if cmd = 5 then s.mctpTypes r
  else if cmd = 6 then s.mctpVendor r
  else s.mctpAnswer r cmd 5 []

/-- UNSUPPORTED_CONTROL_COMMAND: a command code other than the six above. -/
def execUnsupportedControlCommand (r : McRequest) (cmd : Byte) (s : State) : Host.Outcome State Fault Refusal :=
  finish (if s.mctpUp r.binding = false ∨ (1 ≤ cmd.toNat ∧ cmd.toNat ≤ 6) then s else s.mctpAnswer r cmd.toNat 5 [])

/-! Messages and packets (R67, R68) -/

/-- A whole message: a control request is answered; with an endpoint ID assigned, a waybill arrives, its 50 ms at the AOC beginning (R69);
everything else is discarded, counted where the rules say so. -/
def State.mctpMessage (s : State) (b eid tag : Nat) (owner : Bool) (m : List Byte) : State :=
  let t := u8 m 0
  if t.testBit 7 then s.bump Reg.MCTP_IC_DROP
  else if t = 0 then
    if owner && (u8 m 1 / 64 == 2) && decide (3 ≤ m.length) then
      s.mctpCommand (u8 m 2) { binding := b, srcEid := eid, tag := tag, instId := u8 m 1 % 32, data := m.drop 3 }
    else s
  else if (SMap.get? s.wb.eids b).isNone then s.bump Reg.MCTP_NO_EID_DROP
  else if owner && m.take 5 == [0x7E, 0x1F, 0x1A, 0x01, 0x00] && decide (21 ≤ m.length) then
    let a := waybillOf (.mctp b eid) tag (m.drop 5)
    s.arrive { a with deadline := if b < 2 then some (s.now + 50000000) else none }
  else s

/-- The partial message a packet belongs to. -/
def Reasm.of (p : McPacket) (r : Reasm) : Bool := r.binding == p.binding && r.eid == p.srcEid && r.tag == p.tag

/-- MCTP_PACKET: the first packet takes a reassembly slot, or finds all eight held; the following ones must come in sequence; the last one
ends the message and frees its slot. -/
def State.mctpPacket (s : State) (p : McPacket) : State :=
  let rest := s.wb.reasm.filter (fun r => !r.of p)
  let wait := fun (m : List Byte) (q : Nat) =>
    { s with wb := { s.wb with reasm := rest ++ [⟨p.binding, p.srcEid, p.tag, m, q % 4, s.now + 100000000⟩] } }
  let drop : State := { s with wb := { s.wb with reasm := rest } }
  if p.som then
    if 8 ≤ rest.length then drop.bump Reg.MCTP_REASM_DROP
    else if p.eom then drop.mctpMessage p.binding p.srcEid p.tag p.tagOwner p.payload
    else wait p.payload (p.pktSeq + 1)
  else match s.wb.reasm.find? (Reasm.of p) with
    | none => s
    | some r =>
      if p.pktSeq % 4 ≠ r.nextSeq then drop
      else if p.eom then drop.mctpMessage p.binding p.srcEid p.tag p.tagOwner (r.bytes ++ p.payload)
      else wait (r.bytes ++ p.payload) (r.nextSeq + 1)

def execMctpPacket (p : McPacket) (s : State) : Host.Outcome State Fault Refusal :=
  finish (if s.mctpUp p.binding = false ∨ 64 < p.payload.length ∨ 7 < p.tag then s else s.mctpPacket p)

/-- MCTP_REASSEMBLY_TIMEOUT (R68): no packet of a partial message for 100 ms. -/
def execMctpReassemblyTimeout (binding eid tag : Nat) (s : State) : Host.Outcome State Fault Refusal :=
  let mine := fun (r : Reasm) => r.binding == binding && r.eid == eid && r.tag == tag
  finish (match s.wb.reasm.find? mine with
    | none => s
    | some r => ({ s with wb := { s.wb with reasm := s.wb.reasm.filter (fun x => !mine x) } }.at r.deadline).bump Reg.MCTP_REASM_DROP)

end Sys2Proof.Machine
end

