-- ==== Sys2Proof/Machine/Registers.lean ====
section
/-!
DEFINITION. Register accesses: writes of every register, access errors, guarded writes, status clears, the side-effect-free view of
every register, PEEK (03 R95-R115, R125-R128; 01 R36).
-/

namespace Sys2Proof.Machine

open Sys2Proof

/-- The state a command leaves. -/
def nextOf (o : Host.Outcome State Fault Refusal) (s : State) : State :=
  match o with
  | .next t => t
  | _ => s

/-- The index of address a in an array of n registers. -/
def inArr (a base stride n : Nat) : Option Nat :=
  if base ≤ a ∧ a < base + stride * n ∧ (a - base) % stride = 0 then some ((a - base) / stride) else none

/-- The function whose ring registers hold address a, and the offset in them (02 R63). -/
def ringReg (a : Nat) : Option (Nat × Nat) :=
  if 0x1000 ≤ a ∧ a ≤ 0x1030 then some (0, a - 0x1000)
  else if 0x1100 ≤ a ∧ a ≤ 0x1130 then some (4096, a - 0x1100)
  else if 0x04000000 ≤ a then
    let o := a - 0x04000000
    if 0x3000 ≤ o % 0x10000 ∧ o % 0x10000 ≤ 0x3030 then some (o / 0x10000, o % 0x10000 - 0x3000) else none
  else none

/-- The mailbox side and the offset of a view register (14 R486, R488). -/
def mbReg (a : Nat) : Option (Nat × Bool × Nat) :=
  if 0xB01000 ≤ a ∧ a < 0xB02000 then
    let o := a - 0xB01000
    some (o / 0x40, decide (0x20 ≤ o % 0x40), o % 0x20)
  else if 0x04000000 ≤ a then
    let o := a - 0x04000000
    if 0x4000 ≤ o % 0x10000 ∧ o % 0x10000 < 0x4020 then some (64 + o / 0x10000, false, o % 0x10000 - 0x4000) else none
  else none

/-- The function and vector of an MSI-X table register, with its word (04 R140). -/
def msixReg (a : Nat) : Option (Nat × Nat × Nat) :=
  if 0x110000 ≤ a ∧ a < 0x120000 then
    let i := (a - 0x110000) / 16
    some (if i < 2048 then 0 else 4096, i % 2048, (a - 0x110000) % 16)
  else if 0x04000000 ≤ a then
    let o := (a - 0x04000000) % 0x10000
    if 0x2800 ≤ o ∧ o < 0x2C00 then some ((a - 0x04000000) / 0x10000, (o - 0x2800) / 16, o % 16) else none
  else none

/-- The queue slot of a doorbell address (05 R182). -/
def doorbellSlot (a : Nat) : Option Nat :=
  if 0x280000 ≤ a ∧ a < 0x300000 then some ((a - 0x280000) / 8)
  else if 0x04000000 ≤ a then
    let o := (a - 0x04000000) % 0x10000
    if o < 0x2000 then some (o / 8) else none
  else none

/-- The issuer reaches this offset: PF0 of a link that exists BAR0, a flask whose VF is enabled its own window, of which an UNPROVISIONED one
sees only status and tally pages (R100; 04 R145). -/
def State.busOpen (s : State) (src : Src) (off : Nat) : Bool :=
  match src with
  | .pf0 l => s.linkExists l && decide (off < 0x04000000)
  | .flask f => decide (f < 4096) && s.vfOn f && decide (off < 0x10000) &&
      ((s.fn f).st != .unprovisioned || off / 0x1000 == 2 || off / 0x1000 == 5)
  | _ => decide (off < 0x04000000)

/-- DMI and the debug module's registers are held in reset (12 R448; 20 R651). -/
def State.debugLocked (s : State) : Bool := s.flag Reg.FUSE_STAT 12 && !s.pwr.debugOpen

/-! Configuration writes (R101) -/

/-- The domain check of a write of a new configuration value: what the chapters say of the register beside keeping it. -/
def State.cfgWrite (s : State) (src : Src) (off a new : Nat) : State :=
  let u := unitOfReg a
  let drop := s.logAccess u (srcIssuer src) off 4
  let thr := fun (r : Nat) => if a = r then new else s.regN r
  if a = Reg.PS_EXC_RATE_RX then s.setPsRate false new
  else if a = Reg.PS_EXC_RATE_TX then s.setPsRate true new
  else if a = Reg.CL_EXC_RATE_RX then s.setClRate false new
  else if a = Reg.CL_EXC_RATE_TX then s.setClRate true new
  else if a = Reg.LK_LEARN_RATE then s.setLearnRate new
  else if a = Reg.TM_SPILL_ON ∨ a = Reg.TM_SPILL_OFF ∨ a = Reg.TM_PANIC_ON ∨ a = Reg.TM_PANIC_OFF then
    if thresholdsBad (thr Reg.TM_SPILL_ON) (thr Reg.TM_SPILL_OFF) (thr Reg.TM_PANIC_ON) (thr Reg.TM_PANIC_OFF) then s
    else (s.setCfg 8 a new).tmThresholds
  else if a = Reg.TM_CTRL then (s.setCfg 8 a new).tmThresholds
  else if a = Reg.TM_SPILL_AREA then
    if new ≠ s.regN a ∧ (s.spillAreaBad new = true ∨ s.regN Reg.TM_SPILLED ≠ 0 ∨ s.poolShort (s.setRegN a new) = true) then drop
    else (s.setCfg 8 a new).tmThresholds
  else if a = Reg.DP_STAGE then
    let t := s.setCfg 14 a new
    if s.stageBad new = true ∨ (new ≠ s.regN a ∧ s.dp.vbfs.isEmpty = false) ∨ s.poolShort t = true then drop else t
  else if a = Reg.TL_AREA then if s.tallyAreaBad new || s.poolShort (s.setTlArea new) then drop else s.setTlArea new
  else if a = Reg.CV_CTRL then if s.sizeHeld new then drop else s.setCvCtrl new
  else match inArr a (Reg.CP_CTRL 0) 0x40 2 with
  | some c => s.setCpCtrl c new
  | none => match inArr a (Reg.DC_CTRL 0) 0x40000 4 with
  | some c => s.setDcCtrl c new (s.regN (Reg.DC_CTRL2 c))
  | none => match inArr a (Reg.DC_CTRL2 0) 0x40000 4 with
  | some c => s.setDcCtrl c (s.regN (Reg.DC_CTRL c)) new
  | none => match inArr a (npBase 0) 0x80 8 with
  | some p => (s.setPortCtrl p new).flowCheck p
  | none => match inArr a (npBase 0 + 8) 0x80 8 with
  | some p => (s.setCfg 20 a new).flowCheck p
  | none => match inArr a (Reg.CLK_ISLAND 0) 4 52 with
  | some c => if c < 32 ∧ mhzOk (bits new 31 16) = true then s.setClocks [c] (bits new 31 16) else s
  | none => s.setCfg u a new

/-- Fields whose invalid values leave the field unchanged: the depths of PS_CTRL and SNAP of the two exception registers (07 R265; 08 R303). -/
def keepInvalid (a old new : Nat) : Nat :=
  let keep := fun (hi lo top n : Nat) => if 1 ≤ bits n hi lo ∧ bits n hi lo ≤ top then n else setBits n hi lo (bits old hi lo)
  if a = Reg.PS_CTRL then keep 11 8 8 (keep 3 0 8 new)
  else if a = Reg.HE_VF_BAR2_SIZE then (if bits new 3 0 ≤ 8 then new else setBits new 3 0 (bits old 3 0))
  else if a = Reg.PS_EXC_CTRL ∨ a = Reg.CL_EXC_CTRL then keep 6 0 64 new
  else new

/-- A write of a configuration register passes the drover gate, or is refused as NOT_DROVER (R101). -/
def State.gatedWrite (s : State) (src : Src) (off a new : Nat) : State :=
  if s.ownSt = 2 ∧ s.drover = srcIssuer src then s.cfgWrite src off a (keepInvalid a (s.regN a) new) else s.accErr src true off 4 2

/-! Reading without side effects (R126) -/

/-- Tokens in whole bytes, signed, as 4 bytes. -/
def tokBytes (t : Int) : List Byte := leBytes 4 ((t / (tokByte : Int)) % (2 ^ 32 : Int)).toNat

/-- TMCTX_DATA0-15 (10 R364): record, tokens, cells and frames of the object selected. -/
def State.tmctx (s : State) : List Byte :=
  let i := s.fld Reg.TMCTX_SEL 15 0
  let node := fun (x : TmNode) =>
    let sh := x.sh.fill x.rcd (shPir x.rcd) s.now
    x.rcd ++ tokBytes sh.c ++ tokBytes sh.p
  let k := s.fld Reg.TMCTX_SEL 31 29
  if k = 0 then match s.tmq? i with
    | some q =>
      let sh := q.sh.fill q.rcd (q.engRate.getD (shPir q.rcd)) s.now
      q.rcd ++ tokBytes sh.c ++ tokBytes sh.p ++ leBytes 4 q.cells ++ leBytes 4 q.frames.length
    | none => []
  else if k = 1 then match s.tmNode? i with
    | some x => node x
    | none => []
  else if k = 2 ∧ i < 96 then node (s.tmClass i)
  else if k = 3 ∧ i < 12 then node (s.tmPort i)
  else if k = 4 ∧ i < 16384 then
    let p := (s.policer i).fill s.now
    p.rcd ++ tokBytes p.c ++ tokBytes p.e
  else []

/-- A mailbox view register as it reads without side effects (14 R486). -/
def State.mbRegView (s : State) (key : Nat) (b : Bool) (o : Nat) : Nat :=
  let x := (s.mbPair key).side b
  if o = 0x08 then (s.mbHead key b).toNat
  else if o = 0x0C then s.mbStat key b
  else if o = 0x10 then x.ctrl.toNat
  else if o = 0x14 then (s.mbLockWord key b none).toNat
  else if o = 0x18 then x.timeoutUs.toNat
  else 0

/-- A flask window register beside rings, mailbox and MSI-X table (04 R163; 19 R606). -/
def State.flaskRegView (s : State) (f o : Nat) : Nat :=
  let x := s.fn f
  if o = 0x2000 then f * 2 ^ 16 + s.linkOf f * 2 ^ 12 + x.st.code
  else if o = 0x2008 then x.cause
  else if o = 0x200C then x.causeAddr % 2 ^ 32
  else if o = 0x2010 then x.causeAddr / 2 ^ 32
  else if o = 0x2018 then x.containCount
  else if o = 0x5000 ∨ o = 0x5004 then u32 s.tally.header (o - 0x5000)
  else if o = 0x5008 then u16 s.tally.header 36
  else if 0x5040 ≤ o ∧ o < 0x50C0 then u32 (SMap.getD s.tally.records f (zeros 128)) (o - 0x5040)
  else s.regN (flaskWin f + o)

/-- The value of the register at address a, read without side effects; a location that no chapter defines reads 0 (R95). -/
def State.view (s : State) (a : Nat) : Nat :=
  match mbReg a with
  | some (key, b, o) => s.mbRegView key b o
  | none =>
  match ringReg a with
  | some (_, o) => if o = 0x30 then s.devEpoch else s.regN a
  | none =>
  if 0x04000000 ≤ a then
    let f := (a - 0x04000000) / 0x10000
    let o := (a - 0x04000000) % 0x10000
    if (findReg a).isSome then s.flaskRegView f o else 0
  else if 0x1901000 ≤ a ∧ a < 0x1901200 then (if s.debugLocked then 0 else s.dmRead ((a - 0x1901000) / 4))
  else if 0x1810000 ≤ a ∧ a < 0x1890000 then
    match SMap.get? s.tally.log ((a - 0x1810000) / 32) with
    | some e => u32 e.bytes ((a - 0x1810000) % 32)
    | none => 0
  else if a = 0xF00060 then s.ptpNs % 1000000000
  else if a = 0xF00064 then s.ptpNs / 1000000000 % 2 ^ 32
  else if a = 0xF00068 then s.ptpNs / 1000000000 / 2 ^ 32
  else if a = Reg.TL_NEXT_MS then s.nextMs
  else if a = Reg.CV_STATE then setBits (s.regN a) 1 0 s.cvId
  else match inArr a 0x200084 4 8 with
  | some i => s.qctxData i
  | none => match inArr a 0x7000C4 4 16 with
  | some i => u32 s.tmctx (4 * i)
  | none => match inArr a (Reg.EC_QUEUES 0) 0x40000 32 with
  | some c => s.ecQueues c
  | none => match inArr a (Reg.DC_STATE 0) 0x40000 4 with
  | some c => s.dcState c
  | none => if (findReg a).isSome ∨ (hdrOf a).isSome then s.regN a else 0

/-- A GO written to PEEK_CTRL (R125-R127): the word named is read; DOMAIN_OFF and VALID describe this GO. -/
def State.peekGo (s : State) : State :=
  let vf := s.fld Reg.PEEK_CTRL 27 16
  let w := s.regN Reg.PEEK_ADDR
  let a := if vf = 0 then w else flaskWin vf + w % 0x10000
  let on := s.unitOn (unitOfReg a)
  (s.setRegN Reg.PEEK_DATA (if on then s.view a else 0)).setRegN Reg.PEEK_STAT (if on then 1 else 3)

/-- A write of PEEK_CTRL: VF is kept, GO starts a peek, which is over within the command (R126). -/
def State.peekCtrl (s : State) (v : Nat) : State :=
  let t := s.setRegN Reg.PEEK_CTRL (bits v 27 16 * 2 ^ 16)
  if v.testBit 31 then t.peekGo else t

/-! State writes -/

/-- The effect of a guarded write that was completed (R109). -/
def State.guardEffect (s : State) (src : Src) (x v : Nat) : State :=
  if x = Reg.OWN_OVERRIDE then s.override v
  else if x = Reg.RST_CTRL then s.rstCtrl src v
  else if x = Reg.PD_OFF_LO then s.pdOff src false v
  else if x = Reg.PD_OFF_HI then s.pdOff src true v
  else if x = Reg.FUSE_PROG then s.fuseProg src v
  else if x = Reg.KS_ZEROIZE then s.ksZeroize src v
  else if x = Reg.MB_LOCK_FREE then s.mbLockFree v
  else if x = Reg.RSV_FORCE then s.rsvForce src v
  else s

/-- A write of a function's ring register (02 R63). -/
def State.ringWrite (s : State) (fn o : Nat) (v : Word) : State :=
  let a := wbBase fn + o
  if o = 0x08 then nextOf (execWbReqCtrl fn v s) s
  else if o = 0x0C then nextOf (execWbReqProd fn v s) s
  else if o = 0x1C then nextOf (execWbRspCtrl fn v s) s
  else if o = 0x24 then nextOf (execWbRspCons fn v s) s
  else if o = 0x28 then s.statusClear a v.toNat
  else if (o = 0x00 ∨ o = 0x14) ∧ s.ringOpen fn = true then s.setRegN a (setBits v.toNat 5 0 0)
  else if (o = 0x04 ∨ o = 0x18) ∧ s.ringOpen fn = true then s.setRegN a v.toNat
  else s

/-- A write of a mailbox view register (14 R486-R489). -/
def State.mbRegWrite (s : State) (src : Src) (key : Nat) (b : Bool) (o : Nat) (v : Word) : State :=
  let user := MbUser.host src
  if o = 0x00 then nextOf (execMbTx user key b v s) s
  else if o = 0x04 then nextOf (execMbTxEom user key b v s) s
  else if o = 0x0C then s.mbClear user key b v.toNat
  else if o = 0x10 then s.mbSetCtrl user key b v.toNat
  else if o = 0x14 then s.mbLockWrite user key b
  else if o = 0x18 then s.mbSetTimeout user key b v.toNat
  else s

/-- A write of a function's MSI-X table (04 R140, R141). -/
def State.msixWrite (s : State) (fn vec o v : Nat) : State :=
  let a := vecBase fn vec + o
  if s.vectors fn ≤ vec then s
  else if o = 12 then (if v.testBit 0 then s.setRegN a 1 else nextOf (execMsixVectorUnmask fn vec s) s)
  else s.setRegN a v

/-- A write of table command port p (09 R315, R316): a command starts, its issuer kept; one that no row of R316 defines ends BAD_PARAM. -/
def State.tbWrite (s : State) (src : Src) (p o v : Nat) : State :=
  if o ≠ 4 ∧ s.flag (Reg.TB_STAT p) 31 = true then s.raise Ev.lk 7
  else if o = 0 then
    let s1 := s.setRegN (Reg.TB_CMD p) (v &&& 0xF3FC0000)
    let s2 := { s1 with lk := { s1.lk with ports := SMap.put s1.lk.ports p (srcIssuer src) } }
    if 1 ≤ bits v 31 28 ∧ bits v 31 28 ≤ 7 then s2.setFld (Reg.TB_STAT p) 31 31 1 else s2.setFld (Reg.TB_STAT p) 7 0 5
  else if o = 4 then s.setRegN (Reg.TB_BUCKET p) (v % 2 ^ 26)
  else match inArr o 0x40 4 16 with
    | some j => s.setRegN (Reg.TB_DATA p j) v
    | none => s

/-- A write of one word at an offset of the issuer's window, in a unit whose domain is on. -/
def State.wordWrite (s : State) (src : Src) (off : Nat) (v : Word) : State :=
  let a := srcAddr src off
  let n := v.toNat
  match ringReg a with
  | some (fn, o) => s.ringWrite fn o v
  | none => match mbReg a with
  | some (key, b, o) => s.mbRegWrite src key b o v
  | none => match msixReg a with
  | some (fn, vec, o) => s.msixWrite fn vec o n
  | none =>
  if 0x1901000 ≤ a ∧ a < 0x1901200 then (if s.debugLocked then s else s.dmWrite ((a - 0x1901000) / 4) n)
  else if guardedRegs.contains a then s.armGuard src a v
  else if guardedRegs.contains (a - 4) ∧ 4 ≤ a then s.guarded src (a - 4) v (fun x t => t.guardEffect src (a - 4) x)
  else if (statusBits a).isSome then s.statusClear a n
  else if a = Reg.HB_KICK then nextOf (execHbKick src v s) s
  else if a = Reg.PEEK_CTRL then s.peekCtrl n
  else if a = Reg.HE_INTX_ACK0 then nextOf (execIntxAck 0 (n % 2048) s) s
  else if a = Reg.HE_INTX_ACK1 then nextOf (execIntxAck 1 (n % 2048) s) s
  else if 0x601000 ≤ a ∧ a < 0x601200 then s.tbWrite src ((a - 0x601000) / 0x100) ((a - 0x601000) % 0x100) n
  else match findReg a with
  | none => s
  | some d =>
    let old := s.regN a
    let new := old - (old &&& d.rw) + (n &&& d.rw)
    if d.cfg then (if d.rw = 0 then s else s.gatedWrite src off a new)
    else match src with
      | .flask f => if off = 0x2014 ∧ n.testBit 31 = true then nextOf (execFlaskCtrlRelease f (s.setRegN a new)) s else s.setRegN a new
      | _ => s.setRegN a new

/-- A write access (R98, R99, R128; 01 R36): doorbells; a wrong length or alignment; a domain that is off; one word or two, the low one first. -/
def State.busWrite (s : State) (src : Src) (off len : Nat) (v : DWord) : State :=
  let a := srcAddr src off
  if !s.busOpen src off then s
  else if (len ≠ 4 ∧ len ≠ 8) then s.accErr src true off len 1
  else if off % len ≠ 0 then s.accErr src true off len 0
  else if !s.unitOn (unitOfReg a) then s.accErr src true off len 3
  else match doorbellSlot a with
    | some slot => s.doorbell src slot len v.toNat
    | none =>
      let s1 := s.wordWrite src off (v.setWidth 32)
      if len = 8 then s1.wordWrite src (off + 4) ((v >>> 32).setWidth 32) else s1

/-! The commands -/

/-- REGISTER_WRITE (R98, R101, R104, R115). -/
def execRegisterWrite (src : Src) (addr len : Nat) (v : DWord) (s : State) : Host.Outcome State Fault Refusal :=
  finish (s.busWrite src addr len v)

/-- STATUS_CLEAR (R111, R113): a write-back to a status register. -/
def execStatusClear (src : Src) (addr : Nat) (v : Word) (s : State) : Host.Outcome State Fault Refusal :=
  finish (
    let a := srcAddr src addr
    let mb := match mbReg a with | some (_, _, o) => o == 0x0C | none => false
    if (statusBits a).isSome ∨ mb = true then s.busWrite src addr 4 (v.setWidth 64) else s)

/-- The zeros that an access without effect reads. -/
def State.readZeros (s : State) (src : Src) (write : Bool) (len : Nat) : State :=
  if write then s else s.emit (.readData src (zeros len))

/-- ACCESS_ERROR (R99): an access that is partial, unaligned or of another length; a write is discarded, a read returns zeros. -/
def execAccessError (src : Src) (write : Bool) (addr len : Nat) (partialBe : Bool) (s : State) : Host.Outcome State Fault Refusal :=
  finish (if s.busOpen src addr = false then s
    else if len ≠ 4 ∧ len ≠ 8 then (s.accErr src write addr len 1).readZeros src write len
    else if partialBe = true ∨ addr % len ≠ 0 then (s.accErr src write addr len 0).readZeros src write len
    else s)

/-- DOMAIN_OFF_ACCESS (01 R36): an access to a block whose domain is off reads 0 or is discarded, and is logged. -/
def execDomainOffAccess (src : Src) (write : Bool) (addr len : Nat) (s : State) : Host.Outcome State Fault Refusal :=
  finish (if s.busOpen src addr = false ∨ s.unitOn (unitOfReg (srcAddr src addr)) = true then s
    else (s.accErr src write addr len 3).readZeros src write len)

/-- GUARD_VALUE_WRITE (R106, R107): a value write to a guarded register arms its unit's guard. -/
def execGuardValueWrite (src : Src) (addr : Nat) (v : Word) (s : State) : Host.Outcome State Fault Refusal :=
  finish (match src with
    | .flask _ => s
    | _ => if s.busOpen src addr then s.armGuard src addr v else s)

/-- GUARD_WINDOW_EXPIRY (R107): no complement has arrived in the window; the value is discarded and the guard disarms. -/
def execGuardWindowExpiry (unit : Nat) (s : State) : Host.Outcome State Fault Refusal :=
  finish (match SMap.get? s.guards unit with
    | none => s
    | some g => ((s.at g.until_).disarm unit).guardError unit g.addr g.value.toNat g.src)

/-- The complement address addr of a guarded register that the issuer reaches, and whether its unit's guard is armed. -/
def State.complAt (s : State) (src : Src) (addr : Nat) : Option Bool :=
  match src with
  | .flask _ => none
  | _ =>
    if s.busOpen src addr ∧ 4 ≤ addr ∧ guardedRegs.contains (addr - 4) = true then
      (unitOfAddr addr).map (fun u => (SMap.get? s.guards u).isSome)
    else none

/-- COMPLEMENT_WITHOUT_GUARD (R107): a write to X + 4 with no guard armed. -/
def execComplementWithoutGuard (src : Src) (addr : Nat) (v : Word) (s : State) : Host.Outcome State Fault Refusal :=
  finish (if s.complAt src addr = some false then (s.complementWrite src (addr - 4) v).2 else s)

/-- COMPLEMENT_MISMATCH (R107): a write to X + 4 that does not complete the armed guard; one that completes it has its own command. -/
def execComplementMismatch (src : Src) (addr : Nat) (v : Word) (s : State) : Host.Outcome State Fault Refusal :=
  finish (if s.complAt src addr = some true then
      (match s.complementWrite src (addr - 4) v with
       | (none, t) => t
       | (some _, _) => s)
    else s)

/-- PEEK (R125-R127): a write of PEEK_CTRL. -/
def execPeek (src : Src) (v : Word) (s : State) : Host.Outcome State Fault Refusal :=
  finish (match src with
    | .flask _ => s
    | _ => if s.busOpen src Reg.PEEK_CTRL ∧ s.unitOn 54 = true then s.peekCtrl v.toNat else s)

/-- RSV_FORCE (19 R620). -/
def execRsvForce (src : Src) (compl : Word) (s : State) : Host.Outcome State Fault Refusal :=
  finish (s.guarded src Reg.RSV_FORCE compl (fun v t => t.rsvForce src v))

/-- RSV_FORCE with RESTORE (19 R620). -/
def execRsvForceRestore (src : Src) (compl : Word) (s : State) : Host.Outcome State Fault Refusal :=
  finish (s.guarded src Reg.RSV_FORCE compl (fun v t => t.rsvForce src v))

/-! JTAG (20 R650, R651) -/

/-- JTAG_BAR: a read of PF0 BAR0 (or, by the peek path, of flask window vf) without side effects; a write of PF0 BAR0 with the debugger as
issuer, a guarded register's value with its complement as one pair (R108). -/
def execJtagBar (write : Bool) (vf addr : Nat) (v : Word) (s : State) : Host.Outcome State Fault Refusal :=
  finish (
    let a := if vf = 0 then addr else flaskWin vf + addr % 0x10000
    if s.pwr.pwrGoodAon = false ∨ addr % 4 ≠ 0 then s
    else if !write then s.emit (.jtag (leBytes 4 (if s.unitOn (unitOfReg a) then s.view a else 0)))
    else if s.debugLocked = true ∨ vf ≠ 0 then s
    else if guardedRegs.contains addr then
      (s.busWrite .debugger addr 4 (v.setWidth 64)).busWrite .debugger (addr + 4) 4 ((~~~v).setWidth 64)
    else s.busWrite .debugger addr 4 (v.setWidth 64))

/-- JTAG_AOC_CMD: a waybill to the AOC, issuer 0x5000_0000. -/
def execJtagAocCmd (opcode : Half) (w : Waybill) (s : State) : Host.Outcome State Fault Refusal :=
  finish (if s.pwr.pwrGoodAon then s.startAny opcode.toNat { w with inst := .jtag } false else s)

/-- JTAG_DMI (12 R448): a read or write of a debug module register. -/
def execJtagDmi (write : Bool) (n : Nat) (v : Word) (s : State) : Host.Outcome State Fault Refusal :=
  finish (if s.pwr.pwrGoodAon = false ∨ s.debugLocked = true ∨ s.unitOn 54 = false then s
    else if write then s.dmWrite n v.toNat
    else s.emit (.jtag (leBytes 4 (s.dmRead n))))

end Sys2Proof.Machine
end

