-- ==== Sys2Proof/Machine/HostData.lean ====
section
/-!
DEFINITION. HOST_DATA_READ_RETURN (12 R463, 15 R514, 02 R63) and WITHDRAWAL (16 R541, 15 R514, 10 R359, 03 R116 case 5).
-/

namespace Sys2Proof.Machine

open Sys2Proof

/-! Host data -/

/-- Request slots arrive for function fn's ring: no more than were asked for, and none at a ring that is disabled or stopped (R63). -/
def State.ringData (s : State) (fn : Nat) (data : List Byte) : State :=
  let r := s.ring fn
  if r.stopped || !s.flag (wbBase fn + 8) 31 then s
  else s.setRing fn { r with fetched := (r.fetched ++ data).take (r.asked * 64) }

/-- HOST_DATA_READ_RETURN (R463). -/
def execHostDataReadReturn (who : HostReadWho) (data : List Byte) (s : State) : Host.Outcome State Fault Refusal :=
  finish (match who with
    | .mover c => s.mvData c data
    | .block q idx => s.blkData q idx data
    | .ring fn => s.ringData fn data)

/-! Withdrawal -/

/-- Segment k of an area's bytes: the segments an area of GiB units covers, the highest first. -/
def segsOf (seg : Nat) (a : Area) : List Nat :=
  if seg = 0 then [] else ((List.range (a.2 / seg)).map (fun i => a.1 / seg + i)).reverse

/-- Segments that belong to the table pool alone, the highest first (R541 1, 2). -/
def State.poolSegs (s : State) : List Nat :=
  (segsOf s.segBytes (0, s.dr.span)).filter (fun k =>
    !s.dr.withdrawn.contains k && !((s.areas 0).any (fun a => areaHits (k * s.segBytes, s.segBytes) a)))

/-- Table-pool segments that can leave: the generations fit in what stays (R541 1, 2; R305). -/
def State.poolFree (s : State) (n : Nat) : List Nat :=
  s.poolSegs.take (min n (if s.segBytes = 0 then 0 else (s.poolBytes - s.poolUsed) / s.segBytes))

/-- Move the staged data of parts that stand above `top` to places below it; none: it does not fit (R514). -/
def State.restage (s : State) (top : Nat) : List Io → Option State
  | [] => some s
  | x :: r =>
    if x.len = 0 ∨ x.stage + ceilDiv x.len 4096 * 4096 ≤ top then s.restage top r
    else match s.stagePlace x.len with
      | none => none
      | some p =>
        let t := s.dramWrite p (s.dramRead x.stage x.len)
        State.restage { t with dp := { t.dp with ios := t.dp.ios.map (fun y => if y.id == x.id then { y with stage := p } else y) } } top r

/-- Staging is one GiB smaller, its staged data moved; none: it cannot shrink (R541 3). -/
def State.stageLess (s : State) : Option State :=
  let v := s.regN Reg.DP_STAGE
  let g := bits v 20 16
  if g = 0 then none
  else
    let t := s.setCfg 14 Reg.DP_STAGE (setBits v 20 16 (g - 1))
    t.restage (bits v 7 0 * 2 ^ 30 + (g - 1) * 2 ^ 30) s.dp.ios

/-- The spill area is one GiB smaller; none: the spilled cells need it (R541 4). -/
def State.spillLess (s : State) : Option State :=
  let v := s.regN Reg.TM_SPILL_AREA
  let g := bits v 23 16
  if g = 0 ∨ (g - 1) * 2 ^ 22 < s.regN Reg.TM_SPILLED then none
  else some ((s.setCfg 8 Reg.TM_SPILL_AREA (setBits v 23 16 (g - 1))).tmThresholds)

/-- Shrink an area GiB by GiB until it gave n segments; the segments that left it, the highest first. -/
def State.shrink (less : State → Option State) (area : State → Area) : Nat → Nat → State → List Nat × State
  | 0, _, s => ([], s)
  | f + 1, n, s =>
    if n = 0 then ([], s)
    else match less s with
      | none => ([], s)
      | some t =>
        let top := (area t).1 + (area t).2
        let got := segsOf s.segBytes (top, 2 ^ 30)
        let x := State.shrink less area f (n - got.length) t
        (got ++ x.1, x.2)

/-- A sealed unit takes fresh references (03 R116, R119). -/
def State.refreshSealed (s : State) (u : Nat) : State :=
  if s.isSealed u then s.refresh u else s

/-- The segments withdrawn for n slices, in the order of R541, and the state with the areas shrunk. -/
def State.withdraw (s : State) (n : Nat) : List Nat × State :=
  let free := s.poolFree n
  let a := State.shrink State.stageLess (fun t => stageArea (t.regN Reg.DP_STAGE)) 32 (n - free.length) s
  let b := State.shrink State.spillLess (fun t => spillArea (t.regN Reg.TM_SPILL_AREA)) 256 (n - free.length - a.1.length) a.2
  let t1 := if a.1.isEmpty then b.2 else b.2.refreshSealed 14
  let t2 := if b.1.isEmpty then t1 else t1.refreshSealed 8
  ((free ++ a.1 ++ b.1).take n, t2)

/-- What the segments leave behind: poison and injections of their lines go with them (R541). -/
def State.leaveSegs (s : State) (segs : List Nat) : State :=
  let out := fun (l : Nat) => segs.contains (l * 64 / max 1 s.segBytes)
  { s with dram := s.dram.filter (fun c => !segs.contains (c.1 / max 1 s.segBytes)),
           dr := { s.dr with withdrawn := segs.foldl (fun l k => insertNat k l) s.dr.withdrawn,
                             poison := s.dr.poison.filter (fun l => !out l),
                             bad := s.dr.bad.filter (fun e => !out e.1), inject := s.dr.inject.filter (fun e => !out e.1) } }

/-- The withdrawal for rank r of channel c, which has no spare (R541). -/
def State.doWithdraw (s : State) (c r : Nat) : State :=
  let mine := ((s.chan c).slicesOf r).filter (fun e => !s.dr.withdrawn.contains e.1)
  let w := s.withdraw mine.length
  let segs := w.1
  let s1 := w.2.leaveSegs segs
  let cap := (s1.dr.span - s1.dr.withdrawn.length * s1.segBytes) / 2 ^ 30
  let s2 := (s1.setRegN (Reg.DC_CAP 0) cap).raise (Ev.dc c) 5
  let need := mine.filter (fun e => !segs.contains e.1)
  let places := (s2.chan c).map.filter (fun e => segs.contains e.1 && s2.rankSt c e.2.1 == 1)
  let todo := (need.zip places).map (fun x => (x.1.1, x.2.2.1, x.2.2.2))
  let s3 := if segs.length < mine.length then (s2.raise (Ev.dc c) 8).logDegraded 5 (15 + c) false else s2
  let x := s3.chan c
  (s3.setChan c { x with withdrawing := none,
                         mig := some { from_ := r, todo := todo, spare := false, gib := segs.length * s3.segBytes / 2 ^ 30 } }).migReg c

/-- WITHDRAWAL (R541). -/
def execWithdrawal (channel : Nat) (s : State) : Host.Outcome State Fault Refusal :=
  finish (match (s.chan channel).withdrawing with
    | some r => if s.dramServes channel && !s.dr.down then s.doWithdraw channel r else s
    | none => s)

end Sys2Proof.Machine
end

