-- ==== Sys2Proof/Machine/Dispatch.lean ====
section
/-!
DEFINITION. The dispatch: one arm per command, one direct call of its meaning (or a rejection by name).
-/

namespace Sys2Proof.Machine

open Sys2Proof

def exec (i : Instr) (s : State) : Host.Outcome State Fault Refusal :=
  match i with
  | .waybillStart inst => Sys2Proof.Machine.execWaybillStart inst s
  | .undefinedOpcode opcode w => Sys2Proof.Machine.execUndefinedOpcode opcode w s
  | .wbReqProd fn v => Sys2Proof.Machine.execWbReqProd fn v s
  | .wbRspCons fn v => Sys2Proof.Machine.execWbRspCons fn v s
  | .wbReqCtrl fn v => Sys2Proof.Machine.execWbReqCtrl fn v s
  | .wbRspCtrl fn v => Sys2Proof.Machine.execWbRspCtrl fn v s
  | .chainMemberTimeout inst => Sys2Proof.Machine.execChainMemberTimeout inst s
  | .pendingTimeout inst tag => Sys2Proof.Machine.execPendingTimeout inst tag s
  | .electionWindowClose => Sys2Proof.Machine.execElectionWindowClose s
  | .heartbeatDeadline => Sys2Proof.Machine.execHeartbeatDeadline s
  | .hbKick src v => Sys2Proof.Machine.execHbKick src v s
  | .ownOverride src compl => Sys2Proof.Machine.execOwnOverride src compl s
  | .mctpPacket p => Sys2Proof.Machine.execMctpPacket p s
  | .mctpReassemblyTimeout binding eid tag => Sys2Proof.Machine.execMctpReassemblyTimeout binding eid tag s
  | .setEndpointId r => Sys2Proof.Machine.execSetEndpointId r s
  | .getEndpointId r => Sys2Proof.Machine.execGetEndpointId r s
  | .getEndpointUuid r => Sys2Proof.Machine.execGetEndpointUuid r s
  | .getMctpVersionSupport r => Sys2Proof.Machine.execGetMctpVersionSupport r s
  | .getMessageTypeSupport r => Sys2Proof.Machine.execGetMessageTypeSupport r s
  | .getVendorDefinedMessageSupport r => Sys2Proof.Machine.execGetVendorDefinedMessageSupport r s
  | .unsupportedControlCommand r cmd => Sys2Proof.Machine.execUnsupportedControlCommand r cmd s
  | .aocForwardTimeout => Sys2Proof.Machine.execAocForwardTimeout s
  | .devInfo w => Sys2Proof.Machine.execDevInfo w s
  | .claim w => Sys2Proof.Machine.execClaim w s
  | .release w => Sys2Proof.Machine.execRelease w s
  | .grant w => Sys2Proof.Machine.execGrant w s
  | .heartbeat w => Sys2Proof.Machine.execHeartbeat w s
  | .ownerQuery w => Sys2Proof.Machine.execOwnerQuery w s
  | .setHeartbeat w => Sys2Proof.Machine.execSetHeartbeat w s
  | .revoke w => Sys2Proof.Machine.execRevoke w s
  | .sealCommit w => Sys2Proof.Machine.execSealCommit w s
  | .sealQuery w => Sys2Proof.Machine.execSealQuery w s
  | .echo w => Sys2Proof.Machine.execEcho w s
  | .sealSweep unit => Sys2Proof.Machine.execSealSweep unit s
  | .statusClear src addr v => Sys2Proof.Machine.execStatusClear src addr v s
  | .registerWrite src addr len v => Sys2Proof.Machine.execRegisterWrite src addr len v s
  | .accessError src write addr len partialBe => Sys2Proof.Machine.execAccessError src write addr len partialBe s
  | .domainOffAccess src write addr len => Sys2Proof.Machine.execDomainOffAccess src write addr len s
  | .guardValueWrite src addr v => Sys2Proof.Machine.execGuardValueWrite src addr v s
  | .guardWindowExpiry unit => Sys2Proof.Machine.execGuardWindowExpiry unit s
  | .complementWithoutGuard src addr v => Sys2Proof.Machine.execComplementWithoutGuard src addr v s
  | .rstCtrlDevice src compl => Sys2Proof.Machine.execRstCtrlDevice src compl s
  | .rstCtrlUnit src compl => Sys2Proof.Machine.execRstCtrlUnit src compl s
  | .pdOff src hi compl => Sys2Proof.Machine.execPdOff src hi compl s
  | .revokeKey src compl => Sys2Proof.Machine.execRevokeKey src compl s
  | .raiseSvn src compl => Sys2Proof.Machine.execRaiseSvn src compl s
  | .debugLock src compl => Sys2Proof.Machine.execDebugLock src compl s
  | .fuseProgramDone => Sys2Proof.Machine.execFuseProgramDone s
  | .ksZeroize src compl => Sys2Proof.Machine.execKsZeroize src compl s
  | .ksZeroizeAll src compl => Sys2Proof.Machine.execKsZeroizeAll src compl s
  | .mbLockFree src compl => Sys2Proof.Machine.execMbLockFree src compl s
  | .rsvForce src compl => Sys2Proof.Machine.execRsvForce src compl s
  | .rsvForceRestore src compl => Sys2Proof.Machine.execRsvForceRestore src compl s
  | .peek src v => Sys2Proof.Machine.execPeek src v s
  | .flr fn => Sys2Proof.Machine.execFlr fn s
  | .flaskResetDone fn => Sys2Proof.Machine.execFlaskResetDone fn s
  | .hostReadError fn cause ring queue idx addr => Sys2Proof.Machine.execHostReadError fn cause ring queue idx addr s
  | .flaskCtrlRelease f => Sys2Proof.Machine.execFlaskCtrlRelease f s
  | .msixVectorUnmask fn v => Sys2Proof.Machine.execMsixVectorUnmask fn v s
  | .msixEnable fn en => Sys2Proof.Machine.execMsixEnable fn en s
  | .intxAck link v => Sys2Proof.Machine.execIntxAck link v s
  | .hostLinkUp link speed width flit => Sys2Proof.Machine.execHostLinkUp link speed width flit s
  | .hotReset link => Sys2Proof.Machine.execHotReset link s
  | .hostLinkDown link => Sys2Proof.Machine.execHostLinkDown link s
  | .perstN level bootSel convoyId hostBif => Sys2Proof.Machine.execPerstN level bootSel convoyId hostBif s
  | .perst1N level => Sys2Proof.Machine.execPerst1N level s
  | .vfEnableSet link numVFs => Sys2Proof.Machine.execVfEnableSet link numVFs s
  | .vfEnableClear link => Sys2Proof.Machine.execVfEnableClear link s
  | .functionServiceStop fn d3hot => Sys2Proof.Machine.execFunctionServiceStop fn d3hot s
  | .functionServiceResume fn => Sys2Proof.Machine.execFunctionServiceResume fn s
  | .vfBar2SizeWrite link size => Sys2Proof.Machine.execVfBar2SizeWrite link size s
  | .bar2Access src write off len data => Sys2Proof.Machine.execBar2Access src write off len data s
  | .flaskQuery w => Sys2Proof.Machine.execFlaskQuery w s
  | .flaskCreate w => Sys2Proof.Machine.execFlaskCreate w s
  | .flaskDestroy w => Sys2Proof.Machine.execFlaskDestroy w s
  | .flaskSetQuota w => Sys2Proof.Machine.execFlaskSetQuota w s
  | .flaskReset w => Sys2Proof.Machine.execFlaskReset w s
  | .flaskRelease w => Sys2Proof.Machine.execFlaskRelease w s
  | .flaskContain w => Sys2Proof.Machine.execFlaskContain w s
  | .flaskList w => Sys2Proof.Machine.execFlaskList w s
  | .linkQuery w => Sys2Proof.Machine.execLinkQuery w s
  | .wqDoorbell src slot len v => Sys2Proof.Machine.execWqDoorbell src slot len v s
  | .cqDoorbell src slot len v => Sys2Proof.Machine.execCqDoorbell src slot len v s
  | .fetch => Sys2Proof.Machine.execFetch s
  | .fetchReturn q data => Sys2Proof.Machine.execFetchReturn q data s
  | .acceptCommit q => Sys2Proof.Machine.execAcceptCommit q s
  | .payloadReadReturn q idx data => Sys2Proof.Machine.execPayloadReadReturn q idx data s
  | .fragmentTableReturn q idx data => Sys2Proof.Machine.execFragmentTableReturn q idx data s
  | .completionCommit q idx => Sys2Proof.Machine.execCompletionCommit q idx s
  | .completionWrite q => Sys2Proof.Machine.execCompletionWrite q s
  | .moderationTimer c => Sys2Proof.Machine.execModerationTimer c s
  | .rxPrefetch q => Sys2Proof.Machine.execRxPrefetch q s
  | .rxDeliveryCheck q => Sys2Proof.Machine.execRxDeliveryCheck q s
  | .rxHoldExpiry q => Sys2Proof.Machine.execRxHoldExpiry q s
  | .nop q idx => Sys2Proof.Machine.execNop q idx s
  | .send q idx => Sys2Proof.Machine.execSend q idx s
  | .recv q idx => Sys2Proof.Machine.execRecv q idx s
  | .blkRead q idx => Sys2Proof.Machine.execBlkRead q idx s
  | .blkWrite q idx => Sys2Proof.Machine.execBlkWrite q idx s
  | .blkFlush q idx => Sys2Proof.Machine.execBlkFlush q idx s
  | .blkDeallocate q idx => Sys2Proof.Machine.execBlkDeallocate q idx s
  | .blkWriteZeroes q idx => Sys2Proof.Machine.execBlkWriteZeroes q idx s
  | .wqCreate w => Sys2Proof.Machine.execWqCreate w s
  | .wqDestroy w => Sys2Proof.Machine.execWqDestroy w s
  | .wqModify w => Sys2Proof.Machine.execWqModify w s
  | .wqPause w => Sys2Proof.Machine.execWqPause w s
  | .wqPauseDone q => Sys2Proof.Machine.execWqPauseDone q s
  | .wqResume w => Sys2Proof.Machine.execWqResume w s
  | .wqResize w => Sys2Proof.Machine.execWqResize w s
  | .wqShutdown w => Sys2Proof.Machine.execWqShutdown w s
  | .wqShutdownDone q => Sys2Proof.Machine.execWqShutdownDone q s
  | .wqQuery w => Sys2Proof.Machine.execWqQuery w s
  | .cqCreate w => Sys2Proof.Machine.execCqCreate w s
  | .cqDestroy w => Sys2Proof.Machine.execCqDestroy w s
  | .cqModify w => Sys2Proof.Machine.execCqModify w s
  | .cqQuery w => Sys2Proof.Machine.execCqQuery w s
  | .qmSetParams w => Sys2Proof.Machine.execQmSetParams w s
  | .mirrorRowError half row uncorr => Sys2Proof.Machine.execMirrorRowError half row uncorr s
  | .rowRepairDone half row => Sys2Proof.Machine.execRowRepairDone half row s
  | .doubleFault q idx => Sys2Proof.Machine.execDoubleFault q idx s
  | .halfLost half => Sys2Proof.Machine.execHalfLost half s
  | .fallbackCopyDone => Sys2Proof.Machine.execFallbackCopyDone s
  | .halfDomainReturn half => Sys2Proof.Machine.execHalfDomainReturn half s
  | .halfRestoreDone half => Sys2Proof.Machine.execHalfRestoreDone half s
  | .frameReceived port part bytes fcsOk => Sys2Proof.Machine.execFrameReceived port part bytes fcsOk s
  | .macsecReceive frame => Sys2Proof.Machine.execMacsecReceive frame s
  | .parsePass frame faults => Sys2Proof.Machine.execParsePass frame faults s
  | .parseExceptionDelivery => Sys2Proof.Machine.execParseExceptionDelivery s
  | .classifierExceptionDelivery => Sys2Proof.Machine.execClassifierExceptionDelivery s
  | .bankLockTimeout tx => Sys2Proof.Machine.execBankLockTimeout tx s
  | .engineTimeout frame => Sys2Proof.Machine.execEngineTimeout frame s
  | .parseGraphLoad w => Sys2Proof.Machine.execParseGraphLoad w s
  | .parseGraphActivate w => Sys2Proof.Machine.execParseGraphActivate w s
  | .parseGraphRead w => Sys2Proof.Machine.execParseGraphRead w s
  | .parseSetDepth w => Sys2Proof.Machine.execParseSetDepth w s
  | .parseSetExc w => Sys2Proof.Machine.execParseSetExc w s
  | .parseSetGeneve w => Sys2Proof.Machine.execParseSetGeneve w s
  | .parseQuery w => Sys2Proof.Machine.execParseQuery w s
  | .parseTest w => Sys2Proof.Machine.execParseTest w s
  | .clQuery w => Sys2Proof.Machine.execClQuery w s
  | .groupSet w => Sys2Proof.Machine.execGroupSet w s
  | .groupRead w => Sys2Proof.Machine.execGroupRead w s
  | .tollAlloc w => Sys2Proof.Machine.execTollAlloc w s
  | .tollFree w => Sys2Proof.Machine.execTollFree w s
  | .tollQuery w => Sys2Proof.Machine.execTollQuery w s
  | .actionSet w => Sys2Proof.Machine.execActionSet w s
  | .actionRead w => Sys2Proof.Machine.execActionRead w s
  | .ruleAdd w => Sys2Proof.Machine.execRuleAdd w s
  | .ruleDelete w => Sys2Proof.Machine.execRuleDelete w s
  | .ruleModify w => Sys2Proof.Machine.execRuleModify w s
  | .ruleQuery w => Sys2Proof.Machine.execRuleQuery w s
  | .clSetParams w => Sys2Proof.Machine.execClSetParams w s
  | .engineSetDefine w => Sys2Proof.Machine.execEngineSetDefine w s
  | .mirrorSet w => Sys2Proof.Machine.execMirrorSet w s
  | .templateSet w => Sys2Proof.Machine.execTemplateSet w s
  | .clTest w => Sys2Proof.Machine.execClTest w s
  | .clClear w => Sys2Proof.Machine.execClClear w s
  | .clClearDone => Sys2Proof.Machine.execClClearDone s
  | .insert port => Sys2Proof.Machine.execInsert port s
  | .update port => Sys2Proof.Machine.execUpdate port s
  | .replace port => Sys2Proof.Machine.execReplace port s
  | .delete port => Sys2Proof.Machine.execDelete port s
  | .read port => Sys2Proof.Machine.execRead port s
  | .readAt port => Sys2Proof.Machine.execReadAt port s
  | .clearAt port => Sys2Proof.Machine.execClearAt port s
  | .lookupDramRead frame faults => Sys2Proof.Machine.execLookupDramRead frame faults s
  | .copierStep t => Sys2Proof.Machine.execCopierStep t s
  | .tblFlipDone t => Sys2Proof.Machine.execTblFlipDone t s
  | .tableBulkDone t => Sys2Proof.Machine.execTableBulkDone t s
  | .learnInsert => Sys2Proof.Machine.execLearnInsert s
  | .ageSweep t => Sys2Proof.Machine.execAgeSweep t s
  | .tblQuery w => Sys2Proof.Machine.execTblQuery w s
  | .tblCreate w => Sys2Proof.Machine.execTblCreate w s
  | .tblDestroy w => Sys2Proof.Machine.execTblDestroy w s
  | .tblInsert w => Sys2Proof.Machine.execTblInsert w s
  | .tblUpdate w => Sys2Proof.Machine.execTblUpdate w s
  | .tblReplace w => Sys2Proof.Machine.execTblReplace w s
  | .tblDelete w => Sys2Proof.Machine.execTblDelete w s
  | .tblRead w => Sys2Proof.Machine.execTblRead w s
  | .tblWalk w => Sys2Proof.Machine.execTblWalk w s
  | .tblRehash w => Sys2Proof.Machine.execTblRehash w s
  | .tblFlip w => Sys2Proof.Machine.execTblFlip w s
  | .tblRehashCancel w => Sys2Proof.Machine.execTblRehashCancel w s
  | .tblFlush w => Sys2Proof.Machine.execTblFlush w s
  | .tblSetParams w => Sys2Proof.Machine.execTblSetParams w s
  | .lookupProfileSet w => Sys2Proof.Machine.execLookupProfileSet w s
  | .learnProfileSet w => Sys2Proof.Machine.execLearnProfileSet w s
  | .lkSetParams w => Sys2Proof.Machine.execLkSetParams w s
  | .lkTest w => Sys2Proof.Machine.execLkTest w s
  | .tmEnqueue frame => Sys2Proof.Machine.execTmEnqueue frame s
  | .tmDeparture port => Sys2Proof.Machine.execTmDeparture port s
  | .spillReadback frame => Sys2Proof.Machine.execSpillReadback frame s
  | .tmSample q => Sys2Proof.Machine.execTmSample q s
  | .sampleFrameTimer q => Sys2Proof.Machine.execSampleFrameTimer q s
  | .tmqDestroyDone q => Sys2Proof.Machine.execTmqDestroyDone q s
  | .tmQuery w => Sys2Proof.Machine.execTmQuery w s
  | .tmqCreate w => Sys2Proof.Machine.execTmqCreate w s
  | .tmqDestroy w => Sys2Proof.Machine.execTmqDestroy w s
  | .tmqModify w => Sys2Proof.Machine.execTmqModify w s
  | .tmqQuery w => Sys2Proof.Machine.execTmqQuery w s
  | .nodeCreate w => Sys2Proof.Machine.execNodeCreate w s
  | .nodeDestroy w => Sys2Proof.Machine.execNodeDestroy w s
  | .nodeModify w => Sys2Proof.Machine.execNodeModify w s
  | .classSet w => Sys2Proof.Machine.execClassSet w s
  | .portSet w => Sys2Proof.Machine.execPortSet w s
  | .policerSet w => Sys2Proof.Machine.execPolicerSet w s
  | .policerQuery w => Sys2Proof.Machine.execPolicerQuery w s
  | .tmSetBuffer w => Sys2Proof.Machine.execTmSetBuffer w s
  | .segmentDispatch complex lane => Sys2Proof.Machine.execSegmentDispatch complex lane s
  | .segmentDone complex lane => Sys2Proof.Machine.execSegmentDone complex lane s
  | .blockParityError complex lane stage again => Sys2Proof.Machine.execBlockParityError complex lane stage again s
  | .reserveLaneReady complex pass => Sys2Proof.Machine.execReserveLaneReady complex pass s
  | .cmReseed complex => Sys2Proof.Machine.execCmReseed complex s
  | .drbgReseed => Sys2Proof.Machine.execDrbgReseed s
  | .healthTestFail test => Sys2Proof.Machine.execHealthTestFail test s
  | .restartAttemptEnd fail => Sys2Proof.Machine.execRestartAttemptEnd fail s
  | .keyDrainDone slot => Sys2Proof.Machine.execKeyDrainDone slot s
  | .keyEccError slot uncorr => Sys2Proof.Machine.execKeyEccError slot uncorr s
  | .cxQuery w => Sys2Proof.Machine.execCxQuery w s
  | .keyAlloc w => Sys2Proof.Machine.execKeyAlloc w s
  | .keyLoad w => Sys2Proof.Machine.execKeyLoad w s
  | .keyUpdate w => Sys2Proof.Machine.execKeyUpdate w s
  | .keyFree w => Sys2Proof.Machine.execKeyFree w s
  | .keyZeroize w => Sys2Proof.Machine.execKeyZeroize w s
  | .keyQuery w => Sys2Proof.Machine.execKeyQuery w s
  | .tlsResync w => Sys2Proof.Machine.execTlsResync w s
  | .macsecRxscSet w => Sys2Proof.Machine.execMacsecRxscSet w s
  | .cxSetParams w => Sys2Proof.Machine.execCxSetParams w s
  | .cxKat w => Sys2Proof.Machine.execCxKat w s
  | .rngGet w => Sys2Proof.Machine.execRngGet w s
  | .rngQuery w => Sys2Proof.Machine.execRngQuery w s
  | .rngSetParams w => Sys2Proof.Machine.execRngSetParams w s
  | .rngRestart w => Sys2Proof.Machine.execRngRestart w s
  | .threadDispatch hart => Sys2Proof.Machine.execThreadDispatch hart s
  | .timerCompare hart => Sys2Proof.Machine.execTimerCompare hart s
  | .runLimitExpiry hart => Sys2Proof.Machine.execRunLimitExpiry hart s
  | .eventLineEdge cluster line => Sys2Proof.Machine.execEventLineEdge cluster line s
  | .workerFault hart cause sub tval => Sys2Proof.Machine.execWorkerFault hart cause sub tval s
  | .sampleOverflow hart counter pc truePc => Sys2Proof.Machine.execSampleOverflow hart counter pc truePc s
  | .lrReservationExpiry hart => Sys2Proof.Machine.execLrReservationExpiry hart s
  | .engineHardwareFault cluster phys cause selfTest lost => Sys2Proof.Machine.execEngineHardwareFault cluster phys cause selfTest lost s
  | .supervisorFault engine cause sub tval => Sys2Proof.Machine.execSupervisorFault engine cause sub tval s
  | .supervisorAutoRestart engine => Sys2Proof.Machine.execSupervisorAutoRestart engine s
  | .exchangeKillTimeout cluster => Sys2Proof.Machine.execExchangeKillTimeout cluster s
  | .hdrLdB hart => Sys2Proof.Machine.execHdrLdB hart s
  | .hdrLdH hart => Sys2Proof.Machine.execHdrLdH hart s
  | .hdrLdW hart => Sys2Proof.Machine.execHdrLdW hart s
  | .hdrLdD hart => Sys2Proof.Machine.execHdrLdD hart s
  | .hdrStB hart => Sys2Proof.Machine.execHdrStB hart s
  | .hdrStH hart => Sys2Proof.Machine.execHdrStH hart s
  | .hdrStW hart => Sys2Proof.Machine.execHdrStW hart s
  | .hdrStD hart => Sys2Proof.Machine.execHdrStD hart s
  | .pktRd hart => Sys2Proof.Machine.execPktRd hart s
  | .pktWr hart => Sys2Proof.Machine.execPktWr hart s
  | .pktAdj hart => Sys2Proof.Machine.execPktAdj hart s
  | .metaRd hart => Sys2Proof.Machine.execMetaRd hart s
  | .metaWr hart => Sys2Proof.Machine.execMetaWr hart s
  | .dispose hart => Sys2Proof.Machine.execDispose hart s
  | .tlk hart => Sys2Proof.Machine.execTlk hart s
  | .ctFind hart => Sys2Proof.Machine.execCtFind hart s
  | .ctIns hart => Sys2Proof.Machine.execCtIns hart s
  | .ctDel hart => Sys2Proof.Machine.execCtDel hart s
  | .cntAdd hart => Sys2Proof.Machine.execCntAdd hart s
  | .enq hart => Sys2Proof.Machine.execEnq hart s
  | .rateSet hart => Sys2Proof.Machine.execRateSet hart s
  | .crypt hart => Sys2Proof.Machine.execCrypt hart s
  | .rand hart => Sys2Proof.Machine.execRand hart s
  | .yield hart => Sys2Proof.Machine.execYield hart s
  | .waitT hart => Sys2Proof.Machine.execWaitT hart s
  | .tres hart => Sys2Proof.Machine.execTres hart s
  | .tregR hart => Sys2Proof.Machine.execTregR hart s
  | .tregW hart => Sys2Proof.Machine.execTregW hart s
  | .radd hart => Sys2Proof.Machine.execRadd hart s
  | .rsub hart => Sys2Proof.Machine.execRsub hart s
  | .rmul hart => Sys2Proof.Machine.execRmul hart s
  | .rdiv hart => Sys2Proof.Machine.execRdiv hart s
  | .rmin hart => Sys2Proof.Machine.execRmin hart s
  | .rmax hart => Sys2Proof.Machine.execRmax hart s
  | .rcvtWu hart => Sys2Proof.Machine.execRcvtWu hart s
  | .rcvtR hart => Sys2Proof.Machine.execRcvtR hart s
  | .ecall hart => Sys2Proof.Machine.execEcall hart s
  | .ebreak hart => Sys2Proof.Machine.execEbreak hart s
  | .debugHalt hart => Sys2Proof.Machine.execDebugHalt hart s
  | .debugResume hart => Sys2Proof.Machine.execDebugResume hart s
  | .hartreset hart => Sys2Proof.Machine.execHartreset hart s
  | .abstractAccessRegister hart command => Sys2Proof.Machine.execAbstractAccessRegister hart command s
  | .abstractAccessMemory hart command => Sys2Proof.Machine.execAbstractAccessMemory hart command s
  | .engQuery w => Sys2Proof.Machine.execEngQuery w s
  | .engLoad w => Sys2Proof.Machine.execEngLoad w s
  | .engSwap w => Sys2Proof.Machine.execEngSwap w s
  | .engReadBank w => Sys2Proof.Machine.execEngReadBank w s
  | .engSetParams w => Sys2Proof.Machine.execEngSetParams w s
  | .engDramWin w => Sys2Proof.Machine.execEngDramWin w s
  | .engLineSet w => Sys2Proof.Machine.execEngLineSet w s
  | .engCtSet w => Sys2Proof.Machine.execEngCtSet w s
  | .engThreadQuery w => Sys2Proof.Machine.execEngThreadQuery w s
  | .engCntRead w => Sys2Proof.Machine.execEngCntRead w s
  | .engMemRead w => Sys2Proof.Machine.execEngMemRead w s
  | .engMemWrite w => Sys2Proof.Machine.execEngMemWrite w s
  | .engRestartSup w => Sys2Proof.Machine.execEngRestartSup w s
  | .mvCopy chan => Sys2Proof.Machine.execMvCopy chan s
  | .mvGather chan => Sys2Proof.Machine.execMvGather chan s
  | .mvScatter chan => Sys2Proof.Machine.execMvScatter chan s
  | .mvInterleave chan => Sys2Proof.Machine.execMvInterleave chan s
  | .mvDeinterleave chan => Sys2Proof.Machine.execMvDeinterleave chan s
  | .mvBitplane chan => Sys2Proof.Machine.execMvBitplane chan s
  | .mvBitplaneInv chan => Sys2Proof.Machine.execMvBitplaneInv chan s
  | .mvFill chan => Sys2Proof.Machine.execMvFill chan s
  | .mvRandom chan => Sys2Proof.Machine.execMvRandom chan s
  | .moverDescriptorStart chan => Sys2Proof.Machine.execMoverDescriptorStart chan s
  | .chunkWritten chan => Sys2Proof.Machine.execChunkWritten chan s
  | .barrierReadReturn chan => Sys2Proof.Machine.execBarrierReadReturn chan s
  | .moverFault chan => Sys2Proof.Machine.execMoverFault chan s
  | .engineRingProd cluster => Sys2Proof.Machine.execEngineRingProd cluster s
  | .mvQuery w => Sys2Proof.Machine.execMvQuery w s
  | .mvBind w => Sys2Proof.Machine.execMvBind w s
  | .mvChanSet w => Sys2Proof.Machine.execMvChanSet w s
  | .mvSetParams w => Sys2Proof.Machine.execMvSetParams w s
  | .mvEngRing w => Sys2Proof.Machine.execMvEngRing w s
  | .mvChanQuery w => Sys2Proof.Machine.execMvChanQuery w s
  | .mbTx user key side w => Sys2Proof.Machine.execMbTx user key side w s
  | .mbTxEom user key side w => Sys2Proof.Machine.execMbTxEom user key side w s
  | .mbRx user key side => Sys2Proof.Machine.execMbRx user key side s
  | .mbLockRead user key side => Sys2Proof.Machine.execMbLockRead user key side s
  | .mbLockWrite user key side => Sys2Proof.Machine.execMbLockWrite user key side s
  | .mbSendTimeout key side => Sys2Proof.Machine.execMbSendTimeout key side s
  | .mbWakeDone key side => Sys2Proof.Machine.execMbWakeDone key side s
  | .wakeFail key side => Sys2Proof.Machine.execWakeFail key side s
  | .driveInserted port => Sys2Proof.Machine.execDriveInserted port s
  | .driveStartStepDone port done => Sys2Proof.Machine.execDriveStartStepDone port done s
  | .driveStartStepTimeout port => Sys2Proof.Machine.execDriveStartStepTimeout port s
  | .driveRemoved port => Sys2Proof.Machine.execDriveRemoved port s
  | .driveLinkDown port => Sys2Proof.Machine.execDriveLinkDown port s
  | .drivePowerFault port => Sys2Proof.Machine.execDrivePowerFault port s
  | .attentionButton port => Sys2Proof.Machine.execAttentionButton port s
  | .blinkExpiry port => Sys2Proof.Machine.execBlinkExpiry port s
  | .shutdownComplete port => Sys2Proof.Machine.execShutdownComplete port s
  | .driveCmdTimeout port cid => Sys2Proof.Machine.execDriveCmdTimeout port cid s
  | .controllerFatal port => Sys2Proof.Machine.execControllerFatal port s
  | .controllerResetDone port ok => Sys2Proof.Machine.execControllerResetDone port ok s
  | .nvmeCompletion src cid cqe data => Sys2Proof.Machine.execNvmeCompletion src cid cqe data s
  | .driveDmaRequest port write addr len data => Sys2Proof.Machine.execDriveDmaRequest port write addr len data s
  | .c2hdata t cid off data last success => Sys2Proof.Machine.execC2hdata t cid off data last success s
  | .readyToTransfer t cid ttag off len => Sys2Proof.Machine.execReadyToTransfer t cid ttag off len s
  | .dataDigestError t cid => Sys2Proof.Machine.execDataDigestError t cid s
  | .connectionClose t header => Sys2Proof.Machine.execConnectionClose t header s
  | .tcpRto t conn => Sys2Proof.Machine.execTcpRto t conn s
  | .reconnectTimeout t => Sys2Proof.Machine.execReconnectTimeout t s
  | .drvQuery w => Sys2Proof.Machine.execDrvQuery w s
  | .drvPower w => Sys2Proof.Machine.execDrvPower w s
  | .drvAdmin w => Sys2Proof.Machine.execDrvAdmin w s
  | .tgtConnect w => Sys2Proof.Machine.execTgtConnect w s
  | .tgtDisconnect w => Sys2Proof.Machine.execTgtDisconnect w s
  | .tgtQuery w => Sys2Proof.Machine.execTgtQuery w s
  | .vbfCreate w => Sys2Proof.Machine.execVbfCreate w s
  | .vbfDestroy w => Sys2Proof.Machine.execVbfDestroy w s
  | .extentSet w => Sys2Proof.Machine.execExtentSet w s
  | .vbfQuery w => Sys2Proof.Machine.execVbfQuery w s
  | .dpSetParams w => Sys2Proof.Machine.execDpSetParams w s
  | .drvPortSet w => Sys2Proof.Machine.execDrvPortSet w s
  | .mbAssign w => Sys2Proof.Machine.execMbAssign w s
  | .efRouteSet w => Sys2Proof.Machine.execEfRouteSet w s
  | .efSetSampleVec w => Sys2Proof.Machine.execEfSetSampleVec w s
  | .dramRequest channel reqs => Sys2Proof.Machine.execDramRequest channel reqs s
  | .refresh channel rank => Sys2Proof.Machine.execRefresh channel rank s
  | .mr4Read channel temps => Sys2Proof.Machine.execMr4Read channel temps s
  | .dramCorrectableError line => Sys2Proof.Machine.execDramCorrectableError line s
  | .dramUncorrectableError line use => Sys2Proof.Machine.execDramUncorrectableError line use s
  | .patrolScrub channel => Sys2Proof.Machine.execPatrolScrub channel s
  | .retrainRound channel drifted => Sys2Proof.Machine.execRetrainRound channel drifted s
  | .migrationStep channel => Sys2Proof.Machine.execMigrationStep channel s
  | .withdrawal channel => Sys2Proof.Machine.execWithdrawal channel s
  | .dcQuery w => Sys2Proof.Machine.execDcQuery w s
  | .dcSetParams w => Sys2Proof.Machine.execDcSetParams w s
  | .dcRankRetire w => Sys2Proof.Machine.execDcRankRetire w s
  | .dcRetrain w => Sys2Proof.Machine.execDcRetrain w s
  | .dcErrInject w => Sys2Proof.Machine.execDcErrInject w s
  | .caravanTrainingAttempt port ok => Sys2Proof.Machine.execCaravanTrainingAttempt port ok s
  | .ident port info => Sys2Proof.Machine.execIdent port info s
  | .flit port bytes => Sys2Proof.Machine.execFlit port bytes s
  | .nak port last => Sys2Proof.Machine.execNak port last s
  | .ackTimeout port => Sys2Proof.Machine.execAckTimeout port s
  | .caravanLaneFault port lane => Sys2Proof.Machine.execCaravanLaneFault port lane s
  | .widthProposal port mask id ack => Sys2Proof.Machine.execWidthProposal port mask id ack s
  | .caravanLinkDown port => Sys2Proof.Machine.execCaravanLinkDown port s
  | .retrainTimeout port => Sys2Proof.Machine.execRetrainTimeout port s
  | .routeReturn device => Sys2Proof.Machine.execRouteReturn device s
  | .seqSync peer executed next => Sys2Proof.Machine.execSeqSync peer executed next s
  | .void peer floor => Sys2Proof.Machine.execVoid peer floor s
  | .controlRequest peer seq body => Sys2Proof.Machine.execControlRequest peer seq body s
  | .convoyFrame port => Sys2Proof.Machine.execConvoyFrame port s
  | .digestPublish => Sys2Proof.Machine.execDigestPublish s
  | .digestTimeout device => Sys2Proof.Machine.execDigestTimeout device s
  | .ownershipAckTimeout => Sys2Proof.Machine.execOwnershipAckTimeout s
  | .partitionChange links => Sys2Proof.Machine.execPartitionChange links s
  | .autoClaim => Sys2Proof.Machine.execAutoClaim s
  | .cvQuery w => Sys2Proof.Machine.execCvQuery w s
  | .cvSetParams w => Sys2Proof.Machine.execCvSetParams w s
  | .cpSet w => Sys2Proof.Machine.execCpSet w s
  | .cpRetrain w => Sys2Proof.Machine.execCpRetrain w s
  | .cvPortBackup w => Sys2Proof.Machine.execCvPortBackup w s
  | .cvForward w => Sys2Proof.Machine.execCvForward w s
  | .cvForwardReply peer seq bytes => Sys2Proof.Machine.execCvForwardReply peer seq bytes s
  | .cvSealCommit w => Sys2Proof.Machine.execCvSealCommit w s
  | .cvSealQuery w => Sys2Proof.Machine.execCvSealQuery w s
  | .netLinkUp port => Sys2Proof.Machine.execNetLinkUp port s
  | .netLinkDown port why => Sys2Proof.Machine.execNetLinkDown port why s
  | .anRestart port => Sys2Proof.Machine.execAnRestart port s
  | .pause port quanta => Sys2Proof.Machine.execPause port quanta s
  | .pfc port enable quanta => Sys2Proof.Machine.execPfc port enable quanta s
  | .pauseExpiry port cls => Sys2Proof.Machine.execPauseExpiry port cls s
  | .pfcRefresh port prio => Sys2Proof.Machine.execPfcRefresh port prio s
  | .frameTxDone port => Sys2Proof.Machine.execFrameTxDone port s
  | .txFaultOnWire port sent cellsLost => Sys2Proof.Machine.execTxFaultOnWire port sent cellsLost s
  | .ppsOut => Sys2Proof.Machine.execPpsOut s
  | .ppsIn => Sys2Proof.Machine.execPpsIn s
  | .npQuery w => Sys2Proof.Machine.execNpQuery w s
  | .npLaneSet w => Sys2Proof.Machine.execNpLaneSet w s
  | .npPortSet w => Sys2Proof.Machine.execNpPortSet w s
  | .npRetrain w => Sys2Proof.Machine.execNpRetrain w s
  | .ptpGet w => Sys2Proof.Machine.execPtpGet w s
  | .ptpAdjust w => Sys2Proof.Machine.execPtpAdjust w s
  | .ptpPpsSet w => Sys2Proof.Machine.execPtpPpsSet w s
  | .tallyMarkTimer => Sys2Proof.Machine.execTallyMarkTimer s
  | .tallyGather => Sys2Proof.Machine.execTallyGather s
  | .partFault kind index cause => Sys2Proof.Machine.execPartFault kind index cause s
  | .healthSectorWrite => Sys2Proof.Machine.execHealthSectorWrite s
  | .controlCoreFault core => Sys2Proof.Machine.execControlCoreFault core s
  | .reserveCoreReady pass => Sys2Proof.Machine.execReserveCoreReady pass s
  | .sramRowFault array row lost => Sys2Proof.Machine.execSramRowFault array row lost s
  | .marginRead islands parts => Sys2Proof.Machine.execMarginRead islands parts s
  | .tallyQuery w => Sys2Proof.Machine.execTallyQuery w s
  | .tallySet w => Sys2Proof.Machine.execTallySet w s
  | .tallyMark w => Sys2Proof.Machine.execTallyMark w s
  | .tallyRead w => Sys2Proof.Machine.execTallyRead w s
  | .logRead w => Sys2Proof.Machine.execLogRead w s
  | .lastwordRead w => Sys2Proof.Machine.execLastwordRead w s
  | .lastwordClear w => Sys2Proof.Machine.execLastwordClear w s
  | .faultQuery w => Sys2Proof.Machine.execFaultQuery w s
  | .faultSetParams w => Sys2Proof.Machine.execFaultSetParams w s
  | .reserveQuery w => Sys2Proof.Machine.execReserveQuery w s
  | .reserveRetire w => Sys2Proof.Machine.execReserveRetire w s
  | .powerOn => Sys2Proof.Machine.execPowerOn s
  | .pwrGoodAon => Sys2Proof.Machine.execPwrGoodAon s
  | .pwrGoodRise => Sys2Proof.Machine.execPwrGoodRise s
  | .pwrGoodFall => Sys2Proof.Machine.execPwrGoodFall s
  | .railUndervoltage => Sys2Proof.Machine.execRailUndervoltage s
  | .bootStepDone ok train => Sys2Proof.Machine.execBootStepDone ok train s
  | .bootWatchdog => Sys2Proof.Machine.execBootWatchdog s
  | .domainSwitchDone domain => Sys2Proof.Machine.execDomainSwitchDone domain s
  | .pdSetDone domain => Sys2Proof.Machine.execPdSetDone domain s
  | .unitResetDone unit => Sys2Proof.Machine.execUnitResetDone unit s
  | .temperatureRead temps power => Sys2Proof.Machine.execTemperatureRead temps power s
  | .throttleStep => Sys2Proof.Machine.execThrottleStep s
  | .refclkLost => Sys2Proof.Machine.execRefclkLost s
  | .avsRetry => Sys2Proof.Machine.execAvsRetry s
  | .deviceResetDelayExpiry => Sys2Proof.Machine.execDeviceResetDelayExpiry s
  | .jtagBar write vf addr v => Sys2Proof.Machine.execJtagBar write vf addr v s
  | .jtagAocCmd opcode w => Sys2Proof.Machine.execJtagAocCmd opcode w s
  | .jtagDmi write n v => Sys2Proof.Machine.execJtagDmi write n v s
  | .pwrQuery w => Sys2Proof.Machine.execPwrQuery w s
  | .clkQuery w => Sys2Proof.Machine.execClkQuery w s
  | .pdSet w => Sys2Proof.Machine.execPdSet w s
  | .pdForce w => Sys2Proof.Machine.execPdForce w s
  | .deviceReset w => Sys2Proof.Machine.execDeviceReset w s
  | .unitReset w => Sys2Proof.Machine.execUnitReset w s
  | .fwQuery w => Sys2Proof.Machine.execFwQuery w s
  | .fwWrite w => Sys2Proof.Machine.execFwWrite w s
  | .fwSlotSwitch w => Sys2Proof.Machine.execFwSlotSwitch w s
  | .clkSet w => Sys2Proof.Machine.execClkSet w s
  | .thermSet w => Sys2Proof.Machine.execThermSet w s
  | .dbgUnlock w => Sys2Proof.Machine.execDbgUnlock w s
  | .complementMismatch src addr v => Sys2Proof.Machine.execComplementMismatch src addr v s
  | .riscvInstruction hart => Sys2Proof.Machine.execRiscvInstruction hart s
  | .hostDataReadReturn who data => Sys2Proof.Machine.execHostDataReadReturn who data s
  | .targetConnected t info => Sys2Proof.Machine.execTargetConnected t info s
  | .zeroizeDone => Sys2Proof.Machine.execZeroizeDone s
  | .flashWriteDone => Sys2Proof.Machine.execFlashWriteDone s
  | .voltageConfirmed mv => Sys2Proof.Machine.execVoltageConfirmed mv s
  | .vddAonLoss => Sys2Proof.Machine.execVddAonLoss s
  | .railReturn => Sys2Proof.Machine.execRailReturn s
  | .ppsOutEnd => Sys2Proof.Machine.execPpsOutEnd s
  | .setdasa addr => Sys2Proof.Machine.execSetdasa addr s
  | .entdaa addr => Sys2Proof.Machine.execEntdaa addr s

end Sys2Proof.Machine
end

