-- ==== Sys2Proof/Safety.lean ====
section
/-!
DEFINITION. The terms claims are made in: a command ends in a state, a waybill is accepted and carried out, what its replies leave,
what a canonical form is, and the invariants of the block.
-/

namespace Sys2Proof.Machine

open Sys2Proof

/-- The command i, run in s, ends in the next state t with the output pins settled. -/
def Ends (i : Instr) (s t : State) : Prop := exec i s = .next t.settle

/-! Waybills (00 R17; 02 R47-R77) -/

/-- The state a waybill starts in, whether it runs as a member of a chain, and whether interim replies are written (02 R69, R74-R76);
none: it does not start now, or it stops a chain. -/
def starts (m : OpMeta) (w : Waybill) (s0 : State) : Option (State × Bool × Bool) :=
  let s := s0.noteBmc w.inst
  if !s.fwServes then
    if aocInstance w.inst && (m.wedged || (m.recovery && s.pwr.recovery)) then some (s, false, false) else none
  else
    let isD := effCls m s w == .d
    if (isD && dExcluded s (derivedIssuer w.inst)) || heldBySame m s w then none
    else match s.chainOf w.inst with
    | none =>
      if w.chain then some (s.setChain w.inst (some ⟨w.inst, word (derivedIssuer w.inst), 1, isD, .member⟩), true, true)
      else some (s, false, true)
    | some c => match c.st with
      | .next dl =>
        if dl < s.now ∨ 16 ≤ c.len then none
        else some (s.setChain w.inst (some { c with len := c.len + 1, hasD := c.hasD || isD, st := .member }), true, true)
      | _ => none

/-- Reply slots a waybill reserves (02 R62). -/
def slotsOf (m : OpMeta) (w : Waybill) (u : State) : Nat := reservation u w.inst m.maxRes m.canPend

/-- A waybill that starts reserves its reply slots; its checks are then made in this state (02 R62). -/
def begins (m : OpMeta) (w : Waybill) (s : State) : Option (State × Bool × Bool) :=
  (starts m w s).map (fun x => (x.1.reserve w.inst (slotsOf m w x.1), x.2))

/-- A waybill that starts and passes every check of 00 R17: the state its opcode acts on, its place in a chain, interim replies. -/
def accepted (m : OpMeta) (w : Waybill) (s : State) : Option (State × Bool × Bool) :=
  match begins m w s with
  | some x => if checks m x.1 w = none then some x else none
  | none => none

/-- The state after the final reply of an accepted waybill whose opcode left t: status st, result res (02 R51-R53, R62, R74). -/
def answered (m : OpMeta) (w : Waybill) (u : State) (inChain : Bool) (st : Status) (res : List Byte) (t : State) : State :=
  (t.finalReply w.inst w.mtag m.opcode w.flags w.tag m.cls (slotsOf m w u) inChain st res).settle

/-- No interim reply is written (02 R53, R93). -/
def interimOff (m : OpMeta) (w : Waybill) (interim : Bool) : Bool := suppressed m.cls w.flags .pending || !interim || !m.canPend

/-- The state after an accepted waybill is PENDING: the interim reply, and the waybill with what ends it, what it holds and its time
limit (02 R52, R62, R72, R77). -/
def pended (m : OpMeta) (w : Waybill) (u : State) (inChain interim : Bool) (wait : Wait) (limit : Nat) (obj : Option Obj)
    (t : State) : State :=
  let off := interimOff m w interim
  let t1 := if off then t
    else (t.unreserve w.inst 1).sendReply w.inst w.mtag
      (replyBytes m.opcode 0 0 w.tag.toNat Status.pending.code 0 (t.scopeEpoch w.inst w.flags) []) false
  let p : PendWb :=
    { inst := w.inst, opcode := BitVec.ofNat 16 m.opcode, tag := w.tag, flags := w.flags,
      issuer := word (derivedIssuer w.inst), cls := effCls m u w, obj := obj, mtag := w.mtag, chain := inChain,
      slots := if off then slotsOf m w u else slotsOf m w u - 1, deadline := t1.now + limit, wait := wait }
  State.settle { t1 with wb := { t1.wb with pend := t1.wb.pend ++ [p] } }

/-- Waybill w of the command k, accepted with u as the state its opcode acts on, completes with this status and result and leaves t. -/
def Carries (k : Waybill → Instr) (m : OpMeta) (w : Waybill) (u : State) (st : Status) (res : List Byte) (t : State) : Prop :=
  ∀ s c i, accepted m w s = some (u, c, i) → exec (k w) s = .next (answered m w u c st res t)

/-- Waybill w of the command k, accepted with u and fewer than 64 waybills of its instance PENDING (02 R72), becomes PENDING and leaves
t. -/
def Pends (k : Waybill → Instr) (m : OpMeta) (w : Waybill) (u : State) (wait : Wait) (limit : Nat) (obj : Option Obj)
    (t : State) : Prop :=
  ∀ s c i, accepted m w s = some (u, c, i) → u.pendCount w.inst < 64 →
    exec (k w) s = .next (pended m w u c i wait limit obj t)

/-- The bytes of a waybill as R47 lays them out. -/
def waybillBytes (opcode : Half) (w : Waybill) : List Byte :=
  leBytes 2 opcode.toNat ++ leBytes 1 w.flags.toNat ++ leBytes 1 w.version.toNat ++ leBytes 2 w.params.length
    ++ leBytes 2 w.tag.toNat ++ leBytes 4 w.issuer.toNat ++ leBytes 4 w.epoch.toNat ++ w.params

/-! Guarded writes (03 R106, R107) -/

/-- The write compl at X + 4, with X = addr, completes the armed guard of X: same issuer, the bitwise complement of the value v, in time. -/
def Completes (s : State) (src : Src) (addr : Nat) (compl v : Word) : Prop :=
  ∃ u g, unitOfAddr addr = some u ∧ s.unitOn u = true ∧ SMap.get? s.guards u = some g ∧ g.addr = addr ∧ g.src = src ∧
    g.value = v ∧ v = ~~~compl ∧ s.now ≤ g.until_

/-- The state a completed guarded write acts on: the guard is disarmed and the write is logged. -/
def State.guardTaken (s : State) (src : Src) (addr : Nat) (v : Word) : State :=
  let u := (unitOfAddr addr).getD 0
  (s.disarm u).logKind (unitRange u) 1 u 0 (srcIssuer src) (leBytes 4 addr ++ leBytes 4 v.toNat)

/-! Instructions of the packet engines (12 R407, R429) -/

/-- Thread h runs, its next instruction is the word w of the kind op, and no execute trigger stops it (12 R429, R448). -/
def State.atInstr (s : State) (h : Nat) (op : EngOp) (w : Nat) : Prop :=
  h < 2048 ∧ (s.hart h).st = .running ∧ (s.hart h).wait = none ∧ s.inService (21 + hartCl h) = true ∧ engOp w = op ∧
    s.trigHit h 2 (s.hart h).pc.toNat = false ∧ ∃ raw n, s.fetch h = .ok (raw, w, n)

/-- The instruction of thread h that left s has retired: the PC is pc, its slot counts, ev are its counter events (12 R441-R449). -/
def State.retired (s : State) (h : Nat) (pc : DWord) (ev : List Nat) : State := (s.retire h pc ev).stepEnd h

/-- Thread h has taken trap e in place of its instruction (12 R421, R448). -/
def State.trapped (s : State) (h : Nat) (e : Trap) : State := (s.takeTrap h e).stepEnd h

/-- The pairs of 12 R439 without a NaN, with the results of RADD, RSUB, RMUL, RDIV, RMIN and RMAX: value and flags (DENORM 1, SAT 2,
INVALID 4). -/
def rateExtremes : List (Nat × Nat × List (Nat × Nat)) :=
  [(0x1, 0x3F800000, [(0x3F800000, 1), (0xBF800000, 1), (0x0, 1), (0x0, 1), (0x0, 1), (0x3F800000, 1)]),
   (0x3F800000, 0x1, [(0x3F800000, 1), (0x3F800000, 1), (0x0, 1), (0x7F7FFFFF, 3), (0x0, 1), (0x3F800000, 1)]),
   (0x1, 0x1, [(0x0, 1), (0x0, 1), (0x0, 1), (0x7FC00000, 5), (0x0, 1), (0x0, 1)]),
   (0x7F7FFFFF, 0x3F800000, [(0x7F7FFFFF, 0), (0x7F7FFFFF, 0), (0x7F7FFFFF, 0), (0x7F7FFFFF, 0), (0x3F800000, 0), (0x7F7FFFFF, 0)]),
   (0x3F800000, 0x7F7FFFFF, [(0x7F7FFFFF, 0), (0xFF7FFFFF, 0), (0x7F7FFFFF, 0), (0x0, 1), (0x3F800000, 0), (0x7F7FFFFF, 0)]),
   (0x7F7FFFFF, 0x7F7FFFFF, [(0x7F7FFFFF, 2), (0x0, 0), (0x7F7FFFFF, 2), (0x3F800000, 0), (0x7F7FFFFF, 0), (0x7F7FFFFF, 0)]),
   (0x7F7FFFFF, 0xFF7FFFFF, [(0x0, 0), (0x7F7FFFFF, 2), (0xFF7FFFFF, 2), (0xBF800000, 0), (0xFF7FFFFF, 0), (0x7F7FFFFF, 0)]),
   (0x0, 0x3F800000, [(0x3F800000, 0), (0xBF800000, 0), (0x0, 0), (0x0, 0), (0x0, 0), (0x3F800000, 0)]),
   (0x80000000, 0x3F800000, [(0x3F800000, 0), (0xBF800000, 0), (0x0, 0), (0x0, 0), (0x0, 0), (0x3F800000, 0)]),
   (0x3F800000, 0x0, [(0x3F800000, 0), (0x3F800000, 0), (0x0, 0), (0x7F7FFFFF, 2), (0x0, 0), (0x3F800000, 0)]),
   (0x3F800000, 0x80000000, [(0x3F800000, 0), (0x3F800000, 0), (0x0, 0), (0x7F7FFFFF, 2), (0x0, 0), (0x3F800000, 0)]),
   (0x0, 0x0, [(0x0, 0), (0x0, 0), (0x0, 0), (0x7FC00000, 4), (0x0, 0), (0x0, 0)]),
   (0x0, 0x80000000, [(0x0, 0), (0x0, 0), (0x0, 0), (0x7FC00000, 4), (0x0, 0), (0x0, 0)]),
   (0x80000000, 0x0, [(0x0, 0), (0x0, 0), (0x0, 0), (0x7FC00000, 4), (0x0, 0), (0x0, 0)]),
   (0x80000000, 0x80000000, [(0x0, 0), (0x0, 0), (0x0, 0), (0x7FC00000, 4), (0x0, 0), (0x0, 0)])]

/-- Register number rs of thread h. -/
def State.xr (s : State) (h rs : Nat) : DWord := (s.hart h).rx rs

/-- Register rd of thread h takes v. -/
def State.putX (s : State) (h rd v : Nat) : State := s.setHart h ((s.hart h).wx rd (BitVec.ofNat 64 v))

/-! Invariants -/

/-- The output pins show the levels that the state drives (20 R646, R647). -/
def PinsSettled (s : State) : Prop := s.pins = s.pinsOf

end Sys2Proof.Machine
end

