-- ==== Sys2Proof/Certificates/Slice0/Obligations.lean ====
section
/-!
DEFINITION. The statements for the provers: the framework, what every command completes with, invariants and frames. Where a statement says
`Carries` or `Pends` it speaks of a waybill that is accepted (Safety.lean), with u the state its opcode acts on.
-/

open Sys2Proof Sys2Proof.Machine

/-! The queue of commands, the framework (00, 02) -/

/-- A step takes the command at the front of the queue and runs it on the state with the queue's rest; an empty queue leaves the state as
it is (the model's queue, log entry 35). -/
def Obligations.StepRunsTheFrontCommand : Prop :=
  (∀ (s : State) (c : Instr) (rest : List Instr), s.pending = c :: rest → step s = exec c { s with pending := rest }) ∧
  (∀ s : State, s.pending = [] → step s = .next s)

/-- No command stops the block: every command in every state ends in a next state. -/
def Obligations.EveryCommandEndsInANextState : Prop := ∀ (i : Instr) (s : State), ∃ t, exec i s = .next t

/-- Every step leaves the output pins at the levels that the state drives. -/
def Obligations.PinsFollowTheStateAtEveryStep : Prop :=
  ∀ s t : State, PinsSettled s → step s = .next t → PinsSettled t

/-- Right after a power-on reset: the pins show what the state drives, no waybill has arrived or is PENDING, no event is logged or queued,
device DRAM lists no byte, ownership is NONE with no drover, and HB_PERIOD is 100 ms. -/
def Obligations.ResetLeaves : Prop :=
  PinsSettled State.reset ∧ State.reset.wb.arrived = [] ∧ State.reset.wb.pend = [] ∧ State.reset.tally.log = [] ∧
  State.reset.pending = [] ∧ State.reset.dram = [] ∧ State.reset.regN Reg.OWN_STATE = 0 ∧ State.reset.ownSt = 0 ∧
  State.reset.drover = 0xFFFFFFFF ∧ State.reset.regN Reg.HB_PERIOD = 100

/-- The bytes of a waybill (R47) and reading them back agree, for every header and every parameter list a transport may carry; fewer bytes
than PARAM_LEN names are marked. -/
def Obligations.WaybillLayoutRoundTrip : Prop :=
  (∀ (opcode : Half) (w : Waybill), w.params.length ≤ 4080 →
    waybillOf w.inst w.mtag (waybillBytes opcode w) = { inst := w.inst, opcode := opcode, wb := w, badLen := false }) ∧
  (∀ (opcode : Half) (w : Waybill) (n : Nat), w.params.length ≤ 4080 → 16 ≤ n → n < 16 + w.params.length →
    (waybillOf w.inst w.mtag ((waybillBytes opcode w).take n)).badLen = true)

/-- R17: the first failing check of a waybill gives its final status, and nothing else of the waybill takes effect; in the order of R17:
length, version, the opcode's lengths, epoch, ownership, containment, tag, the flask's state, the flask's scope, the target's PENDING
waybill. -/
def Obligations.FirstFailingCheckDecides : Prop :=
  (∀ (m : OpMeta) (body : WbBody) (w : Waybill) (s u : State) (c i : Bool) (st : Status),
    begins m w s = some (u, c, i) → checks m u w = some st →
    waybillCmd m body w s = .next (answered m w u c st [] u)) ∧
  (∀ (m : OpMeta) (w : Waybill) (u : State), maxParams w.inst < w.params.length → checks m u w = some .badLength) ∧
  (∀ (m : OpMeta) (w : Waybill) (u : State), w.params.length ≤ maxParams w.inst → w.version ≠ 1 → checks m u w = some .badOpcode) ∧
  (∀ (m : OpMeta) (w : Waybill) (u : State), w.params.length ≤ maxParams w.inst → w.version = 1 →
    (m.lenOk w.params.length && m.lenW w) = false → checks m u w = some .badLength) ∧
  (∀ (m : OpMeta) (w : Waybill) (u : State), w.params.length ≤ maxParams w.inst → w.version = 1 →
    (m.lenOk w.params.length && m.lenW w) = true → epochFails m u w = true → checks m u w = some .staleEpoch) ∧
  (∀ (m : OpMeta) (w : Waybill) (u : State), w.params.length ≤ maxParams w.inst → w.version = 1 →
    (m.lenOk w.params.length && m.lenW w) = true → epochFails m u w = false → m.cls ≠ .r → ownerFails m u w = true →
    checks m u w = some .notOwner) ∧
  (∀ (m : OpMeta) (w : Waybill) (u : State), w.params.length ≤ maxParams w.inst → w.version = 1 →
    (m.lenOk w.params.length && m.lenW w) = true → epochFails m u w = false → (m.cls = .r ∨ ownerFails m u w = false) →
    containedFails m u w = true → checks m u w = some .contained) ∧
  (∀ (m : OpMeta) (w : Waybill) (u : State), w.params.length ≤ maxParams w.inst → w.version = 1 →
    (m.lenOk w.params.length && m.lenW w) = true → epochFails m u w = false → (m.cls = .r ∨ ownerFails m u w = false) →
    containedFails m u w = false → tagFails u w = true → checks m u w = some .badParam)

/-- A D-class waybill whose issuer is not the drover ends NOT_OWNER, whatever its opcode, unless the opcode exempts its issuer; it changes
nothing but its reply (R17, R57). -/
def Obligations.OnlyTheDroverCarriesOutDClass : Prop :=
  ∀ (m : OpMeta) (body : WbBody) (w : Waybill) (s u : State) (c i : Bool),
    begins m w s = some (u, c, i) → m.cls = .d → w.params.length ≤ maxParams w.inst → w.version = 1 →
    (m.lenOk w.params.length && m.lenW w) = true → epochFails m u w = false →
    u.regN Reg.OWN_DROVER ≠ derivedIssuer w.inst → m.ownerExempt (derivedIssuer w.inst) = false →
    waybillCmd m body w s = .next (answered m w u c .notOwner [] u)

/-- The framework's own part in an accepted waybill: beside the waybill state (chain, reservation, last MCTP endpoint) the opcode acts on
the state as it was. -/
def Obligations.AcceptanceTouchesOnlyWaybillState : Prop :=
  ∀ (m : OpMeta) (w : Waybill) (s u : State) (c i : Bool), accepted m w s = some (u, c, i) →
    u = { s with wb := u.wb } ∧ u.wb.arrived = s.wb.arrived ∧ u.wb.pend = s.wb.pend ∧ u.wb.held = s.wb.held ∧
    u.wb.eids = s.wb.eids ∧ u.wb.reasm = s.wb.reasm

/-- The reply header (R51): opcode, flags, version 1, result length, tag, status, FAIL_TAG, epoch, then the result. -/
def Obligations.ReplyHeaderLayout : Prop :=
  ∀ (opcode flags len tag status failTag epoch : Nat) (res : List Byte),
    opcode < 2 ^ 16 → flags < 2 ^ 8 → len < 2 ^ 16 → tag < 2 ^ 16 → status < 2 ^ 16 → failTag < 2 ^ 16 → epoch < 2 ^ 32 →
    let b := replyBytes opcode flags len tag status failTag epoch res
    u16 b 0 = opcode ∧ u8 b 2 = flags ∧ u8 b 3 = 1 ∧ u16 b 4 = len ∧ u16 b 6 = tag ∧ u16 b 8 = status ∧ u16 b 10 = failTag ∧
    u32 b 12 = epoch ∧ b.drop 16 = res

/-- R53: an opcode of class F or D without RESP_REQ gets no reply of status OK or PENDING; every other reply is sent. -/
def Obligations.SuppressedReplies : Prop :=
  ∀ (cls : Cls) (flags : Byte) (st : Status),
    suppressed cls flags st = true ↔ cls ≠ .r ∧ flags.toNat.testBit 0 = false ∧ (st = .ok ∨ st = .pending)
/-! Completion of the commands of 02: rings, timers, transports -/

/-- The waybill ring registers (R61-R64): each write of a function that is neither RESETTING nor an UNPROVISIONED flask stores its
register and has the effect R63 and R64 give it. -/
def Obligations.RingRegistersComplete : Prop :=
  (∀ (fn : Nat) (v : Word) (s : State), s.ringOpen fn = true →
    Ends (.wbReqProd fn v) s ((s.setRegN (wbBase fn + 0x0C) (bits v.toNat 12 0)).ringFetch fn)) ∧
  (∀ (fn : Nat) (v : Word) (s : State) (n : Nat), s.ringOpen fn = true →
    ringSize ((s.setRegN (wbBase fn + 0x24) (bits v.toNat 12 0)).regN (wbBase fn + 0x1C)) = some n →
    (s.setRegN (wbBase fn + 0x24) (bits v.toNat 12 0)).flag (wbBase fn + 0x1C) 31 = false →
    Ends (.wbRspCons fn v) s (s.setRegN (wbBase fn + 0x24) (bits v.toNat 12 0)).flushHeld) ∧
  (∀ (fn : Nat) (v : Word) (s : State) (n : Nat), s.ringOpen fn = true →
    let s1 := s.setRegN (wbBase fn + 0x24) (bits v.toNat 12 0)
    ringSize (s1.regN (wbBase fn + 0x1C)) = some n → s1.flag (wbBase fn + 0x1C) 31 = true →
    (s1.regN (wbBase fn + 0x20) + 2 * n - s1.regN (wbBase fn + 0x24) % (2 * n)) % (2 * n) ≤ n →
    Ends (.wbRspCons fn v) s s1.flushHeld) ∧
  (∀ (fn : Nat) (v : Word) (s : State), s.ringOpen fn = true → v.toNat.testBit 31 = true → ringSize v.toNat ≠ none →
    s.flag (wbBase fn + 8) 31 = true →
    Ends (.wbReqCtrl fn v) s ((s.setRegN (wbBase fn + 8) (v.toNat &&& 0x8000000F)).ringFetch fn)) ∧
  (∀ (fn : Nat) (v : Word) (s : State), s.ringOpen fn = true → v.toNat.testBit 31 = true → ringSize v.toNat ≠ none →
    s.flag (wbBase fn + 8) 31 = false →
    let s1 := s.setRegN (wbBase fn + 8) (v.toNat &&& 0x8000000F)
    Ends (.wbReqCtrl fn v) s ((s1.setRing fn { s1.ring fn with stopped := false }).ringFetch fn)) ∧
  (∀ (fn : Nat) (v : Word) (s : State), s.ringOpen fn = true → v.toNat.testBit 31 = false → s.flag (wbBase fn + 8) 31 = true →
    let s1 := s.setRegN (wbBase fn + 8) (v.toNat &&& 0x8000000F)
    Ends (.wbReqCtrl fn v) s
      ((s1.setRegN (wbBase fn + 0x10) 0).setRing fn { s1.ring fn with fetched := [], asked := 0, stopped := false })) ∧
  (∀ (fn : Nat) (v : Word) (s : State), s.ringOpen fn = true → v.toNat.testBit 31 = true → ringSize v.toNat ≠ none →
    Ends (.wbRspCtrl fn v) s (s.setRegN (wbBase fn + 0x1C) (v.toNat &&& 0x8000FFFF)).flushHeld) ∧
  (∀ (fn : Nat) (v : Word) (s : State), s.ringOpen fn = true → v.toNat.testBit 31 = false → s.flag (wbBase fn + 0x1C) 31 = true →
    Ends (.wbRspCtrl fn v) s ((s.setRegN (wbBase fn + 0x1C) (v.toNat &&& 0x8000FFFF)).setRegN (wbBase fn + 0x20) 0))

/-- R64: a control register given a size outside 6 to 12 with ENABLE set, and a consumer index more slots behind than the ring holds, stop
the ring: RING_ERR and INDEX_ERR in WB_STATUS. -/
def Obligations.BadRingStops : Prop :=
  (∀ (fn : Nat) (v : Word) (s : State), s.ringOpen fn = true → v.toNat.testBit 31 = true → ringSize v.toNat = none →
    s.flag (wbBase fn + 8) 31 = true →
    let s1 := s.setRegN (wbBase fn + 8) (v.toNat &&& 0x8000000F)
    Ends (.wbReqCtrl fn v) s ((s1.setRing fn { s1.ring fn with stopped := true }).raise (Ev.wbStatus fn) 0)) ∧
  (∀ (fn : Nat) (v : Word) (s : State), s.ringOpen fn = true → v.toNat.testBit 31 = true → ringSize v.toNat = none →
    let s1 := s.setRegN (wbBase fn + 0x1C) (v.toNat &&& 0x8000FFFF)
    Ends (.wbRspCtrl fn v) s ((s1.setRing fn { s1.ring fn with stopped := true }).raise (Ev.wbStatus fn) 0)) ∧
  (∀ (fn : Nat) (v : Word) (s : State) (n : Nat), s.ringOpen fn = true →
    let s1 := s.setRegN (wbBase fn + 0x24) (bits v.toNat 12 0)
    ringSize (s1.regN (wbBase fn + 0x1C)) = some n → s1.flag (wbBase fn + 0x1C) 31 = true →
    n < (s1.regN (wbBase fn + 0x20) + 2 * n - s1.regN (wbBase fn + 0x24) % (2 * n)) % (2 * n) →
    Ends (.wbRspCons fn v) s ((s1.setRing fn { s1.ring fn with stopped := true }).raise (Ev.wbStatus fn) 1))

/-- Starting waybills and their time limits (R48, R69, R71, R75, R77): WAYBILL_START runs the oldest waybill of the instance whose turn it
is, from what has arrived or from its ring; an undefined opcode or version ends BAD_OPCODE; a PENDING waybill at its limit ends TIMEOUT; a
chain whose next member is late stops; a waybill the control complex has not taken in time runs at the AOC. -/
def Obligations.StartsAndTimeLimitsComplete : Prop :=
  (∀ (inst : Instance) (s s1 : State) (a : Arrived), (s.fwServes || aocInstance inst) = true → s.turnOf inst = some s1 →
    s1.wb.arrived.find? (fun b => b.inst == inst) = some a → s1.roomFor inst a.opcode.toNat a.wb = true →
    Ends (.waybillStart inst) s
      (({ s1 with wb := { s1.wb with arrived := s1.wb.arrived.eraseP (fun b => b.inst == inst) } } : State).startAny
        a.opcode.toNat a.wb a.badLen)) ∧
  (∀ (fn : Nat) (s s1 : State), s.fwServes = true → s.turnOf (.ring fn) = some s1 →
    s1.wb.arrived.find? (fun b => b.inst == .ring fn) = none → Ends (.waybillStart (.ring fn)) s (s1.startRing fn)) ∧
  (∀ (opcode : Half) (w : Waybill) (s u : State) (c i : Bool), (opOf opcode.toNat w = none ∨ w.version ≠ 1) → w.params.length ≤ maxParams w.inst →
    begins (undefMeta opcode.toNat) { w with version := 0 } s = some (u, c, i) →
    exec (.undefinedOpcode opcode w) s =
      .next (answered (undefMeta opcode.toNat) { w with version := 0 } u c .badOpcode [] u)) ∧
  (∀ (inst : Instance) (tag : Half) (s : State) (p : PendWb),
    s.wb.pend.find? (fun p => p.inst == inst && p.tag == tag) = some p →
    Ends (.pendingTimeout inst tag) s (((s.at p.deadline).giveUp p).completeOne p .timeout [])) ∧
  (∀ (inst : Instance) (s : State) (c : Chain) (dl : Nat), s.chainOf inst = some c → c.st = .next dl →
    s.wb.arrived.any (fun a => a.inst == inst) = false →
    Ends (.chainMemberTimeout inst) s ((s.at dl).setChain inst (some { c with st := .late }))) ∧
  (∀ (s : State) (a : Arrived) (d : Nat), s.wb.arrived.find? (fun a => a.deadline.isSome) = some a → a.deadline = some d →
    a.badLen = false →
    let r := anyOp a.opcode.toNat a.wb false
    let s1 : State := { s with wb := { s.wb with arrived := s.wb.arrived.eraseP (fun a => a.deadline.isSome) } }
    Ends .aocForwardTimeout s (aocRun r.1 r.2.1 r.2.2 ((s1.at d).noteBmc a.inst)))

/-- MCTP (R67, R68): the control commands answer as R68 lists them, a packet that starts and ends a message delivers it, one that only
starts it takes a reassembly slot, and a slot's 100 ms limit frees it and counts. -/
def Obligations.MctpComplete : Prop :=
  (∀ (r : McRequest) (s : State), s.mctpUp r.binding = true → r.data.length = 2 → u8 r.data 0 % 4 < 2 →
    u8 r.data 1 ≠ 0 → u8 r.data 1 ≠ 255 →
    Ends (.setEndpointId r) s
      (({ s with wb := { s.wb with eids := SMap.put s.wb.eids r.binding (u8 r.data 1) } } : State).mctpAnswer r 1 0
        ([0x00] ++ leBytes 1 (u8 r.data 1) ++ [0x00]))) ∧
  (∀ (r : McRequest) (s : State), s.mctpUp r.binding = true → r.data = [] →
    Ends (.getEndpointId r) s (s.mctpAnswer r 2 0 (leBytes 1 (SMap.getD s.wb.eids r.binding 0) ++ [0x00, 0x00]))) ∧
  (∀ (r : McRequest) (s : State), s.mctpUp r.binding = true → r.data = [] →
    Ends (.getEndpointUuid r) s
      (s.mctpAnswer r 3 0 (leBytes 16 (uuidOf (s.regN Reg.SERIAL_HI) (s.regN Reg.SERIAL_LO))).reverse)) ∧
  (∀ (r : McRequest) (s : State), s.mctpUp r.binding = true → r.data.length = 1 → (u8 r.data 0 = 0xFF ∨ u8 r.data 0 = 0 ∨ u8 r.data 0 = 0x7E) →
    Ends (.getMctpVersionSupport r) s (s.mctpAnswer r 4 0 [0x01, 0xF1, 0xF3, 0xFF, 0x00])) ∧
  (∀ (r : McRequest) (s : State), s.mctpUp r.binding = true → r.data = [] →
    Ends (.getMessageTypeSupport r) s (s.mctpAnswer r 5 0 [0x01, 0x7E])) ∧
  (∀ (r : McRequest) (s : State), s.mctpUp r.binding = true → r.data.length = 1 → u8 r.data 0 = 0 →
    Ends (.getVendorDefinedMessageSupport r) s
      (s.draw.2.mctpAnswer r 6 0 ([0xFF, 0x00, 0x1F, 0x1A] ++ leBytes 2 (s.draw.1 % 65536)))) ∧
  (∀ (r : McRequest) (cmd : Byte) (s : State), s.mctpUp r.binding = true → (cmd.toNat = 0 ∨ 6 < cmd.toNat) →
    Ends (.unsupportedControlCommand r cmd) s (s.mctpAnswer r cmd.toNat 5 [])) ∧
  (∀ (p : McPacket) (s : State), s.mctpUp p.binding = true → p.payload.length ≤ 64 → p.tag ≤ 7 → p.som = true → p.eom = true →
    (s.wb.reasm.filter (fun r => !r.of p)).length < 8 →
    Ends (.mctpPacket p) s
      (({ s with wb := { s.wb with reasm := s.wb.reasm.filter (fun r => !r.of p) } } : State).mctpMessage p.binding p.srcEid p.tag
        p.tagOwner p.payload)) ∧
  (∀ (p : McPacket) (s : State), s.mctpUp p.binding = true → p.payload.length ≤ 64 → p.tag ≤ 7 → p.som = true → p.eom = false →
    (s.wb.reasm.filter (fun r => !r.of p)).length < 8 →
    Ends (.mctpPacket p) s
      { s with wb := { s.wb with reasm := s.wb.reasm.filter (fun r => !r.of p) ++
          [⟨p.binding, p.srcEid, p.tag, p.payload, (p.pktSeq + 1) % 4, s.now + 100000000⟩] } }) ∧
  (∀ (binding eid tag : Nat) (s : State) (r : Reasm),
    let mine := fun (r : Reasm) => r.binding == binding && r.eid == eid && r.tag == tag
    s.wb.reasm.find? mine = some r →
    Ends (.mctpReassemblyTimeout binding eid tag) s
      ((({ s with wb := { s.wb with reasm := s.wb.reasm.filter (fun x => !mine x) } } : State).at r.deadline).bump
        Reg.MCTP_REASM_DROP)) ∧
  (∀ (addr : Nat) (s : State), s.pwr.pwrGoodAon = true →
    Ends (.setdasa addr) s { s with wb := { s.wb with i3cDyn := some (addr % 128) } }) ∧
  (∀ (addr : Nat) (s : State), s.pwr.pwrGoodAon = true →
    Ends (.entdaa addr) s { s with wb := { s.wb with i3cDyn := some (addr % 128) } })

/-- Ownership (R80-R90), on the device that decides (it is its convoy's arbiter and has quorum): a CLAIM with no drover opens or joins the
election and is PENDING; the drover's own CLAIM sets its priority, a higher one takes over, any other is BUSY; RELEASE, GRANT, HEARTBEAT,
SET_HEARTBEAT and REVOKE change drover, epoch and heartbeat clock; OWNER_QUERY, DEV_INFO and ECHO answer; the window's end and the heartbeat
deadline act. -/
def Obligations.OwnershipCompletes : Prop :=
  (∀ (w : Waybill) (u : State) (lo hi : Nat), u.arbiter = u.cvId → u.quorum = true → prioRange (derivedIssuer w.inst) = some (lo, hi) →
    lo ≤ w.u8 0 → w.u8 0 ≤ hi → u.ownSt ≠ 2 →
    let u1 := if u.ownSt = 0 then u.openWindow.notify else u
    Pends .claim claimMeta w u .claim 11000000 none
      { u1 with own := { u1.own with claims := joinClaims u1.own.claims ⟨word (derivedIssuer w.inst), w.u8 0⟩ } }) ∧
  (∀ (w : Waybill) (u : State) (lo hi : Nat), u.arbiter = u.cvId → u.quorum = true → prioRange (derivedIssuer w.inst) = some (lo, hi) →
    lo ≤ w.u8 0 → w.u8 0 ≤ hi → u.ownSt = 2 → u.drover = derivedIssuer w.inst →
    Carries .claim claimMeta w u .ok (u.setFld Reg.OWN_STATE 15 8 (w.u8 0)).claimResult (u.setFld Reg.OWN_STATE 15 8 (w.u8 0))) ∧
  (∀ (w : Waybill) (u : State) (lo hi : Nat), u.arbiter = u.cvId → u.quorum = true → prioRange (derivedIssuer w.inst) = some (lo, hi) →
    lo ≤ w.u8 0 → w.u8 0 ≤ hi → u.ownSt = 2 → u.drover ≠ derivedIssuer w.inst → u.fld Reg.OWN_STATE 15 8 < w.u8 0 →
    let u1 := (u.takeOwner (derivedIssuer w.inst) (w.u8 0)).raise Ev.own 1
    Carries .claim claimMeta w u .ok u1.claimResult u1) ∧
  (∀ (w : Waybill) (u : State), u.arbiter = u.cvId →
    let u1 := ((u.dropOwner true).raise Ev.own 1).notify
    Carries .release releaseMeta w u .ok (leBytes 4 u1.devEpoch) u1) ∧
  (∀ (w : Waybill) (u : State) (lo hi : Nat), u.arbiter = u.cvId → prioRange (w.u32 0) = some (lo, hi) →
    u.validCandidate (w.u32 0) = true → w.u32 0 ≠ u.drover → lo ≤ w.u8 4 → w.u8 4 ≤ hi →
    let u1 := (u.takeOwner (w.u32 0) (w.u8 4)).raise Ev.own 1
    Carries .grant grantMeta w u .ok (leBytes 4 u1.devEpoch) u1) ∧
  (∀ (w : Waybill) (u : State), u.arbiter = u.cvId →
    Carries .heartbeat heartbeatMeta w u .ok (leBytes 4 (3 * u.regN Reg.HB_PERIOD)) { u with own := { u.own with lastHb := u.now } }) ∧
  (∀ (w : Waybill) (u : State), 10 ≤ w.u32 0 → w.u32 0 ≤ 10000 →
    Carries .setHeartbeat setHeartbeatMeta w u .ok (leBytes 4 (u.regN Reg.HB_PERIOD))
      { u.setRegN Reg.HB_PERIOD (w.u32 0) with own := { u.own with lastHb := u.now } }) ∧
  (∀ (w : Waybill) (u : State), u.arbiter = u.cvId → (issuerKind (derivedIssuer w.inst) = 2 ∨ issuerKind (derivedIssuer w.inst) = 5) →
    u.ownSt = 2 → Carries .revoke revokeMeta w u .ok (leBytes 4 u.revoke.devEpoch) u.revoke) ∧
  (∀ (w : Waybill) (u : State), Carries .ownerQuery ownerQueryMeta w u .ok
    (leBytes 4 (u.regN Reg.OWN_EPOCH) ++ leBytes 4 (u.regN Reg.OWN_DROVER) ++ leBytes 1 u.ownSt
      ++ leBytes 1 (u.fld Reg.OWN_STATE 15 8) ++ zeros 2 ++ leBytes 4 u.msSinceHb) u) ∧
  (∀ (w : Waybill) (u : State), Carries .devInfo devInfoMeta w u .ok u.devInfo u) ∧
  (∀ (w : Waybill) (u : State), Carries .echo echoMeta w u .ok w.params u) ∧
  (∀ (s : State) (t : Nat), s.own.window = some t → Ends .electionWindowClose s (s.at t).closeWindow) ∧
  (∀ s : State, s.ownSt = 2 →
    Ends .heartbeatDeadline s (s.at (s.own.lastHb + 3 * s.regN Reg.HB_PERIOD * 1000000)).revoke) ∧
  (∀ (l : Nat) (v : Word) (s : State), s.ownSt = 2 → s.drover = l * 0x1000 → v.toNat = s.devEpoch → s.revocationDue = false →
    Ends (.hbKick (.pf0 l) v) s { s with own := { s.own with lastHb := s.now } })

/-- R56, R88: what a change of drover leaves: the new drover, its priority, HELD, an epoch one above the old one (from 0xFFFF_FFFF to 1),
and its heartbeat clock starting now; nothing of this is lost in the notices that follow. -/
def Obligations.TakingOwnershipSetsTheRegisters : Prop :=
  ∀ (s : State) (issuer prio : Nat), issuer < 2 ^ 32 → prio < 2 ^ 8 →
    let t := s.setOwner 2 issuer prio (nextEpoch s.devEpoch)
    t.drover = issuer ∧ t.ownSt = 2 ∧ t.fld Reg.OWN_STATE 15 8 = prio ∧
    t.devEpoch = (if s.devEpoch = 0xFFFFFFFF then 1 else s.devEpoch + 1)

/-- R80: the claim that wins an election has the highest priority of the window's claims, and no claim of that priority has a lower issuer
ID. -/
def Obligations.ElectionWinner : Prop :=
  ∀ (l : List Claim), (l ≠ [] → (bestClaim l).isSome = true) ∧
    ∀ c, bestClaim l = some c → c ∈ l ∧ ∀ d ∈ l, d.prio < c.prio ∨ (d.prio = c.prio ∧ c.issuer.toNat ≤ d.issuer.toNat)
/-! Completion of the commands of 03: registers, guards, the seal, peeks -/

/-- Register accesses (R98, R99, R101, R111, R128; 01 R36): an aligned write of 4 or 8 bytes writes its words, the low one first; a plain
state register keeps its writable bits; a configuration register takes the drover's write; a write-back clears status bits in SEQUENCE mode;
what R99 and R36 refuse is recorded. -/
def Obligations.RegisterAccessesComplete : Prop :=
  (∀ (src : Src) (off : Nat) (v : DWord) (s : State), s.busOpen src off = true → off % 4 = 0 →
    s.unitOn (unitOfReg (srcAddr src off)) = true → doorbellSlot (srcAddr src off) = none →
    Ends (.registerWrite src off 4 v) s (s.wordWrite src off (v.setWidth 32))) ∧
  (∀ (src : Src) (off : Nat) (v : DWord) (s : State), s.busOpen src off = true → off % 8 = 0 →
    s.unitOn (unitOfReg (srcAddr src off)) = true → doorbellSlot (srcAddr src off) = none →
    Ends (.registerWrite src off 8 v) s
      ((s.wordWrite src off (v.setWidth 32)).wordWrite src (off + 4) ((v >>> 32).setWidth 32))) ∧
  (∀ (src : Src) (off : Nat) (v : Word) (s : State) (rs : Nat),
    let a := srcAddr src off
    statusBits a = some rs → ringReg a = none → mbReg a = none → msixReg a = none → doorbellSlot a = none →
    (a < 0x1901000 ∨ 0x1901200 ≤ a) → a ∉ guardedRegs → (a < 4 ∨ a - 4 ∉ guardedRegs) → s.busOpen src off = true → off % 4 = 0 →
    s.unitOn (unitOfReg a) = true → s.seqMode (unitOfReg a) = true →
    Ends (.statusClear src off v) s (s.setRegN a (clearedStatus rs (s.regN a) v.toNat))) ∧
  (∀ (src : Src) (write : Bool) (addr len : Nat) (be : Bool) (s : State), s.busOpen src addr = true → len ≠ 4 → len ≠ 8 →
    Ends (.accessError src write addr len be) s ((s.accErr src write addr len 1).readZeros src write len)) ∧
  (∀ (src : Src) (write : Bool) (addr len : Nat) (be : Bool) (s : State), s.busOpen src addr = true → (len = 4 ∨ len = 8) →
    (be = true ∨ addr % len ≠ 0) →
    Ends (.accessError src write addr len be) s ((s.accErr src write addr len 0).readZeros src write len)) ∧
  (∀ (src : Src) (write : Bool) (addr len : Nat) (s : State), s.busOpen src addr = true →
    s.unitOn (unitOfReg (srcAddr src addr)) = false →
    Ends (.domainOffAccess src write addr len) s ((s.accErr src write addr len 3).readZeros src write len)) ∧
  (∀ (l : Nat) (v : Word) (s : State), s.busOpen (.pf0 l) Reg.PEEK_CTRL = true → s.unitOn 54 = true → v.toNat.testBit 31 = true →
    Ends (.peek (.pf0 l) v) s (s.setRegN Reg.PEEK_CTRL (bits v.toNat 27 16 * 2 ^ 16)).peekGo) ∧
  (∀ (addr : Nat) (v : Word) (s : State), s.pwr.pwrGoodAon = true → addr % 4 = 0 → s.unitOn (unitOfReg addr) = true →
    Ends (.jtagBar false 0 addr v) s (s.emit (.jtag (leBytes 4 (s.view addr))))) ∧
  (∀ (addr : Nat) (v : Word) (s : State), s.pwr.pwrGoodAon = true → addr % 4 = 0 → s.debugLocked = false → addr ∉ guardedRegs →
    Ends (.jtagBar true 0 addr v) s (s.busWrite .debugger addr 4 (v.setWidth 64))) ∧
  (∀ (opcode : Half) (w : Waybill) (s : State), s.pwr.pwrGoodAon = true →
    Ends (.jtagAocCmd opcode w) s (s.startAny opcode.toNat { w with inst := .jtag } false)) ∧
  (∀ (n : Nat) (v : Word) (s : State), s.pwr.pwrGoodAon = true → s.debugLocked = false → s.unitOn 54 = true →
    Ends (.jtagDmi true n v) s (s.dmWrite n v.toNat) ∧ Ends (.jtagDmi false n v) s (s.emit (.jtag (leBytes 4 (s.dmRead n)))))

/-- What a plain word write leaves (R95, R98, R101): of a state register of PF0 BAR0 the writable bits change to those written; a
configuration register is written by the drover and by nobody else, whose write is recorded with cause 2. -/
def Obligations.PlainRegisterWrites : Prop :=
  ∀ (l off : Nat) (v : Word) (s : State) (d : RegDesc),
    findReg off = some d → ringReg off = none → mbReg off = none → msixReg off = none → statusBits off = none →
    (off < 0x1901000 ∨ 0x1901200 ≤ off) → (off < 0x601000 ∨ 0x601200 ≤ off) → off ∉ guardedRegs → (off < 4 ∨ off - 4 ∉ guardedRegs) →
    off ≠ Reg.HB_KICK → off ≠ Reg.PEEK_CTRL → off ≠ Reg.HE_INTX_ACK0 → off ≠ Reg.HE_INTX_ACK1 →
    let new := s.regN off - (s.regN off &&& d.rw) + (v.toNat &&& d.rw)
    (d.cfg = false → s.wordWrite (.pf0 l) off v = s.setRegN off new) ∧
    (d.cfg = true → d.rw ≠ 0 → s.ownSt = 2 → s.drover = l * 0x1000 →
      s.wordWrite (.pf0 l) off v = s.cfgWrite (.pf0 l) off off (keepInvalid off (s.regN off) new)) ∧
    (d.cfg = true → d.rw ≠ 0 → (s.ownSt ≠ 2 ∨ s.drover ≠ l * 0x1000) →
      s.wordWrite (.pf0 l) off v = s.accErr (.pf0 l) true off 4 2)

/-- Guarded writes (R106-R109; 02 R84; 11 R396; 14 R496; 19 R620; 20 R629, R635, R636, R652): the value write arms, the complement in time
and from the same issuer carries the register's effect out; a window that ends, a complement without a guard and one that does not match
discard the value with GUARD_ERROR. -/
def Obligations.GuardedWritesComplete : Prop :=
  (∀ (src : Src) (addr : Nat) (v : Word) (s : State) (u : Nat), (∀ f, src ≠ .flask f) → s.busOpen src addr = true →
    unitOfAddr addr = some u → addr ∈ guardedRegs → s.unitOn u = true → SMap.get? s.guards u = none →
    Ends (.guardValueWrite src addr v) s
      { s with guards := SMap.put s.guards u ⟨addr, v, src, s.now + s.guardWindow u⟩ }) ∧
  (∀ (u : Nat) (g : Guard) (s : State), SMap.get? s.guards u = some g →
    Ends (.guardWindowExpiry u) s (((s.at g.until_).disarm u).guardError u g.addr g.value.toNat g.src)) ∧
  (∀ (src : Src) (addr : Nat) (v : Word) (s : State) (u : Nat), s.complAt src addr = some false → unitOfAddr (addr - 4) = some u →
    s.unitOn u = true → SMap.get? s.guards u = none →
    Ends (.complementWithoutGuard src addr v) s (s.guardError u (addr - 4 + 4) v.toNat src)) ∧
  (∀ (src : Src) (addr : Nat) (v : Word) (s : State) (u : Nat) (g : Guard), s.complAt src addr = some true →
    unitOfAddr (addr - 4) = some u → s.unitOn u = true → SMap.get? s.guards u = some g →
    ¬ (g.addr = addr - 4 ∧ g.src = src ∧ g.value = ~~~v ∧ s.now ≤ g.until_) →
    Ends (.complementMismatch src addr v) s ((s.disarm u).guardError u g.addr g.value.toNat src)) ∧
  (∀ (src : Src) (c v : Word) (s : State), Completes s src Reg.OWN_OVERRIDE c v →
    Ends (.ownOverride src c) s ((s.guardTaken src Reg.OWN_OVERRIDE v).override v.toNat)) ∧
  (∀ (src : Src) (c v : Word) (s : State), Completes s src Reg.RST_CTRL c v → v.toNat.testBit 31 = true →
    Ends (.rstCtrlDevice src c) s ((s.guardTaken src Reg.RST_CTRL v).deviceReset 2 false)) ∧
  (∀ (src : Src) (c v : Word) (s : State), Completes s src Reg.RST_CTRL c v → v.toNat.testBit 31 = false → v.toNat.testBit 30 = true →
    unitFixed (bits v.toNat 5 0) = false →
    Ends (.rstCtrlUnit src c) s
      (((s.guardTaken src Reg.RST_CTRL v).loseCounts (bits v.toNat 5 0)).unitReset (bits v.toNat 5 0))) ∧
  (∀ (src : Src) (c v : Word) (s : State), (Completes s src Reg.PD_OFF_LO c v →
      Ends (.pdOff src false c) s ((s.guardTaken src Reg.PD_OFF_LO v).pdOff src false v.toNat)) ∧
    (Completes s src Reg.PD_OFF_HI c v → Ends (.pdOff src true c) s ((s.guardTaken src Reg.PD_OFF_HI v).pdOff src true v.toNat))) ∧
  (∀ (src : Src) (c v : Word) (s : State), Completes s src Reg.FUSE_PROG c v →
    let t := s.guardTaken src Reg.FUSE_PROG v
    let k := bits v.toNat 1 0
    let p := fun (op : Nat) => ({ t.setFld Reg.FUSE_STAT 31 31 1 with pwr := { t.pwr with fuse := some { op := op, key := k } } } : State)
    t.pwr.fuse = none →
    (bits v.toNat 31 28 = 1 → t.liveKeys ≠ [k] → Ends (.revokeKey src c) s (p 1)) ∧
    (bits v.toNat 31 28 = 2 → t.fusedSvn + 1 ≤ t.fld Reg.FW_SVN 6 0 → Ends (.raiseSvn src c) s (p 2)) ∧
    (bits v.toNat 31 28 = 3 → Ends (.debugLock src c) s (p 3))) ∧
  (∀ (src : Src) (c v : Word) (s : State), Completes s src Reg.KS_ZEROIZE c v →
    (v.toNat.testBit 31 = false → Ends (.ksZeroize src c) s ((s.guardTaken src Reg.KS_ZEROIZE v).ksZeroize src v.toNat)) ∧
    (v.toNat.testBit 31 = true → Ends (.ksZeroizeAll src c) s ((s.guardTaken src Reg.KS_ZEROIZE v).ksZeroize src v.toNat))) ∧
  (∀ (src : Src) (c v : Word) (s : State), Completes s src Reg.MB_LOCK_FREE c v →
    Ends (.mbLockFree src c) s ((s.guardTaken src Reg.MB_LOCK_FREE v).mbLockFree v.toNat)) ∧
  (∀ (src : Src) (c v : Word) (s : State), Completes s src Reg.RSV_FORCE c v →
    let t := s.guardTaken src Reg.RSV_FORCE v
    let p := partOf v.toNat
    (v.toNat.testBit 27 = false → t.partNamed p = true → Ends (.rsvForce src c) s (t.retirePart p 3)) ∧
    (v.toNat.testBit 27 = true → t.isRetired p = true → p ∉ t.tally.restore →
      Ends (.rsvForceRestore src c) s
        { t with tally := { t.tally with restore := t.tally.restore ++ [p], health := t.tally.health.filter (· != p),
                                         sector := t.tally.sector.filter (· != p) } })) ∧
  (∀ s : State, (s.cx.zeroing.isSome = true →
      Ends .zeroizeDone s
        ((({ s with cx := { s.cx with zeroing := none } } : State).setFld Reg.KS_ZEROIZE_STAT 0 0 0).raise Ev.ks 2)) ∧
    (s.pwr.fuse.isSome = true → Ends .fuseProgramDone s s.fuseDone))

/-- R111: while STATUS_MODE is SEQUENCE, a write-back to a status register whose bits [31:24] equal the current SEQ clears each RS bit (rs)
written as 1 and leaves the others; with other bits [31:24] nothing clears and STALE_SEQ, the highest RS bit, sets; no other bit (RL bits,
SEQ) and no other register moves. WB_STATUS of a ring is such a register at its offset 0x28; MB_STAT of a mailbox side is held with its side
and clears for the side's user. -/
def Obligations.StatusWriteBack : Prop :=
  ∀ (src : Src) (off : Nat) (v : Word) (s : State),
    let a := srcAddr src off
    let n := v.toNat
    s.busOpen src off = true → off % 4 = 0 → s.unitOn (unitOfReg a) = true → doorbellSlot a = none →
    (∀ rs, statusBits a = some rs → (∀ x, ringReg a = some x → x.2 = 0x28 ∧ wbBase x.1 + 0x28 = a) → mbReg a = none →
      msixReg a = none → (a < 0x1901000 ∨ 0x1901200 ≤ a) → a ∉ guardedRegs → (a < 4 ∨ a - 4 ∉ guardedRegs) →
      s.seqMode (unitOfReg a) = true →
      let cur := s.regN a
      ∃ t, exec (.statusClear src off v) s = .next t ∧ t = { s with regs := t.regs, pins := t.pins } ∧ (∀ b, b ≠ a → t.reg b = s.reg b) ∧
        (bits n 31 24 = bits cur 31 24 → ∀ i, (t.regN a).testBit i = (cur.testBit i && !(n.testBit i && rs.testBit i))) ∧
        (bits n 31 24 ≠ bits cur 31 24 → ∀ i, (t.regN a).testBit i = (cur.testBit i || decide (i = Nat.log2 rs)))) ∧
    (∀ key b, mbReg a = some (key, b, 0x0C) → ringReg a = none → s.mbTakes (.host src) key b = true → s.seqMode 13 = true →
      let cur := ((s.mbPair key).side b).stat.toNat
      ∃ t, exec (.statusClear src off v) s = .next t ∧ t = { s with mb := t.mb, pins := t.pins } ∧
        t.mbPair key = (s.mbPair key).setSide b { (s.mbPair key).side b with stat := ((t.mbPair key).side b).stat } ∧
        (∀ k, k ≠ key → t.mbPair k = s.mbPair k) ∧
        (bits n 31 24 = bits cur 31 24 → ∀ i,
          (((t.mbPair key).side b).stat.toNat).testBit i = (cur.testBit i && !(n.testBit i && (0xFF : Nat).testBit i))) ∧
        (bits n 31 24 ≠ bits cur 31 24 → ∀ i, (((t.mbPair key).side b).stat.toNat).testBit i = (cur.testBit i || decide (i = 7))))

/-- The seal (R92, R117-R122): SEAL_COMMIT without another D-class waybill PENDING starts a commit and is PENDING; SEAL_QUERY answers with
the reference digest, the current one, and the drift; a sweep of a unit in service compares and renews its CRC. -/
def Obligations.SealCompletes : Prop :=
  (∀ (w : Waybill) (u : State), u.wb.pend.any (fun p => p.cls == .d) = false →
    Pends .sealCommit sealCommitMeta w u (.sealCommit ((w.u32 0).testBit 0) (w.u32 4)) 5000000 (some ⟨.sealRef, 0⟩) u.sealStart) ∧
  (∀ (w : Waybill) (u : State),
    let drift := (List.range 55).filter (fun n => u.isSealed n && u.flag (unitHdr n + 0x10) 31)
    Carries .sealQuery sealQueryMeta w u .ok
      (leBytes 4 u.sealSt.digest ++ leBytes 4 u.currentDigest ++ leBytes 4 drift.length
        ++ leBytes 4 (drift.filter (fun n => u.flag (unitHdr n + 0x10) 30)).length) u) ∧
  (∀ (n : Nat) (s : State), n ≤ 54 → s.unitOn n = true → s.unitState n ≠ 0 → s.isSealed n = false → (s.sealUnit n).committing = false →
    Ends (.sealSweep n) s
      ((((s.draw.2.setRegN (unitHdr n + 0xC) (crc32c (s.cfgImage n))).setRegN (unitHdr n + 0x1C) (s.draw.1 % 1001)).setSealUnit n
        { s.sealUnit n with dirty := false }).sealFinish)) ∧
  (∀ (n : Nat) (s : State), n ≤ 54 → s.unitOn n = true → s.unitState n ≠ 0 → Ends (.sealSweep n) s (s.sweep n))
/-! Completion of the commands of 20 and 21: power, reset, start-up, clocks -/

/-- Reset pins and rails, start-up, domains and delayed resets (R627, R628, R634-R637, R641, R644, R648, R655; 21 R670-R672; 04 R130). -/
def Obligations.ResetsAndStartUpComplete : Prop :=
  ((∀ s : State, Ends .powerOn s s.powerOn ∧ Ends .vddAonLoss s s.powerOn) ∧
   (∀ s : State, s.pwr.pwrGoodAon = false → Ends .pwrGoodAon s { s with pwr := { s.pwr with pwrGoodAon := true, step := 0 } }) ∧
   (∀ s : State, s.pwr.pwrGood = false →
     let s1 : State := { s with pwr := { s.pwr with pwrGood := true, perstSeen := false, refclkLost := false } }
     Ends .pwrGoodRise s (s1.setFld Reg.PWR_NOW 31 16 s1.pwr.vcoreTarget).clkSync) ∧
   (∀ s : State, s.pwr.pwrGood = true → s.pwr.railHold = false → s.pwr.step ≠ 0 →
     Ends .pwrGoodFall s ({ s with pwr := { s.pwr with pwrGood := false } } : State).coldReset) ∧
   (∀ s : State, s.pwr.railHold = false → s.pwr.pwrGoodAon = true → s.pwr.step ≠ 0 → s.pwr.pwrGood = true →
     Ends .railUndervoltage s ({ s with pwr := { s.pwr with railHold := true } } : State).coldReset) ∧
   (∀ s : State, Ends .railReturn s { s with pwr := { s.pwr with railHold := false } }) ∧
   (∀ (b c : Nat) (hb : Bool) (s : State), (s.pwr.perst = true → Ends (.perstN true b c hb) s (s.perstUp b c hb)) ∧
     (s.pwr.perst = false → Ends (.perstN false b c hb) s (({ s with pwr := { s.pwr with perst := true } } : State).linkPerst 0))) ∧
   (∀ s : State, s.pwr.hostBif = true →
     (s.pwr.perst1 = true → Ends (.perst1N true) s (({ s with pwr := { s.pwr with perst1 := false } } : State).linkFree 1)) ∧
     (s.pwr.perst1 = false → Ends (.perst1N false) s (({ s with pwr := { s.pwr with perst1 := true } } : State).linkPerst 1))) ∧
   (∀ s : State, s.pwr.hostBif = false → s.pwr.perst1 = true →
     Ends (.perst1N true) s { s with pwr := { s.pwr with perst1 := false } })) ∧
  ((∀ (ok : Bool) (train : List DramPop) (s : State), Ends (.bootStepDone ok train) s (s.bootStep ok train)) ∧
   (∀ (s : State) (t : Nat), s.pwr.watchdog = some t → s.pwr.ready = false →
     (s.pwr.attempt = 0 → Ends .bootWatchdog s
       (({ s.at t with pwr := { s.pwr with attempt := 1 } } : State).deviceReset 6 true |>.raise Ev.ao 0)) ∧
     (s.pwr.attempt ≠ 0 → Ends .bootWatchdog s (s.at t).enterRecovery)) ∧
   (∀ (d : Nat) (s : State), s.pdSt d = .ramping → s.pwr.tripped = false → Ends (.domainSwitchDone d) s (s.domainUp d)) ∧
   (∀ (d : Nat) (s : State), Ends (.pdSetDone d) s (s.pdDrained d)) ∧
   (∀ (u : Nat) (s : State), Ends (.unitResetDone u) s (s.unitBack u)) ∧
   (∀ (s : State) (t cause : Nat), s.pwr.devReset = some (t, cause) →
     Ends .deviceResetDelayExpiry s ((s.at t).deviceReset cause false)) ∧
   (∀ s : State, s.pwr.flashOp.isSome = true → Ends .flashWriteDone s s.flashDone))

/-- Temperature, clocks, voltage and the 0x10xx opcodes (R626-R633, R642, R649, R651, R654; 19 R617; 21 R669). -/
def Obligations.ThermalAndPowerComplete : Prop :=
  ((∀ (temps : List Half) (power : Nat) (s : State), temps ≠ [] → s.pwr.pwrGoodAon = true →
     let h := hottest (temps.take 52)
     let s1 := (s.setRegN Reg.TEMP (h.1 * 65536 + (BitVec.ofInt 16 h.2).toNat)).setFld Reg.PWR_NOW 15 0 (min 65535 power)
     let s2 : State := { s1 with pwr := { s1.pwr with hotC8 := h.2.toNat } }
     (h.2.toNat < 880 → Ends (.temperatureRead temps power) s s2) ∧
     (880 ≤ h.2.toNat → s2.pwr.tripped = false → Ends (.temperatureRead temps power) s s2.thermalTrip)) ∧
   (∀ s : State, s.throtC * 8 < s.pwr.hotC8 → 500 < s.pwr.thermalMhz →
     Ends .throttleStep s
       ((({ s with pwr := { s.pwr with thermalMhz := max 500 (s.pwr.thermalMhz - 100) } } : State).clkSync).raise Ev.ao 3)) ∧
   (∀ s : State, s.pwr.hotC8 < (s.throtC - 2) * 8 → s.pwr.thermalMhz < 2000 →
     Ends .throttleStep s ({ s with pwr := { s.pwr with thermalMhz := min 2000 (s.pwr.thermalMhz + 100) } } : State).clkSync) ∧
   (∀ s : State, s.pwr.refclkLost = false → s.pwr.pwrGoodAon = true →
     Ends .refclkLost s ((({ s with pwr := { s.pwr with refclkLost := true } } : State).clkSync).raise Ev.ao 5)) ∧
   (∀ s : State, s.pwr.vcoreOk = false → Ends .avsRetry s (s.emit (.avs s.pwr.vcoreTarget))) ∧
   (∀ s : State, s.pwr.vcoreOk = false →
     Ends (.voltageConfirmed s.pwr.vcoreTarget) s
       ({ s.setFld Reg.PWR_NOW 31 16 s.pwr.vcoreTarget with pwr := { s.pwr with vcoreOk := true, clkWait := [] } } : State).clkSync) ∧
   (∀ (mv : Nat) (s : State), s.warnMv ≤ mv → s.tally.stepping = [] →
     ∃ t, exec (.marginRead [mv] []) s = .next t ∧ t.fld (Reg.AG_MARGIN 0) 15 0 = min mv 65535 ∧ t.tally.marginsRead = true)) ∧
  ((∀ (w : Waybill) (u : State), Carries .pwrQuery pwrQueryMeta w u .ok
     (leBytes 4 (u.regN Reg.TEMP) ++ leBytes 4 (u.regN Reg.PWR_NOW) ++ leBytes 4 (u.regN Reg.PD_STATE_LO)
       ++ leBytes 4 (u.regN Reg.PD_STATE_HI) ++ leBytes 4 (u.regN Reg.PD_OFF_LO) ++ leBytes 4 (u.regN Reg.PD_OFF_HI)) u) ∧
   (∀ (w : Waybill) (u : State), 1 ≤ w.u8 1 → w.u8 0 + w.u8 1 ≤ 52 → Carries .clkQuery clkQueryMeta w u .ok
     ((List.range (w.u8 1)).flatMap (fun i => leBytes 4 (u.regN (Reg.CLK_ISLAND (w.u8 0 + i))))) u) ∧
   (∀ (w : Waybill) (u : State), pdByWaybill (w.u8 0) = true →
     (w.u8 1 = 1 → u.pdOn (w.u8 0) = true → Carries .pdSet pdSetMeta w u .ok [3, 0, 0, 0] u) ∧
     (w.u8 1 = 1 → u.pdOn (w.u8 0) = false → u.forcedOff (w.u8 0) = false →
       Pends .pdSet pdSetMeta w u (.pdSet (w.u8 0) true) 20000000 (some ⟨.domain, w.u8 0⟩) (u.powerUp (w.u8 0))) ∧
     (w.u8 1 = 1 → u.pdOn (w.u8 0) = false → u.forcedOff (w.u8 0) = true →
       Pends .pdSet pdSetMeta w u (.pdSet (w.u8 0) true) 20000000 (some ⟨.domain, w.u8 0⟩)
         (u.setOff (derivedIssuer w.inst) (w.u8 0) false)) ∧
     (w.u8 1 = 0 → u.pdSt (w.u8 0) = .off → Carries .pdSet pdSetMeta w u .ok [0, 0, 0, 0] u) ∧
     (w.u8 1 = 0 → u.pdOn (w.u8 0) = true → u.pdReady (w.u8 0) = true →
       Pends .pdSet pdSetMeta w u (.pdSet (w.u8 0) false) 20000000 (some ⟨.domain, w.u8 0⟩)
         { u with pwr := { u.pwr with pdWait := u.pwr.pdWait ++ [(w.u8 0, u.now + 10000000)] } })) ∧
   (∀ (w : Waybill) (u : State), 1 ≤ w.u8 0 → w.u8 0 ≤ 43 → (w.u8 1 = 1 ∨ w.u8 1 = 0 ∧ u.offIgnored (w.u8 0) = false) →
     let t := u.setOff (derivedIssuer w.inst) (w.u8 0) (w.u8 1 == 0)
     Carries .pdForce pdForceMeta w u .ok (leBytes 4 (t.regN Reg.PD_OFF_LO) ++ leBytes 4 (t.regN Reg.PD_OFF_HI)) t) ∧
   (∀ (w : Waybill) (u : State), w.u16 0 ≤ 1000 → u.pwr.tripped = false → Carries .deviceReset deviceResetMeta w u .ok []
     { u with pwr := { u.pwr with devReset := some (u.now + w.u16 0 * 1000000, 3) } }) ∧
   (∀ (w : Waybill) (u : State), w.u16 0 ≤ 1000 → u.pwr.tripped = true → u.pwr.hotC8 < u.throtC * 8 →
     Carries .deviceReset deviceResetMeta w u .ok [] { u with pwr := { u.pwr with devReset := some (u.now + w.u16 0 * 1000000, 5) } }) ∧
   (∀ (w : Waybill) (u : State), unitFixed (w.u8 0) = false →
     Pends .unitReset unitResetMeta w u (.unitReset (w.u8 0)) 10000000 (some ⟨.unit, w.u8 0⟩)
       ((u.foldBase (w.u8 0) true).unitReset (w.u8 0))) ∧
   (∀ (w : Waybill) (u : State),
     let slot := fun (b : Bool) => leBytes 1 (u.slotState b) ++ leBytes 1 (if u.slotRuns b then 1 else 0)
       ++ slice (u.slotHeader b) 5 1 ++ zeros 1 ++ slice (u.slotHeader b) 8 8 ++ zeros 4
     Carries .fwQuery fwQueryMeta w u .ok (slot false ++ slot true ++ leBytes 4 (u.regN Reg.FUSE_STAT)) u) ∧
   (∀ (w : Waybill) (u : State), w.u8 0 ≤ 1 → w.u32 4 + w.u32 8 ≤ 2 ^ 24 → ((w.u8 1).testBit 0 = true → w.u32 4 % 65536 = 0) →
     u.slotRuns (w.u8 0 == 1) = false → u.pwr.flashOp = none →
     Pends .fwWrite fwWriteMeta w u .flashWrite 500000000 (some ⟨.flash, 0⟩)
       { u with pwr := { u.pwr with flashOp := some (.data (slotBase (w.u8 0 == 1) + w.u32 4) ((w.u8 1).testBit 0)
                                                       (w.bytes 12 (w.u32 8))) } }) ∧
   (∀ (w : Waybill) (u : State), w.u8 0 ≤ 1 →
     (u.slotOk (w.u8 0 == 1) = true → Pends .fwSlotSwitch fwSlotSwitchMeta w u .slotSwitch 1000000000 (some ⟨.flash, 0⟩)
       { u.flashDone with pwr := { u.flashDone.pwr with flashOp := some (.record (w.u8 0) ((w.u8 1).testBit 0)) } }) ∧
     (u.slotOk (w.u8 0 == 1) = false → Carries .fwSlotSwitch fwSlotSwitchMeta w u .badParam [] u)) ∧
   (∀ (w : Waybill) (u : State) (c : Nat) (cs : List Nat), maskClusters (w.u32 0) = c :: cs → 500 ≤ w.u16 4 → w.u16 4 ≤ 2000 →
     w.u16 4 % 100 = 0 →
     Carries .clkSet clkSetMeta w u .ok (leBytes 4 (u.fld (Reg.CLK_ISLAND c) 31 16)) (u.setClocks (c :: cs) (w.u16 4))) ∧
   (∀ (w : Waybill) (u : State), Carries .thermSet thermSetMeta w u .ok (leBytes 4 (u.regN Reg.THERM_CTRL))
     ((u.setRegN Reg.THERM_CTRL (w.u32 0 % 256)).cfgWritten 1)) ∧
   (∀ (w : Waybill) (u : State), Carries .dbgUnlock dbgUnlockMeta w u .ok []
     ({ u with pwr := { u.pwr with debugOpen := true } } : State).aoSync))

/-! Completion of the commands of 19: tallies, faults, the event log -/

/-- Marks, gathers, faults of parts and the 0x0Fxx opcodes (R594-R624). -/
def Obligations.TalliesComplete : Prop :=
  ((∀ s : State, s.tally.marksOn = true → Ends .tallyMarkTimer s ((s.at s.tally.nextMark).mark false)) ∧
   (∀ s : State, s.canGather = true → Ends .tallyGather s s.gather) ∧
   (∀ (kind index cause : Nat) (s : State), s.partNamed { kind := kind, index := index } = true → kind ≠ 5 → kind ≠ 1 →
     let p : Part := { kind := kind, index := index }
     Ends (.partFault kind index cause) s
       (if (s.faultOf p (partHome p) cause).1 then (s.faultOf p (partHome p) cause).2.retirePart p 1
        else (s.faultOf p (partHome p) cause).2)) ∧
   (∀ (index cause : Nat) (s : State), s.partNamed { kind := 1, index := index } = true →
     Ends (.partFault 1 index cause) s (s.engineFault (index / 16) (index % 16) cause true [])) ∧
   (∀ (s : State) (p : Part) (r : List Part), s.tally.health = p :: r →
     Ends .healthSectorWrite s { s with tally := { s.tally with health := r, sector := s.tally.sector ++ [p] } }) ∧
   (∀ (core : Nat) (s : State), core ∈ s.tally.cores → Ends (.controlCoreFault core) s (s.retireCore core 1)) ∧
   (∀ (pass : Bool) (s : State), Ends (.reserveCoreReady pass) s (s.reserveCore pass)) ∧
   (∀ (array row : Nat) (lost : List Nat) (s : State), s.partNamed { kind := 6, index := array * 65536 + row % 65536 } = true →
     Ends (.sramRowFault array row lost) s ((s.rowLost array lost).retireRow array (row % 65536) 1))) ∧
  ((∀ (w : Waybill) (u : State), Carries .tallyQuery tallyQueryMeta w u .ok
     (leBytes 8 (u.reg64 Reg.TL_EPOCH_LO) ++ leBytes 4 (u.regN Reg.TL_AREA) ++ leBytes 4 u.nextMs ++ leBytes 4 (u.fld Reg.TL_CTRL 11 0)
       ++ leBytes 2 (u16 u.tally.header 36) ++ zeros 2) u) ∧
   (∀ (w : Waybill) (u : State), u.tallyAreaBad (w.u32 4) = false → u.poolShort (u.setTlArea (w.u32 4)) = false →
     Carries .tallySet tallySetMeta w u .ok (leBytes 4 (u.regN Reg.TL_CTRL) ++ leBytes 4 (u.regN Reg.TL_AREA))
       ((u.setTlCtrl (w.u32 0)).setTlArea (w.u32 4))) ∧
   (∀ (w : Waybill) (u : State), Carries .tallyMark tallyMarkMeta w u .ok (leBytes 8 u.tally.nextEpoch) (u.mark true)) ∧
   (∀ (w : Waybill) (u : State) (b : List Byte), 1 ≤ w.u16 10 → w.u16 10 ≤ 31 → w.u16 8 + w.u16 10 ≤ 4096 →
     u.page (w.u64 0) (w.u16 8) (w.u16 10) = some b → Carries .tallyRead tallyReadMeta w u .ok b u) ∧
   (∀ (w : Waybill) (u : State), 1 ≤ w.u16 8 → w.u16 8 ≤ 127 →
     let written := u.reg64 Reg.EV_WRITTEN
     let first := max (w.u64 0) (written - u.fld Reg.EV_CAP 14 0)
     Carries .logRead logReadMeta w u .ok
       (leBytes 8 written ++ (List.range (min (w.u16 8) (written - first))).flatMap (fun i => u.logAt (first + i))) u) ∧
   (∀ (w : Waybill) (u : State), Carries .lastwordRead lastwordReadMeta w u .ok
     (fit 512 (u.tally.lastWord.flatMap (fun e => e.entry.bytes))) u) ∧
   (∀ (w : Waybill) (u : State), Carries .lastwordClear lastwordClearMeta w u .ok (leBytes 4 u.tally.lastWord.length)
     { u with tally := { u.tally with lastWord := [] } }) ∧
   (∀ (w : Waybill) (u : State), 1 ≤ w.u8 1 → w.u8 0 + w.u8 1 ≤ 52 → Carries .faultQuery faultQueryMeta w u .ok
     (leBytes 4 (u.regN Reg.FT_CAP) ++ leBytes 4 (u.regN Reg.FT_TRANSIENT) ++ leBytes 4 (u.regN Reg.FT_PERMANENT)
       ++ leBytes 4 (u.regN Reg.FT_LAST) ++ (List.range (w.u8 1)).flatMap (fun i => leBytes 4 (u.regN (Reg.AG_MARGIN (w.u8 0 + i))))) u) ∧
   (∀ (w : Waybill) (u : State), Carries .faultSetParams faultSetParamsMeta w u .ok (leBytes 4 (u.regN Reg.FT_CTRL))
     ((u.setRegN Reg.FT_CTRL (setBits (w.u32 0) 4 4 0)).cfgWritten 53)) ∧
   (∀ (w : Waybill) (u : State), 1 ≤ w.u8 0 → w.u8 0 ≤ 5 → Carries .reserveQuery reserveQueryMeta w u .ok
     ((u.partsOfKind (w.u8 0)).flatMap (fun p => leBytes 3 p.index ++ leBytes 1 (u.partState p))) u) ∧
   (∀ (w : Waybill) (u : State), w.u8 0 = 6 → Carries .reserveQuery reserveQueryMeta w u .ok
     (sramArrays.flatMap (fun a => leBytes 1 a ++ leBytes 1 (Config.sramSpare a - SMap.getD u.tally.sramUsed a 0)
       ++ leBytes 2 (SMap.getD u.tally.sramRetired a 0))) u) ∧
   (∀ (w : Waybill) (u : State),
     let p := partOf (w.u32 0)
     let t := u.retirePart p 3
     (w.u32 0).testBit 27 = false → u.partNamed p = true → u.retiring (partHome p) = false →
     (t.tally.running.any (fun r => r.part == p) = false → Carries .reserveRetire reserveRetireMeta w u .ok [] t) ∧
     (t.tally.running.any (fun r => r.part == p) = true →
       Pends .reserveRetire reserveRetireMeta w u (.reserveRetire p.kind p.index) (u.retireLimit p) none t)))

/-- The event log keeps its entries: an entry written into the ring counts EV_WRITTEN up by one and stands in the slot of its number, and
every other slot stays (R607); the last-word file never holds more than 16 entries, and a new entry is its last (R610). -/
def Obligations.EventLogKeepsItsEntries : Prop :=
  (∀ (s : State) (e : LogEntry),
    let w := s.reg64 Reg.EV_WRITTEN
    w < 2 ^ 64 - 1 →
    (s.logWrite e).reg64 Reg.EV_WRITTEN = w + 1 ∧
    SMap.get? (s.logWrite e).tally.log (logSlot s.tally.skipped w) = some e ∧
    (∀ k, k ≠ logSlot s.tally.skipped w → SMap.get? (s.logWrite e).tally.log k = SMap.get? s.tally.log k) ∧
    (s.logWrite e).wb = s.wb ∧ (s.logWrite e).host = s.host ∧ (s.logWrite e).dram = s.dram) ∧
  (∀ (l : List LastWord) (e : LastWord), l.length ≤ 16 →
    (lastWordAdd l e).length ≤ 16 ∧ (lastWordAdd l e).getLast? = some e ∧
    (∀ t code, (lastWordLoss l t code).length ≤ 16))

/-! Completion of the commands of 04: the host endpoint and the flasks -/

/-- Resets of functions and links (R129, R157-R161): an FLR, a hot reset, a link that leaves or reaches L0, VF Enable set and cleared, and the
end of a function's reset once no entry of its queues is on the wire. -/
def Obligations.HostResetsComplete : Prop :=
  (∀ (fn : Nat) (s : State), s.fnOn fn = true → isPf0 fn = true → Ends (.flr fn) s (s.linkReset (s.linkOf fn) true)) ∧
  (∀ (fn : Nat) (s : State), s.fnOn fn = true → isPf0 fn = false → (s.fn fn).st ≠ .unprovisioned →
    Ends (.flr fn) s (s.startReset fn false true true)) ∧
  (∀ (fn : Nat) (s : State), (s.fn fn).st = .resetting → s.resetReady fn = true →
    Ends (.flaskResetDone fn) s (((s.fnWqs fn).foldl (fun (t : State) g => t.commitAll g) s).endReset fn)) ∧
  (∀ (l : Nat) (s : State), s.linkExists l = true → s.flag (linkStat l) 31 = true →
    Ends (.hotReset l) s ((s.raise Ev.he 0).linkReset l false)) ∧
  (∀ (l : Nat) (s : State), s.linkExists l = true → s.flag (linkStat l) 31 = true →
    Ends (.hostLinkDown l) s (((s.setRegN (linkStat l) 0).raise Ev.he (if l = 1 then 2 else 1)).linkReset l false)) ∧
  (∀ (l speed width : Nat) (flit : Bool) (s : State), s.linkExists l = true → (s.link l).held = false → s.unitOn 2 = true →
    1 ≤ speed → speed ≤ 6 → (width ∈ [1, 2, 4, 8] ∨ width = 16 ∧ s.pwr.hostBif = false) →
    Ends (.hostLinkUp l speed width flit) s
      (s.setRegN (linkStat l) (2 ^ 31 + bitVal (flit || speed == 6) 30 + width * 256 + speed))) ∧
  (∀ (l n : Nat) (s : State), s.linkExists l = true → (s.link l).vfEnable = false →
    n ≤ (if !s.pwr.hostBif then 4095 else if l = 0 then 2047 else 2048) →
    let s1 := s.setLink l { s.link l with vfEnable := true, numVFs := n, vfBar2Size := s.fld Reg.HE_VF_BAR2_SIZE 3 0 }
    Ends (.vfEnableSet l n) s
      { s1 with host := { s1.host with fns := s1.host.fns.map (fun x =>
          if !isPf0 x.1 && s1.linkOf x.1 == l && x.2.st == .offline && s1.vfOn x.1 then (x.1, { x.2 with st := .active }) else x) } }) ∧
  (∀ (l : Nat) (s : State), (s.link l).vfEnable = true →
    let s1 := s.setLink l { s.link l with vfEnable := false }
    Ends (.vfEnableClear l) s
      (((s1.host.fns.filter (fun x => !isPf0 x.1 && s1.linkOf x.1 == l && (x.2.st == .active || x.2.st == .contained))).map (·.1)).foldl
        (fun (t : State) f => t.startReset f true true true) s1))

/-- Containment, vectors, service, BAR2 (R138-R144, R150-R156). -/
def Obligations.HostEventsComplete : Prop :=
  (∀ (fn cause queue addr : Nat) (idx : Option Nat) (s : State), 1 ≤ cause → cause ≤ 5 →
    ((s.fn fn).st = .active ∨ (s.fn fn).st = .contained) →
    let s1 := (s.contain fn cause addr queue true).aerLog fn cause
    Ends (.hostReadError fn cause true queue idx addr) s (s1.setRing fn { s1.ring fn with asked := 0, fetched := [] })) ∧
  (∀ (fn cause queue addr g i : Nat) (s : State), 1 ≤ cause → cause ≤ 5 →
    ((s.fn fn).st = .active ∨ (s.fn fn).st = .contained) → queue ≠ 0xFFFF →
    let s1 := (s.contain fn cause addr queue false).aerLog fn cause
    s1.wqOf fn queue = some g →
    Ends (.hostReadError fn cause false queue (some i) addr) s (s1.request g i { status := cContained, bytes := s1.mvBytesOf g i }) ∧
    Ends (.hostReadError fn cause false queue none addr) s (s1.dropReads g)) ∧
  (∀ (fn cause addr n : Nat) (s : State), 1 ≤ cause → cause ≤ 5 → ((s.fn fn).st = .active ∨ (s.fn fn).st = .contained) →
    Ends (.hostReadError fn cause false 0xFFFF (some n) addr) s
      (((s.contain fn cause addr 0xFFFF false).aerLog fn cause).mvRingContained n)) ∧
  (∀ (f : Nat) (s : State), isPf0 f = false → f < 4096 → (s.fn f).st = .contained →
    Ends (.flaskCtrlRelease f) s ((s.release f).ringFetch f)) ∧
  (∀ (fn v : Nat) (s : State), s.fnOn fn = true → v < s.vectors fn →
    Ends (.msixVectorUnmask fn v) s ((s.setFld (vecBase fn v + 12) 0 0 0).flushVectors fn)) ∧
  (∀ (fn : Nat) (en : Bool) (s : State), s.fnOn fn = true →
    let s1 := s.setFn fn { s.fn fn with msixEn := en }
    Ends (.msixEnable fn en) s ((if isPf0 fn then s1.intxUpdate (s.linkOf fn) else s1).flushVectors fn)) ∧
  (∀ (l v : Nat) (s : State), s.linkExists l = true → Ends (.intxAck l v) s (s.clearPend (pf0Fn l) (v % 2048))) ∧
  (∀ (fn : Nat) (s : State), s.fnOn fn = true →
    Ends (.functionServiceStop fn true) s (s.setFn fn { s.fn fn with d3hot := true }) ∧
    Ends (.functionServiceStop fn false) s (s.setFn fn { s.fn fn with busMaster := false }) ∧
    Ends (.functionServiceResume fn) s (((s.setFn fn { s.fn fn with d3hot := false, busMaster := true }).resumeFn fn).ringFetch fn)) ∧
  (∀ (l : Nat) (s : State), s.linkExists l = true → (s.link l).vfEnable = false →
    Ends (.vfBar2SizeWrite l 0) s ((s.setRegN Reg.HE_VF_BAR2_SIZE 8).cfgWritten 2)) ∧
  (∀ (l off len : Nat) (data : List Byte) (s : State),
    let a := s.fld Reg.HE_BAR2_BASE 9 0 * 2 ^ 28 + off
    s.linkExists l = true →
    (off + data.length ≤ 2 ^ (28 + (s.link l).bar2Size) → a + data.length ≤ s.dramBytes →
      Ends (.bar2Access (.pf0 l) true off len data) s (s.dramWrite a data)) ∧
    (off + len ≤ 2 ^ (28 + (s.link l).bar2Size) → a + len ≤ s.dramBytes →
      Ends (.bar2Access (.pf0 l) false off len data) s (s.emit (.readData (.pf0 l) (s.dramRead a len))))) ∧
  (∀ (f off len : Nat) (data : List Byte) (s : State),
    let size := u16 (s.fn f).quota 16 * 1024
    s.vfOn f = true →
    (off + data.length ≤ 4096 * 2 ^ (s.link (s.linkOf f)).vfBar2Size →
      Ends (.bar2Access (.flask f) true off len data) s (s.dramWrite ((s.fn f).dramBase + off) (data.take (size - off)))) ∧
    (off + len ≤ 4096 * 2 ^ (s.link (s.linkOf f)).vfBar2Size →
      Ends (.bar2Access (.flask f) false off len data) s
        (s.emit (.readData (.flask f) (fit len (s.dramRead ((s.fn f).dramBase + off) (min len (size - off))))))))

/-- The 0x02xx opcodes (R145-R166, R682). -/
def Obligations.FlaskOpcodesComplete : Prop :=
  (∀ (w : Waybill) (u : State) (f : Nat), issuerFlask w.inst = some f →
    Carries .flaskQuery flaskQueryMeta w u .ok (u.flaskQuery f) u) ∧
  (∀ (w : Waybill) (u : State) (fn : Nat), issuerFlask w.inst = none → hostFn u w = some fn →
    Carries .flaskQuery flaskQueryMeta w u .ok (u.flaskQuery fn) u) ∧
  (∀ (w : Waybill) (u t : State), w.u16 0 ≠ 0 → w.u16 0 < 4096 → (u.fn (w.u16 0)).st = .unprovisioned →
    quotaBad (quotaOf (w.bytes 4 32)) = false → u.grant (w.u16 0) (quotaOf (w.bytes 4 32)) = some t →
    let f := w.u16 0
    let s1 := t.setFn f { t.fn f with st := if t.vfOn f then .active else .offline, generation := (t.fn f).generation + 1,
                                      containCount := 0, created := true }
    Carries .flaskCreate flaskCreateMeta w u .ok []
      ({ s1 with tally := { s1.tally with flasks := SMap.put s1.tally.flasks f {},
                                          shadowFlask := SMap.del s1.tally.shadowFlask f } } : State).queueCounts) ∧
  (∀ (w : Waybill) (u : State), w.u16 0 ≠ 0 → w.u16 0 < 4096 →
    let f := w.u16 0
    ((u.fn f).st = .unprovisioned → Carries .flaskDestroy flaskDestroyMeta w u .ok [] u) ∧
    ((u.fn f).st = .offline → Carries .flaskDestroy flaskDestroyMeta w u .ok [] (u.freeFlask f)) ∧
    ((u.fn f).st = .resetting →
      Pends .flaskDestroy flaskDestroyMeta w u (.flaskDestroy f) 20000000 (some ⟨.flask, f⟩) (u.setFn f { u.fn f with thenDestroy := true })) ∧
    ((u.fn f).st = .active ∨ (u.fn f).st = .contained →
      let s1 := u.startReset f false false true
      Pends .flaskDestroy flaskDestroyMeta w u (.flaskDestroy f) 20000000 (some ⟨.flask, f⟩)
        (s1.setFn f { s1.fn f with thenDestroy := true }))) ∧
  (∀ (w : Waybill) (u t : State),
    let f := w.u16 0
    let q := quotaOf (w.bytes 4 32)
    f ≠ 0 → f < 4096 → (u.fn f).st ≠ .unprovisioned → (u.fn f).st ≠ .resetting → quotaBad q = false →
    (u8 q 4 = u8 (u.fn f).quota 4 ∨ (u.fn f).msixEn = false) → u.grant f q = some t →
    Carries .flaskSetQuota flaskSetQuotaMeta w u .ok (u.fn f).quota (t.raiseFlask f 3)) ∧
  (∀ (w : Waybill) (u : State) (fn : Nat), hostFn u w = some fn → (u.fn fn).st ≠ .unprovisioned →
    Pends .flaskReset flaskResetMeta w u (.flaskReset fn) 10000000 (some ⟨.flask, fn⟩)
      (if isPf0 fn then u.linkReset (u.linkOf fn) true else u.startReset fn false false true)) ∧
  (∀ (w : Waybill) (u : State) (fn : Nat), hostFn u w = some fn →
    ((u.fn fn).st = .contained → Carries .flaskRelease flaskReleaseMeta w u .ok [] ((u.release fn).ringFetch fn)) ∧
    ((u.fn fn).st ≠ .contained → Carries .flaskRelease flaskReleaseMeta w u .ok [] u)) ∧
  (∀ (w : Waybill) (u : State) (fn : Nat), hostFn u w = some fn →
    ((u.fn fn).st = .active → Carries .flaskContain flaskContainMeta w u .ok [] (u.contain fn 6 0 0 false)) ∧
    ((u.fn fn).st = .contained → Carries .flaskContain flaskContainMeta w u .ok [] (u.countContain fn)) ∧
    ((u.fn fn).st = .offline ∨ (u.fn fn).st = .resetting → Carries .flaskContain flaskContainMeta w u .ok [] u)) ∧
  (∀ (w : Waybill) (u : State), 1 ≤ w.u16 0 → 1 ≤ w.u16 2 → w.u16 2 ≤ 1024 → w.u16 0 + w.u16 2 ≤ 4096 →
    Carries .flaskList flaskListMeta w u .ok
      ((List.range (w.u16 2)).map (fun i => BitVec.ofNat 8 (u.fn (w.u16 0 + i)).st.code)) u) ∧
  (∀ (w : Waybill) (u : State), w.u8 0 ≤ 1 → Carries .linkQuery linkQueryMeta w u .ok
    (leBytes 4 (u.regN (linkStat (w.u8 0))) ++ leBytes 2 (u.link (w.u8 0)).numVFs ++ zeros 2) u)

/-- R155: releasing a contained flask makes it ACTIVE with its cause cleared before its service resumes; R158 steps 1 and 6 of a flask's
reset: RESETTING at its start. -/
def Obligations.FlaskStatesMove : Prop :=
  (∀ (s : State) (fn : Nat) (f : Fn), (s.setFn fn f).fn fn = f) ∧
  (∀ (s : State) (fn g : Nat) (f : Fn), g ≠ fn → (s.setFn fn f).fn g = s.fn g) ∧
  (∀ (s : State) (fn : Nat), (s.fn fn).st = .contained →
    s.release fn =
      (let s2 := (s.setFn fn { s.fn fn with st := .active, cause := 0, causeAddr := 0 }).resumeFn fn
       if isPf0 fn then s2 else s2.raiseFlask fn 1)) ∧
  (∀ (s : State) (fn : Nat), (s.fn fn).st ≠ .contained → s.release fn = s)
/-! Completion of the commands of 05 and 06: queues, completions, the ledger -/

/-- Doorbells (R182-R184, R196): a work queue's PRODUCER moves to a valid index; a completion queue's consumer index moves and RE-ARM arms. -/
def Obligations.DoorbellsComplete : Prop :=
  (∀ (src : Src) (slot g : Nat) (v : DWord) (s : State) (q : WorkQ),
    let fn := srcFn src
    let n := v.toNat
    (s.fn fn).st ≠ .unprovisioned → (s.fn fn).st ≠ .resetting → s.pdOn 34 = true → bits n 31 16 = slot → n.testBit 32 = false →
    s.wqOf fn slot = some g → s.wq? g = some q → q.fn = fn → q.st ≠ 4 →
    idxSub (bits n 15 0) q.completed ≤ q.size → idxSub q.prod q.completed ≤ idxSub (bits n 15 0) q.completed →
    let s1 := (s.setWq g { q with prod := bits n 15 0 }).noteStall g
    Ends (.wqDoorbell src slot 8 v) s (if q.kind = 1 then s1.rxPump g (q.rx.length + 1) else s1)) ∧
  (∀ (src : Src) (slot c : Nat) (v : DWord) (s : State) (k : CompQ),
    let fn := srcFn src
    let n := v.toNat
    (s.fn fn).st ≠ .unprovisioned → (s.fn fn).st ≠ .resetting → s.pdOn 34 = true → bits n 31 16 = slot → n.testBit 32 = true →
    s.cqOf fn slot = some c → s.cq? c = some k → k.fn = fn → idxSub (bits n 15 0) k.cidx ≤ idxSub k.widx k.cidx →
    let k1 := { k with cidx := bits n 15 0 }
    (n.testBit 33 = false ∨ k.armed = true → Ends (.cqDoorbell src slot 8 v) s (s.setCq c k1)) ∧
    (n.testBit 33 = true → k.armed = false → k.since = 0 →
      Ends (.cqDoorbell src slot 8 v) s ((s.setCq c k1).setCq c { k1 with armed := true })) ∧
    (n.testBit 33 = true → k.armed = false → k.since ≠ 0 →
      Ends (.cqDoorbell src slot 8 v) s ((s.setCq c k1).cqMessage c { k1 with armed := true })))

/-- R183: a doorbell of another length, of another slot, or for a queue that does not exist is discarded, counted and recorded. -/
def Obligations.BadDoorbellsAreRecorded : Prop :=
  ∀ (src : Src) (slot len : Nat) (v : DWord) (s : State),
    let fn := srcFn src
    (s.fn fn).st ≠ .unprovisioned → (s.fn fn).st ≠ .resetting → s.pdOn 34 = true →
    (len ≠ 8 → Ends (.wqDoorbell src slot len v) s (s.dbErr fn slot 1)) ∧
    (len = 8 → bits v.toNat 31 16 ≠ slot → Ends (.wqDoorbell src slot len v) s (s.dbErr fn slot 2)) ∧
    (len = 8 → bits v.toNat 31 16 = slot → v.toNat.testBit 32 = false → s.wqOf fn slot = none →
      Ends (.wqDoorbell src slot len v) s (s.dbErr fn slot 3)) ∧
    (len = 8 → bits v.toNat 31 16 = slot → v.toNat.testBit 32 = true → s.cqOf fn slot = none →
      Ends (.wqDoorbell src slot len v) s (s.dbErr fn slot 3))

/-- The queue engine's own steps (R172-R196; 06 R206-R216; 01 R28). -/
def Obligations.QueueEngineCompletes : Prop :=
  (∀ s : State,
    let s1 := s.qm.wqs.foldl (fun (t : State) x => if x.2.kind = 1 then t else t.noteStall x.1) s
    let s2 := if (s1.fetchable.filter (fun x => x.2.allowance != 0)).isEmpty then s1.newRound else s1
    ∀ g q q1, afterLast s2.qm.last (s2.fetchable.filter (fun x => x.2.allowance != 0)) = some (g, q) →
      (s2.issueFetch g (min q.rburst q.allowance)).wq? g = some q1 →
      let s4 := (s2.issueFetch g (min q.rburst q.allowance)).setWq g { q1 with allowance := q1.allowance - idxSub q1.fetched q.fetched }
      Ends .fetch s { s4 with qm := { s4.qm with last := some g } }) ∧
  (∀ (g : Nat) (data : List Byte) (s : State) (x : WorkQ), s.wq? g = some x → ∀ r rest, x.reads = r :: rest →
    (r.discard = true → Ends (.fetchReturn g data) s (s.setWq g { x with reads := rest })) ∧
    (r.discard = false → Ends (.fetchReturn g data) s
      (s.setWq g { x with reads := rest, entries := x.entries ++ (List.range r.count).map (fun i =>
        let e : Entry := { idx := (r.first + i) % 65536, raw := slice data (i * 64) 64, slot := r.slots.getD i 0 }
        let bad := s.entryBad x e
        { e with started := bad, badCls := !s.classAllowed x.kind e.ledgerClass,
                 reqs := if bad then [{ status := cBadDescriptor }] else [] }) }))) ∧
  (∀ (g : Nat) (s : State) (x : WorkQ) (e : Entry), s.wq? g = some x → x.entries.find? (fun e => !e.acc) = some e →
    s.commitsStopped = false → x.st ≤ 2 → (s.fn x.fn).st ≠ .resetting → e.badCls = false →
    s.regN (Reg.LG_CLASS_HELD e.ledgerClass) < s.classLimit e.ledgerClass → (x.kind ≠ 3 ∨ e.reqs = []) →
    let seq := s.regN Reg.LG_SEQ
    let x1 := { x.mapEntry e.idx (fun y => { y with acc := true, seq := seq, cls := e.ledgerClass }) with
                accepted := (x.accepted + 1) % 65536 }
    let s1 := (((s.setWq g x1).setRegN Reg.LG_SEQ (nextLedgerSeq seq)).bump64 Reg.LG_ACCEPTS 1).classHeld e.ledgerClass true
    Ends (.acceptCommit g) s (if s1.fnServes x.fn then s1.writeMirror g else s1)) ∧
  (∀ (g i : Nat) (data : List Byte) (s t : State) (e : Entry) (x : WorkQ), s.tableArrives g i data = (some e, t) → t.wq? g = some x →
    (x.kind = 0 → Ends (.fragmentTableReturn g i data) s
      (e.frags.foldl (fun (v : State) f => v.emit (.hostRead x.fn f.1 f.2)) (t.modEntry g i (fun y => { y with want := e.total 0 })))) ∧
    (x.kind = 1 → Ends (.fragmentTableReturn g i data) s (t.rxPump g (x.rx.length + 1))) ∧
    (x.kind = 2 → Ends (.fragmentTableReturn g i data) s (t.startParts g x e))) ∧
  (∀ (g i : Nat) (data : List Byte) (s : State) (x : WorkQ) (e : Entry), s.wq? g = some x → x.entry? i = some e → x.kind = 0 →
    e.want ≠ 0 → e.ended = false → e.got.length < e.want → e.frame = none →
    let x1 := x.mapEntry i (fun _ => { e with got := (e.got ++ data).take e.want })
    Ends (.payloadReadReturn g i data) s ((s.setWq g x1).releaseFrames g x1.entries)) ∧
  (∀ (g i : Nat) (s : State), Ends (.completionCommit g i) s (s.commitEntry g i)) ∧
  (∀ (g : Nat) (s : State) (x : WorkQ), s.wq? g = some x → s.fnServes x.fn = true →
    Ends (.completionWrite g) s (s.writeDone g false false)) ∧
  (∀ (c : Nat) (s : State) (k : CompQ), s.cq? c = some k → k.armed = true → k.since ≠ 0 →
    Ends (.moderationTimer c) s ((s.at (k.oldest + k.modTimeUs * 1000)).cqMessage c k)) ∧
  (∀ (g : Nat) (s : State) (x : WorkQ), s.wq? g = some x → x.kind = 1 → s.wantsFetch x = true →
    (s.credits x.cq ≠ 0 → Ends (.rxPrefetch g) s (s.issueFetch g (min (s.rxPrefetch - x.rxHeld) (32768 - s.rxPoolUsed)))) ∧
    (s.credits x.cq = 0 → Ends (.rxPrefetch g) s (s.noteStall g))) ∧
  (∀ (g : Nat) (s : State) (x : WorkQ), s.wq? g = some x →
    Ends (.rxDeliveryCheck g) s (s.rxPump g (x.rx.length + 1)) ∧
    (∀ f r, x.rx = f :: r → Ends (.rxHoldExpiry g) s ((s.at f.deadline).rxPump g (x.rx.length + 1)))) ∧
  (∀ (g i : Nat) (s : State) (x : WorkQ) (e : Entry), s.wq? g = some x →
    (x.canStart i 0 = some e → e.acc = true → x.kind ≠ 1 →
      Ends (.nop g i) s ((s.setWq g (x.mapEntry i (fun e => { e with started := true }))).request g i { status := cOk })) ∧
    (x.canStart i 1 = some e → x.kind = 0 → s.fnServes x.fn = true → Ends (.send g i) s (s.askBuffer g x e true)) ∧
    (x.canStart i 0x10 = some e → x.kind = 1 → e.acc = true → (e.indirect = false ∨ s.fnServes x.fn = true) →
      Ends (.recv g i) s (s.askBuffer g x e false)))

/-- The opcodes of work queues and completion queues and QM_SET_PARAMS (R168, R195-R204). -/
def Obligations.QueueOpcodesComplete : Prop :=
  ((∀ (w : Waybill) (u : State) (fn c : Nat) (k : CompQ), createFn (fun _ => w.u8 30) u w = some fn →
     u.namedCq (w.u16 0) (w.u16 20) = some c → u.cq? c = some k → k.fn = fn → wqFieldsBad w = false →
     u.tmqNameBad (flaskNo fn) (w.u16 28) = false →
     let mine := u.qm.wqs.filter (fun x => x.2.fn == fn)
     (if isPf0 fn then u.fld Reg.QM_WQ_FREE 16 0 ≠ 0 else mine.length < u16 (u.fn fn).quota 0) →
     let g := lowestFree (u.qm.wqs.map (·.1))
     let n := if isPf0 fn then g else lowestFree (mine.map (·.2.localNo))
     Carries .wqCreate wqCreateMeta w u .ok (leBytes 2 n ++ zeros 2)
       (u.setWq g { fn := fn, localNo := n, kind := w.u8 2, sizeLog2 := w.u8 3, base := w.u64 4, mirror := w.u64 12, cq := c,
                    weight := w.u8 22, burst := w.u8 23, holdUs := holdOf (w.u16 24), mode := w.u8 26, tmq := w.u16 28,
                    chan := g % 96 }).queueCounts) ∧
   (∀ (w : Waybill) (u : State) (g : Nat) (q : WorkQ), u.namedWq (w.u16 0) (w.u16 2) = some g → u.wq? g = some q →
     (q.st = 4 → Carries .wqDestroy wqDestroyMeta w u .ok []
       ({ u with qm := { u.qm with wqs := SMap.del u.qm.wqs g } } : State).queueCounts) ∧
     (w.u8 4 = 1 → w.u8 5 ≠ 0 →
       Carries .wqModify wqModifyMeta w u .ok (u.wqQuery q) (u.setWq g { q with weight := w.u8 5 })) ∧
     (w.u8 4 = 2 → w.u8 6 ≠ 0 → w.u8 6 ≤ 64 →
       Carries .wqModify wqModifyMeta w u .ok (u.wqQuery q) (u.setWq g { q with burst := w.u8 6 })) ∧
     Carries .wqQuery wqQueryMeta w u .ok (u.wqQuery q) u ∧
     (q.st < 3 → q.reads = [] →
       Carries .wqPause wqPauseMeta w u .ok [] (u.setWq g { q with st := 2, pauseAt := u.now + u.fnCto q.fn + 1000000 })) ∧
     (q.st < 3 → q.reads ≠ [] →
       Pends .wqPause wqPauseMeta w u (.wqPause g) (u.fnCto q.fn + 1000000) (some ⟨.workQueue, g⟩)
         (u.setWq g { q with st := 2, pauseAt := u.now + u.fnCto q.fn + 1000000 })) ∧
     (q.st = 2 → Carries .wqResume wqResumeMeta w u .ok [] ((u.setWq g { q with st := 1 }).noteStall g)) ∧
     (q.st = 2 → 6 ≤ w.u8 4 → w.u8 4 ≤ 15 → w.u64 8 % 64 = 0 → idxSub q.prod q.completed ≤ 2 ^ w.u8 4 →
       Carries .wqResize wqResizeMeta w u .ok [] (u.setWq g { q with sizeLog2 := w.u8 4, base := w.u64 8 })) ∧
     (q.st < 3 → Pends .wqShutdown wqShutdownMeta w u (.wqShutdown g) 2000000 (some ⟨.workQueue, g⟩)
       ((u.setWq g { q with st := 3, aborted := 0, shutAt := u.now + 2000000 }).endEntries g)) ∧
     (q.st = 4 → Carries .wqShutdown wqShutdownMeta w u .ok [0, 0, 0, 0] u)) ∧
   (∀ (g : Nat) (s : State) (x : WorkQ), s.wq? g = some x → s.waits (.wqPause g) = true →
     (x.reads = [] → Ends (.wqPauseDone g) s (s.completeWait (.wqPause g) .ok [])) ∧
     (x.reads ≠ [] → Ends (.wqPauseDone g) s ((s.at x.pauseAt).completeWait (.wqPause g) .timeout []))) ∧
   (∀ (g : Nat) (s : State) (x y : WorkQ), s.wq? g = some x → x.st = 3 → s.commitsStopped = false → s.fnServes x.fn = true →
     (s.commitAll g).allCommitted g = true → ((s.commitAll g).writeDone g false false).wq? g = some y →
     Ends (.wqShutdownDone g) s
       (((((s.commitAll g).writeDone g false false).setWq g { y with st := 4 }).writeMirror g).completeWait (.wqShutdown g) .ok
         (leBytes 4 y.aborted)))) ∧
  ((∀ (w : Waybill) (u : State) (fn : Nat), createFn (fun _ => w.u8 18) u w = some fn → 6 ≤ w.u8 2 → w.u8 2 ≤ 15 → w.u64 4 % 128 = 0 →
     u.cqParamsBad fn (w.u16 12) (w.u16 14) (w.u16 16) = false →
     let mine := u.qm.cqs.filter (fun x => x.2.fn == fn)
     (if isPf0 fn then u.fld Reg.QM_CQ_FREE 16 0 ≠ 0 else mine.length < u16 (u.fn fn).quota 2) →
     let g := lowestFree (u.qm.cqs.map (·.1))
     let n := if isPf0 fn then g else lowestFree (mine.map (·.2.localNo))
     Carries .cqCreate cqCreateMeta w u .ok (leBytes 2 n ++ zeros 2)
       (u.setCq g { fn := fn, localNo := n, sizeLog2 := w.u8 2, base := w.u64 4, vector := w.u16 12, modCount := w.u16 14,
                    modTimeUs := w.u16 16, autoArm := (w.u8 3).testBit 0 }).queueCounts) ∧
   (∀ (w : Waybill) (u : State) (g : Nat) (k : CompQ), u.namedCq (w.u16 0) (w.u16 2) = some g → u.cq? g = some k →
     (u.boundTo g = 0 → Carries .cqDestroy cqDestroyMeta w u .ok []
       ({ u with qm := { u.qm with cqs := SMap.del u.qm.cqs g } } : State).queueCounts) ∧
     (u.cqParamsBad k.fn (w.u16 6) (w.u16 8) (w.u16 10) = false → (w.u8 4).testBit 0 = false →
       Carries .cqModify cqModifyMeta w u .ok []
         (u.setCq g { k with autoArm := false, vector := w.u16 6, modCount := w.u16 8, modTimeUs := w.u16 10 })) ∧
     Carries .cqQuery cqQueryMeta w u .ok (u.cqQuery g k) u) ∧
   (∀ (w : Waybill) (u : State), 1 ≤ w.u8 0 → w.u8 0 ≤ 64 → w.u8 1 ≠ 0 →
     Carries .qmSetParams qmSetParamsMeta w u .ok
       (leBytes 1 (bits (u.regN Reg.QM_CTRL) 15 8) ++ leBytes 1 (bits (u.regN Reg.QM_CTRL) 23 16) ++ zeros 2)
       ((u.setRegN Reg.QM_CTRL (w.u8 1 * 65536 + w.u8 0 * 256)).cfgWritten 3)))

/-- Faults of the ledger (R230-R233). -/
def Obligations.LedgerFaultsComplete : Prop :=
  (∀ (h : Bool) (row : Nat) (s : State), s.halfLost h = false →
    Ends (.mirrorRowError h row false) s ((s.bump Reg.LG_ECC_CORR).raise Ev.lg 0) ∧
    (s.halfState h = 0 →
      Ends (.mirrorRowError h row true) s
        ((({ s with lg := { s.lg with rows := s.lg.rows ++ [⟨h, row, s.now + 10000000⟩] } } : State).setHalf h 1).lgSync))) ∧
  (∀ (h : Bool) (row : Nat) (s : State), s.lg.rows.any (fun r => r.half == h && r.row == row) = true → s.halfState h = 1 →
    (s.lg.rows.filter (fun r => !(r.half == h && r.row == row))).any (fun r => r.half == h) = false →
    Ends (.rowRepairDone h row) s
      ((({ s with lg := { s.lg with rows := s.lg.rows.filter (fun r => !(r.half == h && r.row == row)) } } : State).setHalf h 0).lgSync.raise
        Ev.lg 1)) ∧
  (∀ (q i : Nat) (s : State), Ends (.doubleFault q (some i)) s (s.loseEntry q i) ∧ Ends (.doubleFault q none) s (s.loseQueue q)) ∧
  (∀ (h : Bool) (s : State), Ends (.halfLost h) s (s.loseHalf h)) ∧
  (∀ (h : Bool) (s : State), s.lg.copying = some h →
    Ends .fallbackCopyDone s
      ((({ s with lg := { s.lg with copying := none, inDram := some h, fallbackWhole := true } } : State).setHalf h 3).setPaused false).lgSync) ∧
  (∀ (h : Bool) (s : State), s.halfLost h = true → s.lg.restoring = none → s.pdOn (if h then 43 else 1) = true → s.halfLost (!h) = false →
    Ends (.halfDomainReturn h) s ({ s.setHalf h 2 with lg := { s.lg with restoring := some h } } : State).lgSync) ∧
  (∀ (h : Bool) (s : State), s.lg.restoring = some h →
    Ends (.halfRestoreDone h) s
      ((((({ s with lg := { s.lg with restoring := none, inDram := if s.lg.inDram = some h then none else s.lg.inDram,
                                      fallbackWhole := false } } : State).setLost h false).setHalf h 0).setPaused false).lgSync.raise
        Ev.lg 3))
/-! Completion of the commands of 15: drives, storage, NVMe/TCP -/

/-- A block entry starts (05 R177; R512, R514): without a fragment table its buffer is the entry's own; with one the table is read. -/
def Obligations.BlockEntriesComplete : Prop :=
  ∀ (q idx : Nat) (s : State) (x : WorkQ), s.wq? q = some x → x.kind = 2 → s.fnServes x.fn = true → s.inService 14 = true →
    (∀ e, x.canStart idx 0x21 = some e → e.acc = true →
      (e.indirect = false →
        let e1 := { e with started := true, frags := [(e.addr 2, e.lenField 2)] }
        let x1 := x.mapEntry idx (fun _ => e1)
        Ends (.blkRead q idx) s ((s.setWq q x1).startParts q x1 e1)) ∧
      (e.indirect = true → Ends (.blkRead q idx) s (s.askBuffer q x e false))) ∧
    (∀ e, x.canStart idx 0x22 = some e → e.acc = true →
      (e.indirect = false →
        let e1 := { e with started := true, frags := [(e.addr 2, e.lenField 2)] }
        let x1 := x.mapEntry idx (fun _ => e1)
        Ends (.blkWrite q idx) s ((s.setWq q x1).startParts q x1 e1)) ∧
      (e.indirect = true → Ends (.blkWrite q idx) s (s.askBuffer q x e false))) ∧
    (∀ e, x.canStart idx 0x23 = some e → e.acc = true →
      let e1 := { e with started := true, frags := [] }
      let x1 := x.mapEntry idx (fun _ => e1)
      Ends (.blkFlush q idx) s ((s.setWq q x1).startParts q x1 e1)) ∧
    (∀ e, x.canStart idx 0x24 = some e → e.acc = true →
      let e1 := { e with started := true, frags := [] }
      let x1 := x.mapEntry idx (fun _ => e1)
      Ends (.blkDeallocate q idx) s ((s.setWq q x1).startParts q x1 e1)) ∧
    (∀ e, x.canStart idx 0x25 = some e → e.acc = true →
      let e1 := { e with started := true, frags := [] }
      let x1 := x.mapEntry idx (fun _ => e1)
      Ends (.blkWriteZeroes q idx) s ((s.setWq q x1).startParts q x1 e1))

/-- Drive ports (R502-R507, R510): insertion, the steps of a start, removal, faults, the button, resets. -/
def Obligations.DrivePortEventsComplete : Prop :=
  (∀ (p : Nat) (s : State), s.portOk p = true → s.flag (Reg.DP_PORT_STAT p) 31 = false →
    let s1 := (((s.setFld (Reg.DP_PORT_STAT p) 31 31 1).setDrvSt p 1).setDrive p {}).portEvent p 0 0
    Ends (.driveInserted p) s (if s1.flag (Reg.DP_PORT_CTRL p) 31 then s1.driveStart p else s1)) ∧
  (∀ (p : Nat) (s : State), s.portOk p = true → s.drvSt p = 2 →
    ((s.drive p).step = 1 →
      Ends (.driveStartStepDone p .powerGood) s (s.setDrive p { s.drive p with step := 2, deadline := s.now + 200000000 })) ∧
    (∀ sp w, (s.drive p).step = 2 → 1 ≤ sp → sp ≤ 5 → (w = 1 ∨ w = 2 ∨ w = 4) →
      Ends (.driveStartStepDone p (.linkUp sp w)) s
        ((((s.setFld (Reg.DP_PORT_STAT p) 29 29 1).setFld (Reg.DP_PORT_STAT p) 10 8 w).setFld (Reg.DP_PORT_STAT p) 2 0 sp).setDrive p
          { s.drive p with step := 3, deadline := s.now + 100000000 })) ∧
    (∀ cap, (s.drive p).step = 3 →
      let t := s.at (s.drive p).deadline
      Ends (.driveStartStepDone p (.waited cap)) s
        ((t.setDrive p { s.drive p with step := 4, capTo := cap, deadline := t.now + cap * 500000000 }).emit (.nvmeReg p 0 1))) ∧
    ((s.drive p).step = 4 → Ends (.driveStartStepDone p .ready) s (s.setDrive p { s.drive p with step := 5, deadline := 0 })) ∧
    (∀ serial model ns, (s.drive p).step = 5 →
      let t := s.setDrive p { s.drive p with step := 0, serial := fit 20 serial, model := fit 40 model, ns := ns, led := 1 }
      Ends (.driveStartStepDone p (.identified serial model ns)) s (((t.setDrvSt p 3).portEvent p 2 0).powerDone p).ioPump)) ∧
  (∀ (p : Nat) (s : State), s.portOk p = true → s.drvSt p = 2 → (s.drive p).step ≠ 0 → (s.drive p).step ≠ 3 →
    Ends (.driveStartStepTimeout p) s ((if (s.drive p).step = 5 then s else s.at (s.drive p).deadline).driveFail p)) ∧
  (∀ (p : Nat) (s : State), s.portOk p = true →
    (s.flag (Reg.DP_PORT_STAT p) 31 = true →
      Ends (.driveRemoved p) s (((s.setFld (Reg.DP_PORT_STAT p) 31 31 0).portEvent p 0 1).driveGone p 0)) ∧
    (s.flag (Reg.DP_PORT_STAT p) 29 = true → Ends (.driveLinkDown p) s ((s.portEvent p 1 1).driveGone p 5)) ∧
    (s.flag (Reg.DP_PORT_STAT p) 30 = true → Ends (.drivePowerFault p) s ((s.portEvent p 7 2).driveGone p 5))) ∧
  (∀ (p : Nat) (s : State), s.portOk p = true → s.flag (Reg.DP_PORT_CTRL p) 30 = true →
    ((s.drive p).blink.isSome = true → Ends (.attentionButton p) s
      ((s.setDrive p { s.drive p with blink := none, led := if s.drvSt p = 3 then 1 else 0 }).powerDone p)) ∧
    ((s.drive p).blink = none → s.drvSt p = 1 → Ends (.attentionButton p) s
      (s.setDrive p { s.drive p with blink := some (.start, s.now + 5000000000), led := 2 })) ∧
    ((s.drive p).blink = none → s.drvSt p = 3 → Ends (.attentionButton p) s
      (s.setDrive p { s.drive p with blink := some (.remove, s.now + 5000000000), led := 2 }))) ∧
  (∀ (p t : Nat) (s : State), s.portOk p = true →
    ((s.drive p).blink = some (.start, t) → Ends (.blinkExpiry p) s ((s.at t).driveStart p)) ∧
    ((s.drive p).blink = some (.remove, t) → Ends (.blinkExpiry p) s ((s.at t).driveQuiesce p))) ∧
  (∀ (p : Nat) (s : State), s.portOk p = true → s.drvSt p = 4 →
    Ends (.shutdownComplete p) s
      (((if s.regN (Reg.DP_PORT_OUT p) = 0 then s else s.at (s.drive p).quiesceAt).emit (.nvmeReg p 2 1)).driveGone p 6)) ∧
  (∀ (p cid : Nat) (s : State) (x : Io), s.io? cid = some x → s.portOk p = true → x.remote = false → x.port = p → x.st = .issued →
    s.drvSt p = 3 → Ends (.driveCmdTimeout p cid) s ((s.at x.deadline).controllerReset p)) ∧
  (∀ (p : Nat) (s : State), s.portOk p = true → (s.drvSt p = 3 ∨ s.drvSt p = 4) → Ends (.controllerFatal p) s (s.controllerReset p)) ∧
  (∀ (p t : Nat) (s : State), s.portOk p = true → (s.drive p).resetting = some t →
    Ends (.controllerResetDone p true) s
      ((((s.setDrive p { s.drive p with resetting := none }).admGone p).reissue false p).ioPump) ∧
    Ends (.controllerResetDone p false) s ((s.at t).driveFail p))

/-- Commands of drives and targets (R503, R512-R517). -/
def Obligations.StorageCommandEventsComplete : Prop :=
  (∀ (p cid : Nat) (cqe data : List Byte) (s : State), s.portOk p = true → (s.drive p).adm = some cid →
    Ends (.nvmeCompletion (.admin p) cid cqe data) s
      ((s.setDrive p { s.drive p with adm := none }).completeWait (.drvAdmin p cid) .ok (fit 16 cqe ++ data.take 4000))) ∧
  (∀ (p cid : Nat) (cqe data : List Byte) (s : State) (x : Io), s.io? cid = some x → s.portOk p = true → x.remote = false → x.port = p →
    x.st = .issued → (s.drive p).resetting = none → Ends (.nvmeCompletion (.io p) cid cqe data) s (s.ioDone x (u16 cqe 14 / 2))) ∧
  (∀ (t cid : Nat) (cqe data : List Byte) (s : State) (x : Io), s.io? cid = some x → s.inService 14 = true → x.remote = true → x.port = t →
    x.st = .issued → (s.tgt t).st = 2 → Ends (.nvmeCompletion (.target t) cid cqe data) s (s.ioDone x (u16 cqe 14 / 2))) ∧
  (∀ (p addr len : Nat) (data : List Byte) (s : State) (x : Io), s.portOk p = true →
    let own := fun (n : Nat) => s.dp.ios.find? (fun x => !x.remote && x.port == p && x.st == .issued && x.len != 0
      && decide (x.stage ≤ addr) && decide (addr + n ≤ x.stage + x.len))
    (own data.length = some x → Ends (.driveDmaRequest p true addr len data) s (s.dramStore addr data)) ∧
    (own len = some x → (s.dramFetch addr len).2.1 = false →
      Ends (.driveDmaRequest p false addr len data) s ((s.dramFetch addr len).2.2.emit (.nvme p 0 (s.dramFetch addr len).1))) ∧
    (own len = none → Ends (.driveDmaRequest p false addr len data) s ((s.bump (Reg.DP_DMA_BLOCKED p)).portEvent p 6 1))) ∧
  (∀ (t cid off : Nat) (data : List Byte) (last success : Bool) (s : State) (x : Io), s.io? cid = some x → s.inService 14 = true →
    x.remote = true → x.port = t → x.st = .issued → (s.tgt t).st = 2 → x.op = 0x21 → off + data.length ≤ x.len →
    let s1 := (s.setTgt t { s.tgt t with rto := [] }).dramStore (x.stage + off) data
    Ends (.c2hdata t cid off data last success) s (if last && success then s1.ioDone x 0 else s1)) ∧
  (∀ (t cid ttag off len : Nat) (s : State) (x : Io), s.io? cid = some x → s.inService 14 = true → x.remote = true → x.port = t →
    x.st = .issued → (s.tgt t).st = 2 → x.nvmeOp = 1 → off + len ≤ x.len →
    let r := (s.setTgt t { s.tgt t with rto := [] }).dramFetch (x.stage + off) len
    r.2.1 = false →
    Ends (.readyToTransfer t cid ttag off len) s
      ((h2cPdus len (max 1 (s.tgt t).info.maxH2c) off r.1).foldl (fun (v : State) p =>
        v.emit (.tcp t (x.id % max 1 (s.tgt t).info.conns + 1)
          (leBytes 2 cid ++ leBytes 2 ttag ++ leBytes 4 p.1 ++ leBytes 4 p.2.length ++ p.2))) r.2.2)) ∧
  (∀ (t cid : Nat) (s : State) (x : Io), s.io? cid = some x → s.inService 14 = true → x.remote = true → x.port = t → x.st = .issued →
    (s.tgt t).st = 2 →
    let s1 := (s.setTgt t { s.tgt t with digestErrs := (s.tgt t).digestErrs + 1 }).raiseSev Ev.dp 5 1
    (x.tries < 2 → Ends (.dataDigestError t cid) s
      ((s1.mapIo cid (fun z => { z with tries := z.tries + 1 })).ioIssue { x with tries := x.tries + 1 })) ∧
    (2 ≤ x.tries → Ends (.dataDigestError t cid) s (s1.ioEnd x 0x07C4))) ∧
  (∀ (t : Nat) (s : State), s.inService 14 = true → (s.tgt t).st = 2 →
    Ends (.connectionClose t false) s (s.targetClose t) ∧
    Ends (.connectionClose t true) s
      (((s.setTgt t { s.tgt t with digestErrs := (s.tgt t).digestErrs + 1 }).raiseSev Ev.dp 5 1).targetClose t)) ∧
  (∀ (t conn : Nat) (s : State), s.inService 14 = true → (s.tgt t).st = 2 → conn ≤ (s.tgt t).info.conns →
    let n := SMap.getD (s.tgt t).rto conn 0 + 1
    (n < 8 → Ends (.tcpRto t conn) s ((s.setTgt t { s.tgt t with rto := SMap.put (s.tgt t).rto conn n }).emit (.tcp t conn []))) ∧
    (8 ≤ n → Ends (.tcpRto t conn) s (s.targetClose t))) ∧
  (∀ (t : Nat) (info : TgtInfo) (s : State), s.inService 14 = true → (s.tgt t).st = 1 →
    let y := s.tgt t
    let dig := info.digests &&& (bits (u8 y.rcd 2) 2 1)
    let s1 := s.setTgt t { y with st := 2, info := { info with digests := dig, conns := min info.conns (u8 y.rcd 1) },
                                  reconnects := if y.again then y.reconnects + 1 else y.reconnects, rto := [] }
    Ends (.targetConnected t info) s
      ((s1.completeWait (.tgtConnect t) .ok (leBytes 2 (0xFF00 + t) ++ leBytes 1 dig ++ zeros 1 ++ leBytes 4 info.maxH2c)).reissue
        true t).ioPump) ∧
  (∀ (t : Nat) (s : State), s.inService 14 = true → (s.tgt t).st = 1 → (s.tgt t).again = true →
    Ends (.reconnectTimeout t) s
      ((((s.at (s.tgt t).deadline).setTgt t { s.tgt t with st := 0 }).endTarget t 0x07C1).raiseSev Ev.dp 4 2))

/-- The opcodes 0x0B00-0x0B0B of drives, targets and virtual block functions (R505, R507, R511, R516-R520). -/
def Obligations.StorageOpcodesComplete : Prop :=
  ((∀ (w : Waybill) (u : State), w.u8 0 ≤ 3 → Carries .drvQuery drvQueryMeta w u .ok
     (leBytes 4 (u.regN (Reg.DP_PORT_STAT (w.u8 0))) ++ leBytes 4 (u.regN (Reg.DP_PORT_OUT (w.u8 0))) ++ fit 20 (u.drive (w.u8 0)).serial
       ++ fit 20 (u.drive (w.u8 0)).model ++ leBytes 4 (u.drive (w.u8 0)).ns.length ++ leBytes 4 (u.regN (Reg.DP_PORT_RESETS (w.u8 0)))
       ++ zeros 8) u) ∧
   (∀ (w : Waybill) (u : State), w.u8 0 ≤ 3 →
     let p := w.u8 0
     let wait := fun (t : State) => Pends .drvPower drvPowerMeta w u (.drvPower p) (15000000000 + u.cmdNs) (some ⟨.drivePort, p⟩) t
     let now := fun (t : State) => Carries .drvPower drvPowerMeta w u .ok (leBytes 1 (t.drvSt p) ++ zeros 3) t
     (w.u8 1 = 0 → u.drvSt p = 3 → wait (u.setDrive p { u.drive p with blink := some (.remove, u.now + 5000000000), led := 2 })) ∧
     (w.u8 1 = 0 → u.drvSt p = 1 → now ((u.slotOff p).setDrvSt p 6)) ∧
     (w.u8 1 = 1 → u.drvSt p = 1 → wait (u.driveStart p)) ∧
     (w.u8 1 = 1 → u.drvSt p = 3 → now u) ∧
     (w.u8 1 = 2 → u.drvSt p = 3 → now (u.driveGone p 6)) ∧
     (w.u8 1 ≤ 2 → u.drvSt p = 0 → now u)) ∧
   (∀ (w : Waybill) (u : State), w.u8 0 ≤ 3 → w.u8 1 ≤ 2 → w.u32 4 ≤ 4000 → adminRefused.contains (w.u8 8) = false → u.drvSt (w.u8 0) = 3 →
     (u.drive (w.u8 0)).adm = none → (u.drive (w.u8 0)).resetting = none →
     let s1 := ({ u with dp := { u.dp with next := (u.dp.next + 1) % 65536 } } : State).setDrive (w.u8 0)
       { u.drive (w.u8 0) with adm := some u.dp.next }
     Pends .drvAdmin drvAdminMeta w u (.drvAdmin (w.u8 0) u.dp.next) u.cmdNs (some ⟨.drivePort, w.u8 0⟩)
       (s1.emit (.nvme (w.u8 0) 0 (patch (w.bytes 8 64) 2 (leBytes 2 u.dp.next) ++ (if w.u8 1 = 1 then w.bytes 72 (w.u32 4) else []))))) ∧
   (∀ (w : Waybill) (u : State) (q : TmQ), 1 ≤ w.u8 1 → w.u8 1 ≤ 16 → u.tmq? (w.u16 22) = some q → q.owner = 0 → q.destroying = false →
     (u.tgt (w.u8 0)).st = 0 → u.wqOf 0 (0xFF00 + w.u8 0) = none →
     let y : Target := { rcd := patch (w.bytes 0 28) 2 [BitVec.ofNat 8 (w.u8 2 % 8), 0] ++ zeros 28, st := 1, deadline := u.now + 5000000000 }
     Pends .tgtConnect tgtConnectMeta w u (.tgtConnect (w.u8 0)) 5000000000 (some ⟨.target, w.u8 0⟩)
       (((u.setTgt (w.u8 0) y).cfgWritten 14).emit (.tcp (w.u8 0) 0 (w.bytes 4 24)))) ∧
   (∀ (w : Waybill) (u : State), (u.tgt (w.u8 0)).st ≠ 0 →
     let t := w.u8 0
     let n := (u.dp.ios.filter (fun x => x.remote && x.port == t && (x.st == .issued || x.st == .ready))).length
     Carries .tgtDisconnect tgtDisconnectMeta w u .ok (leBytes 4 n)
       ((((u.setTgt t { u.tgt t with st := 0, again := true }).endTarget t 0x07C1).cfgWritten 14).emit (.tcp t 0 []))) ∧
   (∀ (w : Waybill) (u : State) (y : Target), SMap.get? u.dp.tgts (w.u8 0) = some y →
     let n := (u.dp.ios.filter (fun x => x.remote && x.port == w.u8 0 && x.st == .issued)).length
     Carries .tgtQuery tgtQueryMeta w u .ok
       (leBytes 1 y.st ++ leBytes 1 y.info.conns ++ leBytes 1 y.info.digests ++ zeros 1 ++ leBytes 4 n ++ leBytes 8 y.bytes
         ++ leBytes 4 y.digestErrs ++ leBytes 4 y.reconnects ++ zeros 8) u) ∧
   (∀ (w : Waybill) (u : State),
     let st := w.u32 4 &&& 0x001F00FF
     let s1 := (u.setRegN Reg.DP_STAGE st).cfgWritten 14
     u.stageBad st = false → (st = u.regN Reg.DP_STAGE ∨ u.dp.vbfs = []) → u.poolShort s1 = false →
     Carries .dpSetParams dpSetParamsMeta w u .ok (leBytes 4 (u.regN Reg.DP_CTRL) ++ leBytes 4 (u.regN Reg.DP_STAGE))
       ((s1.setRegN Reg.DP_CTRL (w.u32 0 &&& 0x00FFFF00)).cfgWritten 14)) ∧
   (∀ (w : Waybill) (u : State), w.u8 0 ≤ 3 → Carries .drvPortSet drvPortSetMeta w u .ok (leBytes 4 (u.regN (Reg.DP_PORT_CTRL (w.u8 0))))
     ((u.setRegN (Reg.DP_PORT_CTRL (w.u8 0)) (w.u32 4 &&& 0xF00000FF)).cfgWritten 14))) ∧
  ((∀ (w : Waybill) (u : State),
     let ext := (List.range (w.u8 6)).map (fun i => w.bytes (8 + 48 * i) 48)
     w.u16 0 ≤ 4095 → 1 ≤ w.u8 6 → w.u8 6 ≤ 64 → w.u8 3 ≤ 1 → u.vbfOf (w.u16 0) (w.u8 2) = none →
     ext.any (fun x => extKind x == 0 || extBad x) = false → u.fld Reg.DP_STAGE 20 16 ≠ 0 → u.dramUp = true → u.dp.vbfs.length < 4096 →
     u.extentsOver (w.u16 0) (w.u8 6) = false →
     let v : Vbf := { owner := w.u16 0, num := w.u8 2, blockSize := if w.u8 3 = 1 then 4096 else 512,
                      key := if (w.u16 4).testBit 15 then some (w.u16 4 % 16384) else none, extents := ext.map extRec }
     Carries .vbfCreate vbfCreateMeta w u .ok (leBytes 8 v.capacity) ((u.setVbf (w.u16 0) (w.u8 2) (some v)).cfgWritten 14)) ∧
   (∀ (w : Waybill) (u : State) (v : Vbf), u.vbfOf (w.u16 0) (w.u8 2) = some v →
     (u.vbfBusy v.owner v.num = false →
       Carries .vbfDestroy vbfDestroyMeta w u .ok [] ((u.setVbf v.owner v.num none).cfgWritten 14)) ∧
     (let i := w.u8 3
      let x := extRec (w.bytes 8 48)
      let old := v.extents.getD i (zeros 48)
      let all := (v.extents ++ List.replicate (i + 1 - v.extents.length) (zeros 48)).set i x
      i ≤ 63 → extBad (w.bytes 8 48) = false → all.all (fun y => extKind y == 0) = false →
      u.dp.ios.any (fun y => y.owner == v.owner && y.vbf == v.num && y.extent == i && y.st == .issued) = false →
      (extKind old ≠ 0 ∨ extKind x = 0 ∨ u.extentsOver v.owner 1 = false) →
      Carries .extentSet extentSetMeta w u .ok old ((u.setVbf v.owner v.num (some { v with extents := trimExt all })).cfgWritten 14)) ∧
     Carries .vbfQuery vbfQueryMeta w u .ok
       (leBytes 8 v.capacity ++ leBytes 1 (if v.blockSize = 4096 then 1 else 0) ++ leBytes 1 v.extents.length
         ++ leBytes 2 (match v.key with | some k => 0x8000 + k | none => 0) ++ zeros 4
         ++ (v.extents.map (fun x => leBytes 1 (if u.extOn v.blockSize x then 1 else 0) ++ zeros 3)).flatten) u))

/-! Completion of the commands of 07: frames received and the parser -/

/-- A frame reaches the parser and is classified (11 R380; 07 R261, R262; 08 R299, R300; 18 R580, R593; 01 R25-R27). -/
def Obligations.FramePathCompletes : Prop :=
  (∀ (p : Nat) (b : List Byte) (s : State), p < 8 → s.portUp p = true → s.looped p = false →
    Ends (.frameReceived p .whole b false) s (s.bump (Reg.NP_RX_FCS_ERR p)) ∧
    (b.length < 60 → Ends (.frameReceived p .whole b true) s (s.bump (Reg.NP_RX_RUNT p))) ∧
    (60 ≤ b.length → s.maxFrame p < b.length → Ends (.frameReceived p .whole b true) s (s.bump (Reg.NP_RX_TOOLONG p))) ∧
    (60 ≤ b.length → b.length ≤ s.maxFrame p → Ends (.frameReceived p .whole b true) s (s.bufferFrame p b false)) ∧
    (∀ ok, 60 ≤ b.length → b.length ≤ s.maxFrame p → be16 b 12 ≠ 0x8808 →
      Ends (.frameReceived p .head b ok) s (s.bufferFrame p b true)) ∧
    (∀ h ok, Ends (.frameReceived p (.tail h) b ok) s (s.tailIn p h ok))) ∧
  (∀ (h : Nat) (s : State) (f : Frame), s.frame? h = some f → f.stage = .macsec → f.tail = false →
    (s.rxSlot f.src f.bytes = none → Ends (.macsecReceive h) s (s.cxDrop (Reg.CX_NO_KEY 0) h)) ∧
    (∀ slot, s.rxSlot f.src f.bytes = some slot → (s.keySlot slot).st ≠ 2 →
      Ends (.macsecReceive h) s (s.cxDrop (Reg.CX_NO_KEY 0) h)) ∧
    (∀ slot, s.rxSlot f.src f.bytes = some slot → (s.keySlot slot).st = 2 → (s.keySlot slot).framing = 5 →
      let s1 := s.countSegment 0 slot (f.bytes.length - 12)
      let r := macsecIn (s.keySlot slot) f.bytes
      (r.1 = .ok → Ends (.macsecReceive h) s
        (((s1.setKeySlot slot { s1.keySlot slot with rcd := r.2.2.rcd, win := r.2.2.win }).seqMoved 0 slot).setFrame h
          { f with bytes := r.2.1, decrypted := true, stage := .parse 0 0 false false })) ∧
      (r.1 = .replay → Ends (.macsecReceive h) s
        ((s1.setKeySlot slot { s1.keySlot slot with replayDrops := (s1.keySlot slot).replayDrops + 1 }).cxDrop
          (Reg.CX_REPLAY_DROP 0) h)))) ∧
  (∀ (h node off : Nat) (keep bad : Bool) (pf : List ParFault) (s : State) (f : Frame), s.frame? h = some f →
    f.stage = .parse node off keep bad →
    ((s.inService 5 = false ∨ s.inService 6 = false) → Ends (.parsePass h pf) s ((s.bump Reg.TM_DROP_DOWN).dropFrame h)) ∧
    (s.inService 5 = true → s.inService 6 = true →
      let r := s.passDone h f node off keep bad pf
      let g := r.1
      let s1 := r.2
      (g.ps.exc = true → Ends (.parsePass h pf) s ((s1.parseExc g g.ps).dropFrame h)) ∧
      (g.ps.exc = false → g.tx = false → (g.src = 8 ∨ g.src = 9) → Ends (.parsePass h pf) s (s1.setFrame h { g with stage := .enqueue })) ∧
      (g.ps.exc = false → (g.tx = true ∨ (g.src ≠ 8 ∧ g.src ≠ 9)) → Ends (.parsePass h pf) s (s1.classifyFrame h g pf)))) ∧
  (∀ (q : Nat) (d : List Byte) (r : List (Nat × List Byte)) (s : State), s.ctlUp = true → s.parser.exc = (q, d) :: r →
    Ends .parseExceptionDelivery s ({ s with parser := { s.parser with exc := r } }.deliverExc q d Reg.PS_EXC_DROPPED)) ∧
  (∀ (q : Nat) (d : List Byte) (r : List (Nat × List Byte)) (s : State), s.ctlUp = true → s.cl.exc = (q, d) :: r →
    let s1 : State := { s with cl := { s.cl with exc := r } }
    (s1.pf0RxQueue q = true → s1.rxCanTake q = true → Ends .classifierExceptionDelivery s
      ((s1.rxHand q d { status := cOk } none).bump Reg.CL_EXC_SENT)) ∧
    ((s1.pf0RxQueue q = false ∨ s1.rxCanTake q = false) → Ends .classifierExceptionDelivery s (s1.bump Reg.CL_EXC_DROPPED))) ∧
  (∀ (tx : Bool) (t : Nat) (s : State), (s.pdir tx).lock = some t →
    Ends (.bankLockTimeout tx) s ((s.at t).setPdir tx { s.pdir tx with lock := none })) ∧
  (∀ (h : Nat) (s : State) (f : Frame), s.frame? h = some f →
    let late := fun (t : State) => ((t.bump Reg.CL_ENGINE_TIMEOUT).raise Ev.cl 2).dropFrame h
    (∀ c, f.stage = .engine c → Ends (.engineTimeout h) s (late ((s.at f.engDeadline).unqueue c h))) ∧
    (∀ c t, f.stage = .thread c t → Ends (.engineTimeout h) s (late (s.at f.engDeadline))))

/-- The opcodes 0x0400-0x0407 (R261-R263, R266). -/
def Obligations.ParserOpcodesComplete : Prop :=
  (∀ (w : Waybill) (u : State), w.u8 0 ≤ 1 → 1 ≤ w.u8 3 → w.u8 3 ≤ 63 → w.u8 2 + w.u8 3 ≤ 256 →
    let tx := w.u8 0 == 1
    let d := u.pdir tx
    let b := (d.gen + 1) % 2
    let clear := (w.u8 1).testBit 0
    let new := (List.range (w.u8 3)).foldl (fun (m : Recs) i => SMap.put m (w.u8 2 + i) (w.bytes (8 + 64 * i) 64))
      (if clear then [] else d.nodes b)
    u.bankLocked tx = false →
    Carries .parseGraphLoad parseGraphLoadMeta w u .ok (leBytes 4 (bankCrc new))
      (u.setPdir tx { d.setBank b new (w.u32 4) with
        bad := d.bad.filter (fun x => !(x.1 == b && (clear || (decide (w.u8 2 ≤ x.2) && decide (x.2 < w.u8 2 + w.u8 3))))) })) ∧
  (∀ (w : Waybill) (u : State), w.u8 0 ≤ 1 →
    let tx := w.u8 0 == 1
    let d := u.pdir tx
    let b := (d.gen + 1) % 2
    d.id b = w.u32 4 → (u8 (SMap.getD (d.nodes b) 0 (zeros 64)) 0).testBit 0 = true →
    ((w.u8 1).testBit 0 = true → bankCrc (d.nodes b) = w.u32 8) → u.bankLocked tx = false →
    Carries .parseGraphActivate parseGraphActivateMeta w u .ok (leBytes 4 (bankCrc (d.nodes b)) ++ leBytes 4 (d.id d.gen))
      ((((((u.setPdir tx { d with gen := d.gen + 1, lock := some (u.now + 4000000) }).setFld Reg.PS_CTRL (if tx then 17 else 16)
        (if tx then 17 else 16) b).graphIds tx).raise Ev.ps 1).cfgWritten 5))) ∧
  (∀ (w : Waybill) (u : State), w.u8 0 ≤ 1 → w.u8 1 ≤ 1 → 1 ≤ w.u8 3 → w.u8 3 ≤ 63 → w.u8 2 + w.u8 3 ≤ 256 →
    let d := u.pdir (w.u8 0 == 1)
    let b := d.gen + w.u8 1
    Carries .parseGraphRead parseGraphReadMeta w u .ok (leBytes 4 (d.id b) ++ leBytes 4 (bankCrc (d.nodes b))
      ++ (List.range (w.u8 3)).flatMap (fun i => SMap.getD (d.nodes b) (w.u8 2 + i) (zeros 64))) u) ∧
  (∀ (w : Waybill) (u : State), 1 ≤ w.u8 0 → w.u8 0 ≤ 8 → 1 ≤ w.u8 1 → w.u8 1 ≤ 8 → w.u8 2 ≤ 1 →
    let old := u.regN Reg.PS_CTRL
    Carries .parseSetDepth parseSetDepthMeta w u .ok
      (leBytes 1 (bits old 3 0) ++ leBytes 1 (bits old 11 8) ++ leBytes 1 (bits old 31 31) ++ zeros 1)
      (u.setCfg 5 Reg.PS_CTRL (setBits (setBits (setBits old 3 0 (w.u8 0)) 11 8 (w.u8 1)) 31 31 (w.u8 2)))) ∧
  (∀ (w : Waybill) (u : State), (w.u16 0 = 0xFFFF ∨ u.pf0RxQueue (w.u16 0) = true) → 1 ≤ w.u8 2 → w.u8 2 ≤ 64 → w.u32 4 ≤ 1000000 →
    w.u32 12 ≤ 1000000 → 1 ≤ w.u16 8 → w.u16 8 ≤ 4095 → 1 ≤ w.u16 10 → w.u16 10 ≤ 4095 →
    let c := u.regN Reg.PS_EXC_CTRL
    let r := u.regN Reg.PS_EXC_RATE_RX
    let t := u.regN Reg.PS_EXC_RATE_TX
    Carries .parseSetExc parseSetExcMeta w u .ok
      (leBytes 2 (bits c 31 16) ++ leBytes 1 (bits c 6 0) ++ zeros 1 ++ leBytes 4 (bits r 31 12)
        ++ leBytes 2 (bits r 11 0) ++ leBytes 2 (bits t 11 0) ++ leBytes 4 (bits t 31 12))
      (((u.setCfg 5 Reg.PS_EXC_CTRL (w.u16 0 * 65536 + w.u8 2)).setPsRate false (w.u32 4 * 4096 + w.u16 8)).setPsRate true
        (w.u32 12 * 4096 + w.u16 10))) ∧
  (∀ (w : Waybill) (u : State), Carries .parseSetGeneve parseSetGeneveMeta w u .ok
    ((List.range 4).flatMap (fun i => leBytes 4 (u.regN (Reg.PS_GENEVE_OPT i))))
    ((List.range 4).foldl (fun t i => t.setCfg 5 (Reg.PS_GENEVE_OPT i) (setBits (w.u32 (4 * i)) 6 6 0)) u)) ∧
  (∀ (w : Waybill) (u : State),
    let r := u.parser.rx
    let t := u.parser.tx
    Carries .parseQuery parseQueryMeta w u .ok
      (leBytes 4 (r.id r.gen) ++ leBytes 4 (t.id t.gen) ++ leBytes 4 (r.id (r.gen + 1)) ++ leBytes 4 (t.id (t.gen + 1))
        ++ leBytes 1 (bitVal (u.bankLocked false) 0 + bitVal (u.bankLocked true) 1) ++ zeros 3
        ++ leBytes 8 (u.reg64 Reg.PS_RX_PASSES) ++ leBytes 8 (u.reg64 Reg.PS_TX_PASSES)
        ++ leBytes 4 (u.regN Reg.PS_RX_ERRORS) ++ leBytes 4 (u.regN Reg.PS_TX_ERRORS)
        ++ leBytes 4 (u.regN Reg.PS_EXC_SENT) ++ leBytes 4 (u.regN Reg.PS_EXC_DROPPED)) u) ∧
  (∀ (w : Waybill) (u : State), w.u8 0 ≤ 1 → w.u8 1 ≤ 1 → 14 ≤ w.u16 6 → w.u16 6 ≤ 4072 →
    let tx := w.u8 0 == 1
    let b := (u.pdir tx).gen + w.u8 1
    let p := (u.passIn tx b (w.bytes 8 (w.u16 6)) 0 []).run (passStart none false (b % 2)) 0 0 (w.u8 2 % 16) (w.u16 4) false
    Carries .parseTest parseTestMeta w u .ok (p.key ++ p.summary) u)

/-! Completion of the commands of 08 -/

/-- The opcodes 0x0500-0x0511: groups, tollgates, action lists, rules, templates, sets (R270-R287, R304). -/
def Obligations.ClassifierOpcodesComplete : Prop :=
  ((∀ (w : Waybill) (u : State), Carries .clQuery clQueryMeta w u .ok
     (leBytes 4 (u.regN Reg.CL_ENTRIES) ++ leBytes 4 (u.regN Reg.CL_RULES)
       ++ leBytes 2 (u.cl.lists.filter (fun x => x.2.any (· != 0))).length
       ++ leBytes 1 (u.regN Reg.CL_TOLL_FREE)
       ++ leBytes 1 (u.cl.groups.filter (fun x => (u8 x.2 64).testBit 0 && bits (u8 x.2 64) 2 1 != 0)).length
       ++ leBytes 8 (u.reg64 Reg.CL_HITS) ++ leBytes 8 (u.reg64 Reg.CL_MISSES) ++ leBytes 4 (u.regN Reg.CL_SEED)) u) ∧
   (∀ (w : Waybill) (u : State), w.u8 0 ≤ 47 →
     let g := w.u8 0
     let mask := w.bytes 4 64
     let care := (mask.filter (· != 0)).length
     care ≤ 24 → (mask = slice (u.group g) 0 64 ∨ u.groupEntries g = 0) →
     let r := mask ++ [BitVec.ofNat 8 (w.u8 68 % 8), BitVec.ofNat 8 care] ++ zeros 6
     Carries .groupSet groupSetMeta w u .ok (u.group g)
       (State.cfgWritten { u with cl := { u.cl with groups := SMap.put u.cl.groups g r } } 6)) ∧
   (∀ (w : Waybill) (u : State), w.u8 0 ≤ 47 →
     Carries .groupRead groupReadMeta w u .ok (u.group (w.u8 0) ++ leBytes 4 (u.groupEntries (w.u8 0))) u) ∧
   (∀ (w : Waybill) (u : State) (t : Nat) (new : Bool), w.u16 4 ≤ w.u16 6 → w.u8 2 ≤ 15 → u.ownerExists (w.u16 0) = true →
     u.tollPick (w.u16 0) (w.u8 2) (w.u16 4) (w.u16 6) = some (t, new) →
     let o := w.u16 0
     let s0 : State := { u with cl := { u.cl with tollFailed := false } }
     let s1 := if new then (s0.setRegN (Reg.TOLL_RANGE t) (w.u16 6 * 65536 + w.u16 4)).setCfg 6 (Reg.TOLL_CTRL t) (2 ^ 31 + w.u8 2)
       else s0
     let s2 := s1.setHeld t o (s1.tollHeld t o + 1)
     let s3 := s2.setRegN Reg.CL_TOLL_FREE s2.tollFree
     Carries .tollAlloc tollAllocMeta w u .ok
       (leBytes 1 t ++ leBytes 1 (if new then 1 else 0) ++ leBytes 2 (s3.tollHeld t o) ++ leBytes 1 s3.tollFree
         ++ leBytes 1 (if o = 0 then 0 else s3.tollCharge o) ++ zeros 2) s3) ∧
   (∀ (w : Waybill) (u : State), w.u16 4 ≤ w.u16 6 → w.u8 2 ≤ 15 → u.ownerExists (w.u16 0) = true →
     u.tollPick (w.u16 0) (w.u8 2) (w.u16 4) (w.u16 6) = none →
     let s1 := if u.cl.tollFailed then u else u.raise Ev.cl 0
     Carries .tollAlloc tollAllocMeta w u .tollgatesExhausted [] { s1 with cl := { s1.cl with tollFailed := true } }) ∧
   (∀ (w : Waybill) (u : State), w.u8 2 ≤ 95 →
     let o := w.u16 0
     let t := w.u8 2
     let n := u.tollHeld t o
     n ≠ 0 → (n ≠ 1 ∨ u.tollUsed t o = false) →
     let s1 := u.setHeld t o (n - 1)
     let s2 := if (s1.tollHolders t).isEmpty then (s1.setRegN (Reg.TOLL_RANGE t) 0).setCfg 6 (Reg.TOLL_CTRL t) 0 else s1
     Carries .tollFree tollFreeMeta w u .ok (leBytes 2 (n - 1) ++ zeros 2) (s2.setRegN Reg.CL_TOLL_FREE s2.tollFree)) ∧
   (∀ (w : Waybill) (u : State), (w.u16 0 = 0xFFFF ∨ u.ownerExists (w.u16 0) = true) →
     let o := w.u16 0
     let held := fun (t : Nat) => if o == 0xFFFF then u.flag (Reg.TOLL_CTRL t) 31 else u.tollHeld t o != 0
     let own := o != 0xFFFF && o != 0
     Carries .tollQuery tollQueryMeta w u .ok
       (leBytes 1 u.tollFree ++ leBytes 1 (if own then u8 (u.fn o).quota 5 else 0) ++ leBytes 1 (if own then u.tollCharge o else 0)
         ++ zeros 1 ++ leBytes 12 ((List.range 96).foldl (fun n t => n + bitVal (held t) t) 0)) u) ∧
   (∀ (w : Waybill) (u : State), w.u16 0 ≤ 8191 → u.listBad (w.u16 0) (w.bytes 4 72) = false →
     Carries .actionSet actionSetMeta w u .ok (u.actList (w.u16 0))
       (State.cfgWritten { u with cl := { u.cl with lists := SMap.put u.cl.lists (w.u16 0) (w.bytes 4 72),
                                                    badLists := u.cl.badLists.filter (· != w.u16 0) } } 6)) ∧
   (∀ (w : Waybill) (u : State), w.u16 0 ≤ 8191 → Carries .actionRead actionReadMeta w u .ok (u.actList (w.u16 0)) u) ∧
   (∀ (w : Waybill) (u : State), 1 ≤ w.u16 8 % 128 → w.u16 8 % 128 ≤ 64 → (w.u16 10 = 0xFFFF ∨ u.pf0RxQueue (w.u16 10) = true) →
     let s1 := u.setCfg 6 Reg.CL_CTRL (setBits (w.u32 0) 30 16 0)
     let s2 := s1.setCfg 6 Reg.CL_MISS (setBits (setBits (w.u32 4) 30 29 0) 14 13 0)
     let s3 := s2.setCfg 6 Reg.CL_EXC_CTRL (w.u16 10 * 65536 + w.u16 8 % 128)
     Carries .clSetParams clSetParamsMeta w u .ok
       ([Reg.CL_CTRL, Reg.CL_MISS, Reg.CL_EXC_CTRL, Reg.CL_EXC_RATE_RX, Reg.CL_EXC_RATE_TX].flatMap (fun a => leBytes 4 (u.regN a))
         ++ zeros 4) ((s3.setClRate false (w.u32 12)).setClRate true (w.u32 16))) ∧
   (∀ (w : Waybill) (u : State), w.u8 0 ≤ 15 → Carries .engineSetDefine engineSetDefineMeta w u .ok
     (leBytes 4 (u.regN (Reg.CL_ENGINE_SET (w.u8 0)))) (u.setCfg 6 (Reg.CL_ENGINE_SET (w.u8 0)) (w.u32 4))) ∧
   (∀ (w : Waybill) (u : State), w.u8 0 ≤ 15 →
     let v := setBits (w.u32 4) 14 8 0
     (if v.testBit 15 then u.pf0RxQueue (bits v 31 16) else (u.tmq? (bits v 31 16)).isSome) = true →
     Carries .mirrorSet mirrorSetMeta w u .ok (leBytes 4 (u.regN (Reg.CL_MIRROR (w.u8 0)))) (u.setCfg 6 (Reg.CL_MIRROR (w.u8 0)) v)) ∧
   (∀ (w : Waybill) (u : State), w.u16 0 ≤ 2047 → w.u16 2 ≤ 4095 → Carries .templateSet templateSetMeta w u .ok []
     (State.cfgWritten { u with cl := { u.cl with templates := SMap.put u.cl.templates (w.u16 0) (w.bytes 4 128),
                                                  tmplOwner := SMap.put u.cl.tmplOwner (w.u16 0) (w.u16 2) } } 6)) ∧
   (∀ (w : Waybill) (u : State) (r g : Nat), w.u8 0 ≤ 1 →
     ((u.classView []).classify (w.u8 0 == 1) (w.bytes 4 64) (w.bytes 68 64) (w.u16 2)).1 = some (r, g) → g ≠ noGroup →
     Carries .clTest clTestMeta w u .ok (leBytes 2 r ++ leBytes 2 (ruleList (u.rule r)) ++ leBytes 4 (ruleId (u.rule r))
       ++ leBytes 12 (u.tollVector (w.bytes 68 64)) ++ leBytes 1 g ++ zeros 3) u) ∧
   (∀ (w : Waybill) (u : State),
     let s1 : State := { u with cl := { u.cl with
       rules := u.cl.rules.map (fun (x : Nat × List Byte) => (x.1, setValid x.2 false)), entries := [], hits := [], badEntries := [],
       badRules := [], clearing := true } }
     Pends .clClear clClearMeta w u .clClear 20000000 (some ⟨.ruleSet, 0⟩) ((s1.setCfg 6 Reg.CL_SEED (w.u32 0)).ruleCounts)) ∧
   (∀ (s : State), s.cl.clearing = true →
     Ends .clClearDone s (State.completeWait { s with cl := { s.cl with clearing := false } } .clClear .ok []))) ∧
  ((∀ (w : Waybill) (u : State), w.u16 0 ≤ 32767 → 1 ≤ w.u8 3 → w.u8 3 ≤ 32 → ruleValid (u.rule (w.u16 0)) = false →
     let i := w.u16 0
     let rc := ruleRecord (w.bytes 4 16)
     let o := ruleOwner rc
     let keys := u.ruleKeys w
     let lo := listOwner (u.actList (ruleList rc))
     (∀ k ∈ keys, u.groupOn k.1 = true) → u.tollRefOk o (u8 rc 4) = true → u.tollRefOk o (u8 rc 5) = true → (lo = 0 ∨ lo = o) →
     hasDup keys = false →
     let s1 : State := { u with cl := { u.cl with rules := SMap.put u.cl.rules i rc } }
     (s1.addKeys i keys s1.cl.entries = none → Carries .ruleAdd ruleAddMeta w u .noResource [] u) ∧
     (∀ n es, s1.addKeys i keys s1.cl.entries = some (n, es) →
       Carries .ruleAdd ruleAddMeta w u .ok (leBytes 2 keys.length ++ leBytes 2 n)
         ((State.ruleCounts { s1 with cl := { s1.cl with
           entries := es, rules := SMap.put s1.cl.rules i (setValid rc true), hits := SMap.del s1.cl.hits i,
           badRules := s1.cl.badRules.filter (· != i) } }).cfgWritten 6))) ∧
   (∀ (w : Waybill) (u : State), w.u16 0 ≤ 32767 → ruleValid (u.rule (w.u16 0)) = true →
     let i := w.u16 0
     let touched := (u.cl.entries.filter (fun e => (entryRules e.2).contains i)).map (·.1)
     Carries .ruleDelete ruleDeleteMeta w u .ok (leBytes 2 (dropRules i u.cl.entries).1 ++ zeros 2)
       ((State.ruleCounts { u with cl := { u.cl with
         rules := SMap.put u.cl.rules i (setValid (u.rule i) false), entries := (dropRules i u.cl.entries).2,
         badEntries := u.cl.badEntries.filter (fun x => !touched.contains x),
         badRules := u.cl.badRules.filter (· != i) } }).cfgWritten 6)) ∧
   (∀ (w : Waybill) (u : State), w.u16 0 ≤ 32767 → ruleValid (u.rule (w.u16 0)) = true →
     let i := w.u16 0
     let old := u.rule i
     let l := w.u16 2 % 8192
     let o := ruleOwner old
     let lo := listOwner (u.actList l)
     (lo = 0 ∨ lo = o) → u.tollRefOk o (u8 old 4) = true → u.tollRefOk o (u8 old 5) = true →
     Carries .ruleModify ruleModifyMeta w u .ok old
       (State.cfgWritten { u with cl := { u.cl with
         rules := SMap.put u.cl.rules i (patch (patch old 2 (leBytes 2 (setBits (u16 old 2) 14 14 (w.u8 4 % 2)))) 8 (leBytes 2 l)),
         badRules := u.cl.badRules.filter (· != i) } } 6)) ∧
   (∀ (w : Waybill) (u : State), w.u16 0 ≤ 32767 →
     let h := SMap.getD u.cl.hits (w.u16 0) (0, 0)
     Carries .ruleQuery ruleQueryMeta w u .ok
       (u.rule (w.u16 0) ++ leBytes 2 (dropRules (w.u16 0) u.cl.entries).1 ++ zeros 2 ++ leBytes 8 h.1 ++ leBytes 8 h.2) u))

/-! Completion of the commands of 09 and 10 -/

/-- The table command ports and the lookup engine's events (R312-R316, R322-R332, R336). -/
def Obligations.TableEventsComplete : Prop :=
  (∀ (p : Nat) (s : State), p < 2 → s.flag (Reg.TB_STAT p) 31 = true →
    let c := s.regN (Reg.TB_CMD p)
    let may := s.ownSt == 2 && s.drover == SMap.getD s.lk.ports p 0xFFFFFFFF
    let run := fun (op : Nat) => s.command op (bits c 25 20) (s.tbImage p) (c.testBit 19) (s.fld (Reg.TB_BUCKET p) 25 0) (c.testBit 18) may
    let out := fun (op : Nat) =>
      let r := run op
      let k := if op = 1 ∨ op = 3 then min 255 r.relocs else r.st.fld (Reg.TB_STAT p) 15 8
      (r.st.setRegN (Reg.TB_STAT p) (k * 256 + r.result)).setTbImage p (if r.result = rNotFound then zeros 64 else r.data)
    (bits c 31 28 = 1 → Ends (.insert p) s (out 1)) ∧ (bits c 31 28 = 2 → Ends (.update p) s (out 2)) ∧
    (bits c 31 28 = 3 → Ends (.replace p) s (out 3)) ∧ (bits c 31 28 = 4 → Ends (.delete p) s (out 4)) ∧
    (bits c 31 28 = 5 → Ends (.read p) s (out 5)) ∧ (bits c 31 28 = 6 → Ends (.readAt p) s (out 6)) ∧
    (bits c 31 28 = 7 → Ends (.clearAt p) s (out 7))) ∧
  (∀ (h : Nat) (pf : List ParFault) (s : State) (f : Frame) (a : List Byte) (l : List (List Byte)) (n : Nat) (t : Table) (key : List Byte),
    s.frame? h = some f → f.stage = .lookup → f.cont.acts = a :: l → s.profileKey (u8 a 1) f.ps.key = some (n, t, key) →
    Ends (.lookupDramRead h pf) s
      (((s.missingLines n t (t.genFor f.lkTag) key).foldl (fun u l => u.loadLine l) s).runActs actFuel h f pf)) ∧
  (∀ (n : Nat) (s : State) (t : Table) (sh : Gen), s.table? n = some t → t.shadow = some sh → t.rebuild = 1 →
    let es := [2 * t.copied, 2 * t.copied + 1].filterMap (fun i =>
      let e := t.way t.act i
      if t.valid e && !t.act.bad.contains i && (t.find sh (e.take t.keyLen)).isNone then some e else none)
    (t.shadowAll sh es false = none → Ends (.copierStep n) s (s.rebuildFail n)) ∧
    (∀ g, t.shadowAll sh es false = some g →
      let t1 := { t with shadow := some g, copied := t.copied + 1 }
      (t.copied + 1 < 2 ^ t.act.sizeLog2 → Ends (.copierStep n) s (s.setTable n t1)) ∧
      (2 ^ t.act.sizeLog2 ≤ t.copied + 1 → Ends (.copierStep n) s
        (((s.setTable n { t1 with rebuild := 2 }).raise Ev.lk 4).completeWait (.tblRehash n) .ok [])))) ∧
  (∀ (n : Nat) (s : State) (x : Table) (g : Gen), s.table? n = some x → x.old = some g → s.oldLookups n g.tag = false →
    Ends (.tblFlipDone n) s
      ((((s.setTable n { x with old := none }).dropLines n g.tag).resident (x.kib g) 0).completeWait (.tblFlip n) .ok
        (leBytes 1 x.act.sizeLog2 ++ zeros 3))) ∧
  (∀ (n o : Nat) (s : State) (x : Table), s.table? n = some x →
    (x.bulk = some (3, o) → Ends (.tableBulkDone n) s
      (((s.destroyTable n).2.completeWait (.tblDestroy n) .ok (leBytes 4 (s.destroyTable n).1)).cfgWritten 7)) ∧
    (∀ filter, filter ≤ 2 → x.bulk = some (filter, o) →
      let r := (s.setTable n { x with bulk := none }).removeIf n (fun y e =>
        if filter = 0 then true else if filter = 1 then !y.static e else y.entOwner e == o)
      Ends (.tableBulkDone n) s (r.2.completeWait (.tblFlush n filter o) .ok (leBytes 4 r.1)))) ∧
  (∀ (s : State) (x : LearnRec) (rest : List LearnRec) (t : Table), s.ctlUp = true → s.lk.queue = x :: rest →
    let s1 : State := { s with lk := { s.lk with queue := rest } }
    let p := s1.learnProfile x.profile
    let n := u8 x.record 2 % 64
    (s1.table? n = none → Ends .learnInsert s (s1.bump Reg.LK_LEARN_FAIL)) ∧
    (s1.table? n = some t →
      let r := s1.command (if (u8 p 6).testBit 1 then 3 else 1) n (learnEntry t p x.record) false 0 false true
      r.result = rOk → Ends .learnInsert s r.st)) ∧
  (∀ (n : Nat) (s : State) (t : Table), s.table? n = some t → s.flag Reg.LK_CTRL 1 = true → t.agePeriod ≠ 0 → t.rebuild = 0 →
    let per := t.agePeriod * 1000000
    let s1 := s.at t.sweepAt
    let s2 := if t.sweepAt + per ≤ s1.now then s1.raise Ev.lk 6 else s1
    Ends (.ageSweep n) s ((t.act.ways.map (·.1)).foldl (fun u i => u.ageWay n t.fresh i)
      (s2.setTable n { t with sweepAt := t.sweepAt + per, fresh := false })))

/-- The opcodes 0x0600-0x0611 (R306, R310, R313, R318, R322-R326, R336). -/
def Obligations.TableOpcodesComplete : Prop :=
  (∀ (w : Waybill) (u : State) (t : Table), u.table? (w.u8 0) = some t →
    Carries .tblQuery tblQueryMeta w u .ok
      (t.desc ++ leBytes 1 t.act.sizeLog2 ++ leBytes 1 (match t.shadow with | some g => g.sizeLog2 | none => 0)
        ++ leBytes 1 t.rebuild ++ leBytes 1 (if t.rebuild = 2 then 1 else 0) ++ leBytes 4 t.act.seed
        ++ leBytes 4 (t.count t.act) ++ leBytes 4 t.copied ++ leBytes 8 t.lookups) u) ∧
  (∀ (w : Waybill) (u : State) (t : Table), u.table? (w.u8 0) = some t → w.params.length = 4 + t.entrySize →
    let r := fun (op : Nat) => u.command op (w.u8 0) (fit 64 (w.params.drop 4)) false 0 false true
    let ans := fun (op : Nat) => leBytes 1 (r op).result ++ leBytes 1 (r op).relocs ++ zeros 2
    Carries .tblInsert (tblMeta 0x0603 entryLen 4 false) w u (resultStatus (r 1).result) (ans 1) (r 1).st ∧
    Carries .tblUpdate (tblMeta 0x0604 entryLen 4 false) w u (resultStatus (r 2).result) (ans 2) (r 2).st ∧
    Carries .tblReplace (tblMeta 0x0605 entryLen 4 false) w u (resultStatus (r 3).result) (ans 3) (r 3).st) ∧
  (∀ (w : Waybill) (u : State) (t : Table), u.table? (w.u8 0) = some t → w.params.length = 4 + t.keySize →
    let r := fun (op : Nat) => u.command op (w.u8 0) (fit 64 (w.params.drop 4)) false 0 false true
    Carries .tblDelete (tblMeta 0x0606 keyLens 4 false) w u (resultStatus (r 4).result)
      (leBytes 1 (r 4).result ++ leBytes 1 (r 4).relocs ++ zeros 2) (r 4).st ∧
    ((r 5).result = rOk → Carries .tblRead tblReadMeta w u .ok (r 5).data (r 5).st)) ∧
  (∀ (w : Waybill) (u : State) (t : Table) (g : Gen), u.table? (w.u8 0) = some t →
    (w.u8 1 = 0 ∧ g = t.act ∨ w.u8 1 = 1 ∧ t.shadow = some g) → 1 ≤ w.u16 2 → w.u16 2 ≤ (if t.wide then 31 else 63) →
    w.u32 4 < 2 ^ g.sizeLog2 →
    let k := min (w.u16 2) (2 ^ g.sizeLog2 - w.u32 4)
    Carries .tblWalk tblWalkMeta w u .ok (leBytes 4 (w.u32 4 + k) ++ leBytes 1 g.sizeLog2 ++ zeros 3
      ++ (List.range (2 * k)).flatMap (fun i => t.way g (2 * w.u32 4 + i))) u) ∧
  (∀ (w : Waybill) (u : State),
    let hit := match u.profileKey (w.u8 0) (w.bytes 4 64) with
      | none => none
      | some (_, t, key) => (t.find t.act key).map (t.way t.act)
    Carries .lkTest lkTestMeta w u .ok (leBytes 1 (if hit.isSome then 1 else 0) ++ zeros 3 ++ fit 64 (hit.getD [])) u) ∧
  (∀ (w : Waybill) (u : State),
    let d := descOf (w.bytes 0 32)
    let n := u8 d 0
    let t : Table := { desc := d, act := { sizeLog2 := u8 d 3, seed := u32 d 16 }, sweepAt := u.now + u16 d 8 * 1000000 }
    descOk d = true → u.table? n = none → u.poolHas (genBytes d (u8 d 3)) = true → u.residentBad (t.kib t.act) = false →
    Carries .tblCreate tblCreateMeta w u .ok [] (((u.setTable n t).resident 0 (t.kib t.act)).cfgWritten 7)) ∧
  (∀ (w : Waybill) (u : State) (t t1 : Table), u.table? (w.u8 0) = some t → u.profileNames (w.u8 0) = false →
    let n := w.u8 0
    let s1 := (u.freeShadow n).completeWait (.tblRehash n) .aborted []
    s1.table? n = some t1 →
    Pends .tblDestroy tblDestroyMeta w u (.tblDestroy n) (bulkLimit t) (some ⟨.table, n⟩) (s1.setTable n { t1 with bulk := some (3, 0) })) ∧
  (∀ (w : Waybill) (u : State) (t : Table), u.table? (w.u8 0) = some t → 6 ≤ w.u8 1 → w.u8 1 ≤ 26 → t.rebuild = 0 → t.bulk = none →
    t.old = none →
    let n := w.u8 0
    let g : Gen := { sizeLog2 := w.u8 1, seed := w.u32 4, tag := 1 - t.act.tag }
    u.poolHas (genBytes t.desc (w.u8 1)) = true → u.residentBad (t.kib g) = false →
    Pends .tblRehash (tblMeta 0x0609 (len 8) 0 true) w u (.tblRehash n) (bulkLimit t) (some ⟨.table, n⟩)
      ((u.setTable n { t with shadow := some g, rebuild := 1, copied := 0 }).resident 0 (t.kib g))) ∧
  (∀ (w : Waybill) (u : State) (t : Table) (g : Gen), u.table? (w.u8 0) = some t → t.shadow = some g → t.rebuild = 2 →
    let n := w.u8 0
    let s1 := u.setTable n { t with act := g, old := some t.act, shadow := none, rebuild := 0, copied := 0, fresh := true, heldFull := [] }
    let s2 : State := { s1 with lk := { s1.lk with queue := t.heldFull ++ s1.lk.queue } }
    Pends .tblFlip (tblMeta 0x060A (len 4) 4 true) w u (.tblFlip n) 50000 (some ⟨.table, n⟩) (s2.tableLevel n)) ∧
  (∀ (w : Waybill) (u : State) (t : Table), u.table? (w.u8 0) = some t → t.rebuild ≠ 0 →
    Carries .tblRehashCancel (tblMeta 0x060B (len 4) 0 false) w u .ok []
      ((u.freeShadow (w.u8 0)).completeWait (.tblRehash (w.u8 0)) .aborted [])) ∧
  (∀ (w : Waybill) (u : State) (t : Table), u.table? (w.u8 0) = some t → w.u8 1 ≤ 2 → t.rebuild = 0 →
    Pends .tblFlush (tblMeta 0x060C (len 4) 4 true) w u (.tblFlush (w.u8 0) (w.u8 1) (w.u16 2)) (bulkLimit t) (some ⟨.table, w.u8 0⟩)
      (u.setTable (w.u8 0) { t with bulk := some (w.u8 1, w.u16 2) })) ∧
  (∀ (w : Waybill) (u : State) (t : Table), u.table? (w.u8 0) = some t →
    let n := w.u8 0
    let t1 := t.withParams w u.now
    descOk t1.desc = true → u.residentBad (t1.allKib - t.allKib) = false →
    Carries .tblSetParams tblSetParamsMeta w u .ok t.desc
      ((((u.setTable n t1).resident t.allKib t1.allKib).tableLevel n).cfgWritten 7)) ∧
  (∀ (w : Waybill) (u : State), u.profileBad (w.u8 4 % 64) (w.u8 5) (w.u8 6) = false →
    let v := w.bytes 4 3 ++ zeros 5
    Carries .lookupProfileSet lookupProfileSetMeta w u .ok (u.lookupProfile (w.u8 0))
      (State.cfgWritten { u with lk := { u.lk with profiles := SMap.put u.lk.profiles (w.u8 0) v } } 7)) ∧
  (∀ (w : Waybill) (u : State),
    let r := w.bytes 4 32
    u8 r 1 ≤ 1 → u.profileBad (u8 r 0 % 64) (u8 r 4) (u8 r 5) = false →
    let rc := [BitVec.ofNat 8 (setBits (u8 r 0) 6 6 0)] ++ slice r 1 5 ++ [BitVec.ofNat 8 (u8 r 6 % 8)] ++ zeros 9 ++ slice r 16 16
    Carries .learnProfileSet learnProfileSetMeta w u .ok (u.learnProfile (w.u8 0))
      (State.cfgWritten { u with lk := { u.lk with learns := SMap.put u.lk.learns (w.u8 0) rc } } 7)) ∧
  (∀ (w : Waybill) (u : State), Carries .lkSetParams lkSetParamsMeta w u .ok
    (leBytes 4 (u.regN Reg.LK_CTRL) ++ leBytes 4 (u.regN Reg.LK_LEARN_RATE))
    ((u.setCfg 7 Reg.LK_CTRL (setBits (w.u32 0) 15 2 0)).setLearnRate (w.u32 4)))

/-- The traffic manager's events: enqueue, departure, read-back, samples (R341, R342, R355, R357, R360, R366). -/
def Obligations.TmEventsComplete : Prop :=
  (∀ (h : Nat) (s : State) (f : Frame), s.frame? h = some f → f.stage = .enqueue → s.outOfTurn h f = false →
    (s.destGone f = true → Ends (.tmEnqueue h) s ((s.bump Reg.TM_DROP_NOQ).dropFrame h)) ∧
    (s.destGone f = false → f.dest.bind s.destPort = none → Ends (.tmEnqueue h) s ((s.bump Reg.TM_DROP_DOWN).dropFrame h)) ∧
    (∀ p, s.destGone f = false → f.dest.bind s.destPort = some p → (f.tail = false ∨ s.cutThrough f p (s.pickQueue f p).1 = true) →
      let r := s.pickQueue f p
      let s1 := (List.range r.2).foldl (fun t _ => (t.bump Reg.TM_QSEL_REJECT).raise Ev.tm 6) s
      let a := s1.admitFrame h f r.1 p
      (a.1 = false → Ends (.tmEnqueue h) s (a.2.dropFrame h)) ∧
      (a.1 = true → f.back = false → Ends (.tmEnqueue h) s a.2))) ∧
  (∀ (p : Nat) (s : State), p < 12 → Ends (.tmDeparture p) s (s.departure p)) ∧
  (∀ (h q : Nat) (s : State) (f : Frame) (x : TmQ), s.frame? h = some f → f.stage = .queued q → s.tmq? q = some x → f.spilled = true →
    s.dramUp = true → s.bytesAhead x.frames h < 65536 → s.regN Reg.TM_OCC + f.cells ≤ s.bufferCells →
    let s2 := (s.setFrame h { f with spilled := false }).setRegN Reg.TM_OCC
      ((s.setFrame h { f with spilled := false }).regN Reg.TM_OCC + f.cells)
    let s3 := (s2.setRegN Reg.TM_SPILLED (s2.regN Reg.TM_SPILLED - f.cells)).tmThresholds
    Ends (.spillReadback h) s (if f.spillLost then s3.loseCells h { f with spilled := false, spillLost := false } else s3)) ∧
  (∀ (q : Nat) (s : State) (x : TmQ), s.tmq? q = some x → x.periodNs ≠ 0 → s.flag Reg.TM_CTRL 30 = true →
    let s1 := s.at x.sampleAt
    let r := s1.sampleRec q x
    Ends (.tmSample q) s
      ((s1.setTmq q { x with sample := r, sojourn := 0, sampleAt := s1.now + x.periodNs }).sampleOut q x r)) ∧
  (∀ (q : Nat) (s : State) (l : List (List Byte)), SMap.get? s.tm.sampleBuf q = some l → Ends (.sampleFrameTimer q) s (s.sampleFrame q l)) ∧
  (∀ (q : Nat) (s : State) (x : TmQ), s.tmq? q = some x → x.destroying = true → x.cells = 0 →
    Ends (.tmqDestroyDone q) s ((s.tmqRemove q).completeWait (.tmqDestroy q) .ok (leBytes 4 x.dropped)))

/-- The opcodes 0x0700-0x070C (R339, R346, R350-R352, R355, R359, R362-R366). -/
def Obligations.TmOpcodesComplete : Prop :=
  (∀ (w : Waybill) (u : State),
    let drops := u.regN Reg.TM_DROP_QUEUE + u.regN Reg.TM_DROP_BUF + u.regN Reg.TM_DROP_NOQ + u.regN Reg.TM_DROP_DOWN
      + u.regN Reg.TM_DROP_DESTROY
    Carries .tmQuery tmQueryMeta w u .ok
      (leBytes 4 (u.regN Reg.TM_OCC) ++ leBytes 4 (u.regN Reg.TM_SPILLED) ++ leBytes 4 (u.regN Reg.TM_MIN_RESERVED)
        ++ leBytes 2 u.tm.queues.length ++ leBytes 2 u.tm.nodes.length
        ++ leBytes 2 (u.tm.policers.filter (fun x => (u16 x.2.rcd 4).testBit 15)).length
        ++ leBytes 1 (u.regN Reg.TM_STATE % 4) ++ [0] ++ leBytes 8 (u.reg64 Reg.TM_ENQ) ++ leBytes 8 drops
        ++ leBytes 1 (u.fld Reg.TM_SPILL_AREA 23 16) ++ zeros 3 ++ leBytes 4 (u.regN Reg.TM_PANIC_COUNT) ++ zeros 4) u) ∧
  (∀ (w : Waybill) (u : State), w.u16 0 < 32768 → u.tmq? (w.u16 0) = none →
    let q := w.u16 0
    let r := w.bytes 4 32
    u.nodeBad (u16 r 0 % 4096) (u16 r 2) = false → u.queueBad r = false → u.minFull q (u16 r 12 * 8) = false →
    let x : TmQ := { rcd := queueNorm r, sh := shaperFull (queueNorm r) u.now }
    Carries .tmqCreate tmqCreateMeta w u .ok [] (((u.setTmq q { x with sampleAt := u.now + x.periodNs }).tmMin).cfgWritten 8)) ∧
  (∀ (w : Waybill) (u : State) (x y : TmQ), u.tmq? (w.u16 0) = some x → u.tmqBound (w.u16 0) = false →
    let q := w.u16 0
    let n := x.frames.length
    let s2 := x.frames.foldl (fun t h => (t.bump Reg.TM_DROP_DESTROY).dropFrame h) (u.setTmq q { x with destroying := true, dropped := n })
    s2.tmq? q = some y →
    (y.cells = 0 → Carries .tmqDestroy tmqDestroyMeta w u .ok (leBytes 4 n) (s2.tmqRemove q)) ∧
    (y.cells ≠ 0 → Pends .tmqDestroy tmqDestroyMeta w u (.tmqDestroy q) 1000000 (some ⟨.tmQueue, q⟩) s2)) ∧
  (∀ (w : Waybill) (u : State) (x : TmQ) (a b : TmNode), u.tmq? (w.u16 0) = some x → x.destroying = false →
    let q := w.u16 0
    let mask := w.u16 2
    let n := queueNorm (mergeRec x.rcd (w.bytes 4 32) mask
      [(0, 2, 2), (1, 4, 2), (2, 6, 1), (3, 7, 3), (4, 10, 2), (5, 12, 4), (6, 16, 16)])
    u.nodeBad (u16 n 0 % 4096) (u16 n 2) = false → u.tmNode? (u16 n 2) = some a → u.tmNode? x.node = some b → a.port = b.port →
    u.queueBad n = false → u.minFull q (u16 n 12 * 8) = false →
    let y : TmQ := { x with rcd := n }
    let y1 := if mask.testBit 6 then { y with sh := shaperInit n u.now } else y
    let y2 := if mask.testBit 3 then { y1 with sampleAt := u.now + y1.periodNs } else y1
    let y3 := if mask.testBit 2 && !y2.flags.testBit 0 then { y2 with engRate := none } else y2
    Carries .tmqModify tmqModifyMeta w u .ok x.rcd (((u.setTmq q y3).tmMin).cfgWritten 8)) ∧
  (∀ (w : Waybill) (u : State) (x : TmQ), u.tmq? (w.u16 0) = some x →
    Carries .tmqQuery tmqQueryMeta w u .ok
      (x.rcd ++ leBytes 4 x.cells ++ leBytes 4 x.frames.length ++ leBytes 4 x.peak ++ fit 16 x.sample ++ leBytes 8 x.admitted
        ++ leBytes 4 (x.drops.getD 0 0) ++ leBytes 4 (x.drops.getD 1 0) ++ leBytes 4 (x.drops.getD 2 0)) u) ∧
  (∀ (w : Waybill) (u : State), w.u16 0 < 8192 → u.tmNode? (w.u16 0) = none →
    let r := nodeNorm (w.bytes 4 32)
    u.ownerExists (u16 r 0 % 4096) = true → u8 r 2 < 12 → weightBad (u16 r 4) = false → shaperBad r = false →
    Carries .nodeCreate nodeCreateMeta w u .ok [] ((u.setTmNode (w.u16 0) { rcd := r, sh := shaperFull r u.now }).cfgWritten 8)) ∧
  (∀ (w : Waybill) (u : State) (x : TmNode), u.tmNode? (w.u16 0) = some x → 12 ≤ w.u16 0 →
    u.tm.queues.any (fun x => x.2.node == w.u16 0) = false →
    Carries .nodeDestroy nodeDestroyMeta w u .ok []
      (State.cfgWritten { u with tm := { u.tm with nodes := SMap.del u.tm.nodes (w.u16 0) } } 8)) ∧
  (∀ (w : Waybill) (u : State) (x : TmNode), u.tmNode? (w.u16 0) = some x → u8 (w.bytes 4 32) 2 % 16 = x.port →
    let mask := w.u16 2
    let m := nodeNorm (mergeRec x.rcd (w.bytes 4 32) mask [(0, 4, 2), (1, 16, 16), (2, 3, 1)])
    weightBad (u16 m 4) = false → shaperBad m = false →
    let y := { x with rcd := m }
    Carries .nodeModify nodeModifyMeta w u .ok x.rcd
      ((u.setTmNode (w.u16 0) (if mask.testBit 1 then { y with sh := shaperInit m u.now } else y)).cfgWritten 8)) ∧
  (∀ (w : Waybill) (u : State), w.u8 0 < 12 → w.u8 1 < 8 →
    let r := w.bytes 4 32
    let n := leBytes 1 (u8 r 0 % 2) ++ [0] ++ slice r 2 2 ++ zeros 12 ++ shaperNorm r
    let i := w.u8 0 * 8 + w.u8 1
    weightBad (u16 n 2) = false → shaperBad n = false →
    Carries .classSet classSetMeta w u .ok (u.tmClass i).rcd
      (State.cfgWritten { u with tm := { u.tm with classes := SMap.put u.tm.classes i ((u.tmClass i).withRec n u.now) } } 8)) ∧
  (∀ (w : Waybill) (u : State), w.u8 0 < 12 →
    let r := w.bytes 4 32
    let n := slice r 0 1 ++ zeros 15 ++ shaperNorm r
    overheadBad (u8 n 0) = false → shaperBad n = false →
    Carries .portSet portSetMeta w u .ok (u.tmPort (w.u8 0)).rcd
      (State.cfgWritten { u with tm := { u.tm with ports := SMap.put u.tm.ports (w.u8 0) ((u.tmPort (w.u8 0)).withRec n u.now) } } 8)) ∧
  (∀ (w : Waybill) (u : State), w.u16 0 < 16384 →
    let r := policerNorm (w.bytes 4 32)
    u8 r 0 ≤ 2 → overheadBad (u8 r 2) = false → u.ownerExists (u16 r 4 % 4096) = true → (u8 r 0 = 2 → u32 r 8 ≤ u32 r 12) →
    (u8 r 0 = 1 → u32 r 12 = 0) →
    let full := !(u8 r 1).testBit 1
    let y := { u.policer (w.u16 0) with rcd := r, c := if full then u32 r 16 % 2 ^ 24 * tokByte else 0,
                                        e := if full then u32 r 20 % 2 ^ 24 * tokByte else 0, t := u.now }
    Carries .policerSet policerSetMeta w u .ok (u.policer (w.u16 0)).rcd
      (State.cfgWritten { u with tm := { u.tm with policers := SMap.put u.tm.policers (w.u16 0) y } } 8)) ∧
  (∀ (w : Waybill) (u : State), w.u16 0 < 16384 →
    Carries .policerQuery policerQueryMeta w u .ok
      ((u.policer (w.u16 0)).rcd ++ ((List.range 6).map (fun i => leBytes 8 ((u.policer (w.u16 0)).counts.getD i 0))).flatten) u) ∧
  (∀ (w : Waybill) (u : State), thresholdsBad (w.u32 0 % 2 ^ 18) (w.u32 4 % 2 ^ 18) (w.u32 8 % 2 ^ 18) (w.u32 12 % 2 ^ 18) = false →
    let area := setBits (w.u32 16 % 2 ^ 24) 15 8 0
    (area = u.regN Reg.TM_SPILL_AREA ∨ u.spillAreaBad area = false ∧ u.regN Reg.TM_SPILLED = 0) →
    u.poolShort (u.setRegN Reg.TM_SPILL_AREA area) = false →
    let s1 := ((((u.setRegN Reg.TM_SPILL_ON (w.u32 0 % 2 ^ 18)).setRegN Reg.TM_SPILL_OFF (w.u32 4 % 2 ^ 18)).setRegN
      Reg.TM_PANIC_ON (w.u32 8 % 2 ^ 18)).setRegN Reg.TM_PANIC_OFF (w.u32 12 % 2 ^ 18)).setRegN Reg.TM_SPILL_AREA area
    Carries .tmSetBuffer tmSetBufferMeta w u .ok
      ([Reg.TM_SPILL_ON, Reg.TM_SPILL_OFF, Reg.TM_PANIC_ON, Reg.TM_PANIC_OFF, Reg.TM_SPILL_AREA, Reg.TM_CTRL].map
        (fun a => leBytes 4 (u.regN a))).flatten
      ((s1.setCfg 8 Reg.TM_CTRL (bits (w.u32 20) 31 30 * 2 ^ 30)).tmThresholds))

/-! Completion of the commands of 11 -/

/-- Lanes, keys and the random-number generator at work (R370, R382-R390, R395, R397-R400). -/
def Obligations.CipherEventsComplete : Prop :=
  (∀ (c lane : Nat) (s : State), c < 2 →
    (∀ who t, s.laneTake c lane = (some who, t) → Ends (.segmentDispatch c lane) s (t.bulkEnd who none)) ∧
    (∀ t, s.laneTake c lane = (none, t) → Ends (.segmentDispatch c lane) s t)) ∧
  (∀ (c lane : Nat) (s : State) (w : LaneWork), c < 2 → SMap.get? (s.complex c).lanes lane = some w →
    let s1 := s.setComplex c { s.complex c with lanes := SMap.del (s.complex c).lanes lane }
    (∀ h, w = .net h → Ends (.segmentDone c lane) s (s1.laneNetDone c h)) ∧
    (∀ who, w = .bulk who → Ends (.segmentDone c lane) s (s1.laneBulkDone c who))) ∧
  (∀ (c lane stage : Nat) (again : Bool) (s : State) (w : LaneWork), c < 2 → SMap.get? (s.complex c).lanes lane = some w →
    let s1 := ((s.bump (Reg.CX_PARITY c)).setRegN (Reg.CX_LAST_FAULT c) (lane * 2 ^ 24 + stage % 32 * 2 ^ 16)).raise (Ev.cx c) 0
    let f := s1.faultOf { kind := 2, index := c * 32 + lane } (9 + c) stage
    ((f.1 = true ∨ again = true) → Ends (.blockParityError c lane stage again) s (f.2.retireLane c lane 1)) ∧
    (f.1 = false → again = false →
      Ends (.blockParityError c lane stage again) s (if f.2.laneEspOut w then f.2.laneReplay c lane else f.2))) ∧
  (∀ (c : Nat) (pass : Bool) (s : State), c < 2 → Ends (.reserveLaneReady c pass) s (s.reserveLane c pass)) ∧
  (∀ (c : Nat) (s : State), c < 2 → s.inService (9 + c) = true →
    (s.rngState = 1 → Ends (.cmReseed c) s
      ((s.setDrbg { s.cx.rng with count := s.cx.rng.count + 1 }).setComplex c { s.complex c with stale := false })) ∧
    (s.rngState ≠ 1 → (s.complex c).stale = false →
      Ends (.cmReseed c) s ((s.setComplex c { s.complex c with stale := true }).raise Ev.rng 0))) ∧
  (∀ (s : State), s.rngState = 1 →
    let s1 := if 2 ^ 20 ≤ s.cx.rng.count then s else s.at (s.cx.rng.reseedAt + s.reseedNs)
    Ends .drbgReseed s (s1.setDrbg { s.cx.rng with count := 0, reseedAt := s1.now })) ∧
  (∀ (s : State), s.keysOn = true → s.rngState ≤ 1 →
    Ends (.healthTestFail 1) s (s.healthFail 1) ∧ Ends (.healthTestFail 2) s (s.healthFail 2)) ∧
  (∀ (s : State), s.keysOn = true → s.rngState = 0 →
    Ends (.restartAttemptEnd none) s s.rngReady ∧ (∀ t, t < 256 → Ends (.restartAttemptEnd (some t)) s (s.healthFail t))) ∧
  (∀ (s : State), s.keysOn = true → s.rngState = 2 →
    let n := s.rngAttempt
    Ends (.restartAttemptEnd none) s
      ((((s.at (s.cx.rng.attemptAt + 3000000)).rngReady).raise Ev.rng 2).completeWait .rngRestart .ok []) ∧
    (∀ t, t < 256 →
      let s0 := (if t = 4 then s.at (s.cx.rng.attemptAt + 4000000) else s).setRegN Reg.RNG_LAST_FAIL t
      (n < 3 → Ends (.restartAttemptEnd (some t)) s
        ((s0.setRng 2 (n + 1)).setDrbg { (s0.setRng 2 (n + 1)).cx.rng with attemptAt := (s0.setRng 2 (n + 1)).now })) ∧
      (3 ≤ n →
        let s1 := (s0.setRng 3 3).raiseSev Ev.rng 3 2
        Ends (.restartAttemptEnd (some t)) s
          ((s1.rngDrain false s1.cx.rng.held.length).completeWait .rngRestart .entropyFail [])))) ∧
  (∀ (i : Nat) (s : State), (s.keySlot i).st = 3 → s.slotBusy i = false →
    Ends (.keyDrainDone i) s ((s.slotFree i).completeWait (.keyFree i) .ok [])) ∧
  (∀ (i : Nat) (s : State), i < 16384 → s.keysOn = true →
    Ends (.keyEccError i false) s (s.raise Ev.ks 0) ∧
    Ends (.keyEccError i true) s
      (((s.zeroizeSlot i (srcIssuer .aoc) false).setRegN Reg.KS_LAST_LOST i).raiseSev Ev.ks 3 2))

/-- The opcodes 0x0800-0x0813 (R372, R373, R376, R391-R395, R398-R404). -/
def Obligations.CipherOpcodesComplete : Prop :=
  (∀ (w : Waybill) (u : State), Carries .cxQuery cxQueryMeta w u .ok
    ((List.range 2).map (fun c => leBytes 4 (u.regN (Reg.CX_LANE_ACTIVE c)) ++ leBytes 4 (u.regN (Reg.CX_LANE_RETIRED c))
      ++ leBytes 4 (u.regN (Reg.CX_CAP c)) ++ leBytes 1 (u.fld (Reg.CX_CTRL c) 2 0) ++ leBytes 1 (u.fld (Reg.CX_CTRL c) 15 8) ++ zeros 2
      ++ leBytes 8 (u.reg64 (Reg.CX_BLOCKS c)) ++ leBytes 4 (u.regN (Reg.CX_PARITY c)) ++ leBytes 4 (u.regN (Reg.CX_AUTH_FAIL c)))).flatten
    u) ∧
  (∀ (w : Waybill) (u : State),
    let o := w.u16 0 % 4096
    u.ownerExists o = true →
    (u.freeSlot = none → Carries .keyAlloc keyAllocMeta w u .keySlotsExhausted [] (u.raise Ev.ks 1)) ∧
    (∀ i, u.freeSlot = some i → (o = 0 ∨ u.keysHeld o < u32 (u.fn o).quota 8) →
      let s1 := u.setKeySlot i { st := 1, owner := o, rcd := leBytes 2 o ++ zeros 62, allocFlask := (issuerFlask w.inst).isSome,
                                 gen := (u.keySlot i).gen + 1 }
      Carries .keyAlloc keyAllocMeta w u .ok (leBytes 2 i ++ leBytes 2 (s1.regN Reg.KS_FREE)) s1)) ∧
  (∀ (w : Waybill) (u : State), w.u16 0 < 16384 →
    let i := w.u16 0
    let r := loadRec w
    let byFlask := (issuerFlask w.inst).isSome
    let n := slotNorm r
    let nk := keyBytes r
    let field := w.params.drop 68
    ((u.keySlot i).st = 1 ∨ (u.keySlot i).st = 2) → slotBad r = false → u16 r 0 % 4096 = (u.keySlot i).owner →
    (byFlask = false ∨ u8 r 2 < 5) →
    ((w.u8 2).testBit 0 = false → (field.drop nk).any (· != 0) = false →
      Carries .keyLoad keyLoadMeta w u .ok (u.keyInstall i n (field.take nk) byFlask).1 (u.keyInstall i n (field.take nk) byFlask).2) ∧
    ((w.u8 2).testBit 0 = true →
      (u.rngState = 1 →
        let d := u.rngServe (nk + nonceBytes n)
        let g := generated n d.1
        Carries .keyLoad keyLoadMeta w u .ok (d.2.keyInstall i g.1 g.2 byFlask).1 (d.2.keyInstall i g.1 g.2 byFlask).2) ∧
      (u.rngState = 3 → Carries .keyLoad keyLoadMeta w u .entropyFail [] (u.bump Reg.RNG_REQ_FAILED)) ∧
      (u.rngState = 0 ∨ u.rngState = 2 → Pends .keyLoad keyLoadMeta w u (.keyLoad i n byFlask) 12000000 (some ⟨.keySlot, i⟩)
        (u.rngHold (.waybill w.inst w.tag) (nk + nonceBytes n))))) ∧
  (∀ (w : Waybill) (u : State), (u.keySlot (w.u16 0)).st = 2 →
    let i := w.u16 0
    let mask := w.u8 2
    let k := u.keySlot i
    let r1 := if mask.testBit 0 then patch k.rcd 3 (leBytes 1 (setBits (u8 k.rcd 3) 0 0 (w.u8 3))) else k.rcd
    let r2 := if mask.testBit 1 && (k.framing == 1 || k.framing == 5) then patch r1 12 (w.bytes 4 4) else r1
    let r3 := if mask.testBit 2 then patch r2 40 (w.bytes 8 8) else r2
    slotBad r3 = false →
    Carries .keyUpdate keyUpdateMeta w u .ok k.rcd (u.setKeySlot i { k with rcd := r3, soft := if mask.testBit 2 then false else k.soft })) ∧
  (∀ (w : Waybill) (u : State), (u.keySlot (w.u16 0)).st ≠ 0 →
    let i := w.u16 0
    (u.slotBusy i = false → Carries .keyFree keyFreeMeta w u .ok [] (u.slotFree i)) ∧
    (u.slotBusy i = true → Pends .keyFree keyFreeMeta w u (.keyFree i) 100000 (some ⟨.keySlot, i⟩)
      (u.setKeySlot i { u.keySlot i with st := 3 })) ∧
    Carries .keyZeroize keyZeroizeMeta w u .ok [] (u.zeroizeSlot i (derivedIssuer w.inst) false)) ∧
  (∀ (w : Waybill) (u : State), w.u16 0 < 16384 →
    let k := u.keySlot (w.u16 0)
    let kc := if k.st = 2 then keyCheck (k.key.take (if isPair k.rcd then 32 else k.key.length)) else zeros 4
    Carries .keyQuery keyQueryMeta w u .ok
      (leBytes 1 k.st ++ leBytes 1 (bitVal k.allocFlask 0 + bitVal k.loadFlask 1) ++ zeros 2 ++ kc ++ fit 64 k.rcd
        ++ leBytes 8 k.frames ++ leBytes 8 k.bytes ++ leBytes 4 k.authFails ++ leBytes 4 k.replayDrops) u) ∧
  (∀ (w : Waybill) (u : State), (u.keySlot (w.u16 0)).st = 2 → (u.keySlot (w.u16 0)).framing = 3 →
    Carries .tlsResync tlsResyncMeta w u .ok []
      (u.setKeySlot (w.u16 0) { ((u.keySlot (w.u16 0)).setTcp (w.u32 4)).setSeq (w.u64 8) with resync := false })) ∧
  (∀ (w : Waybill) (u : State),
    (∀ a, a < 4 → w.u16 (12 + 2 * a) = 0xFFFF ∨ w.u16 (12 + 2 * a) < 16384 ∧ (u.keySlot (w.u16 (12 + 2 * a))).st = 2 ∧
      (u.keySlot (w.u16 (12 + 2 * a))).framing = 5) →
    let i := w.u8 0
    let e := w.bytes 0 1 ++ leBytes 1 (w.u8 1 % 8 + bitVal ((w.u8 1).testBit 7) 7) ++ zeros 2 ++ w.bytes 4 16
    Carries .macsecRxscSet macsecRxscSetMeta w u .ok
      (SMap.getD u.cx.rxsc i (leBytes 1 i ++ zeros 11 ++ List.replicate 8 0xFF))
      { u with cx := { u.cx with rxsc := SMap.put u.cx.rxsc i e } }) ∧
  (∀ (w : Waybill) (u : State),
    let v := fun (o : Nat) => bits (w.u32 o) 15 8 * 256 + w.u32 o % 8
    Carries .cxSetParams cxSetParamsMeta w u .ok (leBytes 4 (u.regN (Reg.CX_CTRL 0)) ++ leBytes 4 (u.regN (Reg.CX_CTRL 1)))
      ((u.setCfg 9 (Reg.CX_CTRL 0) (v 0)).setCfg 10 (Reg.CX_CTRL 1) (v 4))) ∧
  (∀ (w : Waybill) (u : State), w.u8 0 ≤ 1 → w.u8 2 ≤ 2 → w.u8 3 ≤ 1 → 16 ≤ w.u16 4 → w.u16 4 ≤ 3968 →
    let mode := w.u8 1
    let n := w.u16 4
    let d := w.bytes 88 n
    (mode ≤ 3 → (mode = 0 → n % 16 = 0) → Carries .cxKat cxKatMeta w u .ok
      (fit n (blockMode mode (w.u8 3 = 1) (w.bytes 8 (16 + 8 * w.u8 2)) (w.bytes 72 16) d) ++ fit 16 (zeros 16)) u) ∧
    (mode = 4 → w.u8 3 = 1 → w.u16 6 ≤ n →
      let x := gcmSeal (w.bytes 8 (16 + 8 * w.u8 2)) ((w.bytes 72 16).take 12) (d.take (w.u16 6)) (d.drop (w.u16 6))
      Carries .cxKat cxKatMeta w u .ok (fit n (d.take (w.u16 6) ++ x.1) ++ fit 16 x.2) u) ∧
    (mode = 4 → w.u8 3 = 0 → w.u16 6 ≤ n →
      let x := gcmOpen (w.bytes 8 (16 + 8 * w.u8 2)) ((w.bytes 72 16).take 12) (d.take (w.u16 6)) (d.drop (w.u16 6))
      Carries .cxKat cxKatMeta w u .ok (fit n (d.take (w.u16 6) ++ x.1) ++ fit 16 x.2) u) ∧
    (mode = 5 → w.u8 2 = 2 → n % 16 = 0 → Carries .cxKat cxKatMeta w u .ok
      (fit n (xts (w.u8 3 = 1) ((w.bytes 8 64).take 32) ((w.bytes 8 64).drop 32) (w.bytes 72 16) d) ++ fit 16 (zeros 16)) u)) ∧
  (∀ (w : Waybill) (u : State), 1 ≤ w.u16 0 → w.u16 0 ≤ 4080 →
    (u.rngState = 1 → Carries .rngGet rngGetMeta w u .ok (u.rngServe (w.u16 0)).1 (u.rngServe (w.u16 0)).2) ∧
    (u.rngState = 3 → Carries .rngGet rngGetMeta w u .entropyFail [] (u.bump Reg.RNG_REQ_FAILED)) ∧
    (u.rngState = 0 ∨ u.rngState = 2 → u.cx.rng.held.length < 1024 →
      Pends .rngGet rngGetMeta w u (.rngGet (w.u16 0)) 13000000 none (u.rngHold (.waybill w.inst w.tag) (w.u16 0)))) ∧
  (∀ (w : Waybill) (u : State), Carries .rngQuery rngQueryMeta w u .ok
    (leBytes 1 u.rngState ++ leBytes 1 u.rngAttempt ++ leBytes 1 (u.regN Reg.RNG_LAST_FAIL) ++ [0]
      ++ leBytes 4 (u.regN Reg.RNG_HELD) ++ leBytes 8 (u.reg64 Reg.RNG_BYTES) ++ leBytes 4 (u.regN Reg.RNG_HEALTH_FAILS)
      ++ leBytes 4 (u.regN Reg.RNG_REQ_FAILED)) u) ∧
  (∀ (w : Waybill) (u : State), w.u16 0 ≤ 1000 →
    Carries .rngSetParams rngSetParamsMeta w u .ok (leBytes 4 (u.regN Reg.RNG_CTRL)) (u.setCfg 11 Reg.RNG_CTRL (w.u16 0))) ∧
  (∀ (w : Waybill) (u : State), u.rngState = 3 →
    Pends .rngRestart rngRestartMeta w u .rngRestart 12000000 (some ⟨.drbg, 0⟩)
      ((u.setRng 2 1).setDrbg { (u.setRng 2 1).cx.rng with attemptAt := (u.setRng 2 1).now }))

/-! Completion of the commands of 12 -/

/-- The engines' events and their debug commands (R412, R415-R427, R443, R447-R450). The layout of the debug module's commands is log entry
40. -/
def Obligations.EngineEventsComplete : Prop :=
  (∀ (h : Nat) (s : State), h < 2048 → s.clusterServes (hartCl h) = true → (s.hart h).st = .idle →
    let c := hartCl h
    let k := s.hart h
    let g := s.cluster c
    (∀ v t, k.again = some (v, t) → Ends (.threadDispatch h) s
      ((s.setHart h { k with again := none }).dispatch h v 1 t (.timer v t) none 0 [])) ∧
    (k.again = none → k.tctl.testBit 0 = true → k.tcmp ≤ s.etime → isSup h = false →
      Ends (.threadDispatch h) s ((s.setHart h { k with tctl := k.tctl - 1 }).dispatch h (bits k.tctl 13 8) 1 k.timerTag
        (.timer (bits k.tctl 13 8) k.timerTag) none 0 [])) ∧
    (k.again = none → k.tctl.testBit 0 = false → isSup h = false → g.exch = none →
      (∀ l v, s.nextLine c = some (l, v) → Ends (.threadDispatch h) s
        ((s.setCluster c { g with lines := SMap.put g.lines l (SMap.getD g.lines l 0 - 1) }).dispatch h v 2 0 (.line l) none l [])) ∧
      (∀ m r, s.nextLine c = none → g.msgs = m :: r → Ends (.threadDispatch h) s
        ((s.setCluster c { g with msgs := r }).dispatch h m.vec 3 m.flask (.message m) none 0 m.bytes)) ∧
      (∀ i f, s.nextLine c = none → g.msgs = [] → s.nextHandoff c = some (i, f) → s.handoffHart c = some h →
        Ends (.threadDispatch h) s ((s.setCluster c { g with queue := g.queue.filter (· != i) }).dispatch h f.engVec 0
          ((if f.tx then f.flask else f.owner) % 4096) (.handoff i f) (some (i, f)) 0 [])))) ∧
  (∀ (h : Nat) (s : State),
    ((s.hart h).st = .waiting → Ends (.timerCompare h) s ((s.at (s.pwr.coldAt + (s.hart h).tcmp)).waitEnd h)) ∧
    ((s.hart h).st ≠ .waiting → (s.hart h).tctl.testBit 0 = true →
      Ends (.timerCompare h) s (s.at (s.pwr.coldAt + (s.hart h).tcmp)))) ∧
  (∀ (h : Nat) (s : State), s.fld (Reg.EC_CTRL (hartCl h)) 13 0 ≠ 0 → ((s.hart h).st = .running ∨ (s.hart h).st = .waiting) →
    Ends (.runLimitExpiry h) s
      ((s.at ((s.hart h).runAt + min 10000 (s.fld (Reg.EC_CTRL (hartCl h)) 13 0) * 1000)).threadFault h 9 0 0)) ∧
  (∀ (c l : Nat) (s : State), c < 32 → l < 32 → Ends (.eventLineEdge c l) s (s.lineEdge c l)) ∧
  (∀ (h cause sub tval : Nat) (s : State), h < 2048 → isSup h = false → ((s.hart h).st = .running ∨ (s.hart h).st = .waiting) →
    Ends (.workerFault h cause sub tval) s (s.threadFault h cause sub tval)) ∧
  (∀ (e cause sub tval : Nat) (s : State), e < 256 → ((s.hart (e * 8)).st = .running ∨ (s.hart (e * 8)).st = .waiting) →
    Ends (.supervisorFault e cause sub tval) s (s.threadFault (e * 8) cause sub tval)) ∧
  (∀ (h i pc tp : Nat) (x : Nat × Nat) (s : State), h < 2048 → i < 4 →
    let e := s.engine (hartEng h)
    let cfg := e.hpcCfg.getD i 0
    cfg.testBit 17 = true → cfg.testBit (8 + hartTh h) = true → (s.hart h).samples.find? (fun x => x.1 == i) = some x →
    cfg % 256 ≠ 0x06 →
    let s1 := s.setHart h { s.hart h with samples := (s.hart h).samples.erase x }
    Ends (.sampleOverflow h i pc tp) s
      (if (s1.engine (hartEng h)).ringRoom then s1.ringPut (hartEng h) (s1.faultRecord h 8 i pc x.2 true) else s1)) ∧
  (∀ (h a b e : Nat) (s : State), (s.hart h).resv = some (a, b, e) →
    Ends (.lrReservationExpiry h) s ((s.at e).modHart h (fun k => { k with resv := none }))) ∧
  (∀ (c p cause : Nat) (st : Bool) (lost : List Nat) (s : State), c < 32 → p < 9 → s.inService (21 + c) = true →
    Ends (.engineHardwareFault c p cause st lost) s (s.engineFault c p cause st lost)) ∧
  (∀ (e t : Nat) (s : State), (s.engine e).supAuto = some t →
    let s1 := s.at t
    (s1.ctlUp = true → (s1.hart (e * 8)).st = .faulted → Ends (.supervisorAutoRestart e) s (s1.supStart e (s1.restartPc (e / 8))))) ∧
  (∀ (c : Nat) (s : State) (x : Exchange), (s.cluster c).exch = some x →
    Ends (.exchangeKillTimeout c) s
      ((((List.range 64).foldl (fun (t : State) i => t.exchangeKill (c * 64 + i)) (s.at x.killAt)).supHalted c).exchangeCheck c)) ∧
  (∀ (h : Nat) (s : State), h < 2048 → (s.hart h).st ≠ .debug → (s.hart h).st ≠ .unavailable →
    ((s.hart h).wait = none → Ends (.debugHalt h) s (s.debugHalt h 3)) ∧
    (∀ w, (s.hart h).wait = some w → Ends (.debugHalt h) s (s.setHart h { s.hart h with haltReq := true }))) ∧
  (∀ (h : Nat) (s : State), (s.hart h).st = .debug →
    let s1 := s.setHart h { s.hart h with st := (s.hart h).prior, resumeAck := true }
    Ends (.debugResume h) s (if (s.hart h).prior = .idle then s1.switchImage h else s1)) ∧
  (∀ (h : Nat) (s : State), h < 2048 → (s.hart h).st ≠ .unavailable →
    Ends (.hartreset h) s ((((s.killRun h).modHart h (fun k => { k with haveReset := true, prior := .idle, haltReq := false })).supHalted
      (hartCl h)).switchImage h)) ∧
  (∀ (h v x : Nat) (s : State), v < 2 ^ 32 → s.eng.dm.cmderr = 0 → (s.hart h).st = .debug → bits v 22 20 = 3 →
    v.testBit 17 = true → v.testBit 18 = false → ¬(0x1020 ≤ v % 65536 ∧ v % 65536 < 0x1040) → s.dbgReg h (v % 65536) = some x →
    (v.testBit 16 = false → Ends (.abstractAccessRegister h (word v)) s (s.setDm (s.eng.dm.setArg 0 (x % 2 ^ 64)))) ∧
    (∀ t, v.testBit 16 = true → s.dbgSetReg h (v % 65536) (s.eng.dm.arg 0) = some t →
      Ends (.abstractAccessRegister h (word v)) s t)) ∧
  (∀ (h v : Nat) (s : State), v < 2 ^ 32 → s.eng.dm.cmderr = 0 → (s.hart h).st = .debug →
    let n := 2 ^ bits v 22 20
    let a := s.eng.dm.arg 1
    let up := fun (t : State) => if v.testBit 19 then t.setDm (t.eng.dm.setArg 1 ((a + n) % 2 ^ 64)) else t
    n ≤ 8 → v.testBit 23 = false → a % n = 0 →
    (∀ t, v.testBit 16 = true → s.store h a n (s.eng.dm.arg 0) = (.ok (), t) → Ends (.abstractAccessMemory h (word v)) s (up t)) ∧
    (∀ b t, v.testBit 16 = false → s.peekAt h a n = (some b, t) → Ends (.abstractAccessMemory h (word v)) s
      (up (t.setDm (if n ≤ 4 then { t.eng.dm with data := t.eng.dm.data.set 0 (leNat b) } else t.eng.dm.setArg 0 (leNat b))))))

/-- The instructions of the packet engines (R406-R440): what each does when it is thread h's next one, and where ECALL and EBREAK trap. -/
def Obligations.EngineInstructionsComplete : Prop :=
  ∀ (h w : Nat) (s : State),
    let k := s.hart h
    let a := s.xr h (rvRs1 w)
    let b := s.xr h (rvRs2 w)
    let rd := rvRd w
    let nxt := k.pc + 4
    let at_ := fun (op : EngOp) => s.atInstr h op w
    (∀ i f, s.held h = some (i, f) →
      let ld := fun (n : Nat) => (s.putX h rd (beNat (slice f.bytes a.toNat n))).retired h nxt specEv
      let st := fun (n : Nat) => (s.setFrame i { f with bytes := patch f.bytes a.toNat (beBytes n b.toNat) }).retired h nxt retEv
      (at_ (.hdrLd 1) → a.toNat + 1 ≤ f.bytes.length → Ends (.hdrLdB h) s (ld 1)) ∧
      (at_ (.hdrLd 2) → a.toNat + 2 ≤ f.bytes.length → Ends (.hdrLdH h) s (ld 2)) ∧
      (at_ (.hdrLd 4) → a.toNat + 4 ≤ f.bytes.length → Ends (.hdrLdW h) s (ld 4)) ∧
      (at_ (.hdrLd 8) → a.toNat + 8 ≤ f.bytes.length → Ends (.hdrLdD h) s (ld 8)) ∧
      (at_ (.hdrSt 1) → a.toNat + 1 ≤ f.bytes.length → Ends (.hdrStB h) s (st 1)) ∧
      (at_ (.hdrSt 2) → a.toNat + 2 ≤ f.bytes.length → Ends (.hdrStH h) s (st 2)) ∧
      (at_ (.hdrSt 4) → a.toNat + 4 ≤ f.bytes.length → Ends (.hdrStW h) s (st 4)) ∧
      (at_ (.hdrSt 8) → a.toNat + 8 ≤ f.bytes.length → Ends (.hdrStD h) s (st 8)) ∧
      (∀ t, at_ .pktRd → (pktSpan b.toNat).1 + (pktSpan b.toNat).2 ≤ f.bytes.length → (pktSpan b.toNat).2 ≤ 4096 →
        s.addrWrite h a.toNat (slice f.bytes (pktSpan b.toNat).1 (pktSpan b.toNat).2) = (.ok (), t) →
        Ends (.pktRd h) s ((t.putX h rd (pktSpan b.toNat).2).retired h nxt retEv)) ∧
      (∀ d t, at_ .pktWr → (pktSpan b.toNat).1 + (pktSpan b.toNat).2 ≤ f.bytes.length → (pktSpan b.toNat).2 ≤ 4096 →
        s.addrRead h a.toNat (pktSpan b.toNat).2 = (.ok d, t) →
        Ends (.pktWr h) s ((t.setFrame i { f with bytes := patch f.bytes (pktSpan b.toNat).1 d }).retired h nxt retEv)) ∧
      (at_ .pktAdj → -256 ≤ a.toInt → a.toInt ≤ 256 → 14 ≤ (f.bytes.length : Int) + a.toInt → (f.bytes.length : Int) + a.toInt ≤ 16384 →
        (0 ≤ a.toInt → Ends (.pktAdj h) s
          ((s.setFrame i { f.move (growOff 0 a.toInt.natAbs) with bytes := zeros a.toInt.natAbs ++ f.bytes }).retired h nxt retEv)) ∧
        (a.toInt < 0 → Ends (.pktAdj h) s
          ((s.setFrame i { f.move (cutOff a.toInt.natAbs) with bytes := f.bytes.drop a.toInt.natAbs }).retired h nxt retEv))) ∧
      (at_ .metaRd → a.toNat = 6 → Ends (.metaRd h) s ((s.putX h rd f.bytes.length).retired h nxt specEv)) ∧
      (at_ .metaRd → a.toNat = 3 → Ends (.metaRd h) s ((s.putX h rd (f.tc + f.color * 8)).retired h nxt specEv)) ∧
      (at_ .metaWr → a.toNat = 3 → Ends (.metaWr h) s
        ((s.setFrame i { f with tc := b.toNat % 8, color := min 2 (bits b.toNat 4 3) }).retired h nxt retEv)) ∧
      (at_ .dispose →
        let g := s.takeDest f k.dest
        let s1 := (s.modHart h (fun x => { x with frame := none, dest := none })).chargeRun h
        let c := s1.cluster (hartCl h)
        let p := b.toNat
        (a.toNat % 16 = 0 → Ends (.dispose h) s
          (((s1.setCluster (hartCl h) { c with drops := SMap.put c.drops (p % 256) (SMap.getD c.drops (p % 256) 0 + 1) }).dropFrame i).retired
            h nxt retEv)) ∧
        (a.toNat % 16 = 1 → Ends (.dispose h) s ((s1.endPass i g).retired h nxt retEv)) ∧
        (a.toNat % 16 = 4 → Ends (.dispose h) s (((s1.clExc g false 3 (p % 256)).dropFrame i).retired h nxt retEv)))) ∧
    (∀ key t tb, at_ .tlk →
      let p := b.toNat % 256
      let n := u8 (s.lookupProfile p) 0 % 64
      s.addrRead h a.toNat (u8 (s.lookupProfile p) 2) = (.ok key, t) → t.table? n = some tb → (u8 (s.lookupProfile p) 0).testBit 7 = true →
      t.missingLines n tb tb.act key = [] →
      let x := t.lookupNow n tb key ((u8 (s.lookupProfile p) 0).testBit 6) (some tb.act.tag) []
      let put := fun (u : State) (e : List Byte) => (((u.putX h rd (u64 e 0)).putX h (rd + 1) (u64 e 8))).retired h nxt specEv
      (∀ e, x.1 = some e → Ends (.tlk h) s (put x.2 (patch (tb.result e) 0 [BitVec.ofNat 8 (setBits (u8 (tb.result e) 0) 7 7 1)]))) ∧
      (x.1 = none → Ends (.tlk h) s (put x.2 (zeros 16)))) ∧
    (∀ d key t, s.ctKey h w 0 = (.ok (d, key), t) →
      (at_ .ctFind → Ends (.ctFind h) s ((t.putX h rd (match ctFindEntry (t.cluster (hartCl h)).shared d key with
        | some o => o + 0x20000000 | none => 0)).retired h nxt specEv)) ∧
      (at_ .ctDel → ctFindEntry (t.cluster (hartCl h)).shared d key = none → Ends (.ctDel h) s ((t.putX h rd 0).retired h nxt retEv)) ∧
      (∀ o, at_ .ctDel → ctFindEntry (t.cluster (hartCl h)).shared d key = some o →
        let g := t.cluster (hartCl h)
        Ends (.ctDel h) s
          (((((t.setCluster (hartCl h) { g with shared := Mem.wr g.shared (o + 32) (Mem.rd g.shared (o + 32) &&& 0xFE) }).breakResv
            (hartCl h) 0 (o + 32) 1)).putX h rd 1).retired h nxt retEv))) ∧
    (∀ d img t, at_ .ctIns → s.ctKey h w 64 = (.ok (d, img), t) →
      let key := img.take d.2.2
      let g := t.cluster (hartCl h)
      (∀ o, ctFindEntry g.shared d key = some o → Ends (.ctIns h) s ((t.putX h rd (o + 0x20000001)).retired h nxt retEv)) ∧
      (∀ o, ctFindEntry g.shared d key = none → (ctBucket d key).find? (fun o => !(u8 (Mem.rdN g.shared (o + 32) 1) 0).testBit 0) = some o →
        let e := fit 32 key ++ leBytes 2 (setBits (u16 img 32) 0 0 1) ++ leBytes 2 (t.hart h).tag ++ slice img 36 28
        Ends (.ctIns h) s ((((t.setCluster (hartCl h) { g with shared := Mem.wrN g.shared o e }).breakResv (hartCl h) 0 o 64).putX h rd
          (o + 0x20000000)).retired h nxt retEv))) ∧
    (at_ .cntAdd → a.toNat ≤ 4095 → Ends (.cntAdd h) s ((s.bump64 (Reg.CNT (hartCl h) a.toNat) b.toNat).retired h nxt retEv)) ∧
    (∀ m t, at_ .enq → s.addrRead h a.toNat 32 = (.ok m, t) →
      let c := b.toNat % 32
      let ok := t.accepting (21 + c) && decide ((t.cluster c).msgs.length < 256)
      let t1 := t.postMsg c { vec := bits b.toNat 13 8, flask := k.tag, bytes := m }
      Ends (.enq h) s ((t1.setHart h ((t1.hart h).wx rd (flagD (!ok)))).retired h nxt retEv)) ∧
    (at_ .rateSet →
      (s.tmq? (a.toNat % 65536) = none → Ends (.rateSet h) s ((s.bump Reg.TM_RATE_REJECT).retired h nxt retEv)) ∧
      (∀ x, s.tmq? (a.toNat % 65536) = some x → x.flags.testBit 0 = true →
        (s.regN (Reg.CL_ENGINE_SET (u8 x.rcd 7 % 16))).testBit (hartCl h) = true →
        Ends (.rateSet h) s ((s.setTmq (a.toNat % 65536) { x with
          sh := x.sh.fill x.rcd x.pir s.now, engRate := some (b.toNat % 2 ^ 32) }).retired h nxt retEv))) ∧
    (∀ r t, at_ .crypt → s.addrRead h a.toNat 48 = (.ok r, t) → rawSlotOk (t.keySlot (crSlot r)) k.tag (crMode r) = false →
      Ends (.crypt h) s ((t.putX h rd cBadDescriptor).retired h nxt retEv)) ∧
    (at_ .rand → s.rngState = 1 → s.cx.rng.held = [] →
      Ends (.rand h) s (((s.rngServe 8).2.putX h rd (leNat (s.rngServe 8).1)).retired h nxt retEv)) ∧
    (at_ .yield → Ends (.yield h) s ((((s.retire h nxt retEv).endRun h true).switchImage h).stepEnd h)) ∧
    (at_ .waitT →
      let s1 := s.modHart h (fun x => { x with resv := none })
      (k.tcmp ≤ s.etime → Ends (.waitT h) s (s1.waitEnd h)) ∧
      (s.etime < k.tcmp → Ends (.waitT h) s (s1.modHart h (fun x => { x with st := .waiting })))) ∧
    (∀ v, isSup h = true →
      (at_ .tres → s.halted h a.toNat = some v →
        (b.toNat % 4 = 0 → Ends (.tres h) s ((s.modHart v (fun x => { x with st := .running, posting := none })).retired h nxt retEv)) ∧
        (b.toNat % 4 = 1 → Ends (.tres h) s ((s.modHart v (fun x =>
          { x with st := .running, posting := none, pc := x.pc + BitVec.ofNat 64 (s.instrLen v) })).retired h nxt retEv)) ∧
        (b.toNat % 4 = 2 → Ends (.tres h) s (((s.killRun v).switchImage v).retired h nxt retEv))) ∧
      (∀ x, at_ .tregR → s.halted h a.toNat = some v → (s.hart v).treg b.toNat = some x →
        Ends (.tregR h) s ((s.putX h rd x).retired h nxt specEv)) ∧
      (at_ .tregW → s.halted h (a.toNat % 8) = some v → ((s.hart v).treg (bits a.toNat 15 8)).isSome = true →
        Ends (.tregW h) s ((s.modHart v (fun x => x.setTreg (bits a.toNat 15 8) b.toNat)).retired h nxt retEv))) ∧
    (let fa := k.rf (rvRs1 w)
     let fb := k.rf (rvRs2 w)
     let arith := fun (op : Nat) =>
       (s.setHart h { k.wf rd (rateOp op fa fb).1 with rflags := k.rflags ||| (rateOp op fa fb).2 }).retired h nxt []
     (at_ (.rate 0) → Ends (.radd h) s (arith 0)) ∧ (at_ (.rate 1) → Ends (.rsub h) s (arith 1)) ∧
     (at_ (.rate 2) → Ends (.rmul h) s (arith 2)) ∧ (at_ (.rate 3) → Ends (.rdiv h) s (arith 3)) ∧
     (at_ (.rate 4) → Ends (.rmin h) s (arith 4)) ∧ (at_ (.rate 5) → Ends (.rmax h) s (arith 5)) ∧
     (at_ .rcvtWu → Ends (.rcvtWu h) s ((s.setHart h { k.wx rd (BitVec.ofNat 64 (rateToWord fa).1) with
       rflags := k.rflags ||| (rateToWord fa).2 }).retired h nxt [])) ∧
     (at_ .rcvtR → Ends (.rcvtR h) s ((s.setHart h (k.wf rd (rateOfWord a.toNat))).retired h nxt []))) ∧
    (at_ .ecall → Ends (.ecall h) s (s.trapped h (.fault 6 0 0))) ∧
    (at_ .ebreak →
      (k.dcsr.testBit (if isSup h then 15 else 12) = true → Ends (.ebreak h) s (s.trapped h (.debug 1))) ∧
      (k.dcsr.testBit (if isSup h then 15 else 12) = false → Ends (.ebreak h) s (s.trapped h (.fault 5 0 0)))) ∧
    (∀ raw n, at_ .rv → s.fetch h = .ok (raw, w, n) →
      (∀ nx ev t, s.rvExec h w raw n = (.ok (nx, ev), t) → Ends (.riscvInstruction h) s (t.retired h nx ev)) ∧
      (∀ e t, s.rvExec h w raw n = (.error e, t) → Ends (.riscvInstruction h) s (t.trapped h e)) ∧
      (w % 128 = 0x13 → ∀ v, rvOpImm w a = some v →
        Ends (.riscvInstruction h) s ((s.setHart h (k.wx rd v)).retired h (k.pc + BitVec.ofNat 64 n) [])) ∧
      (w % 128 = 0x33 → ∀ v, rvOp (rvF7 w) (rvF3 w) a b = some v →
        Ends (.riscvInstruction h) s ((s.setHart h (k.wx rd v)).retired h (k.pc + BitVec.ofNat 64 n) [])) ∧
      (w % 128 = 0x63 → ∀ tk, rvTaken (rvF3 w) a b = some tk →
        Ends (.riscvInstruction h) s (s.retired h (if tk then k.pc + immB w else k.pc + BitVec.ofNat 64 n) [])))

/-- R439 and R440: the rate operations on the pairs of R439's table, a NaN being every NaN, give the table's values and accumulate its flags
(DENORM 1, SAT 2, INVALID 4); RCVT.WU truncates toward zero with R440's special cases (a subnormal of either sign gives 0 with DENORM: the
model's reading, log entry 45); RCVT.R rounds to nearest even and sets no flag. -/
def Obligations.RateArithmeticAtTheExtremes : Prop :=
  (∀ (h w op a b : Nat) (s : State) (res : List (Nat × Nat)),
    let k := s.hart h
    ((a, b, res) ∈ rateExtremes ∨ res = List.replicate 6 (0x7FC00000, 4) ∧
      (0x7F800000 < a % 2 ^ 31 ∧ a < 2 ^ 32 ∧ b = 0x3F800000 ∨ a = 0x3F800000 ∧ 0x7F800000 < b % 2 ^ 31 ∧ b < 2 ^ 32)) →
    op < 6 → s.atInstr h (.rate op) w → k.rf (rvRs1 w) = a → k.rf (rvRs2 w) = b →
    Ends (([.radd h, .rsub h, .rmul h, .rdiv h, .rmin h, .rmax h] : List Instr).getD op (.radd h)) s
      ((s.setHart h { k.wf (rvRd w) (res.getD op (0, 0)).1 with rflags := k.rflags ||| (res.getD op (0, 0)).2 }).retired h (k.pc + 4) [])) ∧
  (∀ (h w : Nat) (s : State), s.atInstr h .rcvtWu w →
    let k := s.hart h
    let v := k.rf (rvRs1 w)
    let m := v % 2 ^ 31
    let man := v % 2 ^ 23 + 2 ^ 23
    let x := m / 2 ^ 23
    let q := if 150 ≤ x then man * 2 ^ (x - 150) else man / 2 ^ (150 - x)
    let gives := fun (n fl : Nat) => Ends (.rcvtWu h) s
      ((s.setHart h { k.wx (rvRd w) (BitVec.ofNat 64 n) with rflags := k.rflags ||| fl }).retired h (k.pc + 4) [])
    (0x7F800000 < m → gives 0 4) ∧ (0 < m → m < 2 ^ 23 → gives 0 1) ∧ (m = 0 → gives 0 0) ∧
    (v.testBit 31 = true → 2 ^ 23 ≤ m → m ≤ 0x7F800000 → gives 0 2) ∧
    (v.testBit 31 = false → m = 0x7F800000 → gives 0xFFFFFFFF 2) ∧
    (v.testBit 31 = false → 2 ^ 23 ≤ m → m < 0x7F800000 → 0xFFFFFFFF < q → gives 0xFFFFFFFF 2) ∧
    (v.testBit 31 = false → 2 ^ 23 ≤ m → m < 0x7F800000 → q ≤ 0xFFFFFFFF → gives q 0)) ∧
  (∀ (h w : Nat) (s : State), s.atInstr h .rcvtR w →
    let k := s.hart h
    let n := (s.xr h (rvRs1 w)).toNat % 2 ^ 32
    let e := Nat.log2 n
    let sh := e - 23
    let u := n / 2 ^ sh
    let r := n % 2 ^ sh
    let up := if 2 ^ sh < 2 * r ∨ 2 * r = 2 ^ sh ∧ u % 2 = 1 then 1 else 0
    let gives := fun (f : Nat) => Ends (.rcvtR h) s ((s.setHart h (k.wf (rvRd w) f)).retired h (k.pc + 4) [])
    (n = 0 → gives 0) ∧ (0 < n → e ≤ 23 → gives ((e + 126) * 2 ^ 23 + n * 2 ^ (23 - e))) ∧
    (23 < e → gives ((e + 126) * 2 ^ 23 + u + up)))
/-- The opcodes 0x0900-0x090C (R424, R433, R446, R447, R451, R453). -/
def Obligations.EngineOpcodesComplete : Prop :=
  (∀ (w : Waybill) (u : State), w.u8 0 ≤ 31 →
    let c := w.u8 0
    Carries .engQuery engQueryMeta w u .ok
      (leBytes 4 (u.regN (Reg.EC_STATE c)) ++ leBytes 4 (u.regN (Reg.EC_ENGINE_MAP c)) ++ leBytes 4 (u.regN (Reg.EC_RETIRED c))
        ++ leBytes 4 (u.regN (Reg.EC_IMAGE_ID c)) ++ leBytes 4 (u.regN (Reg.EC_ALT_IMAGE_ID c)) ++ leBytes 4 (u.ecQueues c)
        ++ leBytes 8 (u.reg64 (Reg.EC_DISPATCHED c)) ++ leBytes 4 (u.regN (Reg.EC_FAULTS c)) ++ leBytes 4 (u.regN (Reg.EC_SUP_FAULTS c))
        ++ leBytes 4 (u.regN (Reg.EC_EXCH_KILLS c)) ++ zeros 4) u) ∧
  (∀ (w : Waybill) (u : State) (c : Nat) (cs : List Nat), maskClusters (w.u32 0) = c :: cs →
    let off := w.u32 4
    let n := w.params.length - 16
    off % 4 = 0 → off + n ≤ 131072 → u.exchanging (c :: cs) = false →
    let t := (c :: cs).foldl (State.loadBank · ((w.u8 12).testBit 0) (w.u32 8) off (w.bytes 16 n)) u
    Carries .engLoad engLoadMeta w u .ok (leBytes 4 (bankImageCrc (t.altBank c) (t.cluster c).altEnd)) t) ∧
  (∀ (w : Waybill) (u : State) (c : Nat) (cs : List Nat), maskClusters (w.u32 0) = c :: cs → 1 ≤ w.u16 12 → w.u16 12 ≤ 1000 →
    (c :: cs).all (fun c => u.imageOk c (w.u32 4) (w.u32 8)) = true → u.exchanging (c :: cs) = false →
    let seq := u.eng.swapSeq
    let prev := u.regN (Reg.EC_IMAGE_ID c)
    let s1 : State :=
      { u with eng := { u.eng with swapSeq := seq + 1, swaps := u.eng.swaps ++ [{ seq := seq, left := c :: cs, prevId := prev }] } }
    let s2 := (c :: cs).foldl (State.startExchange · seq (u.now + w.u16 12 * 1000000)) s1
    (s2.eng.swaps.any (fun x => x.seq == seq) = true →
      Pends .engSwap engSwapMeta w u (.engSwap seq) ((w.u16 12 + 1) * 1000000) none s2) ∧
    (s2.eng.swaps.any (fun x => x.seq == seq) = false → Carries .engSwap engSwapMeta w u .ok (leBytes 4 0 ++ leBytes 4 prev) s2)) ∧
  (∀ (w : Waybill) (u : State), w.u8 0 ≤ 31 → w.u8 1 ≤ 1 → 4 ≤ w.u32 8 → w.u32 8 ≤ 4080 → w.u32 4 + w.u32 8 ≤ 131072 →
    Carries .engReadBank engReadBankMeta w u .ok
      (Mem.rdN ((u.cluster (w.u8 0)).bank (u.bankNo (w.u8 0) + w.u8 1)) (w.u32 4) (w.u32 8)) u) ∧
  (∀ (w : Waybill) (u : State) (c : Nat) (cs : List Nat), maskClusters (w.u32 0) = c :: cs →
    Carries .engSetParams engSetParamsMeta w u .ok (leBytes 4 (u.regN (Reg.EC_CTRL c)))
      ((c :: cs).foldl (State.setEcCtrl · · (w.u32 4)) u)) ∧
  (∀ (w : Waybill) (u : State), w.u8 0 ≤ 31 → w.u8 1 ≤ 3 → u.winBad (w.u32 4) (w.u32 8) = false →
    Carries .engDramWin engDramWinMeta w u .ok
      (leBytes 4 (u.regN (Reg.EC_DRAM_WIN_W0 (w.u8 0) (w.u8 1))) ++ leBytes 4 (u.regN (Reg.EC_DRAM_WIN_W1 (w.u8 0) (w.u8 1))))
      (u.setDramWin (w.u8 0) (w.u8 1) (w.u32 4) (w.u32 8))) ∧
  (∀ (w : Waybill) (u : State), w.u8 0 ≤ 31 → w.u8 1 ≤ 31 →
    let c := w.u8 0
    let l := w.u8 1
    let a := Reg.EC_LINE_VEC c (l / 4)
    let b := 8 * (l % 4)
    Carries .engLineSet engLineSetMeta w u .ok
      (leBytes 1 (u.fld a (b + 7) b) ++ leBytes 2 (SMap.getD (u.cluster c).lines l 0) ++ zeros 1)
      (u.setCfg (21 + c) a (setBits (u.regN a) (b + 7) b (w.u8 2 &&& 0xBF)))) ∧
  (∀ (w : Waybill) (u : State), w.u8 0 ≤ 31 → w.u8 1 ≤ 7 →
    let c := w.u8 0
    let i := w.u8 1
    let v := w.u32 4 &&& 0x8F0FFF3F
    let a := ctArea v
    let s1 := u.setCfg (21 + c) (Reg.EC_CT_DESC c i) v
    let k := s1.cluster c
    let left := k.poison.filter (fun w => decide (w * 8 < a.1) || decide (a.1 + a.2 ≤ w * 8))
    let k1 := { k with shared := Mem.clear k.shared a.1 a.2, poison := left }
    (v.testBit 31 = false → Carries .engCtSet engCtSetMeta w u .ok (leBytes 4 (u.regN (Reg.EC_CT_DESC c i))) s1) ∧
    (v.testBit 31 = true → 2 ≤ bits v 27 24 → bits v 27 24 ≤ 12 → 1 ≤ bits v 5 0 → bits v 5 0 ≤ 32 → a.1 + a.2 ≤ 2 ^ 20 →
      ((List.range 8).filter (fun j => j != i && u.flag (Reg.EC_CT_DESC c j) 31)).any
        (fun j => areaHits a (ctArea (u.regN (Reg.EC_CT_DESC c j)))) = false →
      Carries .engCtSet engCtSetMeta w u .ok (leBytes 4 (u.regN (Reg.EC_CT_DESC c i)))
        ((s1.setCluster c k1).breakResv c 0 a.1 a.2))) ∧
  (∀ (w : Waybill) (u : State), w.u8 0 ≤ 31 → w.u8 1 ≤ 7 → w.u8 2 ≤ 7 →
    let h := w.u8 0 * 64 + w.u8 1 * 8 + w.u8 2
    let k := u.hart h
    Carries .engThreadQuery engThreadQueryMeta w u .ok
      (leBytes 1 k.st.code ++ zeros 1 ++ leBytes 2 k.tag ++ leBytes 4 (u.frameWord h) ++ leBytes 8 k.pc.toNat ++ leBytes 8 k.slots
        ++ leBytes 8 k.tcmp) u) ∧
  (∀ (w : Waybill) (u : State), w.u8 0 ≤ 31 → w.u16 2 ≤ 4095 →
    Carries .engCntRead engCntReadMeta w u .ok
      ((List.range (min 510 (4096 - w.u16 2))).flatMap (fun j => leBytes 8 (u.reg64 (Reg.CNT (w.u8 0) (w.u16 2 + j))))) u) ∧
  (∀ (w : Waybill) (u : State), w.u8 0 ≤ 31 → w.u8 1 ≤ 7 → 8 ≤ w.u32 8 → w.u32 8 ≤ 4080 → w.u32 8 % 8 = 0 →
    u.engMem (w.u8 0) (w.u32 4) (w.u32 8) false = true →
    let r := u.peekAt (w.u8 0 * 64 + w.u8 1 * 8) (w.u32 4) (w.u32 8)
    Carries .engMemRead engMemReadMeta w u .ok (r.1.getD (zeros (w.u32 8))) r.2) ∧
  (∀ (w : Waybill) (u : State), w.u8 0 ≤ 31 → w.u8 1 ≤ 7 → u.engMem (w.u8 0) (w.u32 4) (w.params.length - 8) true = true →
    Carries .engMemWrite engMemWriteMeta w u .ok []
      (u.writeRegion (w.u8 0 * 64 + w.u8 1 * 8) (w.u32 4) (w.bytes 8 (w.params.length - 8))).2) ∧
  (∀ (w : Waybill) (u : State), w.u8 0 ≤ 31 → w.u8 1 ≤ 7 →
    let i := w.u8 0 * 8 + w.u8 1
    (u.hart (i * 8)).st ≠ .unavailable → u.flag (Reg.EC_STATE (w.u8 0)) 3 = true →
    let t := (u.dropWait (i * 8)).supStart i (u.restartPc (w.u8 0))
    ((u.hart (i * 8)).st ≠ .debug → Carries .engRestartSup engRestartSupMeta w u .ok [] t) ∧
    ((u.hart (i * 8)).st = .debug →
      Carries .engRestartSup engRestartSupMeta w u .ok [] (t.modHart (i * 8) (fun x => { x with st := .debug, prior := .running }))))

/-! Completion of the commands of 13, 14 and 16 -/

/-- The movers: descriptors, events and the opcodes 0x0A00-0x0A05 (R456-R481). -/
def Obligations.MoversComplete : Prop :=
  (∀ (c : Nat) (s : State) (j : MvJob),
    let t := s.mvDrop c
    (t.mvChan c).job = some j → j.phase = .taken → t.mvHostOk j = true → t.inService 12 = true →
    (j.indexed = false →
      (j.op = 0x30 → j.cipher = false → j.srcSp = j.dstSp → j.src = j.dst → Ends (.mvCopy c) s (t.mvEnd c cOk j.len)) ∧
      (j.op = 0x30 → (j.cipher = true ∨ j.srcSp ≠ j.dstSp ∨ j.src ≠ j.dst) → Ends (.mvCopy c) s (t.mvAsk c j)) ∧
      (j.op = 0x33 → Ends (.mvInterleave c) s (t.mvAsk c j)) ∧ (j.op = 0x34 → Ends (.mvDeinterleave c) s (t.mvAsk c j)) ∧
      (j.op = 0x35 → Ends (.mvBitplane c) s (t.mvAsk c j)) ∧ (j.op = 0x36 → Ends (.mvBitplaneInv c) s (t.mvAsk c j)) ∧
      (j.op = 0x37 → Ends (.mvFill c) s (t.mvAsk c j)) ∧ (j.op = 0x38 → Ends (.mvRandom c) s (t.mvAsk c j))) ∧
    (j.indexed = true →
      let go := if j.idxSp = 0 then (t.emit (.hostRead j.fn j.index (j.count * 4))).setJob c { j with phase := .index }
        else
          let r := t.mvRead j j.idxSp j.index (j.count * 4)
          if r.2.1 then r.2.2.mvEcc c j else r.2.2.mvIndexed c j r.1
      (j.op = 0x31 → Ends (.mvGather c) s go) ∧ (j.op = 0x32 → Ends (.mvScatter c) s go))) ∧
  (∀ (c g : Nat) (e : Entry) (q : WorkQ) (s : State), c < 96 →
    let t := s.mvDrop c
    (t.mvChan c).job = none → t.inService 12 = true → t.flag Reg.MV_CTRL 31 = true → t.flag (Reg.MV_CHAN_W0 c) 31 = true →
    t.mvQueue c = some (g, e) → t.wq? g = some q →
    let s1 := t.setWq g (q.mapEntry e.idx (fun e => { e with started := true }))
    Ends (.moverDescriptorStart c) s
      ((s1.setMvChan c { s1.mvChan c with lastQ := some g }).mvTake c { org := .queue g e.idx, raw := e.raw, fn := q.fn })) ∧
  (∀ (c : Nat) (s : State) (j : MvJob) (d : List Byte),
    let t := s.mvDrop c
    (t.mvChan c).job = some j → j.phase = .run → t.mvHostOk j = true → t.inService 12 = true → j.cipher = false →
    let n := (j.chunk j.k).2
    (j.op = 0x38 → n ≤ j.rnd.length →
      Ends (.chunkWritten c) s (t.mvNext c { j with rnd := j.rnd.drop n } cOk n (j.writes j.k (j.rnd.take n)))) ∧
    (j.op ≠ 0x38 → j.buf = some d → Ends (.chunkWritten c) s (t.mvNext c j cOk n (j.writes j.k d)))) ∧
  (∀ (c n : Nat) (s : State) (j : MvJob),
    let t := s.mvDrop c
    (t.mvChan c).job = some j →
    (j.phase = .barrier (n + 2) → Ends (.barrierReadReturn c) s (t.setJob c { j with phase := .barrier (n + 1) })) ∧
    ((j.phase = .barrier 1 ∨ j.phase = .barrier 0) → Ends (.barrierReadReturn c) s
      (t.setMvChan c { t.mvChan c with job := some { j with phase := .taken }, unarrived := [] }))) ∧
  (∀ (c g i : Nat) (s : State) (j : MvJob),
    let t := s.mvDrop c
    (t.mvChan c).job = some j → j.phase = .run → j.org = .queue g i →
    Ends (.moverFault c) s
      (((((t.bulkDrop (.mover c)).rngCancel (.mover c)).bump Reg.MV_REPLAYS).raise Ev.mv 1 |>.countReplay (some (g, i))).mvAsk c
        { j with buf := none, seg := 0, rnd := [], rndWait := false })) ∧
  (∀ (c : Nat) (s : State), c ≤ 31 → s.flag (Reg.MV_ERING c) 31 = true → s.inService 12 = true →
    let p := u32 (Mem.rdN (s.cluster c).shared (s.mvRingBase c) 4) 0
    let r : MvRing := SMap.getD s.mv.rings c {}
    ((p + 2 ^ 32 - r.prod) % 2 ^ 32 < 2 ^ 31 → (p + 2 ^ 32 - r.cons) % 2 ^ 32 ≤ s.mvRingSize c →
      Ends (.engineRingProd c) s { s with mv := { s.mv with rings := SMap.put s.mv.rings c { r with prod := p } } }) ∧
    (2 ^ 31 ≤ (p + 2 ^ 32 - r.prod) % 2 ^ 32 → Ends (.engineRingProd c) s (s.raise Ev.mv 0))) ∧
  (∀ (w : Waybill) (u : State), Carries .mvQuery mvQueryMeta w u .ok
    (leBytes 4 (u.regN Reg.MV_CTRL) ++ leBytes 16 ((List.range 128).foldl (fun n c => n + bitVal (u.mvChan c).job.isSome c) 0)
      ++ leBytes 8 (u.reg64 Reg.MV_BYTES) ++ leBytes 8 (u.reg64 Reg.MV_DESCRIPTORS)
      ++ leBytes 4 (u.regN Reg.MV_OVERLAP) ++ leBytes 4 (u.regN Reg.MV_BAD_DESC) ++ leBytes 4 (u.regN Reg.MV_REPLAYS)) u) ∧
  (∀ (w : Waybill) (u : State) (q : WorkQ), u.wq? (w.u16 0) = some q → q.kind = 3 → w.u8 2 ≤ 95 →
    Carries .mvBind mvBindMeta w u .ok (leBytes 1 q.chan ++ zeros 3) (u.setWq (w.u16 0) { q with chan := w.u8 2 })) ∧
  (∀ (w : Waybill) (u : State), w.u8 0 ≤ 127 →
    Carries .mvChanSet mvChanSetMeta w u .ok (leBytes 4 (u.regN (Reg.MV_CHAN_W0 (w.u8 0)))) (u.setMvChanCfg (w.u8 0) (w.u32 4))) ∧
  (∀ (w : Waybill) (u : State), Carries .mvSetParams mvSetParamsMeta w u .ok (leBytes 4 (u.regN Reg.MV_CTRL)) (u.setMvCtrl (w.u32 0))) ∧
  (∀ (w : Waybill) (u : State), w.u8 0 ≤ 31 →
    let c := w.u8 0
    let v := w.u32 4
    let a := ringArea v
    let r : MvRing := SMap.getD u.mv.rings c {}
    4 ≤ bits v 27 24 → bits v 27 24 ≤ 8 → a.1 + a.2 ≤ 2 ^ 20 →
    ((List.range 8).filter (fun j => u.flag (Reg.EC_CT_DESC c j) 31)).any (fun j => areaHits a (ctArea (u.regN (Reg.EC_CT_DESC c j)))) = false →
    r.cons = r.prod →
    let s1 : State := { u with mv := { u.mv with rings := SMap.del u.mv.rings c } }
    Carries .mvEngRing mvEngRingMeta w u .ok (leBytes 4 (u.regN (Reg.MV_ERING c)))
      (s1.setCfg 12 (Reg.MV_ERING c) (bits v 31 31 * 2 ^ 31 + bits v 27 24 * 2 ^ 24 + bits v 20 16 * 65536 + bits v 11 0))) ∧
  (∀ (w : Waybill) (u : State), w.u8 0 ≤ 127 →
    let c := w.u8 0
    Carries .mvChanQuery mvChanQueryMeta w u .ok
      (leBytes 4 (u.regN (Reg.MV_CHAN_W0 c)) ++ leBytes 4 (u.regN (Reg.MV_CHAN_W1 c))
        ++ leBytes 2 (u.qm.wqs.filter (fun (x : Nat × WorkQ) => x.2.kind == 3 && x.2.chan == c)).length ++ zeros 2
        ++ leBytes 8 (u.mvChan c).bytes ++ leBytes 4 (u.mvChan c).descs) u)

/-- Mailboxes and the event fabric (R485-R496; 15 R520). -/
def Obligations.MailboxesComplete : Prop :=
  (∀ (user : MbUser) (key : Nat) (b : Bool) (s : State), s.mbTakes user key b = true →
    let me := mbOwnerId user
    let ans := fun (x : Word × State) => State.mbAnswer x user key
    (∀ w, Ends (.mbTx user key b w) s (s.mbPush key b me w false) ∧ Ends (.mbTxEom user key b w) s (s.mbPush key b me w true)) ∧
    Ends (.mbRx user key b) s (ans (s.mbPop key b me)) ∧
    (let s1 := s.modSide key b (fun x => { x with lock := some (x.lock.getD me) })
     Ends (.mbLockRead user key b) s (ans (s1.mbLockWord key b (some me), s1))) ∧
    (((s.mbPair key).side b).lockedFor me = false →
      Ends (.mbLockWrite user key b) s (s.modSide key b (fun x => { x with lock := none }))) ∧
    (((s.mbPair key).side b).lockedFor me = true → Ends (.mbLockWrite user key b) s (s.mbErr key b 6))) ∧
  (∀ (key t : Nat) (b : Bool) (s : State), ((s.mbPair key).side b).timer = some t →
    Ends (.mbSendTimeout key b) s (((s.at t).mbFlush key b).mbErr key b 4)) ∧
  (∀ (key : Nat) (b : Bool) (s : State), ((s.mbPair key).side b).held = true → s.mbInService (s.mbOwner key b) = true →
    Ends (.mbWakeDone key b) s (((s.mbWakeEnd key b).modSide key b (fun y => { y with held := false })).mbDeliver key b)) ∧
  (∀ (key t : Nat) (b : Bool) (s : State), ((s.mbPair key).side b).wake = some t →
    Ends (.wakeFail key b) s (((s.at t).mbWakeEnd key b).raiseSev Ev.mb 0 1)) ∧
  (∀ (w : Waybill) (u : State), 36 ≤ w.u8 0 → w.u8 0 ≤ 63 → w.u8 2 ≤ 31 →
    let key := w.u8 0
    let en := (w.u8 1).testBit 0
    let c := w.u8 2
    let p := u.mbPair key
    p.ab = [] → p.ba = [] → p.a.lock = none → p.b.lock = none →
    (en = false ∨ ((List.range 28).filter (fun i => 36 + i != key && u.mbOwner (36 + i) true == .cluster c)).length < 7) →
    Carries .mbAssign mbAssignMeta w u .ok (leBytes 4 (u.regN (Reg.MB_PAIR_CFG (key - 36))))
      (u.setCfg 13 (Reg.MB_PAIR_CFG (key - 36)) (bitVal en 31 + bitVal ((w.u8 1).testBit 1) 30 + c))) ∧
  (∀ (w : Waybill) (u : State), w.u8 0 ≤ 54 → w.u8 2 ≤ 1 → w.u8 1 < (unitStatusRegs (w.u8 0)).length → routeIndexOk (w.u32 4) = true →
    let a := if w.u8 2 = 0 then Reg.EF_ROUTE0 (w.u8 0 * 8 + w.u8 1) else Reg.EF_ROUTE1 (w.u8 0 * 8 + w.u8 1)
    Carries .efRouteSet efRouteSetMeta w u .ok (leBytes 4 (u.regN a)) (u.setCfg 13 a (setBits (w.u32 4) 21 11 0))) ∧
  (∀ (w : Waybill) (u : State), w.u8 0 ≤ 63 →
    Carries .efSetSampleVec efSetSampleVecMeta w u .ok (leBytes 4 (u.regN Reg.EF_SAMPLE_VEC)) (u.setCfg 13 Reg.EF_SAMPLE_VEC (w.u8 0)))

/-- The DRAM channels: requests, refresh, errors, scrubbing, retraining, migration and the opcodes 0x0C00-0x0C04 (R529-R546). The refresh
limit and window are log entry 37. -/
def Obligations.DramCompletes : Prop :=
  (∀ (c : Nat) (reqs : List DramReq) (q : DramReq) (s : State), s.dramServes c = true →
    let l := (s.chan c).reqs ++ reqs.filter (fun q => decide (1 ≤ q.cls) && decide (q.cls ≤ 6))
    nextReq l = some q → Ends (.dramRequest c reqs) s ((s.setChan c { s.chan c with reqs := l.erase q }).serveReq c q)) ∧
  (∀ (c r : Nat) (s : State), s.dramServes c = true → s.rankSt c r ≠ 0 → s.flag Reg.TM_STATE 1 = false →
    let x := s.chan c
    let n := SMap.getD x.intervals r 0 + 1
    let fresh := decide (8192 ≤ n)
    let x1 := { x with intervals := SMap.put x.intervals r (if fresh then 0 else n),
                       acts := if fresh then x.acts.filter (fun e => e.1 / 32 != r) else x.acts,
                       owed := SMap.put x.owed r 0, opened := x.opened.filter (fun e => e.1 / 32 != r) }
    Ends (.refresh c r) s ((s.setChan c x1).emit (.dramCmd c r 0 (SMap.getD x.owed r 0 + 1)))) ∧
  (∀ (c : Nat) (temps : List Nat) (s : State), s.dramServes c = true →
    let rs := (List.range 4).filter (fun r => s.rankSt c r != 0)
    let x2 := rs.filter (fun r => decide (85 < temps.getD r 0))
    let hot := rs.filter (fun r => decide (95 < temps.getD r 0))
    let s2 := (s.setChan c { s.chan c with x2 := x2, hot := hot }).setFld (Reg.DC_STATE c) 29 29 (if x2.isEmpty then 0 else 1)
    Ends (.mr4Read c temps) s (if hot.isEmpty then s2.causeOff (Ev.dc c) 7 else s2.causeOn (Ev.dc c) 7)) ∧
  (∀ (line : Nat) (s : State), s.dramServes (s.dramChannel (line * 64)) = true →
    (s.dr.down = false → Ends (.dramCorrectableError line) s (s.dramCe line)) ∧
    (∀ use, Ends (.dramUncorrectableError line use) s (s.dramUe line use))) ∧
  (∀ (c : Nat) (s : State), s.dramServes c = true → s.dr.down = false → s.fld (Reg.DC_CTRL c) 23 16 ≠ 0 → (s.chan c).map ≠ [] →
    (s.chan c).mig = none →
    let x := s.chan c
    let k := x.scrub
    let last := decide (x.map.length * 2 ^ 22 ≤ k + 1)
    let s1 := s.setChan c { x with scrub := if last then 0 else k + 1 }
    let s2 := if last then s1.bump (Reg.DC_SCRUB_PASSES c) else s1
    let line := s2.lineOf c k
    Ends (.patrolScrub c) s (if s2.dramHas (line * 64) then s2.lineFound line else s2)) ∧
  (∀ (c : Nat) (drifted : List Nat) (s : State), s.dramServes c = true →
    let x := s.chan c
    let s1 := s.at x.retrainAt
    let next := x.retrainAt + s.dramRetrainNs c
    (s1.flag Reg.TM_STATE 1 = true → x.deferred < 4 →
      Ends (.retrainRound c drifted) s (s1.setChan c { x with retrainAt := next, deferred := x.deferred + 1 })) ∧
    ((s1.flag Reg.TM_STATE 1 = false ∨ 4 ≤ x.deferred) →
      Ends (.retrainRound c drifted) s ((s1.setChan c { x with retrainAt := next, deferred := 0 }).retrainRound c drifted))) ∧
  (∀ (c : Nat) (s : State), s.dramServes c = true → s.dr.down = false → Ends (.migrationStep c) s (s.migStep c)) ∧
  (∀ (c : Nat) (s : State), s.dramServes c = true → s.dr.down = false →
    ∀ r, (s.chan c).withdrawing = some r → Ends (.withdrawal c) s (s.doWithdraw c r)) ∧
  (∀ (w : Waybill) (u : State), w.u8 0 ≤ 3 →
    let c := w.u8 0
    Carries .dcQuery dcQueryMeta w u .ok
      (leBytes 4 (u.regN (Reg.DC_CFG c)) ++ leBytes 4 (u.dcState c) ++ leBytes 4 (u.regN (Reg.DC_MIG c))
        ++ leBytes 4 (u.regN (Reg.DC_CAP c)) ++ leBytes 8 (u.reg64 (Reg.DC_RD_BYTES c)) ++ leBytes 8 (u.reg64 (Reg.DC_WR_BYTES c))
        ++ leBytes 4 (u.regN (Reg.DC_CE_COUNT c)) ++ leBytes 4 (u.regN (Reg.DC_UE_COUNT c)) ++ leBytes 4 (u.regN (Reg.DC_NREF c))
        ++ zeros 4) u) ∧
  (∀ (w : Waybill) (u : State) (c : Nat) (cs : List Nat), (List.range 4).filter (fun c => (w.u32 0).testBit c) = c :: cs →
    Carries .dcSetParams dcSetParamsMeta w u .ok (leBytes 4 (u.regN (Reg.DC_CTRL c)) ++ leBytes 4 (u.regN (Reg.DC_CTRL2 c)))
      ((c :: cs).foldl (fun (t : State) d => t.setDcCtrl d (w.u32 4) (w.u32 8)) u)) ∧
  (∀ (w : Waybill) (u : State), w.u8 0 ≤ 3 → w.u8 1 ≤ 3 → u.rankSt (w.u8 0) (w.u8 1) = 1 →
    let c := w.u8 0
    let r := w.u8 1
    let t := u.rankRetire c r 3
    (t.dr.down = true → Carries .dcRankRetire dcRankRetireMeta w u .ok (zeros 8) t) ∧
    (t.dr.down = false → Pends .dcRankRetire dcRankRetireMeta w u (.rankRetire c r)
      (1000000000 + u.chanRankGib c * 1073741824 / u.migGbps c) (some ⟨.rank, c * 4 + r⟩) t)) ∧
  (∀ (w : Waybill) (u : State), Carries .dcRetrain dcRetrainMeta w u .ok []
    ((List.range 4).foldl (fun (t : State) c =>
      if (w.u32 0).testBit c && t.dramServes c then
        (t.setChan c { t.chan c with retrainAt := t.now + t.dramRetrainNs c, deferred := 0 }).retrainRound c [] else t) u)) ∧
  (∀ (w : Waybill) (u : State), 1 ≤ w.u8 4 → w.u8 4 ≤ 2 → u.dramHas (w.u32 0 * 64) = true →
    let code := if w.u8 4 = 1 then 1 else if (w.u8 5).testBit 0 then 3 else 2
    Carries .dcErrInject dcErrInjectMeta w u .ok []
      { u with dr := { u.dr with inject := SMap.put u.dr.inject (w.u32 0) code } })

/-- Device DRAM (16 R526): bytes stored where DRAM is are read back, no other byte of DRAM changes, and the bytes keep their canonical
form (the list form of DRAM is the model's own, log entry 6). -/
def Obligations.DramReadsWhatWasStored : Prop :=
  ∀ (s : State) (a : Nat) (d : List Byte),
    ((∀ i, i < d.length → s.dramHas (a + i) = true) → (s.dramStore a d).dramRead a d.length = d) ∧
    (∀ b, (b < a ∨ a + d.length ≤ b) → (s.dramStore a d).dramRead b 1 = s.dramRead b 1) ∧
    (Mem.wf s.dram = true → Mem.wf (s.dramStore a d).dram = true)

/-! Completion of the commands of 17 and 18 -/

/-- The convoy: training, flits, faults, control messages, frames, digests and partitions (R549-R569). What a control flit carries arrives as
a command of its own: log entry 28. -/
def Obligations.ConvoyEventsComplete : Prop :=
  (∀ (c : Nat) (s : State), c < 2 → s.cpEnabled c = true → s.cpUp c = false → s.inService 19 = true →
    (s.cvSize ≤ s.cvId → ∀ ok, Ends (.caravanTrainingAttempt c ok) s (s.raise Ev.cv 6)) ∧
    (s.cvId < s.cvSize → s.cvHeldDown = false →
      let s1 := fun (ok : Bool) => (s.setFld (Reg.CP_STAT c) 30 30 1).setCp c { s.cp c with trained := ok }
      Ends (.caravanTrainingAttempt c true) s ((s1 true).emit (.ident c ((s1 true).identInfo c))) ∧
      Ends (.caravanTrainingAttempt c false) s (s1 false))) ∧
  (∀ (c : Nat) (info : IdentInfo) (s : State), c < 2 → (s.cp c).trained = true → s.cpUp c = false → s.cpEnabled c = true →
    (info.id = s.cvId → Ends (.ident c info) s (s.identBad c 7 info)) ∧
    (info.id ≠ s.cvId → info.vendor = 0x1F1A → info.device = 0x8140 → info.size = s.cvSize → info.port = 1 - c →
      info.id = (if c = 1 then (s.cvId + 1) % s.cvSize else (s.cvId + s.cvSize - 1) % s.cvSize) →
      ((s.cp c).downAt = none → Ends (.ident c info) s (s.linkUp c info false)) ∧
      (∀ t, (s.cp c).downAt = some t → s.now ≤ t → info.epoch = s.regN (Reg.CP_EPOCH c) → info.epoch ≠ 0 →
        Ends (.ident c info) s (s.linkUp c info true)) ∧
      (∀ t, (s.cp c).downAt = some t → t < s.now → Ends (.ident c info) s ((s.cpLost c).linkUp c info false)))) ∧
  (∀ (c : Nat) (b : List Byte) (s : State), c < 2 → s.cpUp c = true → b.length = 256 →
    (u32 b 252 ≠ crc32c (b.take 252) → Ends (.flit c b) s ((s.bump (Reg.CP_CRC_ERR c)).sendNak c)) ∧
    (u32 b 252 = crc32c (b.take 252) → u16 b 6 = s.regN (Reg.CP_EPOCH c) →
      let type := u16 b 0 / 4096
      let seq := u16 b 0 % 4096
      let s1 := ((s.bump64 (Reg.CP_FLITS_RX c) 1).credit c (u8 b 4) (u8 b 5)).flitAck c (u16 b 2 % 4096)
      let s2 := if (u16 b 2).testBit 12 then s1.resend c none else s1
      (type ≠ 1 → type ≠ 2 → Ends (.flit c b) s s2) ∧
      ((type = 1 ∨ type = 2) → seq ≠ ((s2.cp c).rx + 1) % 4096 → Ends (.flit c b) s (s2.sendNak c)) ∧
      (seq = ((s2.cp c).rx + 1) % 4096 →
        let s3 := s2.setCp c { s2.cp c with rx := seq, naked := false }
        (type = 1 → Ends (.flit c b) s ((s3.assemble c (slice b 8 244)).sendFlit c 3 0 false 1 0 [])) ∧
        (type = 2 → Ends (.flit c b) s (s3.sendFlit c 3 0 false 0 1 []))))) ∧
  (∀ (c last : Nat) (s : State), c < 2 → s.cpUp c = true →
    Ends (.nak c last) s ((s.flitAck c (last % 4096)).resend c none) ∧
    ((s.cp c).retry ≠ [] → Ends (.ackTimeout c) s ((s.at ((s.cp c).heldAt + 2000)).resend c none))) ∧
  (∀ (c lane : Nat) (s : State), c < 2 → lane < 5 → s.isRetired { kind := 3, index := c * 8 + lane } = false →
    let r := s.faultOf { kind := 3, index := c * 8 + lane } 19 1
    Ends (.caravanLaneFault c lane) s (if r.1 then r.2.retireCvLane c lane 1 else r.2)) ∧
  (∀ (c m id : Nat) (s : State), c < 2 → s.cpUp c = true →
    let x := s.cp c
    (∀ k, x.proposal = some k → Ends (.widthProposal c m id true) s
      ((s.setCp c { x with proposal := none, unwanted := x.unwanted.filter (fun l => k.testBit l) }).widthDone c k)) ∧
    (x.proposal = none →
      let s1 := ((s.setCp c { x with proposal := none }).emit (.width c (m % 32) s.cvId true)).widthDone c (m % 32)
      Ends (.widthProposal c m id false) s
        (s1.setCp c { s1.cp c with unwanted := x.unwanted.filter (fun l => (m % 32).testBit l) }))) ∧
  (∀ (c : Nat) (s : State), c < 2 → Ends (.caravanLinkDown c) s (s.cpDown c)) ∧
  (∀ (c t : Nat) (s : State), c < 2 → (s.cp c).downAt = some t →
    let s1 := (s.at t).cpLost c
    Ends (.retrainTimeout c) s (s1.completeWait (.cpRetrain c) .ok (leBytes 4 (s1.regN (Reg.CP_STAT c))))) ∧
  (∀ (d b c : Nat) (s : State), SMap.get? s.cv.routes d = some c → s.bestRoute d = some b → b ≠ c →
    (s.cp c).retry.any (fun f => f.target == d) = false →
    Ends (.routeReturn d) s { s with cv := { s.cv with routes := SMap.put s.cv.routes d b } }) ∧
  (∀ (p e n : Nat) (s : State), s.peers.contains p = true →
    Ends (.seqSync p e n) s (s.seqSync p (e % 2 ^ 32) (n % 2 ^ 32)) ∧
    Ends (.void p e) s (s.voidIn p (e % 2 ^ 32)) ∧
    (∀ body, Ends (.controlRequest p e body) s (s.control p (e % 2 ^ 32) body))) ∧
  (∀ (p q : Nat) (b : List Byte) (s : State), Ends (.cvForwardReply p q b) s (s.cvReply p (q % 2 ^ 32) b)) ∧
  (∀ (c : Nat) (d : List Byte) (r : List (List Byte)) (s : State), c < 2 → (s.cp c).frames = d :: r →
    Ends (.convoyFrame c) s ((s.setCp c { s.cp c with frames := r }).convoyFrame c d)) ∧
  (∀ (s : State), s.inService 19 = true →
    let s1 := s.setRegN Reg.CV_DIGEST s.cvDigests.1
    (s1.isHome = true → Ends .digestPublish s s1.driftCheck) ∧
    (s1.isHome = false → s1.ownSt = 2 → s1.peers.contains s1.droverHome = true → Ends .digestPublish s
      ((s1.setRegN Reg.CV_DRIFT 0).emit (.convoy s1.droverHome none (.digest (word s.cvDigests.1) (word s.cvDigests.2)))))) ∧
  (∀ (d : Nat) (x : CvDigest) (s : State), s.isHome = true → d < s.cvSize → d ≠ s.cvId → SMap.get? s.cv.digests d = some x →
    let s1 := s.at (x.at_ + 30000000)
    let s2 : State := { s1 with cv := { s1.cv with digests := SMap.del s1.cv.digests d } }
    Ends (.digestTimeout d) s ((s2.setFld Reg.CV_DRIFT (4 + d) (4 + d) 1).setFld Reg.CV_DRIFT d d 0)) ∧
  (∀ (s : State), s.cv.acks ≠ [] →
    let s1 := s.at (s.cv.ackAt + 1000000)
    Ends .ownershipAckTimeout s (State.partition { s1 with cv := { s1.cv with cut := s1.cv.cut ++ s1.cv.acks, acks := [] } })) ∧
  (∀ (l : Nat) (s : State), Ends (.partitionChange l) s (State.partition { s with cv := { s.cv with links := l % 16, cut := [] } })) ∧
  (∀ (s : State), s.flag Reg.CV_CTRL 31 = true → s.ownSt = 0 → s.arbiter = s.cvId → s.quorum = true → s.fwServes = true →
    let s1 := (s.at (s.cv.noneSince + 1000000000)).openWindow.notify
    let cl : Claim := ⟨word (0x30000000 + s.cvId), max 1 (s.fld Reg.CV_CTRL 30 24)⟩
    Ends .autoClaim s { s1 with own := { s1.own with claims := s1.own.claims ++ [cl] } })

/-- The opcodes 0x0D00-0x0D07 (R548, R551, R567, R570, R571, R573). -/
def Obligations.ConvoyOpcodesComplete : Prop :=
  (∀ (w : Waybill) (u : State), Carries .cvQuery cvQueryMeta w u .ok
    (leBytes 4 (setBits (u.regN Reg.CV_STATE) 1 0 u.cvId) ++ leBytes 4 (u.regN Reg.CV_DRIFT) ++ leBytes 4 (u.regN Reg.CV_DIGEST)
      ++ zeros 4 ++ leBytes 4 (u.regN (Reg.CP_STAT 0)) ++ leBytes 4 (u.regN (Reg.CP_STAT 1)) ++ leBytes 4 (u.regN (Reg.CP_EPOCH 0))
      ++ leBytes 4 (u.regN (Reg.CP_EPOCH 1))) u) ∧
  (∀ (w : Waybill) (u : State), u.sizeHeld (w.u32 0) = false → Carries .cvSetParams cvSetParamsMeta w u .ok
    (leBytes 4 (u.regN Reg.CV_CTRL) ++ leBytes 4 (u.regN Reg.CV_SEAL_SET_LO) ++ leBytes 4 (u.regN Reg.CV_SEAL_SET_HI))
    (((u.setCfg 19 Reg.CV_SEAL_SET_LO (w.u32 4)).setCfg 19 Reg.CV_SEAL_SET_HI (w.u32 8 % 2 ^ 23)).setCvCtrl (w.u32 0))) ∧
  (∀ (w : Waybill) (u : State), w.u8 0 ≤ 1 →
    Carries .cpSet cpSetMeta w u .ok (leBytes 4 (u.regN (Reg.CP_CTRL (w.u8 0)))) (u.setCpCtrl (w.u8 0) (w.u32 4))) ∧
  (∀ (w : Waybill) (u : State), w.u8 0 ≤ 1 → u.cpUp (w.u8 0) = true → (u.cp (w.u8 0)).proposal = none →
    let c := w.u8 0
    let m := w.u8 2
    ((w.u8 1).testBit 0 = true → Pends .cpRetrain cpRetrainMeta w u (.cpRetrain c) u.retrainNs (some ⟨.caravanPort, c⟩) (u.cpDown c)) ∧
    ((w.u8 1).testBit 0 = false → m < 32 → m &&& u.cpRetired c = 0 → u.minWidth c ≤ popCount 5 m →
      Pends .cpRetrain cpRetrainMeta w u (.cpRetrain c) u.retrainNs (some ⟨.caravanPort, c⟩) (u.propose c m))) ∧
  (∀ (w : Waybill) (u : State), w.u8 0 ≤ 3 → w.u8 1 ≤ 7 →
    let k := w.u8 0 * 8 + w.u8 1
    Carries .cvPortBackup cvPortBackupMeta w u .ok (leBytes 4 (SMap.getD u.cv.backup k 0))
      (State.cfgWritten { u with cv := { u.cv with backup := SMap.put u.cv.backup k (w.u16 2 &&& 0x9F) } } 19)) ∧
  (∀ (w : Waybill) (u : State),
    let d := fun (i : Nat) => if i = u.cvId then leBytes 4 u.cvDigests.1 ++ leBytes 4 u.cvDigests.2
      else match SMap.get? u.cv.digests i with
        | some x => leBytes 4 x.committed ++ leBytes 4 x.current
        | none => zeros 8
    Carries .cvSealQuery cvSealQueryMeta w u .ok (leBytes 4 (u.regN Reg.CV_DRIFT) ++ ((List.range 4).map d).flatten) u) ∧
  (∀ (w : Waybill) (u : State), u.peers.contains (w.u8 0) = true →
    Pends .cvForward (cvForwardMeta w) w u (.cvForward w.tag.toNat) (opcodeLimit (w.u16 4) (w.params.drop 20) + 10000000) none
      (u.cvSend (w.u8 0) (.forward w.inst w.tag) (.forward (w.params.drop 4)))) ∧
  (∀ (w : Waybill) (u : State), u.wb.pend.any (fun p => p.cls == .d) = false →
    let s1 := u.sealStart
    let parts := s1.cvMembers.foldl (fun (m : SMap (List Byte)) d => SMap.put m d []) []
    let s2 : State := { s1 with cv := { s1.cv with sealCheck := (w.u32 0).testBit 0, sealReplies := parts } }
    Pends .cvSealCommit cvSealCommitMeta w u .cvSealCommit 20000000 (some ⟨.sealRef, 0⟩)
      (s2.peers.foldl (fun (t : State) d => t.cvSend d .sealPart (.forward t.memberCommit)) s2))

/-- The network ports: link state, pauses, transmission, the PTP clock and the opcodes 0x0E00-0x0E06 (R577-R592; 06 R229), and the return of
host data (13 R463). -/
def Obligations.PortsComplete : Prop :=
  (∀ (p : Nat) (s : State), s.hasPort p = true →
    (s.adminUp p = true → s.portUp p = false →
      let s1 := s.setRegN (npBase p + 4) (setBits (s.regN (npBase p + 4)) 31 27 0x1C)
      Ends (.netLinkUp p) s ((State.npEvent { s1 with np := { s1.np with anAt := SMap.del s1.np.anAt p } } p 0).flowCheck p)) ∧
    (s.looped p = false →
      Ends (.netLinkDown p .lock) s (s.netDown p false 0) ∧
      Ends (.netLinkDown p .localFault) s (s.netDown p false (2 ^ 29 + 2 ^ 30)) ∧
      Ends (.netLinkDown p .remoteFault) s (s.netDown p false (2 ^ 27 + 2 ^ 29 + 2 ^ 30)) ∧
      Ends (.netLinkDown p .hiBer) s ((if s.flag (npBase p + 4) 28 then s else s.npEvent p 3).netDown p false (2 ^ 28 + 2 ^ 30)) ∧
      (s.portUp p = false → s.flag (npBase p) 30 = false →
        let s1 := s.npEvent p 2
        Ends (.netLinkDown p .noMode) s { s1 with np := { s.np with anAt := SMap.put s.np.anAt p (s.now + 1000000000) } }))) ∧
  (∀ (p t : Nat) (s : State), SMap.get? s.np.anAt p = some t →
    let s1 := s.at t
    Ends (.anRestart p) s (State.netTrain { s1 with np := { s1.np with anAt := SMap.del s1.np.anAt p } } p)) ∧
  (∀ (p q en : Nat) (l : List Nat) (s : State), p < 8 → s.portUp p = true →
    Ends (.pause p q) s (s.pauseIn p (q % 65536)) ∧
    Ends (.pfc p en l) s (s.pfcIn p en (fun c => l.getD c 0 % 65536))) ∧
  (∀ (p c t : Nat) (s : State), c < 8 →
    (SMap.get? s.np.pauseEnd (p * 8 + c) = some t → Ends (.pauseExpiry p c) s ((s.at t).pauseClass p c 0)) ∧
    (SMap.get? s.np.refresh (p * 8 + c) = some t →
      let s1 := s.at t
      let pfc := s1.portFlow p == 2
      let s2 := s1.sendPause p pfc (if pfc then 2 ^ c else 0xFF) 0xFFFF
      Ends (.pfcRefresh p c) s
        { s2 with np := { s2.np with refresh := SMap.put s2.np.refresh (p * 8 + c) (s2.now + s2.quantaNs p 0x8000) } })) ∧
  (∀ (p h : Nat) (f : Frame) (s : State), p < 8 → s.onWireOf p = some (h, f) → f.tail = false →
    (f.badFcs = true → s.looped p = false → Ends (.frameTxDone p) s
      (((s.emit (.netFrame p (padded f.wire) true)).bump (Reg.NP_TX_ERR p)).endFrame h)) ∧
    (f.badFcs = false → s.looped p = false → Ends (.frameTxDone p) s
      (((((s.emit (.netFrame p (padded f.wire) false)).bump64 (Reg.NP_TX_FRAMES p) 1).bump64 (Reg.NP_TX_BYTES p)
        (padded f.wire).length).txComplete f f.txTs).endFrame h)) ∧
    (f.badFcs = false → s.looped p = true → s.portUp p = true → Ends (.frameTxDone p) s
      ((((((s.bump64 (Reg.NP_TX_FRAMES p) 1).bump64 (Reg.NP_TX_BYTES p) (padded f.wire).length).txComplete f f.txTs).endFrame h)).receive p
        (padded f.wire) true))) ∧
  (∀ (p sent h q : Nat) (f : Frame) (x : TmQ) (s : State), p < 8 → s.onWireOf p = some (h, f) → f.charge = some q →
    let s2 := (((s.emit (.netFrame p (padded (f.wire.take sent)) true)).bump (Reg.NP_TX_ERR p)).bump Reg.LG_TX_RESTARTS).replayFrame f
    s2.tmq? q = some x →
    Ends (.txFaultOnWire p sent false) s ((s2.setTmq q { x with frames := h :: x.frames }).setFrame h
      { f with stage := .queued q, wire := [], txTs := none })) ∧
  (∀ (s : State), s.flag Reg.PTP_CTRL 31 = true → s.pdOn 36 = true →
    let goal := (s.np.ppsSec + 1) * 1000000000 * ptpUnit
    let s1 := s.at (s.now + ceilDiv (goal - s.ptpNow) ((ptpUnit : Int) + s.ptpFreq).toNat)
    let n1 := { s1.np with ppsSec := s1.ptpNow / ptpUnit / 1000000000, ppsEnd := some (s1.now + s1.ppsNs) }
    Ends .ppsOut s { s1 with np := n1, pins := { s1.pins with ppsOut := some true } }) ∧
  (∀ (t : Nat) (s : State), s.np.ppsEnd = some t →
    let s1 := s.at t
    Ends .ppsOutEnd s { s1 with np := { s1.np with ppsEnd := none }, pins := { s1.pins with ppsOut := some false } }) ∧
  (∀ (s : State), s.flag Reg.PTP_CTRL 30 = true → s.pdOn 36 = true →
    Ends .ppsIn s (((s.setRegN Reg.PTP_PPS_IN_NS (s.ptpNs % 1000000000)).setRegN Reg.PTP_PPS_IN_SEC
      (s.ptpNs / 1000000000 % 2 ^ 32)).raise Ev.np 4)) ∧
  (∀ (data : List Byte) (s : State),
    (∀ c, Ends (.hostDataReadReturn (.mover c) data) s (s.mvData c data)) ∧
    (∀ q i, Ends (.hostDataReadReturn (.block q i) data) s (s.blkData q i data)) ∧
    (∀ fn, (s.ring fn).stopped = false → s.flag (wbBase fn + 8) 31 = true →
      Ends (.hostDataReadReturn (.ring fn) data) s
        (s.setRing fn { s.ring fn with fetched := ((s.ring fn).fetched ++ data).take ((s.ring fn).asked * 64) }))) ∧
  (∀ (w : Waybill) (u : State), w.u8 0 ≤ 7 →
    let p := w.u8 0
    Carries .npQuery npQueryMeta w u .ok
      (leBytes 4 (u.regN (npBase p)) ++ leBytes 4 (u.regN (npBase p + 4)) ++ leBytes 4 (u.regN (npBase p + 8))
        ++ leBytes 4 (u.regN (npBase p + 12)) ++ leBytes 1 (u.portMode p) ++ zeros 3 ++ leBytes 8 (u.reg64 (Reg.NP_RX_FRAMES p))
        ++ leBytes 8 (u.reg64 (Reg.NP_TX_FRAMES p)) ++ leBytes 4 (u.regN (Reg.NP_RX_FCS_ERR p)) ++ leBytes 4 (u.regN (Reg.NP_FEC_CORR p))
        ++ leBytes 4 (u.regN (Reg.NP_FEC_UNCORR p)) ++ leBytes 4 (u.regN (Reg.NP_LINK_DOWNS p)) ++ zeros 12) u) ∧
  (∀ (w : Waybill) (u : State), lanesBad (w.u32 0) = false →
    let v := w.u32 0
    let old := u.regN Reg.NP_LANE_CFG
    let ch := (List.range 8).filter (fun p => bits v (4 * p + 3) (4 * p) != bits old (4 * p + 3) (4 * p))
    Carries .npLaneSet npLaneSetMeta w u .ok (leBytes 4 old)
      (ch.foldl (fun t p => t.netTrain p) ((ch.foldl (fun t p => t.netDown p false 0) u).setCfg 20 Reg.NP_LANE_CFG v))) ∧
  (∀ (w : Waybill) (u : State), u.hasPort (w.u8 0) = true → ((w.u8 1).testBit 1 = true → bits (w.u32 8) 11 0 < bits (w.u32 8) 23 12) →
    let p := w.u8 0
    let s1 := if (w.u8 1).testBit 1 then u.setCfg 20 (npBase p + 8) (w.u32 8) else u
    let s2 := if (w.u8 1).testBit 2 then s1.setCfg 20 (npBase p + 12) (w.u32 12) else s1
    let s3 := if (w.u8 1).testBit 0 then s2.setPortCtrl p (w.u32 4) else s2
    Carries .npPortSet npPortSetMeta w u .ok
      (leBytes 4 (u.regN (npBase p)) ++ leBytes 4 (u.regN (npBase p + 8)) ++ leBytes 4 (u.regN (npBase p + 12))) (s3.flowCheck p)) ∧
  (∀ (w : Waybill) (u : State), u.hasPort (w.u8 0) = true →
    Carries .npRetrain npRetrainMeta w u .ok [] ((u.netDown (w.u8 0) false 0).netTrain (w.u8 0))) ∧
  (∀ (w : Waybill) (u : State), Carries .ptpGet ptpGetMeta w u .ok
    (leBytes 8 (u.ptpNs / 1000000000) ++ leBytes 4 (u.ptpNs % 1000000000) ++ leBytes 4 (u.regN Reg.PTP_FREQ)) u) ∧
  (∀ (w : Waybill) (u : State),
    let old := leBytes 4 (u.regN Reg.PTP_FREQ)
    (w.u8 0 = 0 → w.u64 4 < 2 ^ 63 → Carries .ptpAdjust ptpAdjustMeta w u .ok old (u.ptpRebase (u.ptpNow + w.u64 4 * ptpUnit))) ∧
    (w.u8 0 = 1 → -500000000 ≤ (word (w.u64 4)).toInt → (word (w.u64 4)).toInt ≤ 500000000 →
      Carries .ptpAdjust ptpAdjustMeta w u .ok old ((u.ptpRebase u.ptpNow).setReg Reg.PTP_FREQ (word (w.u64 4)))) ∧
    (w.u8 0 = 2 → w.u32 12 ≤ 999999999 →
      Carries .ptpAdjust ptpAdjustMeta w u .ok old (u.ptpRebase ((w.u64 4 % 2 ^ 48 * 1000000000 + w.u32 12) * ptpUnit)))) ∧
  (∀ (w : Waybill) (u : State), Carries .ptpPpsSet ptpPpsSetMeta w u .ok (leBytes 4 (u.regN Reg.PTP_CTRL))
    (u.setCfg 20 Reg.PTP_CTRL (bits (w.u32 0) 31 30 * 2 ^ 30 + bits (w.u32 0) 7 0)))


/-- The frame of every waybill's answer, for a waybill that did not come by a mailbox pair: beside what its opcode left, the reply changes
only the waybill state (chain, reservation, held replies), the trace of what leaves the block, the pins, and, on a ring, the function's
WB_RSP_PROD and its message-vector state; every byte of device DRAM, every other register and every unit's state stay as the opcode
left them (R60-R63, R70). -/
def Obligations.RepliesTouchOnlyReplyState : Prop :=
  ∀ (m : OpMeta) (w : Waybill) (u t : State) (c : Bool) (st : Status) (res : List Byte),
    (∀ p, w.inst ≠ .mailbox p) → (∀ f, w.inst ≠ .flaskMailbox f) →
    let a := answered m w u c st res t
    a = { t with regs := a.regs, wb := a.wb, host := a.host, out := a.out, pins := a.pins } ∧
    a.wb.arrived = t.wb.arrived ∧ a.wb.pend = t.wb.pend ∧ a.wb.eids = t.wb.eids ∧ a.wb.reasm = t.wb.reasm ∧
    (∀ n, a.dramRead n 1 = t.dramRead n 1) ∧
    ((∀ fn, w.inst ≠ .ring fn) → a.regs = t.regs ∧ a.host = t.host) ∧
    (∀ fn, w.inst = .ring fn → ∀ x, x ≠ wbBase fn + 0x20 → a.reg x = t.reg x)
end

