-- ==== Sys2Proof/Laws/Bytes.lean ====
section
/-!
SUPPORT. Byte lists: lengths, and reading a little-endian number back.
-/

namespace Sys2Proof.Machine

open Sys2Proof

@[simp] theorem leBytes_length (n v : Nat) : (leBytes n v).length = n := by
  induction n generalizing v <;> simp_all [leBytes]

@[simp] theorem zeros_length (n : Nat) : (zeros n).length = n := by simp [zeros]

/-- The little-endian bytes of v give v back, within their width. -/
theorem leNat_leBytes (n v : Nat) : leNat (leBytes n v) = v % 256 ^ n := by
  induction n generalizing v with
  | zero => simp [leBytes, leNat, Nat.mod_one]
  | succ n ih =>
    show (BitVec.ofNat 8 v).toNat + 256 * leNat (leBytes n (v / 256)) = _
    rw [ih, BitVec.toNat_ofNat, show (256 : Nat) ^ (n + 1) = 256 * 256 ^ n by ring, Nat.mod_mul]

/-- Bytes at an offset that an earlier part of the list does not reach. -/
theorem take_drop_append (a b : List Byte) (k n : Nat) (h : a.length = k) : ((a ++ b).drop k).take n = b.take n := by
  subst h; simp

@[simp] theorem slice_length (l : List Byte) (o n : Nat) : (slice l o n).length = n := by
  simp [slice]

end Sys2Proof.Machine
end

