-- ==== Sys2Proof/Laws/Maps.lean ====
section
/-!
SUPPORT. Sparse maps and byte arrays: what an update changes, what it leaves, and that it keeps the canonical form.
-/

namespace Sys2Proof.Machine

open Sys2Proof

variable {α : Type}

@[simp] theorem SMap.get?_put_self (m : SMap α) (k : Nat) (v : α) : SMap.get? (SMap.put m k v) k = some v := by
  induction m with
  | nil => simp [SMap.put, SMap.get?]
  | cons c r ih =>
    obtain ⟨j, u⟩ := c
    simp only [SMap.put]
    split
    · simp [SMap.get?]
    · split
      · simp [SMap.get?]
      · rename_i h; simp [SMap.get?, Ne.symm h, ih]

theorem SMap.get?_put_ne (m : SMap α) {k j : Nat} (v : α) (h : j ≠ k) : SMap.get? (SMap.put m k v) j = SMap.get? m j := by
  induction m with
  | nil => simp [SMap.put, SMap.get?, Ne.symm h]
  | cons c r ih =>
    obtain ⟨i, u⟩ := c
    simp only [SMap.put]
    split
    · simp [SMap.get?, Ne.symm h]
    · split
      · rename_i hk; subst hk; simp [SMap.get?, Ne.symm h]
      · simp [SMap.get?, ih]

@[simp] theorem SMap.get?_del_self (m : SMap α) (k : Nat) : SMap.get? (SMap.del m k) k = none := by
  induction m with
  | nil => rfl
  | cons c r ih =>
    obtain ⟨j, u⟩ := c
    simp only [SMap.del]
    split
    · exact ih
    · rename_i h; simp [SMap.get?, h, ih]

theorem SMap.get?_del_ne (m : SMap α) {k j : Nat} (h : j ≠ k) : SMap.get? (SMap.del m k) j = SMap.get? m j := by
  induction m with
  | nil => rfl
  | cons c r ih =>
    obtain ⟨i, u⟩ := c
    simp only [SMap.del]
    split
    · rename_i hk; subst hk; simp [SMap.get?, Ne.symm h, ih]
    · simp [SMap.get?, ih]

@[simp] theorem SMap.getD_put_self (m : SMap α) (k : Nat) (v d : α) : SMap.getD (SMap.put m k v) k d = v := by
  simp [SMap.getD]

theorem SMap.getD_put_ne (m : SMap α) {k j : Nat} (v d : α) (h : j ≠ k) :
    SMap.getD (SMap.put m k v) j d = SMap.getD m j d := by
  simp [SMap.getD, SMap.get?_put_ne m v h]

@[simp] theorem SMap.getD_del_self (m : SMap α) (k : Nat) (d : α) : SMap.getD (SMap.del m k) k d = d := by
  simp [SMap.getD]

theorem SMap.getD_del_ne (m : SMap α) {k j : Nat} (d : α) (h : j ≠ k) :
    SMap.getD (SMap.del m k) j d = SMap.getD m j d := by
  simp [SMap.getD, SMap.get?_del_ne m h]

/-! The canonical form -/

/-- A lower bound below the first key is as good as a higher one. -/
theorem SMap.risingFrom_mono {m : SMap α} {a b : Nat} (h : SMap.risingFrom (some b) m = true) (hab : a ≤ b) :
    SMap.risingFrom (some a) m = true := by
  cases m with
  | nil => rfl
  | cons c r =>
    obtain ⟨j, u⟩ := c
    simp only [SMap.risingFrom, Bool.and_eq_true, decide_eq_true_eq] at h ⊢
    exact ⟨by omega, h.2⟩

theorem SMap.risingFrom_put {m : SMap α} {a k : Nat} {v : α} (h : SMap.risingFrom (some a) m = true) (hk : a < k) :
    SMap.risingFrom (some a) (SMap.put m k v) = true := by
  induction m generalizing a with
  | nil => simp [SMap.put, SMap.risingFrom, hk]
  | cons c r ih =>
    obtain ⟨j, u⟩ := c
    simp only [SMap.risingFrom, Bool.and_eq_true, decide_eq_true_eq] at h
    simp only [SMap.put]
    split
    · simp [SMap.risingFrom, hk, h.2]; omega
    · split
      · rename_i hj; subst hj; simp [SMap.risingFrom, hk, h.2]
      · have := ih h.2 (by omega : j < k)
        simp [SMap.risingFrom, h.1, this]

theorem SMap.risingFrom_del {m : SMap α} {a k : Nat} (h : SMap.risingFrom (some a) m = true) :
    SMap.risingFrom (some a) (SMap.del m k) = true := by
  induction m generalizing a with
  | nil => rfl
  | cons c r ih =>
    obtain ⟨j, u⟩ := c
    simp only [SMap.risingFrom, Bool.and_eq_true, decide_eq_true_eq] at h
    simp only [SMap.del]
    split
    · exact ih (SMap.risingFrom_mono h.2 (by omega))
    · simp [SMap.risingFrom, h.1, ih h.2]

/-- Putting a value keeps the canonical form. -/
theorem SMap.wf_put {m : SMap α} (k : Nat) (v : α) (h : SMap.wf m = true) : SMap.wf (SMap.put m k v) = true := by
  cases m with
  | nil => rfl
  | cons c r =>
    obtain ⟨j, u⟩ := c
    simp only [SMap.wf, SMap.risingFrom] at h
    simp only [SMap.put]
    split
    · rename_i hk; simp [SMap.wf, SMap.risingFrom, hk, h]
    · split
      · rename_i hk; subst hk; exact h
      · exact SMap.risingFrom_put (m := r) h (by omega)

/-- Removing a key keeps the canonical form. -/
theorem SMap.wf_del {m : SMap α} (k : Nat) (h : SMap.wf m = true) : SMap.wf (SMap.del m k) = true := by
  cases m with
  | nil => rfl
  | cons c r =>
    obtain ⟨j, u⟩ := c
    simp only [SMap.wf, SMap.risingFrom] at h
    simp only [SMap.del]
    split
    · cases hr : SMap.del r k with
      | nil => rfl
      | cons d q =>
        have := SMap.risingFrom_del (k := k) h
        rw [hr] at this
        obtain ⟨i, x⟩ := d
        simp only [SMap.risingFrom, Bool.and_eq_true] at this
        exact this.2
    · exact SMap.risingFrom_del (m := r) h

/-! Byte arrays -/

/-- The byte written is read back. -/
@[simp] theorem Mem.rd_wr_self (m : Mem) (a : Nat) (b : Byte) : Mem.rd (Mem.wr m a b) a = b := by
  unfold Mem.rd Mem.wr
  split
  · rename_i h; simp [h]
  · simp

/-- Writing a byte leaves every other byte. -/
theorem Mem.rd_wr_ne (m : Mem) {a c : Nat} (b : Byte) (h : c ≠ a) : Mem.rd (Mem.wr m a b) c = Mem.rd m c := by
  unfold Mem.rd Mem.wr
  split
  · exact SMap.getD_del_ne m 0 h
  · exact SMap.getD_put_ne m b 0 h

/-- Writing bytes leaves every byte outside them. -/
theorem Mem.rd_wrN_ne (m : Mem) (a : Nat) (l : List Byte) (c : Nat) (h : c < a ∨ a + l.length ≤ c) :
    Mem.rd (Mem.wrN m a l) c = Mem.rd m c := by
  induction l generalizing m a with
  | nil => rfl
  | cons b r ih =>
    simp only [List.length_cons] at h
    rw [Mem.wrN, ih _ _ (by omega), Mem.rd_wr_ne m b (by omega)]

/-- Bytes written are read back. -/
theorem Mem.rd_wrN (m : Mem) (a : Nat) (l : List Byte) (i : Nat) (h : i < l.length) :
    Mem.rd (Mem.wrN m a l) (a + i) = l[i] := by
  induction l generalizing m a i with
  | nil => simp at h
  | cons b r ih =>
    cases i with
    | zero => rw [Mem.wrN, Mem.rd_wrN_ne _ _ _ _ (by omega)]; simp
    | succ i =>
      have := ih (Mem.wr m a b) (a + 1) i (by simpa using h)
      rw [Mem.wrN, show a + (i + 1) = a + 1 + i by omega, this]; rfl

theorem SMap.mem_put {m : SMap α} {k : Nat} {v : α} {c : Nat × α} (h : c ∈ SMap.put m k v) : c = (k, v) ∨ c ∈ m := by
  induction m with
  | nil => simpa [SMap.put] using h
  | cons d r ih =>
    obtain ⟨j, u⟩ := d
    simp only [SMap.put] at h
    split at h
    · simpa using h
    · split at h
      · rcases List.mem_cons.mp h with h | h
        · exact .inl h
        · exact .inr (List.mem_cons_of_mem _ h)
      · rcases List.mem_cons.mp h with h | h
        · exact .inr (by simp [h])
        · rcases ih h with h | h
          · exact .inl h
          · exact .inr (List.mem_cons_of_mem _ h)

theorem SMap.mem_del {m : SMap α} {k : Nat} {c : Nat × α} (h : c ∈ SMap.del m k) : c ∈ m := by
  induction m with
  | nil => exact h
  | cons d r ih =>
    obtain ⟨j, u⟩ := d
    simp only [SMap.del] at h
    split at h
    · exact List.mem_cons_of_mem _ (ih h)
    · rcases List.mem_cons.mp h with h | h
      · simp [h]
      · exact List.mem_cons_of_mem _ (ih h)

/-- Writing a byte keeps the canonical form. -/
theorem Mem.wf_wr {m : Mem} (a : Nat) (b : Byte) (h : Mem.wf m = true) : Mem.wf (Mem.wr m a b) = true := by
  simp only [Mem.wf, Bool.and_eq_true, List.all_eq_true] at h ⊢
  unfold Mem.wr
  split
  · exact ⟨SMap.wf_del a h.1, fun c hc => h.2 c (SMap.mem_del hc)⟩
  · rename_i hb
    refine ⟨SMap.wf_put a b h.1, fun c hc => ?_⟩
    rcases SMap.mem_put hc with rfl | hc
    · simpa using hb
    · exact h.2 c hc

/-- Writing bytes keeps the canonical form. -/
theorem Mem.wf_wrN {m : Mem} (a : Nat) (l : List Byte) (h : Mem.wf m = true) : Mem.wf (Mem.wrN m a l) = true := by
  induction l generalizing m a with
  | nil => exact h
  | cons b r ih => exact ih (a + 1) (Mem.wf_wr a b h)

/-- A filtered rising list rises. -/
theorem SMap.risingFrom_filter {m : SMap α} {a : Nat} (f : Nat × α → Bool) (h : SMap.risingFrom (some a) m = true) :
    SMap.risingFrom (some a) (m.filter f) = true := by
  induction m generalizing a with
  | nil => rfl
  | cons c r ih =>
    obtain ⟨j, u⟩ := c
    simp only [SMap.risingFrom, Bool.and_eq_true, decide_eq_true_eq] at h
    simp only [List.filter_cons]
    split
    · simp [SMap.risingFrom, h.1, ih h.2]
    · exact ih (SMap.risingFrom_mono h.2 (by omega))

/-- Setting bytes to zero keeps the canonical form. -/
theorem Mem.wf_clear {m : Mem} (a n : Nat) (h : Mem.wf m = true) : Mem.wf (Mem.clear m a n) = true := by
  simp only [Mem.wf, Bool.and_eq_true, List.all_eq_true] at h ⊢
  refine ⟨?_, fun c hc => h.2 c (List.mem_of_mem_filter hc)⟩
  unfold Mem.clear
  cases m with
  | nil => rfl
  | cons c r =>
    obtain ⟨j, u⟩ := c
    simp only [SMap.wf, SMap.risingFrom] at h
    simp only [List.filter_cons]
    split
    · exact SMap.risingFrom_filter _ h.1
    · cases hr : r.filter (fun c => decide (c.1 < a) || decide (a + n ≤ c.1)) with
      | nil => rfl
      | cons d q =>
        have := SMap.risingFrom_filter (fun c => decide (c.1 < a) || decide (a + n ≤ c.1)) h.1
        rw [hr] at this
        obtain ⟨i, x⟩ := d
        simp only [SMap.risingFrom, Bool.and_eq_true] at this
        exact this.2

end Sys2Proof.Machine
end

