-- ==== Sys2Proof/Laws/Reg.lean ====
section
/-!
SUPPORT. Registers: what is stored is read, a store leaves the other registers, a completed guarded write carries its effect out.
-/

namespace Sys2Proof.Machine

open Sys2Proof

/-- The value stored is read back. -/
@[simp] theorem State.reg_setReg_self (s : State) (a : Nat) (v : Word) : (s.setReg a v).reg a = v := by
  unfold State.setReg State.reg
  split
  · rename_i h; simp [h]
  · simp

/-- Storing a register leaves every other one. -/
theorem State.reg_setReg_ne (s : State) {a b : Nat} (v : Word) (h : b ≠ a) : (s.setReg a v).reg b = s.reg b := by
  unfold State.setReg State.reg
  split
  · exact SMap.getD_del_ne _ _ h
  · exact SMap.getD_put_ne _ _ _ h

/-- The number stored is read back, modulo a word. -/
@[simp] theorem State.regN_setRegN_self (s : State) (a n : Nat) : (s.setRegN a n).regN a = n % 2 ^ 32 := by
  simp [State.setRegN, State.regN, word]

/-- Storing a number leaves every other register. -/
theorem State.regN_setRegN_ne (s : State) {a b : Nat} (n : Nat) (h : b ≠ a) : (s.setRegN a n).regN b = s.regN b := by
  simp [State.setRegN, State.regN, State.reg_setReg_ne s _ h]

/-- A completed guarded write carries its register's effect out on the value, the guard disarmed and the write logged. -/
theorem State.guarded_completes {s : State} {src : Src} {addr : Nat} {c v : Word} (f : Nat → State → State)
    (h : Completes s src addr c v) : s.guarded src addr c f = f v.toNat (s.guardTaken src addr v) := by
  obtain ⟨u, g, hu, ho, hg, ha, hs, hv, hc, ht⟩ := h
  unfold State.guarded State.complementWrite State.guardTaken
  simp only [hu, ho, hg, Bool.not_true, Bool.false_eq_true, if_false, Option.getD_some]
  rw [if_pos ⟨ha, hs, by rw [hv, hc], ht⟩]
  subst hv ha hs
  rfl

end Sys2Proof.Machine
end

