-- ==== Sys2Proof/Laws/State.lean ====
section
/-!
SUPPORT. State updates: each stores its own field and leaves every other one; what a message vector and a ring reply can change.
-/

namespace Sys2Proof.Machine

open Sys2Proof

@[simp] theorem State.settle_regs (s : State) : (s.settle).regs = s.regs := rfl
@[simp] theorem State.settle_wb (s : State) : (s.settle).wb = s.wb := rfl
@[simp] theorem State.settle_own (s : State) : (s.settle).own = s.own := rfl
@[simp] theorem State.settle_guards (s : State) : (s.settle).guards = s.guards := rfl
@[simp] theorem State.settle_sealSt (s : State) : (s.settle).sealSt = s.sealSt := rfl
@[simp] theorem State.settle_host (s : State) : (s.settle).host = s.host := rfl
@[simp] theorem State.settle_qm (s : State) : (s.settle).qm = s.qm := rfl
@[simp] theorem State.settle_lg (s : State) : (s.settle).lg = s.lg := rfl
@[simp] theorem State.settle_fr (s : State) : (s.settle).fr = s.fr := rfl
@[simp] theorem State.settle_parser (s : State) : (s.settle).parser = s.parser := rfl
@[simp] theorem State.settle_cl (s : State) : (s.settle).cl = s.cl := rfl
@[simp] theorem State.settle_lk (s : State) : (s.settle).lk = s.lk := rfl
@[simp] theorem State.settle_tm (s : State) : (s.settle).tm = s.tm := rfl
@[simp] theorem State.settle_cx (s : State) : (s.settle).cx = s.cx := rfl
@[simp] theorem State.settle_dp (s : State) : (s.settle).dp = s.dp := rfl
@[simp] theorem State.settle_dr (s : State) : (s.settle).dr = s.dr := rfl
@[simp] theorem State.settle_cv (s : State) : (s.settle).cv = s.cv := rfl
@[simp] theorem State.settle_np (s : State) : (s.settle).np = s.np := rfl
@[simp] theorem State.settle_eng (s : State) : (s.settle).eng = s.eng := rfl
@[simp] theorem State.settle_mv (s : State) : (s.settle).mv = s.mv := rfl
@[simp] theorem State.settle_mb (s : State) : (s.settle).mb = s.mb := rfl
@[simp] theorem State.settle_tally (s : State) : (s.settle).tally = s.tally := rfl
@[simp] theorem State.settle_pwr (s : State) : (s.settle).pwr = s.pwr := rfl
@[simp] theorem State.settle_dram (s : State) : (s.settle).dram = s.dram := rfl
@[simp] theorem State.settle_causes (s : State) : (s.settle).causes = s.causes := rfl
@[simp] theorem State.settle_now (s : State) : (s.settle).now = s.now := rfl
@[simp] theorem State.settle_out (s : State) : (s.settle).out = s.out := rfl
@[simp] theorem State.settle_free (s : State) : (s.settle).free = s.free := rfl
@[simp] theorem State.settle_pending (s : State) : (s.settle).pending = s.pending := rfl

@[simp] theorem State.emit_regs (s : State) (o : Out) : (s.emit o).regs = s.regs := rfl
@[simp] theorem State.emit_wb (s : State) (o : Out) : (s.emit o).wb = s.wb := rfl
@[simp] theorem State.emit_own (s : State) (o : Out) : (s.emit o).own = s.own := rfl
@[simp] theorem State.emit_guards (s : State) (o : Out) : (s.emit o).guards = s.guards := rfl
@[simp] theorem State.emit_sealSt (s : State) (o : Out) : (s.emit o).sealSt = s.sealSt := rfl
@[simp] theorem State.emit_host (s : State) (o : Out) : (s.emit o).host = s.host := rfl
@[simp] theorem State.emit_qm (s : State) (o : Out) : (s.emit o).qm = s.qm := rfl
@[simp] theorem State.emit_lg (s : State) (o : Out) : (s.emit o).lg = s.lg := rfl
@[simp] theorem State.emit_fr (s : State) (o : Out) : (s.emit o).fr = s.fr := rfl
@[simp] theorem State.emit_parser (s : State) (o : Out) : (s.emit o).parser = s.parser := rfl
@[simp] theorem State.emit_cl (s : State) (o : Out) : (s.emit o).cl = s.cl := rfl
@[simp] theorem State.emit_lk (s : State) (o : Out) : (s.emit o).lk = s.lk := rfl
@[simp] theorem State.emit_tm (s : State) (o : Out) : (s.emit o).tm = s.tm := rfl
@[simp] theorem State.emit_cx (s : State) (o : Out) : (s.emit o).cx = s.cx := rfl
@[simp] theorem State.emit_dp (s : State) (o : Out) : (s.emit o).dp = s.dp := rfl
@[simp] theorem State.emit_dr (s : State) (o : Out) : (s.emit o).dr = s.dr := rfl
@[simp] theorem State.emit_cv (s : State) (o : Out) : (s.emit o).cv = s.cv := rfl
@[simp] theorem State.emit_np (s : State) (o : Out) : (s.emit o).np = s.np := rfl
@[simp] theorem State.emit_eng (s : State) (o : Out) : (s.emit o).eng = s.eng := rfl
@[simp] theorem State.emit_mv (s : State) (o : Out) : (s.emit o).mv = s.mv := rfl
@[simp] theorem State.emit_mb (s : State) (o : Out) : (s.emit o).mb = s.mb := rfl
@[simp] theorem State.emit_tally (s : State) (o : Out) : (s.emit o).tally = s.tally := rfl
@[simp] theorem State.emit_pwr (s : State) (o : Out) : (s.emit o).pwr = s.pwr := rfl
@[simp] theorem State.emit_dram (s : State) (o : Out) : (s.emit o).dram = s.dram := rfl
@[simp] theorem State.emit_causes (s : State) (o : Out) : (s.emit o).causes = s.causes := rfl
@[simp] theorem State.emit_pins (s : State) (o : Out) : (s.emit o).pins = s.pins := rfl
@[simp] theorem State.emit_now (s : State) (o : Out) : (s.emit o).now = s.now := rfl
@[simp] theorem State.emit_free (s : State) (o : Out) : (s.emit o).free = s.free := rfl
@[simp] theorem State.emit_pending (s : State) (o : Out) : (s.emit o).pending = s.pending := rfl

@[simp] theorem State.at_regs (s : State) (t : Nat) : (s.at t).regs = s.regs := rfl
@[simp] theorem State.at_wb (s : State) (t : Nat) : (s.at t).wb = s.wb := rfl
@[simp] theorem State.at_own (s : State) (t : Nat) : (s.at t).own = s.own := rfl
@[simp] theorem State.at_guards (s : State) (t : Nat) : (s.at t).guards = s.guards := rfl
@[simp] theorem State.at_sealSt (s : State) (t : Nat) : (s.at t).sealSt = s.sealSt := rfl
@[simp] theorem State.at_host (s : State) (t : Nat) : (s.at t).host = s.host := rfl
@[simp] theorem State.at_qm (s : State) (t : Nat) : (s.at t).qm = s.qm := rfl
@[simp] theorem State.at_lg (s : State) (t : Nat) : (s.at t).lg = s.lg := rfl
@[simp] theorem State.at_fr (s : State) (t : Nat) : (s.at t).fr = s.fr := rfl
@[simp] theorem State.at_parser (s : State) (t : Nat) : (s.at t).parser = s.parser := rfl
@[simp] theorem State.at_cl (s : State) (t : Nat) : (s.at t).cl = s.cl := rfl
@[simp] theorem State.at_lk (s : State) (t : Nat) : (s.at t).lk = s.lk := rfl
@[simp] theorem State.at_tm (s : State) (t : Nat) : (s.at t).tm = s.tm := rfl
@[simp] theorem State.at_cx (s : State) (t : Nat) : (s.at t).cx = s.cx := rfl
@[simp] theorem State.at_dp (s : State) (t : Nat) : (s.at t).dp = s.dp := rfl
@[simp] theorem State.at_dr (s : State) (t : Nat) : (s.at t).dr = s.dr := rfl
@[simp] theorem State.at_cv (s : State) (t : Nat) : (s.at t).cv = s.cv := rfl
@[simp] theorem State.at_np (s : State) (t : Nat) : (s.at t).np = s.np := rfl
@[simp] theorem State.at_eng (s : State) (t : Nat) : (s.at t).eng = s.eng := rfl
@[simp] theorem State.at_mv (s : State) (t : Nat) : (s.at t).mv = s.mv := rfl
@[simp] theorem State.at_mb (s : State) (t : Nat) : (s.at t).mb = s.mb := rfl
@[simp] theorem State.at_tally (s : State) (t : Nat) : (s.at t).tally = s.tally := rfl
@[simp] theorem State.at_pwr (s : State) (t : Nat) : (s.at t).pwr = s.pwr := rfl
@[simp] theorem State.at_dram (s : State) (t : Nat) : (s.at t).dram = s.dram := rfl
@[simp] theorem State.at_causes (s : State) (t : Nat) : (s.at t).causes = s.causes := rfl
@[simp] theorem State.at_pins (s : State) (t : Nat) : (s.at t).pins = s.pins := rfl
@[simp] theorem State.at_out (s : State) (t : Nat) : (s.at t).out = s.out := rfl
@[simp] theorem State.at_free (s : State) (t : Nat) : (s.at t).free = s.free := rfl
@[simp] theorem State.at_pending (s : State) (t : Nat) : (s.at t).pending = s.pending := rfl

@[simp] theorem State.setReg_wb (s : State) (a : Nat) (v : Word) : (s.setReg a v).wb = s.wb := rfl
@[simp] theorem State.setReg_own (s : State) (a : Nat) (v : Word) : (s.setReg a v).own = s.own := rfl
@[simp] theorem State.setReg_guards (s : State) (a : Nat) (v : Word) : (s.setReg a v).guards = s.guards := rfl
@[simp] theorem State.setReg_sealSt (s : State) (a : Nat) (v : Word) : (s.setReg a v).sealSt = s.sealSt := rfl
@[simp] theorem State.setReg_host (s : State) (a : Nat) (v : Word) : (s.setReg a v).host = s.host := rfl
@[simp] theorem State.setReg_qm (s : State) (a : Nat) (v : Word) : (s.setReg a v).qm = s.qm := rfl
@[simp] theorem State.setReg_lg (s : State) (a : Nat) (v : Word) : (s.setReg a v).lg = s.lg := rfl
@[simp] theorem State.setReg_fr (s : State) (a : Nat) (v : Word) : (s.setReg a v).fr = s.fr := rfl
@[simp] theorem State.setReg_parser (s : State) (a : Nat) (v : Word) : (s.setReg a v).parser = s.parser := rfl
@[simp] theorem State.setReg_cl (s : State) (a : Nat) (v : Word) : (s.setReg a v).cl = s.cl := rfl
@[simp] theorem State.setReg_lk (s : State) (a : Nat) (v : Word) : (s.setReg a v).lk = s.lk := rfl
@[simp] theorem State.setReg_tm (s : State) (a : Nat) (v : Word) : (s.setReg a v).tm = s.tm := rfl
@[simp] theorem State.setReg_cx (s : State) (a : Nat) (v : Word) : (s.setReg a v).cx = s.cx := rfl
@[simp] theorem State.setReg_dp (s : State) (a : Nat) (v : Word) : (s.setReg a v).dp = s.dp := rfl
@[simp] theorem State.setReg_dr (s : State) (a : Nat) (v : Word) : (s.setReg a v).dr = s.dr := rfl
@[simp] theorem State.setReg_cv (s : State) (a : Nat) (v : Word) : (s.setReg a v).cv = s.cv := rfl
@[simp] theorem State.setReg_np (s : State) (a : Nat) (v : Word) : (s.setReg a v).np = s.np := rfl
@[simp] theorem State.setReg_eng (s : State) (a : Nat) (v : Word) : (s.setReg a v).eng = s.eng := rfl
@[simp] theorem State.setReg_mv (s : State) (a : Nat) (v : Word) : (s.setReg a v).mv = s.mv := rfl
@[simp] theorem State.setReg_mb (s : State) (a : Nat) (v : Word) : (s.setReg a v).mb = s.mb := rfl
@[simp] theorem State.setReg_tally (s : State) (a : Nat) (v : Word) : (s.setReg a v).tally = s.tally := rfl
@[simp] theorem State.setReg_pwr (s : State) (a : Nat) (v : Word) : (s.setReg a v).pwr = s.pwr := rfl
@[simp] theorem State.setReg_dram (s : State) (a : Nat) (v : Word) : (s.setReg a v).dram = s.dram := rfl
@[simp] theorem State.setReg_causes (s : State) (a : Nat) (v : Word) : (s.setReg a v).causes = s.causes := rfl
@[simp] theorem State.setReg_pins (s : State) (a : Nat) (v : Word) : (s.setReg a v).pins = s.pins := rfl
@[simp] theorem State.setReg_now (s : State) (a : Nat) (v : Word) : (s.setReg a v).now = s.now := rfl
@[simp] theorem State.setReg_out (s : State) (a : Nat) (v : Word) : (s.setReg a v).out = s.out := rfl
@[simp] theorem State.setReg_free (s : State) (a : Nat) (v : Word) : (s.setReg a v).free = s.free := rfl
@[simp] theorem State.setReg_pending (s : State) (a : Nat) (v : Word) : (s.setReg a v).pending = s.pending := rfl

@[simp] theorem State.setRegN_wb (s : State) (a v : Nat) : (s.setRegN a v).wb = s.wb := rfl
@[simp] theorem State.setRegN_own (s : State) (a v : Nat) : (s.setRegN a v).own = s.own := rfl
@[simp] theorem State.setRegN_guards (s : State) (a v : Nat) : (s.setRegN a v).guards = s.guards := rfl
@[simp] theorem State.setRegN_sealSt (s : State) (a v : Nat) : (s.setRegN a v).sealSt = s.sealSt := rfl
@[simp] theorem State.setRegN_host (s : State) (a v : Nat) : (s.setRegN a v).host = s.host := rfl
@[simp] theorem State.setRegN_qm (s : State) (a v : Nat) : (s.setRegN a v).qm = s.qm := rfl
@[simp] theorem State.setRegN_lg (s : State) (a v : Nat) : (s.setRegN a v).lg = s.lg := rfl
@[simp] theorem State.setRegN_fr (s : State) (a v : Nat) : (s.setRegN a v).fr = s.fr := rfl
@[simp] theorem State.setRegN_parser (s : State) (a v : Nat) : (s.setRegN a v).parser = s.parser := rfl
@[simp] theorem State.setRegN_cl (s : State) (a v : Nat) : (s.setRegN a v).cl = s.cl := rfl
@[simp] theorem State.setRegN_lk (s : State) (a v : Nat) : (s.setRegN a v).lk = s.lk := rfl
@[simp] theorem State.setRegN_tm (s : State) (a v : Nat) : (s.setRegN a v).tm = s.tm := rfl
@[simp] theorem State.setRegN_cx (s : State) (a v : Nat) : (s.setRegN a v).cx = s.cx := rfl
@[simp] theorem State.setRegN_dp (s : State) (a v : Nat) : (s.setRegN a v).dp = s.dp := rfl
@[simp] theorem State.setRegN_dr (s : State) (a v : Nat) : (s.setRegN a v).dr = s.dr := rfl
@[simp] theorem State.setRegN_cv (s : State) (a v : Nat) : (s.setRegN a v).cv = s.cv := rfl
@[simp] theorem State.setRegN_np (s : State) (a v : Nat) : (s.setRegN a v).np = s.np := rfl
@[simp] theorem State.setRegN_eng (s : State) (a v : Nat) : (s.setRegN a v).eng = s.eng := rfl
@[simp] theorem State.setRegN_mv (s : State) (a v : Nat) : (s.setRegN a v).mv = s.mv := rfl
@[simp] theorem State.setRegN_mb (s : State) (a v : Nat) : (s.setRegN a v).mb = s.mb := rfl
@[simp] theorem State.setRegN_tally (s : State) (a v : Nat) : (s.setRegN a v).tally = s.tally := rfl
@[simp] theorem State.setRegN_pwr (s : State) (a v : Nat) : (s.setRegN a v).pwr = s.pwr := rfl
@[simp] theorem State.setRegN_dram (s : State) (a v : Nat) : (s.setRegN a v).dram = s.dram := rfl
@[simp] theorem State.setRegN_causes (s : State) (a v : Nat) : (s.setRegN a v).causes = s.causes := rfl
@[simp] theorem State.setRegN_pins (s : State) (a v : Nat) : (s.setRegN a v).pins = s.pins := rfl
@[simp] theorem State.setRegN_now (s : State) (a v : Nat) : (s.setRegN a v).now = s.now := rfl
@[simp] theorem State.setRegN_out (s : State) (a v : Nat) : (s.setRegN a v).out = s.out := rfl
@[simp] theorem State.setRegN_free (s : State) (a v : Nat) : (s.setRegN a v).free = s.free := rfl
@[simp] theorem State.setRegN_pending (s : State) (a v : Nat) : (s.setRegN a v).pending = s.pending := rfl

@[simp] theorem State.setFld_wb (s : State) (a h l x : Nat) : (s.setFld a h l x).wb = s.wb := rfl
@[simp] theorem State.setFld_own (s : State) (a h l x : Nat) : (s.setFld a h l x).own = s.own := rfl
@[simp] theorem State.setFld_guards (s : State) (a h l x : Nat) : (s.setFld a h l x).guards = s.guards := rfl
@[simp] theorem State.setFld_sealSt (s : State) (a h l x : Nat) : (s.setFld a h l x).sealSt = s.sealSt := rfl
@[simp] theorem State.setFld_host (s : State) (a h l x : Nat) : (s.setFld a h l x).host = s.host := rfl
@[simp] theorem State.setFld_qm (s : State) (a h l x : Nat) : (s.setFld a h l x).qm = s.qm := rfl
@[simp] theorem State.setFld_lg (s : State) (a h l x : Nat) : (s.setFld a h l x).lg = s.lg := rfl
@[simp] theorem State.setFld_fr (s : State) (a h l x : Nat) : (s.setFld a h l x).fr = s.fr := rfl
@[simp] theorem State.setFld_parser (s : State) (a h l x : Nat) : (s.setFld a h l x).parser = s.parser := rfl
@[simp] theorem State.setFld_cl (s : State) (a h l x : Nat) : (s.setFld a h l x).cl = s.cl := rfl
@[simp] theorem State.setFld_lk (s : State) (a h l x : Nat) : (s.setFld a h l x).lk = s.lk := rfl
@[simp] theorem State.setFld_tm (s : State) (a h l x : Nat) : (s.setFld a h l x).tm = s.tm := rfl
@[simp] theorem State.setFld_cx (s : State) (a h l x : Nat) : (s.setFld a h l x).cx = s.cx := rfl
@[simp] theorem State.setFld_dp (s : State) (a h l x : Nat) : (s.setFld a h l x).dp = s.dp := rfl
@[simp] theorem State.setFld_dr (s : State) (a h l x : Nat) : (s.setFld a h l x).dr = s.dr := rfl
@[simp] theorem State.setFld_cv (s : State) (a h l x : Nat) : (s.setFld a h l x).cv = s.cv := rfl
@[simp] theorem State.setFld_np (s : State) (a h l x : Nat) : (s.setFld a h l x).np = s.np := rfl
@[simp] theorem State.setFld_eng (s : State) (a h l x : Nat) : (s.setFld a h l x).eng = s.eng := rfl
@[simp] theorem State.setFld_mv (s : State) (a h l x : Nat) : (s.setFld a h l x).mv = s.mv := rfl
@[simp] theorem State.setFld_mb (s : State) (a h l x : Nat) : (s.setFld a h l x).mb = s.mb := rfl
@[simp] theorem State.setFld_tally (s : State) (a h l x : Nat) : (s.setFld a h l x).tally = s.tally := rfl
@[simp] theorem State.setFld_pwr (s : State) (a h l x : Nat) : (s.setFld a h l x).pwr = s.pwr := rfl
@[simp] theorem State.setFld_dram (s : State) (a h l x : Nat) : (s.setFld a h l x).dram = s.dram := rfl
@[simp] theorem State.setFld_causes (s : State) (a h l x : Nat) : (s.setFld a h l x).causes = s.causes := rfl
@[simp] theorem State.setFld_pins (s : State) (a h l x : Nat) : (s.setFld a h l x).pins = s.pins := rfl
@[simp] theorem State.setFld_now (s : State) (a h l x : Nat) : (s.setFld a h l x).now = s.now := rfl
@[simp] theorem State.setFld_out (s : State) (a h l x : Nat) : (s.setFld a h l x).out = s.out := rfl
@[simp] theorem State.setFld_free (s : State) (a h l x : Nat) : (s.setFld a h l x).free = s.free := rfl
@[simp] theorem State.setFld_pending (s : State) (a h l x : Nat) : (s.setFld a h l x).pending = s.pending := rfl

@[simp] theorem State.setRing_regs (s : State) (n : Nat) (r : RingDyn) : (s.setRing n r).regs = s.regs := rfl
@[simp] theorem State.setRing_own (s : State) (n : Nat) (r : RingDyn) : (s.setRing n r).own = s.own := rfl
@[simp] theorem State.setRing_guards (s : State) (n : Nat) (r : RingDyn) : (s.setRing n r).guards = s.guards := rfl
@[simp] theorem State.setRing_sealSt (s : State) (n : Nat) (r : RingDyn) : (s.setRing n r).sealSt = s.sealSt := rfl
@[simp] theorem State.setRing_host (s : State) (n : Nat) (r : RingDyn) : (s.setRing n r).host = s.host := rfl
@[simp] theorem State.setRing_qm (s : State) (n : Nat) (r : RingDyn) : (s.setRing n r).qm = s.qm := rfl
@[simp] theorem State.setRing_lg (s : State) (n : Nat) (r : RingDyn) : (s.setRing n r).lg = s.lg := rfl
@[simp] theorem State.setRing_fr (s : State) (n : Nat) (r : RingDyn) : (s.setRing n r).fr = s.fr := rfl
@[simp] theorem State.setRing_parser (s : State) (n : Nat) (r : RingDyn) : (s.setRing n r).parser = s.parser := rfl
@[simp] theorem State.setRing_cl (s : State) (n : Nat) (r : RingDyn) : (s.setRing n r).cl = s.cl := rfl
@[simp] theorem State.setRing_lk (s : State) (n : Nat) (r : RingDyn) : (s.setRing n r).lk = s.lk := rfl
@[simp] theorem State.setRing_tm (s : State) (n : Nat) (r : RingDyn) : (s.setRing n r).tm = s.tm := rfl
@[simp] theorem State.setRing_cx (s : State) (n : Nat) (r : RingDyn) : (s.setRing n r).cx = s.cx := rfl
@[simp] theorem State.setRing_dp (s : State) (n : Nat) (r : RingDyn) : (s.setRing n r).dp = s.dp := rfl
@[simp] theorem State.setRing_dr (s : State) (n : Nat) (r : RingDyn) : (s.setRing n r).dr = s.dr := rfl
@[simp] theorem State.setRing_cv (s : State) (n : Nat) (r : RingDyn) : (s.setRing n r).cv = s.cv := rfl
@[simp] theorem State.setRing_np (s : State) (n : Nat) (r : RingDyn) : (s.setRing n r).np = s.np := rfl
@[simp] theorem State.setRing_eng (s : State) (n : Nat) (r : RingDyn) : (s.setRing n r).eng = s.eng := rfl
@[simp] theorem State.setRing_mv (s : State) (n : Nat) (r : RingDyn) : (s.setRing n r).mv = s.mv := rfl
@[simp] theorem State.setRing_mb (s : State) (n : Nat) (r : RingDyn) : (s.setRing n r).mb = s.mb := rfl
@[simp] theorem State.setRing_tally (s : State) (n : Nat) (r : RingDyn) : (s.setRing n r).tally = s.tally := rfl
@[simp] theorem State.setRing_pwr (s : State) (n : Nat) (r : RingDyn) : (s.setRing n r).pwr = s.pwr := rfl
@[simp] theorem State.setRing_dram (s : State) (n : Nat) (r : RingDyn) : (s.setRing n r).dram = s.dram := rfl
@[simp] theorem State.setRing_causes (s : State) (n : Nat) (r : RingDyn) : (s.setRing n r).causes = s.causes := rfl
@[simp] theorem State.setRing_pins (s : State) (n : Nat) (r : RingDyn) : (s.setRing n r).pins = s.pins := rfl
@[simp] theorem State.setRing_now (s : State) (n : Nat) (r : RingDyn) : (s.setRing n r).now = s.now := rfl
@[simp] theorem State.setRing_out (s : State) (n : Nat) (r : RingDyn) : (s.setRing n r).out = s.out := rfl
@[simp] theorem State.setRing_free (s : State) (n : Nat) (r : RingDyn) : (s.setRing n r).free = s.free := rfl
@[simp] theorem State.setRing_pending (s : State) (n : Nat) (r : RingDyn) : (s.setRing n r).pending = s.pending := rfl

@[simp] theorem State.arrive_regs (s : State) (a : Arrived) : (s.arrive a).regs = s.regs := rfl
@[simp] theorem State.arrive_own (s : State) (a : Arrived) : (s.arrive a).own = s.own := rfl
@[simp] theorem State.arrive_guards (s : State) (a : Arrived) : (s.arrive a).guards = s.guards := rfl
@[simp] theorem State.arrive_sealSt (s : State) (a : Arrived) : (s.arrive a).sealSt = s.sealSt := rfl
@[simp] theorem State.arrive_host (s : State) (a : Arrived) : (s.arrive a).host = s.host := rfl
@[simp] theorem State.arrive_qm (s : State) (a : Arrived) : (s.arrive a).qm = s.qm := rfl
@[simp] theorem State.arrive_lg (s : State) (a : Arrived) : (s.arrive a).lg = s.lg := rfl
@[simp] theorem State.arrive_fr (s : State) (a : Arrived) : (s.arrive a).fr = s.fr := rfl
@[simp] theorem State.arrive_parser (s : State) (a : Arrived) : (s.arrive a).parser = s.parser := rfl
@[simp] theorem State.arrive_cl (s : State) (a : Arrived) : (s.arrive a).cl = s.cl := rfl
@[simp] theorem State.arrive_lk (s : State) (a : Arrived) : (s.arrive a).lk = s.lk := rfl
@[simp] theorem State.arrive_tm (s : State) (a : Arrived) : (s.arrive a).tm = s.tm := rfl
@[simp] theorem State.arrive_cx (s : State) (a : Arrived) : (s.arrive a).cx = s.cx := rfl
@[simp] theorem State.arrive_dp (s : State) (a : Arrived) : (s.arrive a).dp = s.dp := rfl
@[simp] theorem State.arrive_dr (s : State) (a : Arrived) : (s.arrive a).dr = s.dr := rfl
@[simp] theorem State.arrive_cv (s : State) (a : Arrived) : (s.arrive a).cv = s.cv := rfl
@[simp] theorem State.arrive_np (s : State) (a : Arrived) : (s.arrive a).np = s.np := rfl
@[simp] theorem State.arrive_eng (s : State) (a : Arrived) : (s.arrive a).eng = s.eng := rfl
@[simp] theorem State.arrive_mv (s : State) (a : Arrived) : (s.arrive a).mv = s.mv := rfl
@[simp] theorem State.arrive_mb (s : State) (a : Arrived) : (s.arrive a).mb = s.mb := rfl
@[simp] theorem State.arrive_tally (s : State) (a : Arrived) : (s.arrive a).tally = s.tally := rfl
@[simp] theorem State.arrive_pwr (s : State) (a : Arrived) : (s.arrive a).pwr = s.pwr := rfl
@[simp] theorem State.arrive_dram (s : State) (a : Arrived) : (s.arrive a).dram = s.dram := rfl
@[simp] theorem State.arrive_causes (s : State) (a : Arrived) : (s.arrive a).causes = s.causes := rfl
@[simp] theorem State.arrive_pins (s : State) (a : Arrived) : (s.arrive a).pins = s.pins := rfl
@[simp] theorem State.arrive_now (s : State) (a : Arrived) : (s.arrive a).now = s.now := rfl
@[simp] theorem State.arrive_out (s : State) (a : Arrived) : (s.arrive a).out = s.out := rfl
@[simp] theorem State.arrive_free (s : State) (a : Arrived) : (s.arrive a).free = s.free := rfl
@[simp] theorem State.arrive_pending (s : State) (a : Arrived) : (s.arrive a).pending = s.pending := rfl

@[simp] theorem State.setFn_regs (s : State) (n : Nat) (f : Fn) : (s.setFn n f).regs = s.regs := rfl
@[simp] theorem State.setFn_wb (s : State) (n : Nat) (f : Fn) : (s.setFn n f).wb = s.wb := rfl
@[simp] theorem State.setFn_own (s : State) (n : Nat) (f : Fn) : (s.setFn n f).own = s.own := rfl
@[simp] theorem State.setFn_guards (s : State) (n : Nat) (f : Fn) : (s.setFn n f).guards = s.guards := rfl
@[simp] theorem State.setFn_sealSt (s : State) (n : Nat) (f : Fn) : (s.setFn n f).sealSt = s.sealSt := rfl
@[simp] theorem State.setFn_qm (s : State) (n : Nat) (f : Fn) : (s.setFn n f).qm = s.qm := rfl
@[simp] theorem State.setFn_lg (s : State) (n : Nat) (f : Fn) : (s.setFn n f).lg = s.lg := rfl
@[simp] theorem State.setFn_fr (s : State) (n : Nat) (f : Fn) : (s.setFn n f).fr = s.fr := rfl
@[simp] theorem State.setFn_parser (s : State) (n : Nat) (f : Fn) : (s.setFn n f).parser = s.parser := rfl
@[simp] theorem State.setFn_cl (s : State) (n : Nat) (f : Fn) : (s.setFn n f).cl = s.cl := rfl
@[simp] theorem State.setFn_lk (s : State) (n : Nat) (f : Fn) : (s.setFn n f).lk = s.lk := rfl
@[simp] theorem State.setFn_tm (s : State) (n : Nat) (f : Fn) : (s.setFn n f).tm = s.tm := rfl
@[simp] theorem State.setFn_cx (s : State) (n : Nat) (f : Fn) : (s.setFn n f).cx = s.cx := rfl
@[simp] theorem State.setFn_dp (s : State) (n : Nat) (f : Fn) : (s.setFn n f).dp = s.dp := rfl
@[simp] theorem State.setFn_dr (s : State) (n : Nat) (f : Fn) : (s.setFn n f).dr = s.dr := rfl
@[simp] theorem State.setFn_cv (s : State) (n : Nat) (f : Fn) : (s.setFn n f).cv = s.cv := rfl
@[simp] theorem State.setFn_np (s : State) (n : Nat) (f : Fn) : (s.setFn n f).np = s.np := rfl
@[simp] theorem State.setFn_eng (s : State) (n : Nat) (f : Fn) : (s.setFn n f).eng = s.eng := rfl
@[simp] theorem State.setFn_mv (s : State) (n : Nat) (f : Fn) : (s.setFn n f).mv = s.mv := rfl
@[simp] theorem State.setFn_mb (s : State) (n : Nat) (f : Fn) : (s.setFn n f).mb = s.mb := rfl
@[simp] theorem State.setFn_tally (s : State) (n : Nat) (f : Fn) : (s.setFn n f).tally = s.tally := rfl
@[simp] theorem State.setFn_pwr (s : State) (n : Nat) (f : Fn) : (s.setFn n f).pwr = s.pwr := rfl
@[simp] theorem State.setFn_dram (s : State) (n : Nat) (f : Fn) : (s.setFn n f).dram = s.dram := rfl
@[simp] theorem State.setFn_causes (s : State) (n : Nat) (f : Fn) : (s.setFn n f).causes = s.causes := rfl
@[simp] theorem State.setFn_pins (s : State) (n : Nat) (f : Fn) : (s.setFn n f).pins = s.pins := rfl
@[simp] theorem State.setFn_now (s : State) (n : Nat) (f : Fn) : (s.setFn n f).now = s.now := rfl
@[simp] theorem State.setFn_out (s : State) (n : Nat) (f : Fn) : (s.setFn n f).out = s.out := rfl
@[simp] theorem State.setFn_free (s : State) (n : Nat) (f : Fn) : (s.setFn n f).free = s.free := rfl
@[simp] theorem State.setFn_pending (s : State) (n : Nat) (f : Fn) : (s.setFn n f).pending = s.pending := rfl

@[simp] theorem State.setWq_regs (s : State) (g : Nat) (q : WorkQ) : (s.setWq g q).regs = s.regs := rfl
@[simp] theorem State.setWq_wb (s : State) (g : Nat) (q : WorkQ) : (s.setWq g q).wb = s.wb := rfl
@[simp] theorem State.setWq_own (s : State) (g : Nat) (q : WorkQ) : (s.setWq g q).own = s.own := rfl
@[simp] theorem State.setWq_guards (s : State) (g : Nat) (q : WorkQ) : (s.setWq g q).guards = s.guards := rfl
@[simp] theorem State.setWq_sealSt (s : State) (g : Nat) (q : WorkQ) : (s.setWq g q).sealSt = s.sealSt := rfl
@[simp] theorem State.setWq_host (s : State) (g : Nat) (q : WorkQ) : (s.setWq g q).host = s.host := rfl
@[simp] theorem State.setWq_lg (s : State) (g : Nat) (q : WorkQ) : (s.setWq g q).lg = s.lg := rfl
@[simp] theorem State.setWq_fr (s : State) (g : Nat) (q : WorkQ) : (s.setWq g q).fr = s.fr := rfl
@[simp] theorem State.setWq_parser (s : State) (g : Nat) (q : WorkQ) : (s.setWq g q).parser = s.parser := rfl
@[simp] theorem State.setWq_cl (s : State) (g : Nat) (q : WorkQ) : (s.setWq g q).cl = s.cl := rfl
@[simp] theorem State.setWq_lk (s : State) (g : Nat) (q : WorkQ) : (s.setWq g q).lk = s.lk := rfl
@[simp] theorem State.setWq_tm (s : State) (g : Nat) (q : WorkQ) : (s.setWq g q).tm = s.tm := rfl
@[simp] theorem State.setWq_cx (s : State) (g : Nat) (q : WorkQ) : (s.setWq g q).cx = s.cx := rfl
@[simp] theorem State.setWq_dp (s : State) (g : Nat) (q : WorkQ) : (s.setWq g q).dp = s.dp := rfl
@[simp] theorem State.setWq_dr (s : State) (g : Nat) (q : WorkQ) : (s.setWq g q).dr = s.dr := rfl
@[simp] theorem State.setWq_cv (s : State) (g : Nat) (q : WorkQ) : (s.setWq g q).cv = s.cv := rfl
@[simp] theorem State.setWq_np (s : State) (g : Nat) (q : WorkQ) : (s.setWq g q).np = s.np := rfl
@[simp] theorem State.setWq_eng (s : State) (g : Nat) (q : WorkQ) : (s.setWq g q).eng = s.eng := rfl
@[simp] theorem State.setWq_mv (s : State) (g : Nat) (q : WorkQ) : (s.setWq g q).mv = s.mv := rfl
@[simp] theorem State.setWq_mb (s : State) (g : Nat) (q : WorkQ) : (s.setWq g q).mb = s.mb := rfl
@[simp] theorem State.setWq_tally (s : State) (g : Nat) (q : WorkQ) : (s.setWq g q).tally = s.tally := rfl
@[simp] theorem State.setWq_pwr (s : State) (g : Nat) (q : WorkQ) : (s.setWq g q).pwr = s.pwr := rfl
@[simp] theorem State.setWq_dram (s : State) (g : Nat) (q : WorkQ) : (s.setWq g q).dram = s.dram := rfl
@[simp] theorem State.setWq_causes (s : State) (g : Nat) (q : WorkQ) : (s.setWq g q).causes = s.causes := rfl
@[simp] theorem State.setWq_pins (s : State) (g : Nat) (q : WorkQ) : (s.setWq g q).pins = s.pins := rfl
@[simp] theorem State.setWq_now (s : State) (g : Nat) (q : WorkQ) : (s.setWq g q).now = s.now := rfl
@[simp] theorem State.setWq_out (s : State) (g : Nat) (q : WorkQ) : (s.setWq g q).out = s.out := rfl
@[simp] theorem State.setWq_free (s : State) (g : Nat) (q : WorkQ) : (s.setWq g q).free = s.free := rfl
@[simp] theorem State.setWq_pending (s : State) (g : Nat) (q : WorkQ) : (s.setWq g q).pending = s.pending := rfl

@[simp] theorem State.setCq_regs (s : State) (g : Nat) (q : CompQ) : (s.setCq g q).regs = s.regs := rfl
@[simp] theorem State.setCq_wb (s : State) (g : Nat) (q : CompQ) : (s.setCq g q).wb = s.wb := rfl
@[simp] theorem State.setCq_own (s : State) (g : Nat) (q : CompQ) : (s.setCq g q).own = s.own := rfl
@[simp] theorem State.setCq_guards (s : State) (g : Nat) (q : CompQ) : (s.setCq g q).guards = s.guards := rfl
@[simp] theorem State.setCq_sealSt (s : State) (g : Nat) (q : CompQ) : (s.setCq g q).sealSt = s.sealSt := rfl
@[simp] theorem State.setCq_host (s : State) (g : Nat) (q : CompQ) : (s.setCq g q).host = s.host := rfl
@[simp] theorem State.setCq_lg (s : State) (g : Nat) (q : CompQ) : (s.setCq g q).lg = s.lg := rfl
@[simp] theorem State.setCq_fr (s : State) (g : Nat) (q : CompQ) : (s.setCq g q).fr = s.fr := rfl
@[simp] theorem State.setCq_parser (s : State) (g : Nat) (q : CompQ) : (s.setCq g q).parser = s.parser := rfl
@[simp] theorem State.setCq_cl (s : State) (g : Nat) (q : CompQ) : (s.setCq g q).cl = s.cl := rfl
@[simp] theorem State.setCq_lk (s : State) (g : Nat) (q : CompQ) : (s.setCq g q).lk = s.lk := rfl
@[simp] theorem State.setCq_tm (s : State) (g : Nat) (q : CompQ) : (s.setCq g q).tm = s.tm := rfl
@[simp] theorem State.setCq_cx (s : State) (g : Nat) (q : CompQ) : (s.setCq g q).cx = s.cx := rfl
@[simp] theorem State.setCq_dp (s : State) (g : Nat) (q : CompQ) : (s.setCq g q).dp = s.dp := rfl
@[simp] theorem State.setCq_dr (s : State) (g : Nat) (q : CompQ) : (s.setCq g q).dr = s.dr := rfl
@[simp] theorem State.setCq_cv (s : State) (g : Nat) (q : CompQ) : (s.setCq g q).cv = s.cv := rfl
@[simp] theorem State.setCq_np (s : State) (g : Nat) (q : CompQ) : (s.setCq g q).np = s.np := rfl
@[simp] theorem State.setCq_eng (s : State) (g : Nat) (q : CompQ) : (s.setCq g q).eng = s.eng := rfl
@[simp] theorem State.setCq_mv (s : State) (g : Nat) (q : CompQ) : (s.setCq g q).mv = s.mv := rfl
@[simp] theorem State.setCq_mb (s : State) (g : Nat) (q : CompQ) : (s.setCq g q).mb = s.mb := rfl
@[simp] theorem State.setCq_tally (s : State) (g : Nat) (q : CompQ) : (s.setCq g q).tally = s.tally := rfl
@[simp] theorem State.setCq_pwr (s : State) (g : Nat) (q : CompQ) : (s.setCq g q).pwr = s.pwr := rfl
@[simp] theorem State.setCq_dram (s : State) (g : Nat) (q : CompQ) : (s.setCq g q).dram = s.dram := rfl
@[simp] theorem State.setCq_causes (s : State) (g : Nat) (q : CompQ) : (s.setCq g q).causes = s.causes := rfl
@[simp] theorem State.setCq_pins (s : State) (g : Nat) (q : CompQ) : (s.setCq g q).pins = s.pins := rfl
@[simp] theorem State.setCq_now (s : State) (g : Nat) (q : CompQ) : (s.setCq g q).now = s.now := rfl
@[simp] theorem State.setCq_out (s : State) (g : Nat) (q : CompQ) : (s.setCq g q).out = s.out := rfl
@[simp] theorem State.setCq_free (s : State) (g : Nat) (q : CompQ) : (s.setCq g q).free = s.free := rfl
@[simp] theorem State.setCq_pending (s : State) (g : Nat) (q : CompQ) : (s.setCq g q).pending = s.pending := rfl

@[simp] theorem State.setTable_regs (s : State) (t : Nat) (x : Table) : (s.setTable t x).regs = s.regs := rfl
@[simp] theorem State.setTable_wb (s : State) (t : Nat) (x : Table) : (s.setTable t x).wb = s.wb := rfl
@[simp] theorem State.setTable_own (s : State) (t : Nat) (x : Table) : (s.setTable t x).own = s.own := rfl
@[simp] theorem State.setTable_guards (s : State) (t : Nat) (x : Table) : (s.setTable t x).guards = s.guards := rfl
@[simp] theorem State.setTable_sealSt (s : State) (t : Nat) (x : Table) : (s.setTable t x).sealSt = s.sealSt := rfl
@[simp] theorem State.setTable_host (s : State) (t : Nat) (x : Table) : (s.setTable t x).host = s.host := rfl
@[simp] theorem State.setTable_qm (s : State) (t : Nat) (x : Table) : (s.setTable t x).qm = s.qm := rfl
@[simp] theorem State.setTable_lg (s : State) (t : Nat) (x : Table) : (s.setTable t x).lg = s.lg := rfl
@[simp] theorem State.setTable_fr (s : State) (t : Nat) (x : Table) : (s.setTable t x).fr = s.fr := rfl
@[simp] theorem State.setTable_parser (s : State) (t : Nat) (x : Table) : (s.setTable t x).parser = s.parser := rfl
@[simp] theorem State.setTable_cl (s : State) (t : Nat) (x : Table) : (s.setTable t x).cl = s.cl := rfl
@[simp] theorem State.setTable_tm (s : State) (t : Nat) (x : Table) : (s.setTable t x).tm = s.tm := rfl
@[simp] theorem State.setTable_cx (s : State) (t : Nat) (x : Table) : (s.setTable t x).cx = s.cx := rfl
@[simp] theorem State.setTable_dp (s : State) (t : Nat) (x : Table) : (s.setTable t x).dp = s.dp := rfl
@[simp] theorem State.setTable_dr (s : State) (t : Nat) (x : Table) : (s.setTable t x).dr = s.dr := rfl
@[simp] theorem State.setTable_cv (s : State) (t : Nat) (x : Table) : (s.setTable t x).cv = s.cv := rfl
@[simp] theorem State.setTable_np (s : State) (t : Nat) (x : Table) : (s.setTable t x).np = s.np := rfl
@[simp] theorem State.setTable_eng (s : State) (t : Nat) (x : Table) : (s.setTable t x).eng = s.eng := rfl
@[simp] theorem State.setTable_mv (s : State) (t : Nat) (x : Table) : (s.setTable t x).mv = s.mv := rfl
@[simp] theorem State.setTable_mb (s : State) (t : Nat) (x : Table) : (s.setTable t x).mb = s.mb := rfl
@[simp] theorem State.setTable_tally (s : State) (t : Nat) (x : Table) : (s.setTable t x).tally = s.tally := rfl
@[simp] theorem State.setTable_pwr (s : State) (t : Nat) (x : Table) : (s.setTable t x).pwr = s.pwr := rfl
@[simp] theorem State.setTable_dram (s : State) (t : Nat) (x : Table) : (s.setTable t x).dram = s.dram := rfl
@[simp] theorem State.setTable_causes (s : State) (t : Nat) (x : Table) : (s.setTable t x).causes = s.causes := rfl
@[simp] theorem State.setTable_pins (s : State) (t : Nat) (x : Table) : (s.setTable t x).pins = s.pins := rfl
@[simp] theorem State.setTable_now (s : State) (t : Nat) (x : Table) : (s.setTable t x).now = s.now := rfl
@[simp] theorem State.setTable_out (s : State) (t : Nat) (x : Table) : (s.setTable t x).out = s.out := rfl
@[simp] theorem State.setTable_free (s : State) (t : Nat) (x : Table) : (s.setTable t x).free = s.free := rfl
@[simp] theorem State.setTable_pending (s : State) (t : Nat) (x : Table) : (s.setTable t x).pending = s.pending := rfl

@[simp] theorem State.setFrame_regs (s : State) (h : Nat) (f : Frame) : (s.setFrame h f).regs = s.regs := rfl
@[simp] theorem State.setFrame_wb (s : State) (h : Nat) (f : Frame) : (s.setFrame h f).wb = s.wb := rfl
@[simp] theorem State.setFrame_own (s : State) (h : Nat) (f : Frame) : (s.setFrame h f).own = s.own := rfl
@[simp] theorem State.setFrame_guards (s : State) (h : Nat) (f : Frame) : (s.setFrame h f).guards = s.guards := rfl
@[simp] theorem State.setFrame_sealSt (s : State) (h : Nat) (f : Frame) : (s.setFrame h f).sealSt = s.sealSt := rfl
@[simp] theorem State.setFrame_host (s : State) (h : Nat) (f : Frame) : (s.setFrame h f).host = s.host := rfl
@[simp] theorem State.setFrame_qm (s : State) (h : Nat) (f : Frame) : (s.setFrame h f).qm = s.qm := rfl
@[simp] theorem State.setFrame_lg (s : State) (h : Nat) (f : Frame) : (s.setFrame h f).lg = s.lg := rfl
@[simp] theorem State.setFrame_parser (s : State) (h : Nat) (f : Frame) : (s.setFrame h f).parser = s.parser := rfl
@[simp] theorem State.setFrame_cl (s : State) (h : Nat) (f : Frame) : (s.setFrame h f).cl = s.cl := rfl
@[simp] theorem State.setFrame_lk (s : State) (h : Nat) (f : Frame) : (s.setFrame h f).lk = s.lk := rfl
@[simp] theorem State.setFrame_tm (s : State) (h : Nat) (f : Frame) : (s.setFrame h f).tm = s.tm := rfl
@[simp] theorem State.setFrame_cx (s : State) (h : Nat) (f : Frame) : (s.setFrame h f).cx = s.cx := rfl
@[simp] theorem State.setFrame_dp (s : State) (h : Nat) (f : Frame) : (s.setFrame h f).dp = s.dp := rfl
@[simp] theorem State.setFrame_dr (s : State) (h : Nat) (f : Frame) : (s.setFrame h f).dr = s.dr := rfl
@[simp] theorem State.setFrame_cv (s : State) (h : Nat) (f : Frame) : (s.setFrame h f).cv = s.cv := rfl
@[simp] theorem State.setFrame_np (s : State) (h : Nat) (f : Frame) : (s.setFrame h f).np = s.np := rfl
@[simp] theorem State.setFrame_eng (s : State) (h : Nat) (f : Frame) : (s.setFrame h f).eng = s.eng := rfl
@[simp] theorem State.setFrame_mv (s : State) (h : Nat) (f : Frame) : (s.setFrame h f).mv = s.mv := rfl
@[simp] theorem State.setFrame_mb (s : State) (h : Nat) (f : Frame) : (s.setFrame h f).mb = s.mb := rfl
@[simp] theorem State.setFrame_tally (s : State) (h : Nat) (f : Frame) : (s.setFrame h f).tally = s.tally := rfl
@[simp] theorem State.setFrame_pwr (s : State) (h : Nat) (f : Frame) : (s.setFrame h f).pwr = s.pwr := rfl
@[simp] theorem State.setFrame_dram (s : State) (h : Nat) (f : Frame) : (s.setFrame h f).dram = s.dram := rfl
@[simp] theorem State.setFrame_causes (s : State) (h : Nat) (f : Frame) : (s.setFrame h f).causes = s.causes := rfl
@[simp] theorem State.setFrame_pins (s : State) (h : Nat) (f : Frame) : (s.setFrame h f).pins = s.pins := rfl
@[simp] theorem State.setFrame_now (s : State) (h : Nat) (f : Frame) : (s.setFrame h f).now = s.now := rfl
@[simp] theorem State.setFrame_out (s : State) (h : Nat) (f : Frame) : (s.setFrame h f).out = s.out := rfl
@[simp] theorem State.setFrame_free (s : State) (h : Nat) (f : Frame) : (s.setFrame h f).free = s.free := rfl
@[simp] theorem State.setFrame_pending (s : State) (h : Nat) (f : Frame) : (s.setFrame h f).pending = s.pending := rfl

@[simp] theorem State.setTmq_regs (s : State) (q : Nat) (x : TmQ) : (s.setTmq q x).regs = s.regs := rfl
@[simp] theorem State.setTmq_wb (s : State) (q : Nat) (x : TmQ) : (s.setTmq q x).wb = s.wb := rfl
@[simp] theorem State.setTmq_own (s : State) (q : Nat) (x : TmQ) : (s.setTmq q x).own = s.own := rfl
@[simp] theorem State.setTmq_guards (s : State) (q : Nat) (x : TmQ) : (s.setTmq q x).guards = s.guards := rfl
@[simp] theorem State.setTmq_sealSt (s : State) (q : Nat) (x : TmQ) : (s.setTmq q x).sealSt = s.sealSt := rfl
@[simp] theorem State.setTmq_host (s : State) (q : Nat) (x : TmQ) : (s.setTmq q x).host = s.host := rfl
@[simp] theorem State.setTmq_qm (s : State) (q : Nat) (x : TmQ) : (s.setTmq q x).qm = s.qm := rfl
@[simp] theorem State.setTmq_lg (s : State) (q : Nat) (x : TmQ) : (s.setTmq q x).lg = s.lg := rfl
@[simp] theorem State.setTmq_fr (s : State) (q : Nat) (x : TmQ) : (s.setTmq q x).fr = s.fr := rfl
@[simp] theorem State.setTmq_parser (s : State) (q : Nat) (x : TmQ) : (s.setTmq q x).parser = s.parser := rfl
@[simp] theorem State.setTmq_cl (s : State) (q : Nat) (x : TmQ) : (s.setTmq q x).cl = s.cl := rfl
@[simp] theorem State.setTmq_lk (s : State) (q : Nat) (x : TmQ) : (s.setTmq q x).lk = s.lk := rfl
@[simp] theorem State.setTmq_cx (s : State) (q : Nat) (x : TmQ) : (s.setTmq q x).cx = s.cx := rfl
@[simp] theorem State.setTmq_dp (s : State) (q : Nat) (x : TmQ) : (s.setTmq q x).dp = s.dp := rfl
@[simp] theorem State.setTmq_dr (s : State) (q : Nat) (x : TmQ) : (s.setTmq q x).dr = s.dr := rfl
@[simp] theorem State.setTmq_cv (s : State) (q : Nat) (x : TmQ) : (s.setTmq q x).cv = s.cv := rfl
@[simp] theorem State.setTmq_np (s : State) (q : Nat) (x : TmQ) : (s.setTmq q x).np = s.np := rfl
@[simp] theorem State.setTmq_eng (s : State) (q : Nat) (x : TmQ) : (s.setTmq q x).eng = s.eng := rfl
@[simp] theorem State.setTmq_mv (s : State) (q : Nat) (x : TmQ) : (s.setTmq q x).mv = s.mv := rfl
@[simp] theorem State.setTmq_mb (s : State) (q : Nat) (x : TmQ) : (s.setTmq q x).mb = s.mb := rfl
@[simp] theorem State.setTmq_tally (s : State) (q : Nat) (x : TmQ) : (s.setTmq q x).tally = s.tally := rfl
@[simp] theorem State.setTmq_pwr (s : State) (q : Nat) (x : TmQ) : (s.setTmq q x).pwr = s.pwr := rfl
@[simp] theorem State.setTmq_dram (s : State) (q : Nat) (x : TmQ) : (s.setTmq q x).dram = s.dram := rfl
@[simp] theorem State.setTmq_causes (s : State) (q : Nat) (x : TmQ) : (s.setTmq q x).causes = s.causes := rfl
@[simp] theorem State.setTmq_pins (s : State) (q : Nat) (x : TmQ) : (s.setTmq q x).pins = s.pins := rfl
@[simp] theorem State.setTmq_now (s : State) (q : Nat) (x : TmQ) : (s.setTmq q x).now = s.now := rfl
@[simp] theorem State.setTmq_out (s : State) (q : Nat) (x : TmQ) : (s.setTmq q x).out = s.out := rfl
@[simp] theorem State.setTmq_free (s : State) (q : Nat) (x : TmQ) : (s.setTmq q x).free = s.free := rfl
@[simp] theorem State.setTmq_pending (s : State) (q : Nat) (x : TmQ) : (s.setTmq q x).pending = s.pending := rfl

@[simp] theorem State.setTmNode_regs (s : State) (n : Nat) (x : TmNode) : (s.setTmNode n x).regs = s.regs := rfl
@[simp] theorem State.setTmNode_wb (s : State) (n : Nat) (x : TmNode) : (s.setTmNode n x).wb = s.wb := rfl
@[simp] theorem State.setTmNode_own (s : State) (n : Nat) (x : TmNode) : (s.setTmNode n x).own = s.own := rfl
@[simp] theorem State.setTmNode_guards (s : State) (n : Nat) (x : TmNode) : (s.setTmNode n x).guards = s.guards := rfl
@[simp] theorem State.setTmNode_sealSt (s : State) (n : Nat) (x : TmNode) : (s.setTmNode n x).sealSt = s.sealSt := rfl
@[simp] theorem State.setTmNode_host (s : State) (n : Nat) (x : TmNode) : (s.setTmNode n x).host = s.host := rfl
@[simp] theorem State.setTmNode_qm (s : State) (n : Nat) (x : TmNode) : (s.setTmNode n x).qm = s.qm := rfl
@[simp] theorem State.setTmNode_lg (s : State) (n : Nat) (x : TmNode) : (s.setTmNode n x).lg = s.lg := rfl
@[simp] theorem State.setTmNode_fr (s : State) (n : Nat) (x : TmNode) : (s.setTmNode n x).fr = s.fr := rfl
@[simp] theorem State.setTmNode_parser (s : State) (n : Nat) (x : TmNode) : (s.setTmNode n x).parser = s.parser := rfl
@[simp] theorem State.setTmNode_cl (s : State) (n : Nat) (x : TmNode) : (s.setTmNode n x).cl = s.cl := rfl
@[simp] theorem State.setTmNode_lk (s : State) (n : Nat) (x : TmNode) : (s.setTmNode n x).lk = s.lk := rfl
@[simp] theorem State.setTmNode_cx (s : State) (n : Nat) (x : TmNode) : (s.setTmNode n x).cx = s.cx := rfl
@[simp] theorem State.setTmNode_dp (s : State) (n : Nat) (x : TmNode) : (s.setTmNode n x).dp = s.dp := rfl
@[simp] theorem State.setTmNode_dr (s : State) (n : Nat) (x : TmNode) : (s.setTmNode n x).dr = s.dr := rfl
@[simp] theorem State.setTmNode_cv (s : State) (n : Nat) (x : TmNode) : (s.setTmNode n x).cv = s.cv := rfl
@[simp] theorem State.setTmNode_np (s : State) (n : Nat) (x : TmNode) : (s.setTmNode n x).np = s.np := rfl
@[simp] theorem State.setTmNode_eng (s : State) (n : Nat) (x : TmNode) : (s.setTmNode n x).eng = s.eng := rfl
@[simp] theorem State.setTmNode_mv (s : State) (n : Nat) (x : TmNode) : (s.setTmNode n x).mv = s.mv := rfl
@[simp] theorem State.setTmNode_mb (s : State) (n : Nat) (x : TmNode) : (s.setTmNode n x).mb = s.mb := rfl
@[simp] theorem State.setTmNode_tally (s : State) (n : Nat) (x : TmNode) : (s.setTmNode n x).tally = s.tally := rfl
@[simp] theorem State.setTmNode_pwr (s : State) (n : Nat) (x : TmNode) : (s.setTmNode n x).pwr = s.pwr := rfl
@[simp] theorem State.setTmNode_dram (s : State) (n : Nat) (x : TmNode) : (s.setTmNode n x).dram = s.dram := rfl
@[simp] theorem State.setTmNode_causes (s : State) (n : Nat) (x : TmNode) : (s.setTmNode n x).causes = s.causes := rfl
@[simp] theorem State.setTmNode_pins (s : State) (n : Nat) (x : TmNode) : (s.setTmNode n x).pins = s.pins := rfl
@[simp] theorem State.setTmNode_now (s : State) (n : Nat) (x : TmNode) : (s.setTmNode n x).now = s.now := rfl
@[simp] theorem State.setTmNode_out (s : State) (n : Nat) (x : TmNode) : (s.setTmNode n x).out = s.out := rfl
@[simp] theorem State.setTmNode_free (s : State) (n : Nat) (x : TmNode) : (s.setTmNode n x).free = s.free := rfl
@[simp] theorem State.setTmNode_pending (s : State) (n : Nat) (x : TmNode) : (s.setTmNode n x).pending = s.pending := rfl

@[simp] theorem State.setComplex_regs (s : State) (c : Nat) (x : Complex) : (s.setComplex c x).regs = s.regs := rfl
@[simp] theorem State.setComplex_wb (s : State) (c : Nat) (x : Complex) : (s.setComplex c x).wb = s.wb := rfl
@[simp] theorem State.setComplex_own (s : State) (c : Nat) (x : Complex) : (s.setComplex c x).own = s.own := rfl
@[simp] theorem State.setComplex_guards (s : State) (c : Nat) (x : Complex) : (s.setComplex c x).guards = s.guards := rfl
@[simp] theorem State.setComplex_sealSt (s : State) (c : Nat) (x : Complex) : (s.setComplex c x).sealSt = s.sealSt := rfl
@[simp] theorem State.setComplex_host (s : State) (c : Nat) (x : Complex) : (s.setComplex c x).host = s.host := rfl
@[simp] theorem State.setComplex_qm (s : State) (c : Nat) (x : Complex) : (s.setComplex c x).qm = s.qm := rfl
@[simp] theorem State.setComplex_lg (s : State) (c : Nat) (x : Complex) : (s.setComplex c x).lg = s.lg := rfl
@[simp] theorem State.setComplex_fr (s : State) (c : Nat) (x : Complex) : (s.setComplex c x).fr = s.fr := rfl
@[simp] theorem State.setComplex_parser (s : State) (c : Nat) (x : Complex) : (s.setComplex c x).parser = s.parser := rfl
@[simp] theorem State.setComplex_cl (s : State) (c : Nat) (x : Complex) : (s.setComplex c x).cl = s.cl := rfl
@[simp] theorem State.setComplex_lk (s : State) (c : Nat) (x : Complex) : (s.setComplex c x).lk = s.lk := rfl
@[simp] theorem State.setComplex_tm (s : State) (c : Nat) (x : Complex) : (s.setComplex c x).tm = s.tm := rfl
@[simp] theorem State.setComplex_dp (s : State) (c : Nat) (x : Complex) : (s.setComplex c x).dp = s.dp := rfl
@[simp] theorem State.setComplex_dr (s : State) (c : Nat) (x : Complex) : (s.setComplex c x).dr = s.dr := rfl
@[simp] theorem State.setComplex_cv (s : State) (c : Nat) (x : Complex) : (s.setComplex c x).cv = s.cv := rfl
@[simp] theorem State.setComplex_np (s : State) (c : Nat) (x : Complex) : (s.setComplex c x).np = s.np := rfl
@[simp] theorem State.setComplex_eng (s : State) (c : Nat) (x : Complex) : (s.setComplex c x).eng = s.eng := rfl
@[simp] theorem State.setComplex_mv (s : State) (c : Nat) (x : Complex) : (s.setComplex c x).mv = s.mv := rfl
@[simp] theorem State.setComplex_mb (s : State) (c : Nat) (x : Complex) : (s.setComplex c x).mb = s.mb := rfl
@[simp] theorem State.setComplex_tally (s : State) (c : Nat) (x : Complex) : (s.setComplex c x).tally = s.tally := rfl
@[simp] theorem State.setComplex_pwr (s : State) (c : Nat) (x : Complex) : (s.setComplex c x).pwr = s.pwr := rfl
@[simp] theorem State.setComplex_dram (s : State) (c : Nat) (x : Complex) : (s.setComplex c x).dram = s.dram := rfl
@[simp] theorem State.setComplex_causes (s : State) (c : Nat) (x : Complex) : (s.setComplex c x).causes = s.causes := rfl
@[simp] theorem State.setComplex_pins (s : State) (c : Nat) (x : Complex) : (s.setComplex c x).pins = s.pins := rfl
@[simp] theorem State.setComplex_now (s : State) (c : Nat) (x : Complex) : (s.setComplex c x).now = s.now := rfl
@[simp] theorem State.setComplex_out (s : State) (c : Nat) (x : Complex) : (s.setComplex c x).out = s.out := rfl
@[simp] theorem State.setComplex_free (s : State) (c : Nat) (x : Complex) : (s.setComplex c x).free = s.free := rfl
@[simp] theorem State.setComplex_pending (s : State) (c : Nat) (x : Complex) : (s.setComplex c x).pending = s.pending := rfl

@[simp] theorem State.setDrive_regs (s : State) (p : Nat) (d : Drive) : (s.setDrive p d).regs = s.regs := rfl
@[simp] theorem State.setDrive_wb (s : State) (p : Nat) (d : Drive) : (s.setDrive p d).wb = s.wb := rfl
@[simp] theorem State.setDrive_own (s : State) (p : Nat) (d : Drive) : (s.setDrive p d).own = s.own := rfl
@[simp] theorem State.setDrive_guards (s : State) (p : Nat) (d : Drive) : (s.setDrive p d).guards = s.guards := rfl
@[simp] theorem State.setDrive_sealSt (s : State) (p : Nat) (d : Drive) : (s.setDrive p d).sealSt = s.sealSt := rfl
@[simp] theorem State.setDrive_host (s : State) (p : Nat) (d : Drive) : (s.setDrive p d).host = s.host := rfl
@[simp] theorem State.setDrive_qm (s : State) (p : Nat) (d : Drive) : (s.setDrive p d).qm = s.qm := rfl
@[simp] theorem State.setDrive_lg (s : State) (p : Nat) (d : Drive) : (s.setDrive p d).lg = s.lg := rfl
@[simp] theorem State.setDrive_fr (s : State) (p : Nat) (d : Drive) : (s.setDrive p d).fr = s.fr := rfl
@[simp] theorem State.setDrive_parser (s : State) (p : Nat) (d : Drive) : (s.setDrive p d).parser = s.parser := rfl
@[simp] theorem State.setDrive_cl (s : State) (p : Nat) (d : Drive) : (s.setDrive p d).cl = s.cl := rfl
@[simp] theorem State.setDrive_lk (s : State) (p : Nat) (d : Drive) : (s.setDrive p d).lk = s.lk := rfl
@[simp] theorem State.setDrive_tm (s : State) (p : Nat) (d : Drive) : (s.setDrive p d).tm = s.tm := rfl
@[simp] theorem State.setDrive_cx (s : State) (p : Nat) (d : Drive) : (s.setDrive p d).cx = s.cx := rfl
@[simp] theorem State.setDrive_dr (s : State) (p : Nat) (d : Drive) : (s.setDrive p d).dr = s.dr := rfl
@[simp] theorem State.setDrive_cv (s : State) (p : Nat) (d : Drive) : (s.setDrive p d).cv = s.cv := rfl
@[simp] theorem State.setDrive_np (s : State) (p : Nat) (d : Drive) : (s.setDrive p d).np = s.np := rfl
@[simp] theorem State.setDrive_eng (s : State) (p : Nat) (d : Drive) : (s.setDrive p d).eng = s.eng := rfl
@[simp] theorem State.setDrive_mv (s : State) (p : Nat) (d : Drive) : (s.setDrive p d).mv = s.mv := rfl
@[simp] theorem State.setDrive_mb (s : State) (p : Nat) (d : Drive) : (s.setDrive p d).mb = s.mb := rfl
@[simp] theorem State.setDrive_tally (s : State) (p : Nat) (d : Drive) : (s.setDrive p d).tally = s.tally := rfl
@[simp] theorem State.setDrive_pwr (s : State) (p : Nat) (d : Drive) : (s.setDrive p d).pwr = s.pwr := rfl
@[simp] theorem State.setDrive_dram (s : State) (p : Nat) (d : Drive) : (s.setDrive p d).dram = s.dram := rfl
@[simp] theorem State.setDrive_causes (s : State) (p : Nat) (d : Drive) : (s.setDrive p d).causes = s.causes := rfl
@[simp] theorem State.setDrive_pins (s : State) (p : Nat) (d : Drive) : (s.setDrive p d).pins = s.pins := rfl
@[simp] theorem State.setDrive_now (s : State) (p : Nat) (d : Drive) : (s.setDrive p d).now = s.now := rfl
@[simp] theorem State.setDrive_out (s : State) (p : Nat) (d : Drive) : (s.setDrive p d).out = s.out := rfl
@[simp] theorem State.setDrive_free (s : State) (p : Nat) (d : Drive) : (s.setDrive p d).free = s.free := rfl
@[simp] theorem State.setDrive_pending (s : State) (p : Nat) (d : Drive) : (s.setDrive p d).pending = s.pending := rfl

@[simp] theorem State.setTgt_regs (s : State) (t : Nat) (x : Target) : (s.setTgt t x).regs = s.regs := rfl
@[simp] theorem State.setTgt_wb (s : State) (t : Nat) (x : Target) : (s.setTgt t x).wb = s.wb := rfl
@[simp] theorem State.setTgt_own (s : State) (t : Nat) (x : Target) : (s.setTgt t x).own = s.own := rfl
@[simp] theorem State.setTgt_guards (s : State) (t : Nat) (x : Target) : (s.setTgt t x).guards = s.guards := rfl
@[simp] theorem State.setTgt_sealSt (s : State) (t : Nat) (x : Target) : (s.setTgt t x).sealSt = s.sealSt := rfl
@[simp] theorem State.setTgt_host (s : State) (t : Nat) (x : Target) : (s.setTgt t x).host = s.host := rfl
@[simp] theorem State.setTgt_qm (s : State) (t : Nat) (x : Target) : (s.setTgt t x).qm = s.qm := rfl
@[simp] theorem State.setTgt_lg (s : State) (t : Nat) (x : Target) : (s.setTgt t x).lg = s.lg := rfl
@[simp] theorem State.setTgt_fr (s : State) (t : Nat) (x : Target) : (s.setTgt t x).fr = s.fr := rfl
@[simp] theorem State.setTgt_parser (s : State) (t : Nat) (x : Target) : (s.setTgt t x).parser = s.parser := rfl
@[simp] theorem State.setTgt_cl (s : State) (t : Nat) (x : Target) : (s.setTgt t x).cl = s.cl := rfl
@[simp] theorem State.setTgt_lk (s : State) (t : Nat) (x : Target) : (s.setTgt t x).lk = s.lk := rfl
@[simp] theorem State.setTgt_tm (s : State) (t : Nat) (x : Target) : (s.setTgt t x).tm = s.tm := rfl
@[simp] theorem State.setTgt_cx (s : State) (t : Nat) (x : Target) : (s.setTgt t x).cx = s.cx := rfl
@[simp] theorem State.setTgt_dr (s : State) (t : Nat) (x : Target) : (s.setTgt t x).dr = s.dr := rfl
@[simp] theorem State.setTgt_cv (s : State) (t : Nat) (x : Target) : (s.setTgt t x).cv = s.cv := rfl
@[simp] theorem State.setTgt_np (s : State) (t : Nat) (x : Target) : (s.setTgt t x).np = s.np := rfl
@[simp] theorem State.setTgt_eng (s : State) (t : Nat) (x : Target) : (s.setTgt t x).eng = s.eng := rfl
@[simp] theorem State.setTgt_mv (s : State) (t : Nat) (x : Target) : (s.setTgt t x).mv = s.mv := rfl
@[simp] theorem State.setTgt_mb (s : State) (t : Nat) (x : Target) : (s.setTgt t x).mb = s.mb := rfl
@[simp] theorem State.setTgt_tally (s : State) (t : Nat) (x : Target) : (s.setTgt t x).tally = s.tally := rfl
@[simp] theorem State.setTgt_pwr (s : State) (t : Nat) (x : Target) : (s.setTgt t x).pwr = s.pwr := rfl
@[simp] theorem State.setTgt_dram (s : State) (t : Nat) (x : Target) : (s.setTgt t x).dram = s.dram := rfl
@[simp] theorem State.setTgt_causes (s : State) (t : Nat) (x : Target) : (s.setTgt t x).causes = s.causes := rfl
@[simp] theorem State.setTgt_pins (s : State) (t : Nat) (x : Target) : (s.setTgt t x).pins = s.pins := rfl
@[simp] theorem State.setTgt_now (s : State) (t : Nat) (x : Target) : (s.setTgt t x).now = s.now := rfl
@[simp] theorem State.setTgt_out (s : State) (t : Nat) (x : Target) : (s.setTgt t x).out = s.out := rfl
@[simp] theorem State.setTgt_free (s : State) (t : Nat) (x : Target) : (s.setTgt t x).free = s.free := rfl
@[simp] theorem State.setTgt_pending (s : State) (t : Nat) (x : Target) : (s.setTgt t x).pending = s.pending := rfl

@[simp] theorem State.setChan_regs (s : State) (c : Nat) (x : DramChan) : (s.setChan c x).regs = s.regs := rfl
@[simp] theorem State.setChan_wb (s : State) (c : Nat) (x : DramChan) : (s.setChan c x).wb = s.wb := rfl
@[simp] theorem State.setChan_own (s : State) (c : Nat) (x : DramChan) : (s.setChan c x).own = s.own := rfl
@[simp] theorem State.setChan_guards (s : State) (c : Nat) (x : DramChan) : (s.setChan c x).guards = s.guards := rfl
@[simp] theorem State.setChan_sealSt (s : State) (c : Nat) (x : DramChan) : (s.setChan c x).sealSt = s.sealSt := rfl
@[simp] theorem State.setChan_host (s : State) (c : Nat) (x : DramChan) : (s.setChan c x).host = s.host := rfl
@[simp] theorem State.setChan_qm (s : State) (c : Nat) (x : DramChan) : (s.setChan c x).qm = s.qm := rfl
@[simp] theorem State.setChan_lg (s : State) (c : Nat) (x : DramChan) : (s.setChan c x).lg = s.lg := rfl
@[simp] theorem State.setChan_fr (s : State) (c : Nat) (x : DramChan) : (s.setChan c x).fr = s.fr := rfl
@[simp] theorem State.setChan_parser (s : State) (c : Nat) (x : DramChan) : (s.setChan c x).parser = s.parser := rfl
@[simp] theorem State.setChan_cl (s : State) (c : Nat) (x : DramChan) : (s.setChan c x).cl = s.cl := rfl
@[simp] theorem State.setChan_lk (s : State) (c : Nat) (x : DramChan) : (s.setChan c x).lk = s.lk := rfl
@[simp] theorem State.setChan_tm (s : State) (c : Nat) (x : DramChan) : (s.setChan c x).tm = s.tm := rfl
@[simp] theorem State.setChan_cx (s : State) (c : Nat) (x : DramChan) : (s.setChan c x).cx = s.cx := rfl
@[simp] theorem State.setChan_dp (s : State) (c : Nat) (x : DramChan) : (s.setChan c x).dp = s.dp := rfl
@[simp] theorem State.setChan_cv (s : State) (c : Nat) (x : DramChan) : (s.setChan c x).cv = s.cv := rfl
@[simp] theorem State.setChan_np (s : State) (c : Nat) (x : DramChan) : (s.setChan c x).np = s.np := rfl
@[simp] theorem State.setChan_eng (s : State) (c : Nat) (x : DramChan) : (s.setChan c x).eng = s.eng := rfl
@[simp] theorem State.setChan_mv (s : State) (c : Nat) (x : DramChan) : (s.setChan c x).mv = s.mv := rfl
@[simp] theorem State.setChan_mb (s : State) (c : Nat) (x : DramChan) : (s.setChan c x).mb = s.mb := rfl
@[simp] theorem State.setChan_tally (s : State) (c : Nat) (x : DramChan) : (s.setChan c x).tally = s.tally := rfl
@[simp] theorem State.setChan_pwr (s : State) (c : Nat) (x : DramChan) : (s.setChan c x).pwr = s.pwr := rfl
@[simp] theorem State.setChan_dram (s : State) (c : Nat) (x : DramChan) : (s.setChan c x).dram = s.dram := rfl
@[simp] theorem State.setChan_causes (s : State) (c : Nat) (x : DramChan) : (s.setChan c x).causes = s.causes := rfl
@[simp] theorem State.setChan_pins (s : State) (c : Nat) (x : DramChan) : (s.setChan c x).pins = s.pins := rfl
@[simp] theorem State.setChan_now (s : State) (c : Nat) (x : DramChan) : (s.setChan c x).now = s.now := rfl
@[simp] theorem State.setChan_out (s : State) (c : Nat) (x : DramChan) : (s.setChan c x).out = s.out := rfl
@[simp] theorem State.setChan_free (s : State) (c : Nat) (x : DramChan) : (s.setChan c x).free = s.free := rfl
@[simp] theorem State.setChan_pending (s : State) (c : Nat) (x : DramChan) : (s.setChan c x).pending = s.pending := rfl

@[simp] theorem State.setCp_regs (s : State) (c : Nat) (x : CpPort) : (s.setCp c x).regs = s.regs := rfl
@[simp] theorem State.setCp_wb (s : State) (c : Nat) (x : CpPort) : (s.setCp c x).wb = s.wb := rfl
@[simp] theorem State.setCp_own (s : State) (c : Nat) (x : CpPort) : (s.setCp c x).own = s.own := rfl
@[simp] theorem State.setCp_guards (s : State) (c : Nat) (x : CpPort) : (s.setCp c x).guards = s.guards := rfl
@[simp] theorem State.setCp_sealSt (s : State) (c : Nat) (x : CpPort) : (s.setCp c x).sealSt = s.sealSt := rfl
@[simp] theorem State.setCp_host (s : State) (c : Nat) (x : CpPort) : (s.setCp c x).host = s.host := rfl
@[simp] theorem State.setCp_qm (s : State) (c : Nat) (x : CpPort) : (s.setCp c x).qm = s.qm := rfl
@[simp] theorem State.setCp_lg (s : State) (c : Nat) (x : CpPort) : (s.setCp c x).lg = s.lg := rfl
@[simp] theorem State.setCp_fr (s : State) (c : Nat) (x : CpPort) : (s.setCp c x).fr = s.fr := rfl
@[simp] theorem State.setCp_parser (s : State) (c : Nat) (x : CpPort) : (s.setCp c x).parser = s.parser := rfl
@[simp] theorem State.setCp_cl (s : State) (c : Nat) (x : CpPort) : (s.setCp c x).cl = s.cl := rfl
@[simp] theorem State.setCp_lk (s : State) (c : Nat) (x : CpPort) : (s.setCp c x).lk = s.lk := rfl
@[simp] theorem State.setCp_tm (s : State) (c : Nat) (x : CpPort) : (s.setCp c x).tm = s.tm := rfl
@[simp] theorem State.setCp_cx (s : State) (c : Nat) (x : CpPort) : (s.setCp c x).cx = s.cx := rfl
@[simp] theorem State.setCp_dp (s : State) (c : Nat) (x : CpPort) : (s.setCp c x).dp = s.dp := rfl
@[simp] theorem State.setCp_dr (s : State) (c : Nat) (x : CpPort) : (s.setCp c x).dr = s.dr := rfl
@[simp] theorem State.setCp_np (s : State) (c : Nat) (x : CpPort) : (s.setCp c x).np = s.np := rfl
@[simp] theorem State.setCp_eng (s : State) (c : Nat) (x : CpPort) : (s.setCp c x).eng = s.eng := rfl
@[simp] theorem State.setCp_mv (s : State) (c : Nat) (x : CpPort) : (s.setCp c x).mv = s.mv := rfl
@[simp] theorem State.setCp_mb (s : State) (c : Nat) (x : CpPort) : (s.setCp c x).mb = s.mb := rfl
@[simp] theorem State.setCp_tally (s : State) (c : Nat) (x : CpPort) : (s.setCp c x).tally = s.tally := rfl
@[simp] theorem State.setCp_pwr (s : State) (c : Nat) (x : CpPort) : (s.setCp c x).pwr = s.pwr := rfl
@[simp] theorem State.setCp_dram (s : State) (c : Nat) (x : CpPort) : (s.setCp c x).dram = s.dram := rfl
@[simp] theorem State.setCp_causes (s : State) (c : Nat) (x : CpPort) : (s.setCp c x).causes = s.causes := rfl
@[simp] theorem State.setCp_pins (s : State) (c : Nat) (x : CpPort) : (s.setCp c x).pins = s.pins := rfl
@[simp] theorem State.setCp_now (s : State) (c : Nat) (x : CpPort) : (s.setCp c x).now = s.now := rfl
@[simp] theorem State.setCp_out (s : State) (c : Nat) (x : CpPort) : (s.setCp c x).out = s.out := rfl
@[simp] theorem State.setCp_free (s : State) (c : Nat) (x : CpPort) : (s.setCp c x).free = s.free := rfl
@[simp] theorem State.setCp_pending (s : State) (c : Nat) (x : CpPort) : (s.setCp c x).pending = s.pending := rfl

@[simp] theorem State.setCluster_regs (s : State) (c : Nat) (x : Cluster) : (s.setCluster c x).regs = s.regs := rfl
@[simp] theorem State.setCluster_wb (s : State) (c : Nat) (x : Cluster) : (s.setCluster c x).wb = s.wb := rfl
@[simp] theorem State.setCluster_own (s : State) (c : Nat) (x : Cluster) : (s.setCluster c x).own = s.own := rfl
@[simp] theorem State.setCluster_guards (s : State) (c : Nat) (x : Cluster) : (s.setCluster c x).guards = s.guards := rfl
@[simp] theorem State.setCluster_sealSt (s : State) (c : Nat) (x : Cluster) : (s.setCluster c x).sealSt = s.sealSt := rfl
@[simp] theorem State.setCluster_host (s : State) (c : Nat) (x : Cluster) : (s.setCluster c x).host = s.host := rfl
@[simp] theorem State.setCluster_qm (s : State) (c : Nat) (x : Cluster) : (s.setCluster c x).qm = s.qm := rfl
@[simp] theorem State.setCluster_lg (s : State) (c : Nat) (x : Cluster) : (s.setCluster c x).lg = s.lg := rfl
@[simp] theorem State.setCluster_fr (s : State) (c : Nat) (x : Cluster) : (s.setCluster c x).fr = s.fr := rfl
@[simp] theorem State.setCluster_parser (s : State) (c : Nat) (x : Cluster) : (s.setCluster c x).parser = s.parser := rfl
@[simp] theorem State.setCluster_cl (s : State) (c : Nat) (x : Cluster) : (s.setCluster c x).cl = s.cl := rfl
@[simp] theorem State.setCluster_lk (s : State) (c : Nat) (x : Cluster) : (s.setCluster c x).lk = s.lk := rfl
@[simp] theorem State.setCluster_tm (s : State) (c : Nat) (x : Cluster) : (s.setCluster c x).tm = s.tm := rfl
@[simp] theorem State.setCluster_cx (s : State) (c : Nat) (x : Cluster) : (s.setCluster c x).cx = s.cx := rfl
@[simp] theorem State.setCluster_dp (s : State) (c : Nat) (x : Cluster) : (s.setCluster c x).dp = s.dp := rfl
@[simp] theorem State.setCluster_dr (s : State) (c : Nat) (x : Cluster) : (s.setCluster c x).dr = s.dr := rfl
@[simp] theorem State.setCluster_cv (s : State) (c : Nat) (x : Cluster) : (s.setCluster c x).cv = s.cv := rfl
@[simp] theorem State.setCluster_np (s : State) (c : Nat) (x : Cluster) : (s.setCluster c x).np = s.np := rfl
@[simp] theorem State.setCluster_mv (s : State) (c : Nat) (x : Cluster) : (s.setCluster c x).mv = s.mv := rfl
@[simp] theorem State.setCluster_mb (s : State) (c : Nat) (x : Cluster) : (s.setCluster c x).mb = s.mb := rfl
@[simp] theorem State.setCluster_tally (s : State) (c : Nat) (x : Cluster) : (s.setCluster c x).tally = s.tally := rfl
@[simp] theorem State.setCluster_pwr (s : State) (c : Nat) (x : Cluster) : (s.setCluster c x).pwr = s.pwr := rfl
@[simp] theorem State.setCluster_dram (s : State) (c : Nat) (x : Cluster) : (s.setCluster c x).dram = s.dram := rfl
@[simp] theorem State.setCluster_causes (s : State) (c : Nat) (x : Cluster) : (s.setCluster c x).causes = s.causes := rfl
@[simp] theorem State.setCluster_pins (s : State) (c : Nat) (x : Cluster) : (s.setCluster c x).pins = s.pins := rfl
@[simp] theorem State.setCluster_now (s : State) (c : Nat) (x : Cluster) : (s.setCluster c x).now = s.now := rfl
@[simp] theorem State.setCluster_out (s : State) (c : Nat) (x : Cluster) : (s.setCluster c x).out = s.out := rfl
@[simp] theorem State.setCluster_free (s : State) (c : Nat) (x : Cluster) : (s.setCluster c x).free = s.free := rfl
@[simp] theorem State.setCluster_pending (s : State) (c : Nat) (x : Cluster) : (s.setCluster c x).pending = s.pending := rfl

@[simp] theorem State.setEngine_regs (s : State) (e : Nat) (x : Engine) : (s.setEngine e x).regs = s.regs := rfl
@[simp] theorem State.setEngine_wb (s : State) (e : Nat) (x : Engine) : (s.setEngine e x).wb = s.wb := rfl
@[simp] theorem State.setEngine_own (s : State) (e : Nat) (x : Engine) : (s.setEngine e x).own = s.own := rfl
@[simp] theorem State.setEngine_guards (s : State) (e : Nat) (x : Engine) : (s.setEngine e x).guards = s.guards := rfl
@[simp] theorem State.setEngine_sealSt (s : State) (e : Nat) (x : Engine) : (s.setEngine e x).sealSt = s.sealSt := rfl
@[simp] theorem State.setEngine_host (s : State) (e : Nat) (x : Engine) : (s.setEngine e x).host = s.host := rfl
@[simp] theorem State.setEngine_qm (s : State) (e : Nat) (x : Engine) : (s.setEngine e x).qm = s.qm := rfl
@[simp] theorem State.setEngine_lg (s : State) (e : Nat) (x : Engine) : (s.setEngine e x).lg = s.lg := rfl
@[simp] theorem State.setEngine_fr (s : State) (e : Nat) (x : Engine) : (s.setEngine e x).fr = s.fr := rfl
@[simp] theorem State.setEngine_parser (s : State) (e : Nat) (x : Engine) : (s.setEngine e x).parser = s.parser := rfl
@[simp] theorem State.setEngine_cl (s : State) (e : Nat) (x : Engine) : (s.setEngine e x).cl = s.cl := rfl
@[simp] theorem State.setEngine_lk (s : State) (e : Nat) (x : Engine) : (s.setEngine e x).lk = s.lk := rfl
@[simp] theorem State.setEngine_tm (s : State) (e : Nat) (x : Engine) : (s.setEngine e x).tm = s.tm := rfl
@[simp] theorem State.setEngine_cx (s : State) (e : Nat) (x : Engine) : (s.setEngine e x).cx = s.cx := rfl
@[simp] theorem State.setEngine_dp (s : State) (e : Nat) (x : Engine) : (s.setEngine e x).dp = s.dp := rfl
@[simp] theorem State.setEngine_dr (s : State) (e : Nat) (x : Engine) : (s.setEngine e x).dr = s.dr := rfl
@[simp] theorem State.setEngine_cv (s : State) (e : Nat) (x : Engine) : (s.setEngine e x).cv = s.cv := rfl
@[simp] theorem State.setEngine_np (s : State) (e : Nat) (x : Engine) : (s.setEngine e x).np = s.np := rfl
@[simp] theorem State.setEngine_mv (s : State) (e : Nat) (x : Engine) : (s.setEngine e x).mv = s.mv := rfl
@[simp] theorem State.setEngine_mb (s : State) (e : Nat) (x : Engine) : (s.setEngine e x).mb = s.mb := rfl
@[simp] theorem State.setEngine_tally (s : State) (e : Nat) (x : Engine) : (s.setEngine e x).tally = s.tally := rfl
@[simp] theorem State.setEngine_pwr (s : State) (e : Nat) (x : Engine) : (s.setEngine e x).pwr = s.pwr := rfl
@[simp] theorem State.setEngine_dram (s : State) (e : Nat) (x : Engine) : (s.setEngine e x).dram = s.dram := rfl
@[simp] theorem State.setEngine_causes (s : State) (e : Nat) (x : Engine) : (s.setEngine e x).causes = s.causes := rfl
@[simp] theorem State.setEngine_pins (s : State) (e : Nat) (x : Engine) : (s.setEngine e x).pins = s.pins := rfl
@[simp] theorem State.setEngine_now (s : State) (e : Nat) (x : Engine) : (s.setEngine e x).now = s.now := rfl
@[simp] theorem State.setEngine_out (s : State) (e : Nat) (x : Engine) : (s.setEngine e x).out = s.out := rfl
@[simp] theorem State.setEngine_free (s : State) (e : Nat) (x : Engine) : (s.setEngine e x).free = s.free := rfl
@[simp] theorem State.setEngine_pending (s : State) (e : Nat) (x : Engine) : (s.setEngine e x).pending = s.pending := rfl

@[simp] theorem State.setHart_regs (s : State) (h : Nat) (x : Hart) : (s.setHart h x).regs = s.regs := rfl
@[simp] theorem State.setHart_wb (s : State) (h : Nat) (x : Hart) : (s.setHart h x).wb = s.wb := rfl
@[simp] theorem State.setHart_own (s : State) (h : Nat) (x : Hart) : (s.setHart h x).own = s.own := rfl
@[simp] theorem State.setHart_guards (s : State) (h : Nat) (x : Hart) : (s.setHart h x).guards = s.guards := rfl
@[simp] theorem State.setHart_sealSt (s : State) (h : Nat) (x : Hart) : (s.setHart h x).sealSt = s.sealSt := rfl
@[simp] theorem State.setHart_host (s : State) (h : Nat) (x : Hart) : (s.setHart h x).host = s.host := rfl
@[simp] theorem State.setHart_qm (s : State) (h : Nat) (x : Hart) : (s.setHart h x).qm = s.qm := rfl
@[simp] theorem State.setHart_lg (s : State) (h : Nat) (x : Hart) : (s.setHart h x).lg = s.lg := rfl
@[simp] theorem State.setHart_fr (s : State) (h : Nat) (x : Hart) : (s.setHart h x).fr = s.fr := rfl
@[simp] theorem State.setHart_parser (s : State) (h : Nat) (x : Hart) : (s.setHart h x).parser = s.parser := rfl
@[simp] theorem State.setHart_cl (s : State) (h : Nat) (x : Hart) : (s.setHart h x).cl = s.cl := rfl
@[simp] theorem State.setHart_lk (s : State) (h : Nat) (x : Hart) : (s.setHart h x).lk = s.lk := rfl
@[simp] theorem State.setHart_tm (s : State) (h : Nat) (x : Hart) : (s.setHart h x).tm = s.tm := rfl
@[simp] theorem State.setHart_cx (s : State) (h : Nat) (x : Hart) : (s.setHart h x).cx = s.cx := rfl
@[simp] theorem State.setHart_dp (s : State) (h : Nat) (x : Hart) : (s.setHart h x).dp = s.dp := rfl
@[simp] theorem State.setHart_dr (s : State) (h : Nat) (x : Hart) : (s.setHart h x).dr = s.dr := rfl
@[simp] theorem State.setHart_cv (s : State) (h : Nat) (x : Hart) : (s.setHart h x).cv = s.cv := rfl
@[simp] theorem State.setHart_np (s : State) (h : Nat) (x : Hart) : (s.setHart h x).np = s.np := rfl
@[simp] theorem State.setHart_mv (s : State) (h : Nat) (x : Hart) : (s.setHart h x).mv = s.mv := rfl
@[simp] theorem State.setHart_mb (s : State) (h : Nat) (x : Hart) : (s.setHart h x).mb = s.mb := rfl
@[simp] theorem State.setHart_tally (s : State) (h : Nat) (x : Hart) : (s.setHart h x).tally = s.tally := rfl
@[simp] theorem State.setHart_pwr (s : State) (h : Nat) (x : Hart) : (s.setHart h x).pwr = s.pwr := rfl
@[simp] theorem State.setHart_dram (s : State) (h : Nat) (x : Hart) : (s.setHart h x).dram = s.dram := rfl
@[simp] theorem State.setHart_causes (s : State) (h : Nat) (x : Hart) : (s.setHart h x).causes = s.causes := rfl
@[simp] theorem State.setHart_pins (s : State) (h : Nat) (x : Hart) : (s.setHart h x).pins = s.pins := rfl
@[simp] theorem State.setHart_now (s : State) (h : Nat) (x : Hart) : (s.setHart h x).now = s.now := rfl
@[simp] theorem State.setHart_out (s : State) (h : Nat) (x : Hart) : (s.setHart h x).out = s.out := rfl
@[simp] theorem State.setHart_free (s : State) (h : Nat) (x : Hart) : (s.setHart h x).free = s.free := rfl
@[simp] theorem State.setHart_pending (s : State) (h : Nat) (x : Hart) : (s.setHart h x).pending = s.pending := rfl

@[simp] theorem State.setMvChan_regs (s : State) (c : Nat) (x : MvChan) : (s.setMvChan c x).regs = s.regs := rfl
@[simp] theorem State.setMvChan_wb (s : State) (c : Nat) (x : MvChan) : (s.setMvChan c x).wb = s.wb := rfl
@[simp] theorem State.setMvChan_own (s : State) (c : Nat) (x : MvChan) : (s.setMvChan c x).own = s.own := rfl
@[simp] theorem State.setMvChan_guards (s : State) (c : Nat) (x : MvChan) : (s.setMvChan c x).guards = s.guards := rfl
@[simp] theorem State.setMvChan_sealSt (s : State) (c : Nat) (x : MvChan) : (s.setMvChan c x).sealSt = s.sealSt := rfl
@[simp] theorem State.setMvChan_host (s : State) (c : Nat) (x : MvChan) : (s.setMvChan c x).host = s.host := rfl
@[simp] theorem State.setMvChan_qm (s : State) (c : Nat) (x : MvChan) : (s.setMvChan c x).qm = s.qm := rfl
@[simp] theorem State.setMvChan_lg (s : State) (c : Nat) (x : MvChan) : (s.setMvChan c x).lg = s.lg := rfl
@[simp] theorem State.setMvChan_fr (s : State) (c : Nat) (x : MvChan) : (s.setMvChan c x).fr = s.fr := rfl
@[simp] theorem State.setMvChan_parser (s : State) (c : Nat) (x : MvChan) : (s.setMvChan c x).parser = s.parser := rfl
@[simp] theorem State.setMvChan_cl (s : State) (c : Nat) (x : MvChan) : (s.setMvChan c x).cl = s.cl := rfl
@[simp] theorem State.setMvChan_lk (s : State) (c : Nat) (x : MvChan) : (s.setMvChan c x).lk = s.lk := rfl
@[simp] theorem State.setMvChan_tm (s : State) (c : Nat) (x : MvChan) : (s.setMvChan c x).tm = s.tm := rfl
@[simp] theorem State.setMvChan_cx (s : State) (c : Nat) (x : MvChan) : (s.setMvChan c x).cx = s.cx := rfl
@[simp] theorem State.setMvChan_dp (s : State) (c : Nat) (x : MvChan) : (s.setMvChan c x).dp = s.dp := rfl
@[simp] theorem State.setMvChan_dr (s : State) (c : Nat) (x : MvChan) : (s.setMvChan c x).dr = s.dr := rfl
@[simp] theorem State.setMvChan_cv (s : State) (c : Nat) (x : MvChan) : (s.setMvChan c x).cv = s.cv := rfl
@[simp] theorem State.setMvChan_np (s : State) (c : Nat) (x : MvChan) : (s.setMvChan c x).np = s.np := rfl
@[simp] theorem State.setMvChan_eng (s : State) (c : Nat) (x : MvChan) : (s.setMvChan c x).eng = s.eng := rfl
@[simp] theorem State.setMvChan_mb (s : State) (c : Nat) (x : MvChan) : (s.setMvChan c x).mb = s.mb := rfl
@[simp] theorem State.setMvChan_tally (s : State) (c : Nat) (x : MvChan) : (s.setMvChan c x).tally = s.tally := rfl
@[simp] theorem State.setMvChan_pwr (s : State) (c : Nat) (x : MvChan) : (s.setMvChan c x).pwr = s.pwr := rfl
@[simp] theorem State.setMvChan_dram (s : State) (c : Nat) (x : MvChan) : (s.setMvChan c x).dram = s.dram := rfl
@[simp] theorem State.setMvChan_causes (s : State) (c : Nat) (x : MvChan) : (s.setMvChan c x).causes = s.causes := rfl
@[simp] theorem State.setMvChan_pins (s : State) (c : Nat) (x : MvChan) : (s.setMvChan c x).pins = s.pins := rfl
@[simp] theorem State.setMvChan_now (s : State) (c : Nat) (x : MvChan) : (s.setMvChan c x).now = s.now := rfl
@[simp] theorem State.setMvChan_out (s : State) (c : Nat) (x : MvChan) : (s.setMvChan c x).out = s.out := rfl
@[simp] theorem State.setMvChan_free (s : State) (c : Nat) (x : MvChan) : (s.setMvChan c x).free = s.free := rfl
@[simp] theorem State.setMvChan_pending (s : State) (c : Nat) (x : MvChan) : (s.setMvChan c x).pending = s.pending := rfl

@[simp] theorem State.setMbPair_regs (s : State) (k : Nat) (p : MbPair) : (s.setMbPair k p).regs = s.regs := rfl
@[simp] theorem State.setMbPair_wb (s : State) (k : Nat) (p : MbPair) : (s.setMbPair k p).wb = s.wb := rfl
@[simp] theorem State.setMbPair_own (s : State) (k : Nat) (p : MbPair) : (s.setMbPair k p).own = s.own := rfl
@[simp] theorem State.setMbPair_guards (s : State) (k : Nat) (p : MbPair) : (s.setMbPair k p).guards = s.guards := rfl
@[simp] theorem State.setMbPair_sealSt (s : State) (k : Nat) (p : MbPair) : (s.setMbPair k p).sealSt = s.sealSt := rfl
@[simp] theorem State.setMbPair_host (s : State) (k : Nat) (p : MbPair) : (s.setMbPair k p).host = s.host := rfl
@[simp] theorem State.setMbPair_qm (s : State) (k : Nat) (p : MbPair) : (s.setMbPair k p).qm = s.qm := rfl
@[simp] theorem State.setMbPair_lg (s : State) (k : Nat) (p : MbPair) : (s.setMbPair k p).lg = s.lg := rfl
@[simp] theorem State.setMbPair_fr (s : State) (k : Nat) (p : MbPair) : (s.setMbPair k p).fr = s.fr := rfl
@[simp] theorem State.setMbPair_parser (s : State) (k : Nat) (p : MbPair) : (s.setMbPair k p).parser = s.parser := rfl
@[simp] theorem State.setMbPair_cl (s : State) (k : Nat) (p : MbPair) : (s.setMbPair k p).cl = s.cl := rfl
@[simp] theorem State.setMbPair_lk (s : State) (k : Nat) (p : MbPair) : (s.setMbPair k p).lk = s.lk := rfl
@[simp] theorem State.setMbPair_tm (s : State) (k : Nat) (p : MbPair) : (s.setMbPair k p).tm = s.tm := rfl
@[simp] theorem State.setMbPair_cx (s : State) (k : Nat) (p : MbPair) : (s.setMbPair k p).cx = s.cx := rfl
@[simp] theorem State.setMbPair_dp (s : State) (k : Nat) (p : MbPair) : (s.setMbPair k p).dp = s.dp := rfl
@[simp] theorem State.setMbPair_dr (s : State) (k : Nat) (p : MbPair) : (s.setMbPair k p).dr = s.dr := rfl
@[simp] theorem State.setMbPair_cv (s : State) (k : Nat) (p : MbPair) : (s.setMbPair k p).cv = s.cv := rfl
@[simp] theorem State.setMbPair_np (s : State) (k : Nat) (p : MbPair) : (s.setMbPair k p).np = s.np := rfl
@[simp] theorem State.setMbPair_eng (s : State) (k : Nat) (p : MbPair) : (s.setMbPair k p).eng = s.eng := rfl
@[simp] theorem State.setMbPair_mv (s : State) (k : Nat) (p : MbPair) : (s.setMbPair k p).mv = s.mv := rfl
@[simp] theorem State.setMbPair_tally (s : State) (k : Nat) (p : MbPair) : (s.setMbPair k p).tally = s.tally := rfl
@[simp] theorem State.setMbPair_pwr (s : State) (k : Nat) (p : MbPair) : (s.setMbPair k p).pwr = s.pwr := rfl
@[simp] theorem State.setMbPair_dram (s : State) (k : Nat) (p : MbPair) : (s.setMbPair k p).dram = s.dram := rfl
@[simp] theorem State.setMbPair_causes (s : State) (k : Nat) (p : MbPair) : (s.setMbPair k p).causes = s.causes := rfl
@[simp] theorem State.setMbPair_pins (s : State) (k : Nat) (p : MbPair) : (s.setMbPair k p).pins = s.pins := rfl
@[simp] theorem State.setMbPair_now (s : State) (k : Nat) (p : MbPair) : (s.setMbPair k p).now = s.now := rfl
@[simp] theorem State.setMbPair_out (s : State) (k : Nat) (p : MbPair) : (s.setMbPair k p).out = s.out := rfl
@[simp] theorem State.setMbPair_free (s : State) (k : Nat) (p : MbPair) : (s.setMbPair k p).free = s.free := rfl
@[simp] theorem State.setMbPair_pending (s : State) (k : Nat) (p : MbPair) : (s.setMbPair k p).pending = s.pending := rfl

@[simp] theorem State.setSealUnit_regs (s : State) (u : Nat) (x : SealUnit) : (s.setSealUnit u x).regs = s.regs := rfl
@[simp] theorem State.setSealUnit_wb (s : State) (u : Nat) (x : SealUnit) : (s.setSealUnit u x).wb = s.wb := rfl
@[simp] theorem State.setSealUnit_own (s : State) (u : Nat) (x : SealUnit) : (s.setSealUnit u x).own = s.own := rfl
@[simp] theorem State.setSealUnit_guards (s : State) (u : Nat) (x : SealUnit) : (s.setSealUnit u x).guards = s.guards := rfl
@[simp] theorem State.setSealUnit_host (s : State) (u : Nat) (x : SealUnit) : (s.setSealUnit u x).host = s.host := rfl
@[simp] theorem State.setSealUnit_qm (s : State) (u : Nat) (x : SealUnit) : (s.setSealUnit u x).qm = s.qm := rfl
@[simp] theorem State.setSealUnit_lg (s : State) (u : Nat) (x : SealUnit) : (s.setSealUnit u x).lg = s.lg := rfl
@[simp] theorem State.setSealUnit_fr (s : State) (u : Nat) (x : SealUnit) : (s.setSealUnit u x).fr = s.fr := rfl
@[simp] theorem State.setSealUnit_parser (s : State) (u : Nat) (x : SealUnit) : (s.setSealUnit u x).parser = s.parser := rfl
@[simp] theorem State.setSealUnit_cl (s : State) (u : Nat) (x : SealUnit) : (s.setSealUnit u x).cl = s.cl := rfl
@[simp] theorem State.setSealUnit_lk (s : State) (u : Nat) (x : SealUnit) : (s.setSealUnit u x).lk = s.lk := rfl
@[simp] theorem State.setSealUnit_tm (s : State) (u : Nat) (x : SealUnit) : (s.setSealUnit u x).tm = s.tm := rfl
@[simp] theorem State.setSealUnit_cx (s : State) (u : Nat) (x : SealUnit) : (s.setSealUnit u x).cx = s.cx := rfl
@[simp] theorem State.setSealUnit_dp (s : State) (u : Nat) (x : SealUnit) : (s.setSealUnit u x).dp = s.dp := rfl
@[simp] theorem State.setSealUnit_dr (s : State) (u : Nat) (x : SealUnit) : (s.setSealUnit u x).dr = s.dr := rfl
@[simp] theorem State.setSealUnit_cv (s : State) (u : Nat) (x : SealUnit) : (s.setSealUnit u x).cv = s.cv := rfl
@[simp] theorem State.setSealUnit_np (s : State) (u : Nat) (x : SealUnit) : (s.setSealUnit u x).np = s.np := rfl
@[simp] theorem State.setSealUnit_eng (s : State) (u : Nat) (x : SealUnit) : (s.setSealUnit u x).eng = s.eng := rfl
@[simp] theorem State.setSealUnit_mv (s : State) (u : Nat) (x : SealUnit) : (s.setSealUnit u x).mv = s.mv := rfl
@[simp] theorem State.setSealUnit_mb (s : State) (u : Nat) (x : SealUnit) : (s.setSealUnit u x).mb = s.mb := rfl
@[simp] theorem State.setSealUnit_tally (s : State) (u : Nat) (x : SealUnit) : (s.setSealUnit u x).tally = s.tally := rfl
@[simp] theorem State.setSealUnit_pwr (s : State) (u : Nat) (x : SealUnit) : (s.setSealUnit u x).pwr = s.pwr := rfl
@[simp] theorem State.setSealUnit_dram (s : State) (u : Nat) (x : SealUnit) : (s.setSealUnit u x).dram = s.dram := rfl
@[simp] theorem State.setSealUnit_causes (s : State) (u : Nat) (x : SealUnit) : (s.setSealUnit u x).causes = s.causes := rfl
@[simp] theorem State.setSealUnit_pins (s : State) (u : Nat) (x : SealUnit) : (s.setSealUnit u x).pins = s.pins := rfl
@[simp] theorem State.setSealUnit_now (s : State) (u : Nat) (x : SealUnit) : (s.setSealUnit u x).now = s.now := rfl
@[simp] theorem State.setSealUnit_out (s : State) (u : Nat) (x : SealUnit) : (s.setSealUnit u x).out = s.out := rfl
@[simp] theorem State.setSealUnit_free (s : State) (u : Nat) (x : SealUnit) : (s.setSealUnit u x).free = s.free := rfl
@[simp] theorem State.setSealUnit_pending (s : State) (u : Nat) (x : SealUnit) : (s.setSealUnit u x).pending = s.pending := rfl

@[simp] theorem State.disarm_regs (s : State) (u : Nat) : (s.disarm u).regs = s.regs := rfl
@[simp] theorem State.disarm_wb (s : State) (u : Nat) : (s.disarm u).wb = s.wb := rfl
@[simp] theorem State.disarm_own (s : State) (u : Nat) : (s.disarm u).own = s.own := rfl
@[simp] theorem State.disarm_sealSt (s : State) (u : Nat) : (s.disarm u).sealSt = s.sealSt := rfl
@[simp] theorem State.disarm_host (s : State) (u : Nat) : (s.disarm u).host = s.host := rfl
@[simp] theorem State.disarm_qm (s : State) (u : Nat) : (s.disarm u).qm = s.qm := rfl
@[simp] theorem State.disarm_lg (s : State) (u : Nat) : (s.disarm u).lg = s.lg := rfl
@[simp] theorem State.disarm_fr (s : State) (u : Nat) : (s.disarm u).fr = s.fr := rfl
@[simp] theorem State.disarm_parser (s : State) (u : Nat) : (s.disarm u).parser = s.parser := rfl
@[simp] theorem State.disarm_cl (s : State) (u : Nat) : (s.disarm u).cl = s.cl := rfl
@[simp] theorem State.disarm_lk (s : State) (u : Nat) : (s.disarm u).lk = s.lk := rfl
@[simp] theorem State.disarm_tm (s : State) (u : Nat) : (s.disarm u).tm = s.tm := rfl
@[simp] theorem State.disarm_cx (s : State) (u : Nat) : (s.disarm u).cx = s.cx := rfl
@[simp] theorem State.disarm_dp (s : State) (u : Nat) : (s.disarm u).dp = s.dp := rfl
@[simp] theorem State.disarm_dr (s : State) (u : Nat) : (s.disarm u).dr = s.dr := rfl
@[simp] theorem State.disarm_cv (s : State) (u : Nat) : (s.disarm u).cv = s.cv := rfl
@[simp] theorem State.disarm_np (s : State) (u : Nat) : (s.disarm u).np = s.np := rfl
@[simp] theorem State.disarm_eng (s : State) (u : Nat) : (s.disarm u).eng = s.eng := rfl
@[simp] theorem State.disarm_mv (s : State) (u : Nat) : (s.disarm u).mv = s.mv := rfl
@[simp] theorem State.disarm_mb (s : State) (u : Nat) : (s.disarm u).mb = s.mb := rfl
@[simp] theorem State.disarm_tally (s : State) (u : Nat) : (s.disarm u).tally = s.tally := rfl
@[simp] theorem State.disarm_pwr (s : State) (u : Nat) : (s.disarm u).pwr = s.pwr := rfl
@[simp] theorem State.disarm_dram (s : State) (u : Nat) : (s.disarm u).dram = s.dram := rfl
@[simp] theorem State.disarm_causes (s : State) (u : Nat) : (s.disarm u).causes = s.causes := rfl
@[simp] theorem State.disarm_pins (s : State) (u : Nat) : (s.disarm u).pins = s.pins := rfl
@[simp] theorem State.disarm_now (s : State) (u : Nat) : (s.disarm u).now = s.now := rfl
@[simp] theorem State.disarm_out (s : State) (u : Nat) : (s.disarm u).out = s.out := rfl
@[simp] theorem State.disarm_free (s : State) (u : Nat) : (s.disarm u).free = s.free := rfl
@[simp] theorem State.disarm_pending (s : State) (u : Nat) : (s.disarm u).pending = s.pending := rfl

/-- What setFn stores is read back. -/
@[simp] theorem State.fn_setFn_self (s : State) (n : Nat) (f : Fn) : (s.setFn n f).fn n = f := by
  simp [State.fn, State.setFn]

/-- What setRing stores is read back. -/
@[simp] theorem State.ring_setRing_self (s : State) (n : Nat) (r : RingDyn) : (s.setRing n r).ring n = r := by
  simp [State.ring, State.setRing]

/-- What setCluster stores is read back. -/
@[simp] theorem State.cluster_setCluster_self (s : State) (c : Nat) (x : Cluster) : (s.setCluster c x).cluster c = x := by
  simp [State.cluster, State.setCluster]

/-- What setEngine stores is read back. -/
@[simp] theorem State.engine_setEngine_self (s : State) (e : Nat) (x : Engine) : (s.setEngine e x).engine e = x := by
  simp [State.engine, State.setEngine]

/-- What setHart stores is read back. -/
@[simp] theorem State.hart_setHart_self (s : State) (h : Nat) (x : Hart) : (s.setHart h x).hart h = x := by
  simp [State.hart, State.setHart]

/-- What setChan stores is read back. -/
@[simp] theorem State.chan_setChan_self (s : State) (c : Nat) (x : DramChan) : (s.setChan c x).chan c = x := by
  simp [State.chan, State.setChan]

/-- What setDrive stores is read back. -/
@[simp] theorem State.drive_setDrive_self (s : State) (p : Nat) (d : Drive) : (s.setDrive p d).drive p = d := by
  simp [State.drive, State.setDrive]

/-- What setTgt stores is read back. -/
@[simp] theorem State.tgt_setTgt_self (s : State) (t : Nat) (x : Target) : (s.setTgt t x).tgt t = x := by
  simp [State.tgt, State.setTgt]

/-- What setMbPair stores is read back. -/
@[simp] theorem State.mbPair_setMbPair_self (s : State) (k : Nat) (p : MbPair) : (s.setMbPair k p).mbPair k = p := by
  simp [State.mbPair, State.setMbPair]

/-- What setMvChan stores is read back. -/
@[simp] theorem State.mvChan_setMvChan_self (s : State) (c : Nat) (x : MvChan) : (s.setMvChan c x).mvChan c = x := by
  simp [State.mvChan, State.setMvChan]

/-- A message vector changes only the functions' vector state and what leaves the block. -/
theorem State.signal_frame (s : State) (fn v : Nat) :
    s.signal fn v = { s with host := (s.signal fn v).host, out := (s.signal fn v).out } := by
  unfold State.signal State.sendMsix State.setLink State.emit State.setFn
  dsimp only
  split_ifs <;> rfl

/-- A reply written into a ring changes WB_RSP_PROD, the functions' vector state and what leaves the block. -/
theorem State.writeReply_frame (s : State) (fn : Nat) (b : List Byte) :
    s.writeReply fn b =
      { s with regs := (s.writeReply fn b).regs, host := (s.writeReply fn b).host, out := (s.writeReply fn b).out } ∧
    ∀ x, x ≠ wbBase fn + 0x20 → (s.writeReply fn b).reg x = s.reg x := by
  unfold State.writeReply
  dsimp only
  split
  · exact ⟨rfl, fun _ _ => rfl⟩
  · generalize hs2 : (if (_ : Nat) < _ then (_ : State) else (_ : State)) = s2
    have e2 : s2 = { s with out := s2.out } := by subst hs2; unfold State.emit; split_ifs <;> rfl
    refine ⟨?_, ?_⟩
    · rw [State.signal_frame, e2]; rfl
    · intro x hx
      rw [State.signal_frame]
      show (State.setRegN s2 _ _).reg x = _
      rw [State.setRegN, State.reg_setReg_ne _ _ hx, e2]; rfl

/-- Giving a ring reservation back changes the rings' state alone. -/
theorem State.unreserve_frame (s : State) (i : Instance) (n : Nat) :
    s.unreserve i n = { s with wb := { s.wb with rings := (s.unreserve i n).wb.rings } } := by
  cases i <;> rfl

/-- What follows a member's final reply changes the chains alone. -/
theorem State.chainFinal_frame (s : State) (i : Instance) (b : Bool) (tag : Half) (st : Status) :
    s.chainFinal i b tag st = { s with wb := { s.wb with chains := (s.chainFinal i b tag st).wb.chains } } := by
  unfold State.chainFinal
  split
  · rfl
  · split_ifs <;> rfl


end Sys2Proof.Machine
end

