-- ==== Sys2Proof/Laws/Wb.lean ====
section
/-!
SUPPORT. What the waybill framework does with an accepted waybill: the one place where runWb and carryOut are unfolded.
-/

namespace Sys2Proof.Machine

open Sys2Proof

/-- Reserving reply slots leaves the registers as they are. -/
@[simp] theorem State.reserve_regs (s : State) (i : Instance) (n : Nat) : (s.reserve i n).regs = s.regs := by
  cases i <;> rfl

/-- What an opcode reserves does not depend on earlier reservations. -/
@[simp] theorem reservation_reserve (s : State) (i j : Instance) (n k : Nat) (b : Bool) :
    reservation (s.reserve i n) j k b = reservation s j k b := by
  cases j <;> simp [reservation, State.regN, State.reg]

/-- A waybill that starts is carried out. -/
theorem runWb_starts {m : OpMeta} {w : Waybill} {s x : State} {c i : Bool} (body : WbBody)
    (h : starts m w s = some (x, c, i)) : runWb m body w s = carryOut m body w c i x := by
  unfold starts at h
  unfold runWb
  simp only at h ⊢
  generalize s.noteBmc w.inst = s at h ⊢
  cases hf : s.fwServes with
  | true =>
    simp only [hf, Bool.not_true, Bool.false_eq_true, if_false] at h ⊢
    generalize hb : ((effCls m s w == .d) && dExcluded s (derivedIssuer w.inst) || heldBySame m s w) = b at h ⊢
    cases b with
    | true => simp at h
    | false =>
      simp only [Bool.false_eq_true, if_false] at h ⊢
      cases hc : s.chainOf w.inst with
      | none =>
        simp only [hc] at h ⊢
        cases hw : w.chain <;> simp only [hw, Bool.false_eq_true, if_false, if_true] at h ⊢ <;>
          (obtain ⟨rfl, rfl, rfl⟩ : _ ∧ _ ∧ _ := by simpa using h) <;> rfl
      | some ch =>
        simp only [hc] at h ⊢
        cases hd : ch.st with
        | next dl =>
          simp only [hd] at h ⊢
          split at h
          · cases h
          · rename_i hn
            obtain ⟨h1, h2⟩ := not_or.mp hn
            obtain ⟨rfl, rfl, rfl⟩ : _ ∧ _ ∧ _ := by simpa using h
            simp only [h1, h2, if_false]
        | member => simp [hd] at h
        | late => simp [hd] at h
        | failed _ _ => simp [hd] at h
  | false =>
    simp only [hf, Bool.not_false, if_true] at h ⊢
    split at h
    · rename_i ha
      obtain ⟨rfl, rfl, rfl⟩ : _ ∧ _ ∧ _ := by simpa using h
      rw [Bool.and_eq_true] at ha
      simp only [ha.1, aocRun, ha.2, if_true]
    · cases h

/-- An accepted waybill runs its opcode. -/
theorem runWb_accepted {m : OpMeta} {w : Waybill} {s u : State} {c i : Bool} (body : WbBody)
    (h : accepted m w s = some (u, c, i)) :
    runWb m body w s =
      match body w u with
      | .done st res t => t.finalReply w.inst w.mtag m.opcode w.flags w.tag m.cls (slotsOf m w u) c st res
      | .pend wait limit obj t =>
        if 64 ≤ u.pendCount w.inst then u.finalReply w.inst w.mtag m.opcode w.flags w.tag m.cls (slotsOf m w u) c .busy []
        else
          let t1 := if interimOff m w i then t
            else (t.unreserve w.inst 1).sendReply w.inst w.mtag
              (replyBytes m.opcode 0 0 w.tag.toNat Status.pending.code 0 (t.scopeEpoch w.inst w.flags) []) false
          { t1 with wb := { t1.wb with pend := t1.wb.pend ++ [
            { inst := w.inst, opcode := BitVec.ofNat 16 m.opcode, tag := w.tag, flags := w.flags,
              issuer := word (derivedIssuer w.inst), cls := effCls m u w, obj := obj, mtag := w.mtag, chain := c,
              slots := if interimOff m w i then slotsOf m w u else slotsOf m w u - 1, deadline := t1.now + limit,
              wait := wait }] } } := by
  unfold accepted begins at h
  cases hs : starts m w s with
  | none => simp [hs] at h
  | some x =>
    obtain ⟨x, c', i'⟩ := x
    simp only [hs, Option.map_some] at h
    split at h
    · rename_i hc
      obtain ⟨rfl, rfl, rfl⟩ : _ ∧ _ ∧ _ := by simpa using h
      rw [runWb_starts body hs]
      unfold carryOut
      simp only [slotsOf, reservation_reserve] at hc ⊢
      rw [hc]
      simp only [interimOff]
      cases body w (x.reserve w.inst (reservation x w.inst m.maxRes m.canPend)) <;> rfl
    · cases h

/-- A command whose meaning is a waybill with this body, which completes. -/
theorem carries_of_done {k : Waybill → Instr} {m : OpMeta} {body : WbBody} {w : Waybill} {u t : State} {st : Status}
    {res : List Byte} (hk : ∀ s, exec (k w) s = waybillCmd m body w s) (hb : body w u = .done st res t) :
    Carries k m w u st res t := by
  intro s c i h
  rw [hk, waybillCmd, finish, runWb_accepted body h, hb]
  rfl

/-- A command whose meaning is a waybill with this body, which becomes PENDING. -/
theorem pends_of_pend {k : Waybill → Instr} {m : OpMeta} {body : WbBody} {w : Waybill} {u t : State} {wait : Wait}
    {limit : Nat} {obj : Option Obj} (hk : ∀ s, exec (k w) s = waybillCmd m body w s)
    (hb : body w u = .pend wait limit obj t) : Pends k m w u wait limit obj t := by
  intro s c i h hp
  rw [hk, waybillCmd, finish, runWb_accepted body h, hb]
  simp only [Nat.not_le.mpr hp, if_false]
  rfl

end Sys2Proof.Machine
end

