-- ==== Sys2Proof/WellFormed.lean ====
section
/-!
DEFINITION. Well-formed commands: operands within the ranges the spec gives their numbers. Every meaning is total, so a command that is
not well formed has a meaning too; well-formedness says which commands the spec's numbering can name.
-/

namespace Sys2Proof

/-- A number below n. -/
def lt (n k : Nat) : Bool := decide (k < n)

/-- A function: PF0 of either link or a flask (04 R133). -/
def okFn (fn : Nat) : Bool := decide (fn ≤ 4096)

/-- A flask, 1-4095 (04 R133). -/
def okFlask (f : Nat) : Bool := decide (1 ≤ f) && decide (f < 4096)

/-- A mailbox pair, 0-63, or 64 + f for the mailbox of flask f (14 R483). -/
def okPair (key : Nat) : Bool := decide (key < 64) || okFlask (key - 64)

/-- At most n elements. -/
def okLen {α : Type} (n : Nat) (l : List α) : Bool := decide (l.length ≤ n)

/-- An access of 4 or 8 bytes (03 R98). -/
def okAccess (n : Nat) : Bool := n == 4 || n == 8

/-- An offset of PF0 BAR0 (64 MiB, 03 R94). -/
def okReg (a : Nat) : Bool := decide (a < 2 ^ 26)

/-- A transport instance that can exist (02 R60). -/
def Instance.wf : Instance → Bool
  | .ring fn => okFn fn
  | .mailbox p => decide (32 ≤ p) && lt 64 p
  | .flaskMailbox f => okFlask f
  | .mctp b e => lt 3 b && lt 256 e
  | .caravan p => lt 4 p
  | .jtag => true

/-- A waybill: at most 4,080 parameter bytes, an MCTP tag of 3 bits (02 R47, R67). -/
def Waybill.wf (w : Waybill) : Bool := Instance.wf w.inst && okLen 4080 w.params && lt 8 w.mtag

/-- Who makes a register access (03 R100). -/
def Src.wf : Src → Bool
  | .pf0 l => lt 2 l
  | .flask f => okFlask f
  | .debugger | .aoc => true

/-- An MCTP packet's fields (02 R67). -/
def McPacket.wf (p : McPacket) : Bool := lt 3 p.binding && lt 256 p.srcEid && lt 4 p.pktSeq && lt 8 p.tag && okLen 64 p.payload

/-- An MCTP control request's fields (02 R68). -/
def McRequest.wf (r : McRequest) : Bool := lt 3 r.binding && lt 256 r.srcEid && lt 8 r.tag && lt 32 r.instId

/-- A mailbox user (14 R483, R487). -/
def MbUser.wf : MbUser → Bool
  | .host src => Src.wf src
  | .thread h => lt 2048 h
  | .core n => lt 5 n

/-- A DRAM request: class 1-6, a line of the 256 GiB, 64 bytes (16 R526, R529). -/
def DramReq.wf (q : DramReq) : Bool :=
  decide (1 ≤ q.cls) && lt 7 q.cls && lt (2 ^ 32) q.line && (match q.wr with | none => true | some d => d.length == 64)

/-- A channel's population (16 R522). -/
def DramPop.wf (p : DramPop) : Bool := lt 6 p.speed && lt 4 p.density && lt 5 p.ranks && p.failed.all (lt 4)

/-- What an IDENT flit can carry (17 R550). -/
def IdentInfo.wf (i : IdentInfo) : Bool :=
  lt 65536 i.vendor && lt 65536 i.device && lt (2 ^ 64) i.serial && lt 4 i.id && lt 2 i.port && lt 5 i.size && lt (2 ^ 32) i.epoch

/-- A namespace's numbers (15 R511). -/
def NsInfo.wf (n : NsInfo) : Bool := lt (2 ^ 32) n.nsid && lt (2 ^ 64) n.size && okLen 16 n.nguid

/-- A start step's results (15 R505). -/
def DrvStep.wf : DrvStep → Bool
  | .powerGood | .ready => true
  | .linkUp s w => lt 7 s && lt 5 w
  | .waited c => lt 256 c
  | .identified sn mn ns => okLen 20 sn && okLen 40 mn && ns.all NsInfo.wf

/-- Where a completion comes from (15 R506, R516). -/
def NvmeFrom.wf : NvmeFrom → Bool
  | .io p | .admin p => lt 4 p
  | .target t => lt 64 t

/-- A target's answers (15 R516). -/
def TgtInfo.wf (i : TgtInfo) : Bool := lt 17 i.conns && lt 4 i.digests && lt (2 ^ 32) i.maxH2c && i.ns.all NsInfo.wf

/-- What a host read was for (13 R463, 15 R514, 02 R63). -/
def HostReadWho.wf : HostReadWho → Bool
  | .mover c => lt 128 c
  | .block q i => lt 65536 q && lt 65536 i
  | .ring fn => okFn fn

/-- Well-formed commands. -/
def Instr.wf : Instr → Bool
  | .waybillStart inst => Instance.wf inst
  | .undefinedOpcode _ w => Waybill.wf w
  | .wbReqProd fn _ => okFn fn
  | .wbRspCons fn _ => okFn fn
  | .wbReqCtrl fn _ => okFn fn
  | .wbRspCtrl fn _ => okFn fn
  | .chainMemberTimeout inst => Instance.wf inst
  | .pendingTimeout inst _ => Instance.wf inst
  | .electionWindowClose => true
  | .heartbeatDeadline => true
  | .hbKick src _ => Src.wf src
  | .ownOverride src _ => Src.wf src
  | .mctpPacket p => McPacket.wf p
  | .mctpReassemblyTimeout binding eid tag => lt 3 binding && lt 256 eid && lt 8 tag
  | .setEndpointId r => McRequest.wf r
  | .getEndpointId r => McRequest.wf r
  | .getEndpointUuid r => McRequest.wf r
  | .getMctpVersionSupport r => McRequest.wf r
  | .getMessageTypeSupport r => McRequest.wf r
  | .getVendorDefinedMessageSupport r => McRequest.wf r
  | .unsupportedControlCommand r _ => McRequest.wf r
  | .aocForwardTimeout => true
  | .devInfo w => Waybill.wf w
  | .claim w => Waybill.wf w
  | .release w => Waybill.wf w
  | .grant w => Waybill.wf w
  | .heartbeat w => Waybill.wf w
  | .ownerQuery w => Waybill.wf w
  | .setHeartbeat w => Waybill.wf w
  | .revoke w => Waybill.wf w
  | .sealCommit w => Waybill.wf w
  | .sealQuery w => Waybill.wf w
  | .echo w => Waybill.wf w
  | .sealSweep unit => lt 55 unit
  | .statusClear src addr _ => Src.wf src && okReg addr
  | .registerWrite src addr len _ => Src.wf src && okReg addr && okAccess len
  | .accessError src _ addr _ _ => Src.wf src && lt (2 ^ 64) addr
  | .domainOffAccess src _ addr _ => Src.wf src && lt (2 ^ 64) addr
  | .guardValueWrite src addr _ => Src.wf src && okReg addr
  | .guardWindowExpiry unit => lt 55 unit
  | .complementWithoutGuard src addr _ => Src.wf src && okReg addr
  | .rstCtrlDevice src _ => Src.wf src
  | .rstCtrlUnit src _ => Src.wf src
  | .pdOff src _ _ => Src.wf src
  | .revokeKey src _ => Src.wf src
  | .raiseSvn src _ => Src.wf src
  | .debugLock src _ => Src.wf src
  | .fuseProgramDone => true
  | .ksZeroize src _ => Src.wf src
  | .ksZeroizeAll src _ => Src.wf src
  | .mbLockFree src _ => Src.wf src
  | .rsvForce src _ => Src.wf src
  | .rsvForceRestore src _ => Src.wf src
  | .peek src _ => Src.wf src
  | .flr fn => okFn fn
  | .flaskResetDone fn => okFn fn
  | .hostReadError fn cause _ _ _ addr => okFn fn && decide (1 ≤ cause) && lt (2 ^ 64) addr
  | .flaskCtrlRelease f => okFlask f
  | .msixVectorUnmask fn v => okFn fn && lt 2048 v
  | .msixEnable fn _ => okFn fn
  | .intxAck link v => lt 2 link && lt 2048 v
  | .hostLinkUp link speed width _ => lt 2 link && lt 7 speed && lt 17 width
  | .hotReset link => lt 2 link
  | .hostLinkDown link => lt 2 link
  | .perstN _ bootSel convoyId _ => lt 4 bootSel && lt 4 convoyId
  | .perst1N _ => true
  | .vfEnableSet link numVFs => lt 2 link && lt 4096 numVFs
  | .vfEnableClear link => lt 2 link
  | .functionServiceStop fn _ => okFn fn
  | .functionServiceResume fn => okFn fn
  | .vfBar2SizeWrite link size => lt 2 link && lt 64 size
  | .bar2Access src _ off _ _ => Src.wf src && lt (2 ^ 32) off
  | .flaskQuery w => Waybill.wf w
  | .flaskCreate w => Waybill.wf w
  | .flaskDestroy w => Waybill.wf w
  | .flaskSetQuota w => Waybill.wf w
  | .flaskReset w => Waybill.wf w
  | .flaskRelease w => Waybill.wf w
  | .flaskContain w => Waybill.wf w
  | .flaskList w => Waybill.wf w
  | .linkQuery w => Waybill.wf w
  | .wqDoorbell src slot len _ => Src.wf src && lt 4096 slot && okAccess len
  | .cqDoorbell src slot len _ => Src.wf src && lt 4096 slot && okAccess len
  | .fetch => true
  | .fetchReturn q _ => lt 65536 q
  | .acceptCommit q => lt 65536 q
  | .payloadReadReturn q idx _ => lt 65536 q && lt 65536 idx
  | .fragmentTableReturn q idx _ => lt 65536 q && lt 65536 idx
  | .completionCommit q idx => lt 65536 q && lt 65536 idx
  | .completionWrite q => lt 65536 q
  | .moderationTimer c => lt 65536 c
  | .rxPrefetch q => lt 65536 q
  | .rxDeliveryCheck q => lt 65536 q
  | .rxHoldExpiry q => lt 65536 q
  | .nop q idx => lt 65536 q && lt 65536 idx
  | .send q idx => lt 65536 q && lt 65536 idx
  | .recv q idx => lt 65536 q && lt 65536 idx
  | .blkRead q idx => lt 65536 q && lt 65536 idx
  | .blkWrite q idx => lt 65536 q && lt 65536 idx
  | .blkFlush q idx => lt 65536 q && lt 65536 idx
  | .blkDeallocate q idx => lt 65536 q && lt 65536 idx
  | .blkWriteZeroes q idx => lt 65536 q && lt 65536 idx
  | .wqCreate w => Waybill.wf w
  | .wqDestroy w => Waybill.wf w
  | .wqModify w => Waybill.wf w
  | .wqPause w => Waybill.wf w
  | .wqPauseDone q => lt 65536 q
  | .wqResume w => Waybill.wf w
  | .wqResize w => Waybill.wf w
  | .wqShutdown w => Waybill.wf w
  | .wqShutdownDone q => lt 65536 q
  | .wqQuery w => Waybill.wf w
  | .cqCreate w => Waybill.wf w
  | .cqDestroy w => Waybill.wf w
  | .cqModify w => Waybill.wf w
  | .cqQuery w => Waybill.wf w
  | .qmSetParams w => Waybill.wf w
  | .mirrorRowError _ row _ => lt 65536 row
  | .rowRepairDone _ row => lt 65536 row
  | .doubleFault q _ => lt 65536 q
  | .halfLost _ => true
  | .fallbackCopyDone => true
  | .halfDomainReturn _ => true
  | .halfRestoreDone _ => true
  | .frameReceived port _ bytes _ => lt 8 port && okLen 16384 bytes
  | .macsecReceive _ => true
  | .parsePass _ _ => true
  | .parseExceptionDelivery => true
  | .classifierExceptionDelivery => true
  | .bankLockTimeout _ => true
  | .engineTimeout _ => true
  | .parseGraphLoad w => Waybill.wf w
  | .parseGraphActivate w => Waybill.wf w
  | .parseGraphRead w => Waybill.wf w
  | .parseSetDepth w => Waybill.wf w
  | .parseSetExc w => Waybill.wf w
  | .parseSetGeneve w => Waybill.wf w
  | .parseQuery w => Waybill.wf w
  | .parseTest w => Waybill.wf w
  | .clQuery w => Waybill.wf w
  | .groupSet w => Waybill.wf w
  | .groupRead w => Waybill.wf w
  | .tollAlloc w => Waybill.wf w
  | .tollFree w => Waybill.wf w
  | .tollQuery w => Waybill.wf w
  | .actionSet w => Waybill.wf w
  | .actionRead w => Waybill.wf w
  | .ruleAdd w => Waybill.wf w
  | .ruleDelete w => Waybill.wf w
  | .ruleModify w => Waybill.wf w
  | .ruleQuery w => Waybill.wf w
  | .clSetParams w => Waybill.wf w
  | .engineSetDefine w => Waybill.wf w
  | .mirrorSet w => Waybill.wf w
  | .templateSet w => Waybill.wf w
  | .clTest w => Waybill.wf w
  | .clClear w => Waybill.wf w
  | .clClearDone => true
  | .insert port => lt 2 port
  | .update port => lt 2 port
  | .replace port => lt 2 port
  | .delete port => lt 2 port
  | .read port => lt 2 port
  | .readAt port => lt 2 port
  | .clearAt port => lt 2 port
  | .lookupDramRead _ _ => true
  | .copierStep t => lt 64 t
  | .tblFlipDone t => lt 64 t
  | .tableBulkDone t => lt 64 t
  | .learnInsert => true
  | .ageSweep t => lt 64 t
  | .tblQuery w => Waybill.wf w
  | .tblCreate w => Waybill.wf w
  | .tblDestroy w => Waybill.wf w
  | .tblInsert w => Waybill.wf w
  | .tblUpdate w => Waybill.wf w
  | .tblReplace w => Waybill.wf w
  | .tblDelete w => Waybill.wf w
  | .tblRead w => Waybill.wf w
  | .tblWalk w => Waybill.wf w
  | .tblRehash w => Waybill.wf w
  | .tblFlip w => Waybill.wf w
  | .tblRehashCancel w => Waybill.wf w
  | .tblFlush w => Waybill.wf w
  | .tblSetParams w => Waybill.wf w
  | .lookupProfileSet w => Waybill.wf w
  | .learnProfileSet w => Waybill.wf w
  | .lkSetParams w => Waybill.wf w
  | .lkTest w => Waybill.wf w
  | .tmEnqueue _ => true
  | .tmDeparture port => lt 12 port
  | .spillReadback _ => true
  | .tmSample q => lt 65536 q
  | .sampleFrameTimer q => lt 65536 q
  | .tmqDestroyDone q => lt 65536 q
  | .tmQuery w => Waybill.wf w
  | .tmqCreate w => Waybill.wf w
  | .tmqDestroy w => Waybill.wf w
  | .tmqModify w => Waybill.wf w
  | .tmqQuery w => Waybill.wf w
  | .nodeCreate w => Waybill.wf w
  | .nodeDestroy w => Waybill.wf w
  | .nodeModify w => Waybill.wf w
  | .classSet w => Waybill.wf w
  | .portSet w => Waybill.wf w
  | .policerSet w => Waybill.wf w
  | .policerQuery w => Waybill.wf w
  | .tmSetBuffer w => Waybill.wf w
  | .segmentDispatch complex lane => lt 2 complex && lt 32 lane
  | .segmentDone complex lane => lt 2 complex && lt 32 lane
  | .blockParityError complex lane stage _ => lt 2 complex && lt 32 lane && lt 16 stage
  | .reserveLaneReady complex _ => lt 2 complex
  | .cmReseed complex => lt 2 complex
  | .drbgReseed => true
  | .healthTestFail test => lt 3 test
  | .restartAttemptEnd _ => true
  | .keyDrainDone slot => lt 16384 slot
  | .keyEccError slot _ => lt 16384 slot
  | .cxQuery w => Waybill.wf w
  | .keyAlloc w => Waybill.wf w
  | .keyLoad w => Waybill.wf w
  | .keyUpdate w => Waybill.wf w
  | .keyFree w => Waybill.wf w
  | .keyZeroize w => Waybill.wf w
  | .keyQuery w => Waybill.wf w
  | .tlsResync w => Waybill.wf w
  | .macsecRxscSet w => Waybill.wf w
  | .cxSetParams w => Waybill.wf w
  | .cxKat w => Waybill.wf w
  | .rngGet w => Waybill.wf w
  | .rngQuery w => Waybill.wf w
  | .rngSetParams w => Waybill.wf w
  | .rngRestart w => Waybill.wf w
  | .threadDispatch hart => lt 2048 hart
  | .timerCompare hart => lt 2048 hart
  | .runLimitExpiry hart => lt 2048 hart
  | .eventLineEdge cluster line => lt 32 cluster && lt 32 line
  | .workerFault hart cause sub tval => lt 2048 hart && lt 256 cause && lt 256 sub && lt (2 ^ 64) tval
  | .sampleOverflow hart counter pc truePc => lt 2048 hart && lt 16 counter && lt (2 ^ 64) pc && lt (2 ^ 64) truePc
  | .lrReservationExpiry hart => lt 2048 hart
  | .engineHardwareFault cluster phys cause _ _ => lt 32 cluster && lt 9 phys && lt 256 cause
  | .supervisorFault engine cause sub tval => lt 256 engine && lt 256 cause && lt 256 sub && lt (2 ^ 64) tval
  | .supervisorAutoRestart engine => lt 256 engine
  | .exchangeKillTimeout cluster => lt 32 cluster
  | .hdrLdB hart => lt 2048 hart
  | .hdrLdH hart => lt 2048 hart
  | .hdrLdW hart => lt 2048 hart
  | .hdrLdD hart => lt 2048 hart
  | .hdrStB hart => lt 2048 hart
  | .hdrStH hart => lt 2048 hart
  | .hdrStW hart => lt 2048 hart
  | .hdrStD hart => lt 2048 hart
  | .pktRd hart => lt 2048 hart
  | .pktWr hart => lt 2048 hart
  | .pktAdj hart => lt 2048 hart
  | .metaRd hart => lt 2048 hart
  | .metaWr hart => lt 2048 hart
  | .dispose hart => lt 2048 hart
  | .tlk hart => lt 2048 hart
  | .ctFind hart => lt 2048 hart
  | .ctIns hart => lt 2048 hart
  | .ctDel hart => lt 2048 hart
  | .cntAdd hart => lt 2048 hart
  | .enq hart => lt 2048 hart
  | .rateSet hart => lt 2048 hart
  | .crypt hart => lt 2048 hart
  | .rand hart => lt 2048 hart
  | .yield hart => lt 2048 hart
  | .waitT hart => lt 2048 hart
  | .tres hart => lt 2048 hart
  | .tregR hart => lt 2048 hart
  | .tregW hart => lt 2048 hart
  | .radd hart => lt 2048 hart
  | .rsub hart => lt 2048 hart
  | .rmul hart => lt 2048 hart
  | .rdiv hart => lt 2048 hart
  | .rmin hart => lt 2048 hart
  | .rmax hart => lt 2048 hart
  | .rcvtWu hart => lt 2048 hart
  | .rcvtR hart => lt 2048 hart
  | .ecall hart => lt 2048 hart
  | .ebreak hart => lt 2048 hart
  | .debugHalt hart => lt 2048 hart
  | .debugResume hart => lt 2048 hart
  | .hartreset hart => lt 2048 hart
  | .abstractAccessRegister hart _ => lt 2048 hart
  | .abstractAccessMemory hart _ => lt 2048 hart
  | .engQuery w => Waybill.wf w
  | .engLoad w => Waybill.wf w
  | .engSwap w => Waybill.wf w
  | .engReadBank w => Waybill.wf w
  | .engSetParams w => Waybill.wf w
  | .engDramWin w => Waybill.wf w
  | .engLineSet w => Waybill.wf w
  | .engCtSet w => Waybill.wf w
  | .engThreadQuery w => Waybill.wf w
  | .engCntRead w => Waybill.wf w
  | .engMemRead w => Waybill.wf w
  | .engMemWrite w => Waybill.wf w
  | .engRestartSup w => Waybill.wf w
  | .mvCopy chan => lt 128 chan
  | .mvGather chan => lt 128 chan
  | .mvScatter chan => lt 128 chan
  | .mvInterleave chan => lt 128 chan
  | .mvDeinterleave chan => lt 128 chan
  | .mvBitplane chan => lt 128 chan
  | .mvBitplaneInv chan => lt 128 chan
  | .mvFill chan => lt 128 chan
  | .mvRandom chan => lt 128 chan
  | .moverDescriptorStart chan => lt 128 chan
  | .chunkWritten chan => lt 128 chan
  | .barrierReadReturn chan => lt 128 chan
  | .moverFault chan => lt 128 chan
  | .engineRingProd cluster => lt 32 cluster
  | .mvQuery w => Waybill.wf w
  | .mvBind w => Waybill.wf w
  | .mvChanSet w => Waybill.wf w
  | .mvSetParams w => Waybill.wf w
  | .mvEngRing w => Waybill.wf w
  | .mvChanQuery w => Waybill.wf w
  | .mbTx user key _ _ => MbUser.wf user && okPair key
  | .mbTxEom user key _ _ => MbUser.wf user && okPair key
  | .mbRx user key _ => MbUser.wf user && okPair key
  | .mbLockRead user key _ => MbUser.wf user && okPair key
  | .mbLockWrite user key _ => MbUser.wf user && okPair key
  | .mbSendTimeout key _ => okPair key
  | .mbWakeDone key _ => okPair key
  | .wakeFail key _ => okPair key
  | .driveInserted port => lt 4 port
  | .driveStartStepDone port done => lt 4 port && DrvStep.wf done
  | .driveStartStepTimeout port => lt 4 port
  | .driveRemoved port => lt 4 port
  | .driveLinkDown port => lt 4 port
  | .drivePowerFault port => lt 4 port
  | .attentionButton port => lt 4 port
  | .blinkExpiry port => lt 4 port
  | .shutdownComplete port => lt 4 port
  | .driveCmdTimeout port cid => lt 4 port && lt 65536 cid
  | .controllerFatal port => lt 4 port
  | .controllerResetDone port _ => lt 4 port
  | .nvmeCompletion src cid _ _ => NvmeFrom.wf src && lt 65536 cid
  | .driveDmaRequest port _ addr _ _ => lt 4 port && lt (2 ^ 64) addr
  | .c2hdata t cid off _ _ _ => lt 64 t && lt 65536 cid && lt (2 ^ 32) off
  | .readyToTransfer t cid ttag off _ => lt 64 t && lt 65536 cid && lt 65536 ttag && lt (2 ^ 32) off
  | .dataDigestError t cid => lt 64 t && lt 65536 cid
  | .connectionClose t _ => lt 64 t
  | .tcpRto t conn => lt 64 t && lt 17 conn
  | .reconnectTimeout t => lt 64 t
  | .drvQuery w => Waybill.wf w
  | .drvPower w => Waybill.wf w
  | .drvAdmin w => Waybill.wf w
  | .tgtConnect w => Waybill.wf w
  | .tgtDisconnect w => Waybill.wf w
  | .tgtQuery w => Waybill.wf w
  | .vbfCreate w => Waybill.wf w
  | .vbfDestroy w => Waybill.wf w
  | .extentSet w => Waybill.wf w
  | .vbfQuery w => Waybill.wf w
  | .dpSetParams w => Waybill.wf w
  | .drvPortSet w => Waybill.wf w
  | .mbAssign w => Waybill.wf w
  | .efRouteSet w => Waybill.wf w
  | .efSetSampleVec w => Waybill.wf w
  | .dramRequest channel reqs => lt 4 channel && reqs.all DramReq.wf
  | .refresh channel rank => lt 4 channel && lt 4 rank
  | .mr4Read channel _ => lt 4 channel
  | .dramCorrectableError line => lt (2 ^ 32) line
  | .dramUncorrectableError line _ => lt (2 ^ 32) line
  | .patrolScrub channel => lt 4 channel
  | .retrainRound channel drifted => lt 4 channel && drifted.all (lt 4)
  | .migrationStep channel => lt 4 channel
  | .withdrawal channel => lt 4 channel
  | .dcQuery w => Waybill.wf w
  | .dcSetParams w => Waybill.wf w
  | .dcRankRetire w => Waybill.wf w
  | .dcRetrain w => Waybill.wf w
  | .dcErrInject w => Waybill.wf w
  | .caravanTrainingAttempt port _ => lt 2 port
  | .ident port info => lt 2 port && IdentInfo.wf info
  | .flit port bytes => lt 2 port && okLen 16384 bytes
  | .nak port last => lt 2 port && lt 4096 last
  | .ackTimeout port => lt 2 port
  | .caravanLaneFault port lane => lt 2 port && lt 5 lane
  | .widthProposal port mask id _ => lt 2 port && lt 32 mask && lt 4 id
  | .caravanLinkDown port => lt 2 port
  | .retrainTimeout port => lt 2 port
  | .routeReturn device => lt 4 device
  | .seqSync peer executed next => lt 4 peer && lt (2 ^ 32) executed && lt (2 ^ 32) next
  | .void peer floor => lt 4 peer && lt (2 ^ 32) floor
  | .controlRequest peer seq _ => lt 4 peer && lt (2 ^ 32) seq
  | .convoyFrame port => lt 2 port
  | .digestPublish => true
  | .digestTimeout device => lt 4 device
  | .ownershipAckTimeout => true
  | .partitionChange links => lt 16 links
  | .autoClaim => true
  | .cvQuery w => Waybill.wf w
  | .cvSetParams w => Waybill.wf w
  | .cpSet w => Waybill.wf w
  | .cpRetrain w => Waybill.wf w
  | .cvPortBackup w => Waybill.wf w
  | .cvForward w => Waybill.wf w
  | .cvForwardReply peer seq bytes => lt 4 peer && lt (2 ^ 32) seq && okLen 16384 bytes
  | .cvSealCommit w => Waybill.wf w
  | .cvSealQuery w => Waybill.wf w
  | .netLinkUp port => lt 8 port
  | .netLinkDown port _ => lt 8 port
  | .anRestart port => lt 8 port
  | .pause port quanta => lt 8 port && lt 65536 quanta
  | .pfc port enable quanta => lt 8 port && lt 256 enable && quanta.length == 8
  | .pauseExpiry port cls => lt 8 port && lt 8 cls
  | .pfcRefresh port prio => lt 8 port && lt 8 prio
  | .frameTxDone port => lt 8 port
  | .txFaultOnWire port sent _ => lt 8 port && lt 65536 sent
  | .ppsOut => true
  | .ppsIn => true
  | .npQuery w => Waybill.wf w
  | .npLaneSet w => Waybill.wf w
  | .npPortSet w => Waybill.wf w
  | .npRetrain w => Waybill.wf w
  | .ptpGet w => Waybill.wf w
  | .ptpAdjust w => Waybill.wf w
  | .ptpPpsSet w => Waybill.wf w
  | .tallyMarkTimer => true
  | .tallyGather => true
  | .partFault kind index cause => lt 7 kind && lt (2 ^ 32) index && lt 256 cause
  | .healthSectorWrite => true
  | .controlCoreFault core => lt 5 core
  | .reserveCoreReady _ => true
  | .sramRowFault array row _ => lt 256 array && lt 65536 row
  | .marginRead islands _ => okLen 52 islands
  | .tallyQuery w => Waybill.wf w
  | .tallySet w => Waybill.wf w
  | .tallyMark w => Waybill.wf w
  | .tallyRead w => Waybill.wf w
  | .logRead w => Waybill.wf w
  | .lastwordRead w => Waybill.wf w
  | .lastwordClear w => Waybill.wf w
  | .faultQuery w => Waybill.wf w
  | .faultSetParams w => Waybill.wf w
  | .reserveQuery w => Waybill.wf w
  | .reserveRetire w => Waybill.wf w
  | .powerOn => true
  | .pwrGoodAon => true
  | .pwrGoodRise => true
  | .pwrGoodFall => true
  | .railUndervoltage => true
  | .bootStepDone _ train => okLen 4 train && train.all DramPop.wf
  | .bootWatchdog => true
  | .domainSwitchDone domain => lt 44 domain
  | .pdSetDone domain => lt 44 domain
  | .unitResetDone unit => lt 55 unit
  | .temperatureRead _ power => lt 65536 power
  | .throttleStep => true
  | .refclkLost => true
  | .avsRetry => true
  | .deviceResetDelayExpiry => true
  | .jtagBar _ vf addr _ => lt 4096 vf && okReg addr
  | .jtagAocCmd _ w => Waybill.wf w
  | .jtagDmi _ n _ => lt 128 n
  | .pwrQuery w => Waybill.wf w
  | .clkQuery w => Waybill.wf w
  | .pdSet w => Waybill.wf w
  | .pdForce w => Waybill.wf w
  | .deviceReset w => Waybill.wf w
  | .unitReset w => Waybill.wf w
  | .fwQuery w => Waybill.wf w
  | .fwWrite w => Waybill.wf w
  | .fwSlotSwitch w => Waybill.wf w
  | .clkSet w => Waybill.wf w
  | .thermSet w => Waybill.wf w
  | .dbgUnlock w => Waybill.wf w
  | .complementMismatch src addr _ => Src.wf src && okReg addr
  | .riscvInstruction hart => lt 2048 hart
  | .hostDataReadReturn who _ => HostReadWho.wf who
  | .targetConnected t info => lt 64 t && TgtInfo.wf info
  | .zeroizeDone => true
  | .flashWriteDone => true
  | .voltageConfirmed mv => lt 65536 mv
  | .vddAonLoss => true
  | .railReturn => true
  | .ppsOutEnd => true
  | .setdasa addr => lt 128 addr
  | .entdaa addr => lt 128 addr

end Sys2Proof
end

