-- ==== Sys2Proof/Tests/Slice0.lean ====
section
/-!
SUPPORT. Tests of single commands with results from the spec, ill-formed terms that the checks refuse, and for each statement that has
hypotheses a state and operands that meet them, clause by clause. A waybill test uses the debug port's instance: its issuer is 0x50000000.
-/

namespace Sys2Proof.Tests

open Sys2Proof Sys2Proof.Machine
set_option Elab.async false

/-- Every power domain on, power good, firmware ready, the debug port the drover of epoch 0. -/
def live : State :=
  let s : State := { State.reset with
    pwr := { State.reset.pwr with pd := (List.range 64).map (fun d => (d, PdSt.on)), ready := true, pwrGoodAon := true, pwrGood := true, perst := false,
                                  perst1 := false } }
  (s.setRegN Reg.OWN_DROVER 0x50000000).setFld Reg.OWN_STATE 1 0 2

/-- The units us in service. -/
def serve (us : List Nat) (s : State) : State := us.foldl (fun t u => t.setFld (unitHdr u) 3 2 2) s

/-- The shortest parameter list an opcode takes. -/
def minLen (m : OpMeta) : Nat := ((List.range 200).find? m.lenOk).getD 0

/-- A waybill of the debug port: n parameter bytes, zero but for the pieces e (offset, bytes). -/
def msg (s : State) (n : Nat) (e : List (Nat × List Byte)) : Waybill :=
  { inst := .jtag, flags := 5, version := 1, tag := 7, issuer := 0x50000000, epoch := word s.devEpoch,
    params := e.foldl (fun l x => patch l x.1 x.2) (zeros n), mtag := 0 }

/-- The opcode m with these parameters is accepted from s, and h holds of the waybill and the state the opcode acts on. -/
def acc (m : OpMeta) (s : State) (e : List (Nat × List Byte) := []) (h : Waybill → State → Bool := fun _ _ => true)
    (n : Nat := minLen m) : Bool :=
  (accepted m (msg s n e) s).any (fun x => h (msg s n e) x.1)

/-- A field of one, two, four bytes of the parameters. -/
def f1 (o v : Nat) : Nat × List Byte := (o, leBytes 1 v)
def f2 (o v : Nat) : Nat × List Byte := (o, leBytes 2 v)
def f4 (o v : Nat) : Nat × List Byte := (o, leBytes 4 v)
def f8 (o v : Nat) : Nat × List Byte := (o, leBytes 8 v)

/-! Hypotheses of the statements about the framework -/

/-- A step on a queue of one command: pins settled before it. -/
theorem test_witness_PinsFollowTheStateAtEveryStep :
    PinsSettled State.reset ∧ step State.reset = .next State.reset := by
  refine ⟨by unfold PinsSettled; decide +kernel, rfl⟩

/-- A waybill of two parameter bytes, whole and cut after its seventeenth byte. -/
theorem test_witness_WaybillLayoutRoundTrip :
    [decide ((msg live 2 []).params.length ≤ 4080), decide (16 ≤ 17 ∧ 17 < 16 + (msg live 2 []).params.length)].all id = true := by decide +kernel

/-- Flask 1 is contained. -/
def contained : State := live.setFn 1 { live.fn 1 with st := .contained }

/-- PF0 is the drover. -/
def other : State := live.setRegN Reg.OWN_DROVER 0

/-- One waybill for each check of R17, at the value where the check begins to fail. -/
theorem test_witness_FirstFailingCheckDecides :
    [(begins echoMeta { msg live 0 [] with version := 2 } live).any (fun x => checks echoMeta x.1 { msg live 0 [] with version := 2 } == some .badOpcode),
     decide (maxParams .jtag < (msg live 4081 []).params.length),
     decide ((msg live 4080 []).params.length ≤ maxParams .jtag ∧ ({ msg live 4080 [] with version := 0 } : Waybill).version ≠ 1),
     (!(claimMeta.lenOk (msg live 3 []).params.length && claimMeta.lenW (msg live 3 []))) && decide ((msg live 3 []).version = 1),
     claimMeta.lenOk 4 && claimMeta.lenW (msg live 4 []) && epochFails claimMeta live { msg live 4 [] with epoch := 1 },
     claimMeta.lenOk 4 && !epochFails claimMeta live (msg live 4 []) && ownerFails claimMeta live { msg live 4 [] with issuer := 1 },
     echoMeta.lenOk 0 && !epochFails echoMeta contained { msg contained 0 [] with inst := .ring 1, issuer := 0x10000001 } && echoMeta.cls == .r &&
       containedFails echoMeta contained { msg contained 0 [] with inst := .ring 1 },
     echoMeta.lenOk 0 && !epochFails echoMeta live (msg live 0 []) && !containedFails echoMeta live (msg live 0 []) &&
       tagFails live { msg live 0 [] with tag := 0xFFFF }].all id = true := by decide +kernel

/-- A REVOKE that does not come from the drover. -/
theorem test_witness_OnlyTheDroverCarriesOutDClass :
    [(begins tmSetBufferMeta (msg other (minLen tmSetBufferMeta) []) other).any (fun x =>
        tmSetBufferMeta.cls == .d && !epochFails tmSetBufferMeta x.1 (msg other (minLen tmSetBufferMeta) []) &&
        tmSetBufferMeta.lenOk (minLen tmSetBufferMeta) && tmSetBufferMeta.lenW (msg other (minLen tmSetBufferMeta) []) &&
        decide (x.1.regN Reg.OWN_DROVER ≠ 0x50000000) && !tmSetBufferMeta.ownerExempt 0x50000000)].all id = true := by decide +kernel

/-- An ECHO is accepted. -/
theorem test_witness_AcceptanceTouchesOnlyWaybillState : [acc echoMeta live].all id = true := by decide +kernel

/-- A reply header with every field at its largest value. -/
theorem test_witness_ReplyHeaderLayout :
    (0xFFFF : Nat) < 2 ^ 16 ∧ (0xFF : Nat) < 2 ^ 8 ∧ u32 (replyBytes 0xFFFF 0xFF 0xFFFF 0xFFFF 0xFFFF 0xFFFF 0xFFFFFFFF []) 12 = 0xFFFFFFFF := by
  decide +kernel

/-- Waybills of the debug port and of PF0's ring. -/
theorem test_witness_RepliesTouchOnlyReplyState :
    (∀ p, (msg live 0 []).inst ≠ .mailbox p) ∧ (∀ f, (msg live 0 []).inst ≠ .flaskMailbox f) ∧ (∀ fn, (msg live 0 []).inst ≠ .ring fn) ∧
    ({ msg live 0 [] with inst := .ring 0 } : Waybill).inst = .ring 0 := by
  refine ⟨?_, ?_, ?_, rfl⟩ <;> intro x h <;> cases h

/-! Hypotheses of the statements about rings, transports and ownership (02) -/

/-- PF0's rings enabled with 64 slots each. -/
def ringed : State := ((live.setRegN (wbBase 0 + 8) 0x80000006).setRegN (wbBase 0 + 0x1C) 0x80000006)

/-- The reply ring of 64 slots disabled; enabled with 64 replies not yet consumed. -/
def off : State := live.setRegN (wbBase 0 + 0x1C) 6
def full : State := ringed.setRegN (wbBase 0 + 0x20) 64

/-- A state for each clause: rings of PF0 on and off, the consumer index a full ring behind. -/
theorem test_witness_RingRegistersComplete :
    [live.ringOpen 0,
     let s1 := off.setRegN (wbBase 0 + 0x24) (bits 1 12 0); off.ringOpen 0 && ringSize (s1.regN (wbBase 0 + 0x1C)) == some 64 && !s1.flag (wbBase 0 + 0x1C) 31,
     let s1 := full.setRegN (wbBase 0 + 0x24) (bits 0 12 0); full.ringOpen 0 && ringSize (s1.regN (wbBase 0 + 0x1C)) == some 64 &&
       s1.flag (wbBase 0 + 0x1C) 31 && (s1.regN (wbBase 0 + 0x20) + 128 - s1.regN (wbBase 0 + 0x24) % 128) % 128 == 64,
     ringed.ringOpen 0 && ringSize 0x8000000C == some 4096 && Nat.testBit 0x8000000C 31 && ringed.flag (wbBase 0 + 8) 31,
     live.ringOpen 0 && ringSize 0x80000006 == some 64 && !live.flag (wbBase 0 + 8) 31,
     ringed.ringOpen 0 && !Nat.testBit 6 31 && ringed.flag (wbBase 0 + 8) 31 && ringed.flag (wbBase 0 + 0x1C) 31].all id = true := by decide +kernel

/-- A size of 13 slots' logarithm, of 5, and a consumer index one slot more behind than the ring holds. -/
theorem test_witness_BadRingStops :
    [ringed.ringOpen 0 && Nat.testBit 0x8000000D 31 && ringSize 0x8000000D == none && ringed.flag (wbBase 0 + 8) 31,
     live.ringOpen 0 && Nat.testBit 0x80000005 31 && ringSize 0x80000005 == none,
     let s1 := full.setRegN (wbBase 0 + 0x24) (bits 127 12 0); full.ringOpen 0 && ringSize (s1.regN (wbBase 0 + 0x1C)) == some 64 &&
       s1.flag (wbBase 0 + 0x1C) 31 && decide (64 < (s1.regN (wbBase 0 + 0x20) + 128 - s1.regN (wbBase 0 + 0x24) % 128) % 128)].all id = true := by
  decide +kernel

/-- An ECHO waits; a waybill of the debug port is PENDING and its chain waits for the next member; an ECHO is due at the AOC. -/
def arrived : State := live.arrive { inst := .jtag, opcode := 0x0001, wb := msg live 0 [] }
def chained : State := { live with wb := { live.wb with
  pend := [{ inst := .jtag, opcode := 0x0100, tag := 7, flags := 5, issuer := 0x50000000, cls := .d, obj := none, mtag := 0, chain := false, slots := 0,
             deadline := 9, wait := .claim }],
  chains := [⟨.jtag, 0x50000000, 1, false, .next 1000000⟩] } }
def late : State := live.arrive { inst := .mctp 0 9, opcode := 0x0001, wb := msg live 0 [], deadline := some 5 }

/-- An ECHO has arrived, one is PENDING, a chain waits, one waits for the control complex. -/
theorem test_witness_StartsAndTimeLimitsComplete :
    [arrived.fwServes && (arrived.turnOf .jtag).any (fun s1 => (s1.wb.arrived.find? (fun b => b.inst == .jtag)).any (fun a =>
       s1.roomFor .jtag a.opcode.toNat a.wb)),
     live.fwServes && (live.turnOf (.ring 0)).any (fun s1 => (s1.wb.arrived.find? (fun b => b.inst == .ring 0)).isNone),
     (opOf 0x01FF (msg live 0 [])).isNone && (begins (undefMeta 0x01FF) { msg live 0 [] with version := 0 } live).isSome,
     (begins (undefMeta 0x0001) { msg live 0 [] with version := 0 } live).isSome && ({ msg live 0 [] with version := 2 } : Waybill).version != 1,
     (chained.wb.pend.find? (fun p => p.inst == .jtag && p.tag == 7)).isSome,
     (chained.chainOf .jtag).any (fun c => c.st == .next 1000000) && !chained.wb.arrived.any (fun a => a.inst == .jtag),
     (late.wb.arrived.find? (fun a => a.deadline.isSome)).any (fun a => a.deadline == some 5 && !a.badLen)].all id = true := by decide +kernel

/-- A control request, a packet, a device without a drover. -/
def rq (d : List Byte) : McRequest := { binding := 0, srcEid := 9, tag := 1, instId := 3, data := d }
def pk (eom : Bool) : McPacket :=
  { binding := 0, srcEid := 9, som := true, eom := eom, pktSeq := 0, tagOwner := true, tag := 1, payload := [0x7E] }
def free : State := live.setFld Reg.OWN_STATE 1 0 0

/-- Each control request of R68; a packet that is a message, one that starts one, a slot in use, an I3C address. -/
theorem test_witness_MctpComplete :
    [live.mctpUp 0 && (rq [0x00, 0x08]).data.length == 2 && decide (u8 (rq [0x00, 0x08]).data 0 % 4 < 2) && u8 (rq [0x00, 0x08]).data 1 != 0 &&
       u8 (rq [0x00, 0x08]).data 1 != 255,
     live.mctpUp 0 && (rq []).data == [],
     live.mctpUp 0 && (rq [0x7E]).data.length == 1 && u8 (rq [0x7E]).data 0 == 0x7E,
     live.mctpUp 0 && (rq [0]).data.length == 1 && u8 (rq [0]).data 0 == 0,
     live.mctpUp 1 && decide (6 < (7 : Byte).toNat),
     live.mctpUp (pk true).binding && decide ((pk true).payload.length ≤ 64 ∧ (pk true).tag ≤ 7) && (pk true).som && (pk true).eom &&
       decide ((live.wb.reasm.filter (fun r => !r.of (pk true))).length < 8),
     live.mctpUp (pk false).binding && decide ((pk false).payload.length ≤ 64 ∧ (pk false).tag ≤ 7) && (pk false).som && !(pk false).eom,
     (({ live with wb := { live.wb with reasm := [⟨0, 9, 1, [], 1, 100000000⟩] } } : State).wb.reasm.find?
       (fun r => r.binding == 0 && r.eid == 9 && r.tag == 1)).isSome,
     live.pwr.pwrGoodAon].all id = true := by decide +kernel

/-- Claims in each state of ownership, the drover's opcodes, the window, the heartbeat. -/
theorem test_witness_OwnershipCompletes :
    [acc claimMeta free [f1 0 255] (fun w u => u.arbiter == u.cvId && u.quorum && prioRange (derivedIssuer w.inst) == some (255, 255) && decide (255 ≤ w.u8 0) &&
       decide (w.u8 0 ≤ 255) && u.ownSt != 2),
     acc claimMeta live [f1 0 255] (fun w u => u.arbiter == u.cvId && u.quorum && prioRange (derivedIssuer w.inst) == some (255, 255) && u.ownSt == 2 &&
       u.drover == derivedIssuer w.inst && w.u8 0 == 255),
     acc claimMeta other [f1 0 255] (fun w u => u.arbiter == u.cvId && u.quorum && u.ownSt == 2 && u.drover != derivedIssuer w.inst &&
       decide (u.fld Reg.OWN_STATE 15 8 < w.u8 0)),
     acc releaseMeta live [] (fun _ u => u.arbiter == u.cvId),
     acc grantMeta live [f4 0 0, f1 4 191] (fun w u => u.arbiter == u.cvId && prioRange (w.u32 0) == some (1, 191) && u.validCandidate (w.u32 0) &&
       w.u32 0 != u.drover && w.u8 4 == 191),
     acc heartbeatMeta live [] (fun _ u => u.arbiter == u.cvId),
     acc setHeartbeatMeta live [f4 0 10] (fun w _ => w.u32 0 == 10), acc setHeartbeatMeta live [f4 0 10000] (fun w _ => w.u32 0 == 10000),
     acc revokeMeta live [] (fun w u => u.arbiter == u.cvId && issuerKind (derivedIssuer w.inst) == 5 && u.ownSt == 2),
     acc ownerQueryMeta live, acc devInfoMeta live, acc echoMeta live,
     ({ live with own := { live.own with window := some 10000000 } } : State).own.window == some 10000000,
     live.ownSt == 2,
     other.ownSt == 2 && other.drover == 0 && (0 : Word).toNat == other.devEpoch && !other.revocationDue].all id = true := by decide +kernel

/-! Hypotheses of the statements about registers, guards and the seal (03) -/

/-- A guard for register a with value v, armed by the always-on controller, and its completion as a check. -/
def armed (a : Nat) (v : Word) : State := { live with guards := SMap.put [] ((unitOfAddr a).getD 0) ⟨a, v, .aoc, 100⟩ }
def completes (s : State) (src : Src) (a : Nat) (c v : Word) : Bool :=
  (unitOfAddr a).any (fun u => s.unitOn u && (SMap.get? s.guards u).any (fun g =>
    g.addr == a && g.src == src && g.value == v && v == ~~~c && decide (s.now ≤ g.until_)))

theorem completes_sound (s : State) (src : Src) (a : Nat) (c v : Word) (h : completes s src a c v = true) : Completes s src a c v := by
  simp only [completes, Option.any_eq_true, Bool.and_eq_true, beq_iff_eq, decide_eq_true_eq] at h
  obtain ⟨u, hu, ho, g, hg, ⟨⟨⟨h1, h2⟩, h3⟩, h4⟩, h5⟩ := h
  exact ⟨u, g, hu, ho, hg, h1, h2, h3, h4, h5⟩

/-- Two scratch registers of the identity unit and its status register, written whole, by PF0 and by the debug port. -/
theorem test_witness_RegisterAccessesComplete :
    [live.busOpen (.pf0 0) 0x20 && live.unitOn (unitOfReg 0x20) && (doorbellSlot 0x20).isNone,
     live.busOpen (.pf0 0) 0x1000 && 0x1000 % 8 == 0 && live.unitOn (unitOfReg 0x1000) && (doorbellSlot 0x1000).isNone,
     let s := live.setFld (unitHdr 8) 0 0 1; let a := unitHdr 8 + 4; statusBits a == some 0xE && (ringReg a).isNone && (mbReg a).isNone && (msixReg a).isNone &&
       (doorbellSlot a).isNone && decide (a < 0x1901000) && !guardedRegs.contains a && !guardedRegs.contains (a - 4) && s.busOpen (.pf0 0) a && a % 4 == 0 &&
       s.unitOn (unitOfReg a) && s.seqMode (unitOfReg a),
     live.busOpen (.pf0 0) 0x20, live.busOpen (.pf0 0) 0x22 && decide (0x22 % 4 ≠ 0),
     State.reset.busOpen (.pf0 0) 0x20 && State.reset.busOpen (.pf0 0) 0x600000 && !State.reset.unitOn (unitOfReg (srcAddr (.pf0 0) 0x600000)),
     live.busOpen (.pf0 0) Reg.PEEK_CTRL && live.unitOn 54 && Nat.testBit 0x80000000 31,
     live.pwr.pwrGoodAon && live.unitOn (unitOfReg 0x20) && !live.debugLocked && !guardedRegs.contains 0x20].all id = true := by decide +kernel

/-- A register whose word writes follow R98 and R101 alone. -/
def plain (a : Nat) (cfg : Bool) : Bool :=
  (findReg a).any (fun d => d.cfg == cfg && d.rw != 0) && (ringReg a).isNone && (mbReg a).isNone && (msixReg a).isNone && (statusBits a).isNone &&
    decide (a < 0x601000 ∨ 0x601200 ≤ a) && decide (a < 0x1901000) && !guardedRegs.contains a && decide (4 ≤ a) && !guardedRegs.contains (a - 4) && a != Reg.HB_KICK && a != Reg.PEEK_CTRL &&
    a != Reg.HE_INTX_ACK0 && a != Reg.HE_INTX_ACK1

/-- A state register, and a configuration register written by the drover and by another. -/
theorem test_witness_PlainRegisterWrites :
    [plain Reg.PEEK_ADDR false, plain 0x500040 true, live.ownSt == 2 && other.drover == 0 && live.drover != 0].all id = true := by decide +kernel

/-- An armed guard, its end, a complement without one, one that does not match, and the effect of each guarded register. -/
theorem test_witness_GuardedWritesComplete :
    [live.busOpen .aoc Reg.RST_CTRL && unitOfAddr Reg.RST_CTRL == some 1 && guardedRegs.contains Reg.RST_CTRL && live.unitOn 1 && (SMap.get? live.guards 1).isNone,
     (SMap.get? (armed Reg.RST_CTRL 0).guards 1).isSome,
     live.complAt .aoc (Reg.RST_CTRL + 4) == some false,
     (armed Reg.RST_CTRL 0).complAt .aoc (Reg.RST_CTRL + 4) == some true && decide ((0 : Word) ≠ ~~~(5 : Word)),
     completes (armed Reg.OWN_OVERRIDE 3) .aoc Reg.OWN_OVERRIDE (~~~3) 3,
     completes (armed Reg.RST_CTRL 0x80000000) .aoc Reg.RST_CTRL (~~~0x80000000) 0x80000000,
     completes (armed Reg.RST_CTRL 0x40000005) .aoc Reg.RST_CTRL (~~~0x40000005) 0x40000005 && !unitFixed (bits 0x40000005 5 0),
     completes (armed Reg.PD_OFF_LO 2) .aoc Reg.PD_OFF_LO (~~~2) 2 && completes (armed Reg.PD_OFF_HI 2) .aoc Reg.PD_OFF_HI (~~~2) 2,
     let s := armed Reg.FUSE_PROG 0x10000000; completes s .aoc Reg.FUSE_PROG (~~~0x10000000) 0x10000000 &&
       (s.guardTaken .aoc Reg.FUSE_PROG 0x10000000).pwr.fuse.isNone && (s.guardTaken .aoc Reg.FUSE_PROG 0x10000000).liveKeys != [0],
     let s := (armed Reg.FUSE_PROG 0x20000000).setFld Reg.FW_SVN 6 0 1; completes s .aoc Reg.FUSE_PROG (~~~0x20000000) 0x20000000 &&
       decide ((s.guardTaken .aoc Reg.FUSE_PROG 0x20000000).fusedSvn + 1 ≤ (s.guardTaken .aoc Reg.FUSE_PROG 0x20000000).fld Reg.FW_SVN 6 0),
     completes (armed Reg.FUSE_PROG 0x30000000) .aoc Reg.FUSE_PROG (~~~0x30000000) 0x30000000,
     completes (armed Reg.KS_ZEROIZE 3) .aoc Reg.KS_ZEROIZE (~~~3) 3 && completes (armed Reg.KS_ZEROIZE 0x80000000) .aoc Reg.KS_ZEROIZE (~~~0x80000000) 0x80000000,
     completes (armed Reg.MB_LOCK_FREE 3) .aoc Reg.MB_LOCK_FREE (~~~3) 3,
     let s := armed Reg.RSV_FORCE 0x10000008; completes s .aoc Reg.RSV_FORCE (~~~0x10000008) 0x10000008 &&
       (s.guardTaken .aoc Reg.RSV_FORCE 0x10000008).partNamed (partOf 0x10000008),
     let s0 := armed Reg.RSV_FORCE 0x18000008; let s : State := { s0 with tally := { s0.tally with retired := [partOf 0x18000008] } };
       completes s .aoc Reg.RSV_FORCE (~~~0x18000008) 0x18000008 && (s.guardTaken .aoc Reg.RSV_FORCE 0x18000008).isRetired (partOf 0x18000008) &&
       !(s.guardTaken .aoc Reg.RSV_FORCE 0x18000008).tally.restore.contains (partOf 0x18000008)].all id = true := by decide +kernel

/-- A status register, WB_STATUS of a ring and MB_STAT of a mailbox side in SEQUENCE mode, with the SEQ they hold and with another. -/
theorem test_witness_StatusWriteBack :
    let s := (((serve [0, 8, 13] live).setFld (unitHdr 0) 0 0 1).setFld (unitHdr 8) 0 0 1).setFld (unitHdr 13) 0 0 1
    let ok (a : Nat) : Bool := s.busOpen (.pf0 0) a && a % 4 == 0 && s.unitOn (unitOfReg a) && (doorbellSlot a).isNone && (statusBits a).isSome && (mbReg a).isNone &&
      (msixReg a).isNone && decide (a < 0x1901000) && !guardedRegs.contains a && !guardedRegs.contains (a - 4) && s.seqMode (unitOfReg a)
    [ok Reg.TM_EVENT && ringReg Reg.TM_EVENT == none, ok 0x1028 && ringReg 0x1028 == some (0, 0x28) && wbBase 0 + 0x28 == 0x1028,
     bits 0x05000002 31 24 == bits ((s.setRegN Reg.TM_EVENT 0x05000007).regN Reg.TM_EVENT) 31 24, bits 0x04000002 31 24 != bits ((s.setRegN Reg.TM_EVENT 0x05000007).regN Reg.TM_EVENT) 31 24,
     let a := 0xB01000 + 32 * 0x40 + 0x0C; s.busOpen (.pf0 0) a && s.unitOn (unitOfReg a) && (doorbellSlot a).isNone && mbReg a == some (32, false, 0x0C) &&
       (ringReg a).isNone && s.mbTakes (.host (.pf0 0)) 32 false && s.seqMode 13].all id = true := by decide +kernel

/-- A commit without a D-class waybill PENDING; units in service. -/
theorem test_witness_SealCompletes :
    [acc sealCommitMeta live [] (fun _ u => !u.wb.pend.any (fun p => p.cls == .d)), acc sealQueryMeta live,
     let s := serve [8] live; s.unitOn 8 && s.unitState 8 != 0 && !s.isSealed 8 && !(s.sealUnit 8).committing].all id = true := by decide +kernel

/-! Hypotheses of the statements about power, reset and start-up (20, 21) -/

/-- The live device with another power state. -/
def pw (f : PowerState → PowerState) : State := { live with pwr := f live.pwr }

/-- The pins before and after each edge, a domain ramping up, a watchdog running, a reset asked for, a flash write under way. -/
theorem test_witness_ResetsAndStartUpComplete :
    [!State.reset.pwr.pwrGoodAon && !State.reset.pwr.pwrGood && State.reset.pwr.perst && State.reset.pwr.perst1 && !State.reset.pwr.hostBif,
     let s := pw (fun p => { p with step := 9 }); s.pwr.pwrGood && !s.pwr.railHold && s.pwr.step != 0 && s.pwr.pwrGoodAon,
     !live.pwr.perst && !live.pwr.perst1, let s := pw (fun p => { p with hostBif := true, perst1 := true }); s.pwr.hostBif && s.pwr.perst1,
     let s := pw (fun p => { p with watchdog := some 5, ready := false }); s.pwr.watchdog == some 5 && !s.pwr.ready && s.pwr.attempt == 0,
     let s := pw (fun p => { p with watchdog := some 5, ready := false, attempt := 1 }); s.pwr.watchdog == some 5 && s.pwr.attempt != 0,
     let s := pw (fun p => { p with pd := SMap.put p.pd 12 PdSt.ramping }); s.pdSt 12 == .ramping && !s.pwr.tripped,
     (pw (fun p => { p with devReset := some (7, 3) })).pwr.devReset == some (7, 3),
     (pw (fun p => { p with flashOp := some (.data 0 false [1]) })).pwr.flashOp.isSome].all id = true := by decide +kernel

/-- Temperatures below and at the trip, throttling up and down, the clock lost, a voltage step, margins; and each opcode of 0x1000. -/
theorem test_witness_ThermalAndPowerComplete :
    [decide ((hottest ([879] : List Half)).2.toNat < 880), decide (880 ≤ (hottest ([880] : List Half)).2.toNat) && !live.pwr.tripped,
     let s := pw (fun p => { p with hotC8 := 105 * 8, thermalMhz := 600 }); decide (s.throtC * 8 < s.pwr.hotC8 ∧ 500 < s.pwr.thermalMhz),
     let s := pw (fun p => { p with thermalMhz := 1900 }); decide (s.pwr.hotC8 < (s.throtC - 2) * 8 ∧ s.pwr.thermalMhz < 2000),
     !live.pwr.refclkLost && live.pwr.pwrGoodAon, !(pw (fun p => { p with vcoreOk := false })).pwr.vcoreOk,
     decide (live.warnMv ≤ 31) && live.tally.stepping == [],
     acc pwrQueryMeta live, acc clkQueryMeta live [f1 0 51, f1 1 1] (fun w _ => w.u8 1 == 1 && w.u8 0 + w.u8 1 == 52),
     acc pdSetMeta live [f1 0 2, f1 1 1] (fun w u => pdByWaybill (w.u8 0) && w.u8 1 == 1 && u.pdOn (w.u8 0)),
     acc pdSetMeta (pw (fun p => { p with pd := SMap.put p.pd 33 PdSt.off })) [f1 0 33, f1 1 1] (fun w u =>
       pdByWaybill (w.u8 0) && !u.pdOn (w.u8 0) && !u.forcedOff (w.u8 0)),
     acc pdSetMeta ((pw (fun p => { p with pd := SMap.put p.pd 35 PdSt.off })).setRegN Reg.PD_OFF_HI 8) [f1 0 35, f1 1 1] (fun w u =>
       pdByWaybill (w.u8 0) && !u.pdOn (w.u8 0) && u.forcedOff (w.u8 0)),
     acc pdSetMeta (pw (fun p => { p with pd := SMap.put p.pd 37 PdSt.off })) [f1 0 37, f1 1 0] (fun w u => pdByWaybill (w.u8 0) && u.pdSt (w.u8 0) == .off),
     acc pdSetMeta live [f1 0 36, f1 1 0] (fun w u => pdByWaybill (w.u8 0) && u.pdOn (w.u8 0) && u.pdReady (w.u8 0)),
     acc pdForceMeta live [f1 0 1, f1 1 1] (fun w _ => w.u8 0 == 1 && w.u8 1 == 1),
     acc pdForceMeta live [f1 0 42, f1 1 0] (fun w u => w.u8 0 == 42 && w.u8 1 == 0 && !u.offIgnored (w.u8 0)),
     acc deviceResetMeta live [f2 0 1000] (fun w u => w.u16 0 == 1000 && !u.pwr.tripped),
     acc deviceResetMeta (pw (fun p => { p with tripped := true })) [] (fun w u => w.u16 0 == 0 && u.pwr.tripped && decide (u.pwr.hotC8 < u.throtC * 8)),
     acc unitResetMeta live [f1 0 54] (fun w _ => !unitFixed (w.u8 0)), acc fwQueryMeta live,
     acc fwWriteMeta live [f1 0 1, f1 1 1, f4 4 0xFF0000, f4 8 4] (fun w u => w.u8 0 == 1 && decide (w.u32 4 + w.u32 8 ≤ 2 ^ 24) && (w.u8 1).testBit 0 &&
       w.u32 4 % 65536 == 0 && !u.slotRuns (w.u8 0 == 1) && u.pwr.flashOp.isNone) 16,
     acc fwSlotSwitchMeta live [f1 0 1] (fun w _ => w.u8 0 == 1),
     acc clkSetMeta live [f4 0 0x80000000, f2 4 500] (fun w _ => !(maskClusters (w.u32 0)).isEmpty && w.u16 4 == 500 && w.u16 4 % 100 == 0),
     acc clkSetMeta live [f4 0 1, f2 4 2000] (fun w _ => !(maskClusters (w.u32 0)).isEmpty && w.u16 4 == 2000),
     acc thermSetMeta live, acc dbgUnlockMeta live].all id = true := by decide +kernel

/-! Hypotheses of the statements about tallies and the event log (19) -/

/-- A page of epoch 1 has been gathered. -/
def paged : State := live.setReg64 Reg.TL_EPOCH_LO 1

/-- Marks on, gathering, a part of each kind, and each opcode of 0x0F00. -/
theorem test_witness_TalliesComplete :
    [({ live with tally := { live.tally with marksOn := true } } : State).tally.marksOn, (live.setRegN Reg.TL_CTRL 0x80000000).canGather,
     live.partNamed { kind := 2, index := 21 } && live.partNamed { kind := 3, index := 12 } && live.partNamed { kind := 4, index := 4 },
     live.partNamed { kind := 1, index := 31 * 16 + 8 },
     ({ live with tally := { live.tally with health := [{ kind := 1, index := 3 }] } } : State).tally.health == [{ kind := 1, index := 3 }],
     live.tally.cores.contains 3, live.partNamed { kind := 6, index := 0 * 65536 + 65535 % 65536 },
     acc tallyQueryMeta live, acc tallySetMeta live [] (fun w u => !u.tallyAreaBad (w.u32 4) && !u.poolShort (u.setTlArea (w.u32 4))),
     acc tallyMarkMeta live,
     acc tallyReadMeta paged [f2 8 0, f2 10 1] (fun w u => w.u16 10 == 1 && decide (w.u16 8 + w.u16 10 ≤ 4096) && (u.page (w.u64 0) (w.u16 8) (w.u16 10)).isSome),
     acc tallyReadMeta paged [f8 0 1, f2 8 4065, f2 10 31] (fun w u => w.u16 10 == 31 && w.u16 8 + w.u16 10 == 4096 &&
       (u.page (w.u64 0) (w.u16 8) (w.u16 10)).isSome),
     acc logReadMeta live [f2 8 1] (fun w _ => w.u16 8 == 1), acc logReadMeta live [f2 8 127] (fun w _ => w.u16 8 == 127),
     acc lastwordReadMeta live, acc lastwordClearMeta live, acc faultQueryMeta live [f1 0 51, f1 1 1] (fun w _ => w.u8 0 + w.u8 1 == 52),
     acc faultSetParamsMeta live, acc reserveQueryMeta live [f1 0 1] (fun w _ => w.u8 0 == 1), acc reserveQueryMeta live [f1 0 5] (fun w _ => w.u8 0 == 5),
     acc reserveQueryMeta live [f1 0 6] (fun w _ => w.u8 0 == 6),
     acc reserveRetireMeta live [f4 0 0x10000008] (fun w u => let p := partOf (w.u32 0); !(w.u32 0).testBit 27 && u.partNamed p && !u.retiring (partHome p) &&
       !(u.retirePart p 3).tally.running.any (fun r => r.part == p)),
     acc reserveRetireMeta live [f4 0 0x40000000] (fun w u => let p := partOf (w.u32 0); !(w.u32 0).testBit 27 && u.partNamed p &&
       !u.retiring (partHome p) && (u.retirePart p 3).tally.running.any (fun r => r.part == p))].all id = true := by decide +kernel

/-- A full last-word file; log entries 0 and the last a 64-bit counter reaches. -/
theorem test_witness_EventLogKeepsItsEntries :
    [decide ((List.replicate 16 ({ entry := { time := 0, code := 0, unit := 1, info := 0, issuer := 0, value := 0, data := [] }, frozen := true } : LastWord)).length ≤ 16),
     decide (live.reg64 Reg.EV_WRITTEN < 2 ^ 64 - 1), decide ((live.setReg64 Reg.EV_WRITTEN (2 ^ 64 - 2)).reg64 Reg.EV_WRITTEN < 2 ^ 64 - 1)].all id = true := by
  decide +kernel

/-! Hypotheses of the statements about the host endpoint and the flasks (04) -/

/-- Link 0 in L0 with four VFs; flask 1 in service with 8 vectors and 4 KiB of device DRAM; the first GiB of device DRAM present. -/
def hosted : State :=
  let s := (live.setLink 0 { live.link 0 with vfEnable := true, numVFs := 4, held := false }).setFn 0 { live.fn 0 with st := .active, busMaster := true }
  let t := s.setFn 1 { s.fn 1 with st := .active, busMaster := true, quota := patch (patch (zeros 32) 4 [8]) 16 [4], created := true }
  ({ t with dr := { t.dr with span := 2 ^ 30 } }.setRegN (linkStat 0) 0x80000000).setFld (Reg.DC_CAP 0) 8 0 1
/-- The flask is in another state. -/
def inState (x : FlaskSt) : State := hosted.setFn 1 { hosted.fn 1 with st := x }

/-- Each function's reset, each link event, VF Enable set and cleared. -/
theorem test_witness_HostResetsComplete :
    [hosted.fnOn 0 && isPf0 0, hosted.fnOn 1 && !isPf0 1 && (hosted.fn 1).st != .unprovisioned,
     ((inState .resetting).fn 1).st == .resetting && (inState .resetting).resetReady 1, hosted.linkExists 0 && hosted.flag (linkStat 0) 31,
     hosted.linkExists 0 && !(hosted.link 0).held && hosted.unitOn 2 && !hosted.pwr.hostBif,
     live.linkExists 0 && !(live.link 0).vfEnable && !live.pwr.hostBif && decide (4095 ≤ 4095), (hosted.link 0).vfEnable].all id = true := by decide +kernel

/-- A read error of each kind, a release, vectors, service, the aperture. -/
theorem test_witness_HostEventsComplete :
    [(hosted.fn 1).st == .active, ((inState .contained).fn 1).st == .contained && !isPf0 1,
     let q : WorkQ := { fn := 1, localNo := 0, kind := 0, sizeLog2 := 6, base := 0, mirror := 0, cq := 0, weight := 1, burst := 1, holdUs := 0, mode := 0,
                        tmq := 0xFFFF }
     ((((hosted.setWq 5 q).contain 1 5 0 0 false).aerLog 1 5).wqOf 1 0) == some 5,
     hosted.fnOn 1 && decide (7 < hosted.vectors 1), hosted.linkExists 0, live.linkExists 0 && !(live.link 0).vfEnable,
     decide (0 + 4 ≤ 2 ^ (28 + (hosted.link 0).bar2Size)) && decide (hosted.fld Reg.HE_BAR2_BASE 9 0 * 2 ^ 28 + 0 + 4 ≤ hosted.dramBytes),
     hosted.vfOn 1 && decide (65532 + 4 ≤ 4096 * 2 ^ (hosted.link (hosted.linkOf 1)).vfBar2Size)].all id = true := by decide +kernel

/-- A flask driver and an operator; a flask in each state of R145. -/
theorem test_witness_FlaskOpcodesComplete :
    [issuerFlask (.ring 1) == some 1 && (accepted flaskQueryMeta { msg hosted 4 [] with inst := .ring 1 } hosted).isSome,
     acc flaskQueryMeta hosted [f2 0 1] (fun w u => (issuerFlask w.inst).isNone && hostFn u w == some 1),
     acc flaskCreateMeta hosted [f2 0 4095, f1 8 1] (fun w u => w.u16 0 == 4095 && (u.fn (w.u16 0)).st == .unprovisioned &&
       !quotaBad (quotaOf (w.bytes 4 32)) && (u.grant (w.u16 0) (quotaOf (w.bytes 4 32))).isSome),
     acc flaskCreateMeta hosted [f2 0 2, f1 8 64] (fun w u => (u.fn (w.u16 0)).st == .unprovisioned && !quotaBad (quotaOf (w.bytes 4 32)) &&
       (u.grant (w.u16 0) (quotaOf (w.bytes 4 32))).isSome),
     acc flaskDestroyMeta hosted [f2 0 2] (fun w u => (u.fn (w.u16 0)).st == .unprovisioned),
     acc flaskDestroyMeta (inState .offline) [f2 0 1] (fun w u => (u.fn (w.u16 0)).st == .offline),
     acc flaskDestroyMeta (inState .resetting) [f2 0 1] (fun w u => (u.fn (w.u16 0)).st == .resetting),
     acc flaskDestroyMeta hosted [f2 0 1] (fun w u => (u.fn (w.u16 0)).st == .active),
     acc flaskSetQuotaMeta hosted [f2 0 1, f1 8 16] (fun w u => (u.fn (w.u16 0)).st == .active && !quotaBad (quotaOf (w.bytes 4 32)) &&
       !(u.fn (w.u16 0)).msixEn && (u.grant (w.u16 0) (quotaOf (w.bytes 4 32))).isSome),
     acc flaskResetMeta hosted [f2 0 1] (fun w u => hostFn u w == some 1 && (u.fn 1).st != .unprovisioned),
     acc flaskResetMeta hosted [] (fun w u => hostFn u w == some 0 && (u.fn 0).st != .unprovisioned),
     acc flaskReleaseMeta (inState .contained) [f2 0 1] (fun w u => hostFn u w == some 1 && (u.fn 1).st == .contained),
     acc flaskReleaseMeta hosted [f2 0 1] (fun w u => hostFn u w == some 1 && (u.fn 1).st != .contained),
     acc flaskContainMeta hosted [f2 0 1] (fun w u => hostFn u w == some 1 && (u.fn 1).st == .active),
     acc flaskContainMeta (inState .contained) [f2 0 1] (fun w u => hostFn u w == some 1 && (u.fn 1).st == .contained),
     acc flaskContainMeta (inState .offline) [f2 0 1] (fun w u => hostFn u w == some 1 && (u.fn 1).st == .offline),
     acc flaskListMeta hosted [f2 0 3072, f2 2 1024] (fun w _ => w.u16 2 == 1024 && w.u16 0 + w.u16 2 == 4096),
     acc linkQueryMeta hosted [f1 0 1] (fun w _ => w.u8 0 == 1)].all id = true := by decide +kernel

/-- A contained flask, and one that is not. -/
theorem test_witness_FlaskStatesMove : ((inState .contained).fn 1).st = .contained ∧ (hosted.fn 1).st ≠ .contained ∧ (2 : Nat) ≠ 1 := by decide +kernel

/-! Hypotheses of the statements about queues and the ledger (05, 06) -/

/-- PF0 with work queue 0 of the kind given, its entries and one read outstanding, bound to completion queue 0 of 64 slots. -/
def wqv (kind : Nat) (e : List Entry) : WorkQ :=
  { fn := 0, localNo := 0, kind := kind, sizeLog2 := 6, base := 0x10000, mirror := 0x20000, cq := 0, weight := 4, burst := 8, holdUs := 50, mode := 0,
    tmq := 0xFFFF, prod := 8, entries := e }
def cqv : CompQ := { fn := 0, localNo := 0, sizeLog2 := 6, base := 0x30000, vector := 1, modCount := 1, modTimeUs := 0, autoArm := false, widx := 4 }
def queued (q : WorkQ) : State := ({ hosted with pwr := { hosted.pwr with ready := true } }.setWq 0 q).setCq 0 cqv
/-- An entry with this opcode and flags. -/
def entry (op flags : Nat) : Entry := { idx := 0, raw := patch (zeros 64) 0 [BitVec.ofNat 8 op, BitVec.ofNat 8 flags], slot := 0 }

/-- A doorbell that moves PRODUCER by eight; consumer indices with and without RE-ARM. -/
theorem test_witness_DoorbellsComplete :
    [let s := queued (wqv 0 []); (s.fn 0).st == .active && s.pdOn 34 && bits 16 31 16 == 0 && !Nat.testBit 16 32 && s.wqOf 0 0 == some 0 &&
       s.wq? 0 == some (wqv 0 []) && decide (idxSub (bits 72 15 0) 0 ≤ 72 ∧ idxSub (bits 64 15 0) 0 ≤ (wqv 0 []).size ∧ idxSub 8 0 ≤ idxSub 64 0),
     let s := queued (wqv 0 []); s.cqOf 0 0 == some 0 && s.cq? 0 == some cqv && decide (idxSub (bits (2 ^ 32 + 4) 15 0) 0 ≤ idxSub 4 0) &&
       Nat.testBit (2 ^ 32 + 4) 32 && !Nat.testBit (2 ^ 32 + 4) 33,
     (cqv.armed && cqv.since == 0) && Nat.testBit (3 * 2 ^ 32 + 4) 33].all id = true := by decide +kernel

/-- A doorbell of a wrong slot and of a queue that does not exist. -/
theorem test_witness_BadDoorbellsAreRecorded :
    [let s := hosted; (s.fn 0).st == .active && s.pdOn 34 && bits 0x10000 31 16 != 0 && bits 0 31 16 == 0 && (s.wqOf 0 0).isNone && (s.cqOf 0 0).isNone &&
       Nat.testBit (2 ^ 32) 32].all id = true := by decide +kernel

/-- A queue to fetch for, returns, entries to accept, deliver, complete, moderate and run. -/
theorem test_witness_QueueEngineCompletes :
    [let s := queued (wqv 0 []); let s2 := s.newRound
     match afterLast s2.qm.last (s2.fetchable.filter (fun x => x.2.allowance != 0)) with
     | some (g, q) => ((s2.issueFetch g (min q.rburst q.allowance)).wq? g).isSome
     | none => false,
     (queued { wqv 0 [] with reads := [{ first := 0, count := 8, slots := [], discard := true }] }).wq? 0 |>.any (fun x => x.reads.any (·.discard)),
     (queued { wqv 0 [] with reads := [{ first := 0, count := 8, slots := [], discard := false }] }).wq? 0 |>.any (fun x => x.reads.any (fun r => !r.discard)),
     let s := queued (wqv 0 [entry 0 0]); (s.wq? 0).any (fun x => (x.entries.find? (fun e => !e.acc)).any (fun e => !s.commitsStopped && decide (x.st ≤ 2) &&
       !e.badCls && decide (s.regN (Reg.LG_CLASS_HELD e.ledgerClass) < s.classLimit e.ledgerClass))),
     [0, 1, 2].all (fun k => let s := queued (wqv k [{ entry 1 1 with wantTable := true }]); match s.tableArrives 0 0 [] with
       | (some _, t) => (t.wq? 0).any (fun x => x.kind == k)
       | _ => false),
     let s := queued (wqv 0 [{ entry 1 0 with want := 64 }]); (s.wq? 0).any (fun x => (x.entry? 0).any (fun e => e.want == 64 && !e.ended &&
       decide (e.got.length < e.want) && e.frame.isNone)),
     let s := queued (wqv 0 []); (s.wq? 0).any (fun x => s.fnServes x.fn),
     ((queued (wqv 0 [])).setCq 0 { cqv with since := 1 }).cq? 0 |>.any (fun k => k.armed && k.since != 0),
     let s := queued (wqv 1 []); (s.wq? 0).any (fun x => x.kind == 1 && s.wantsFetch x && s.credits x.cq != 0),
     let s := (queued (wqv 1 [])).setCq 0 { cqv with widx := 64 }; (s.wq? 0).any (fun x => s.wantsFetch x && s.credits x.cq == 0),
     (queued { wqv 1 [] with rx := [{ bytes := zeros 64, req := { status := 0 }, deadline := 9 }] }).wq? 0 |>.any (fun x => !x.rx.isEmpty),
     let s := queued (wqv 0 [{ entry 0 0 with acc := true }]); (s.wq? 0).any (fun x => (x.canStart 0 0).any (fun e => e.acc) && x.kind != 1),
     let s := queued (wqv 0 [entry 1 0]); (s.wq? 0).any (fun x => (x.canStart 0 1).isSome && s.fnServes x.fn),
     let s := queued (wqv 1 [{ entry 0x10 0 with acc := true }]); (s.wq? 0).any (fun x => (x.canStart 0 0x10).any (fun e => e.acc && !e.indirect))].all id = true := by
  decide +kernel

/-- A queue in each state, with boundary sizes and weights. -/
theorem test_witness_QueueOpcodesComplete :
    [acc wqCreateMeta (queued (wqv 0 [])) [f1 3 6, f1 22 1, f1 23 1, f2 28 0xFFFF] (fun w u => createFn (fun _ => w.u8 30) u w == some 0 &&
       u.namedCq (w.u16 0) (w.u16 20) == some 0 && u.cq? 0 == some cqv && !wqFieldsBad w && !u.tmqNameBad (flaskNo 0) (w.u16 28) &&
       u.fld Reg.QM_WQ_FREE 16 0 != 0),
     acc wqDestroyMeta (queued { wqv 0 [] with st := 4 }) [] (fun w u => u.namedWq (w.u16 0) (w.u16 2) == some 0 && (u.wq? 0).any (fun q => q.st == 4)),
     acc wqModifyMeta (queued (wqv 0 [])) [f1 4 1, f1 5 1] (fun w u => u.namedWq 0 0 == some 0 && w.u8 4 == 1 && w.u8 5 != 0),
     acc wqModifyMeta (queued (wqv 0 [])) [f1 4 2, f1 6 64] (fun w u => u.namedWq 0 0 == some 0 && w.u8 4 == 2 && w.u8 6 == 64),
     acc wqQueryMeta (queued (wqv 0 [])) [] (fun w u => u.namedWq (w.u16 0) (w.u16 2) == some 0),
     acc wqPauseMeta (queued (wqv 0 [])) [] (fun _ u => (u.wq? 0).any (fun q => decide (q.st < 3) && q.reads == [])),
     acc wqPauseMeta (queued { wqv 0 [] with reads := [{ first := 0, count := 8, slots := [], discard := false }] }) [] (fun _ u =>
       (u.wq? 0).any (fun q => decide (q.st < 3) && q.reads != [])),
     acc wqResumeMeta (queued { wqv 0 [] with st := 2 }) [] (fun _ u => (u.wq? 0).any (fun q => q.st == 2)),
     acc wqResizeMeta (queued { wqv 0 [] with st := 2 }) [f1 4 15] (fun w u => (u.wq? 0).any (fun q => q.st == 2 && w.u8 4 == 15 && w.u64 8 % 64 == 0 &&
       decide (idxSub q.prod q.completed ≤ 2 ^ w.u8 4))),
     acc wqShutdownMeta (queued (wqv 0 [])) [] (fun _ u => (u.wq? 0).any (fun q => decide (q.st < 3))),
     acc wqShutdownMeta (queued { wqv 0 [] with st := 4 }) [] (fun _ u => (u.wq? 0).any (fun q => q.st == 4)),
     let s0 := queued { wqv 0 [] with st := 2 }; let s : State := { s0 with wb := { s0.wb with pend :=
       [{ inst := .jtag, opcode := 0x0304, tag := 7, flags := 5, issuer := 0x50000000, cls := .f, obj := none, mtag := 0, chain := false, slots := 0,
          deadline := 9, wait := .wqPause 0 }] } }; s.waits (.wqPause 0) && (s.wq? 0).any (fun x => x.reads == []),
     let s := queued { wqv 0 [] with st := 3 }; (s.wq? 0).any (fun x => x.st == 3 && s.fnServes x.fn) && !s.commitsStopped && (s.commitAll 0).allCommitted 0 &&
       (((s.commitAll 0).writeDone 0 false false).wq? 0).isSome,
     acc cqCreateMeta hosted [f1 2 15, f2 14 256] (fun w u => createFn (fun _ => w.u8 18) u w == some 0 && w.u8 2 == 15 && w.u64 4 % 128 == 0 &&
       !u.cqParamsBad 0 (w.u16 12) (w.u16 14) (w.u16 16) && u.fld Reg.QM_CQ_FREE 16 0 != 0),
     acc cqDestroyMeta (hosted.setCq 0 cqv) [] (fun w u => u.namedCq (w.u16 0) (w.u16 2) == some 0 && u.cq? 0 == some cqv && u.boundTo 0 == 0),
     acc cqModifyMeta (hosted.setCq 0 cqv) [f2 8 1] (fun w u => u.namedCq 0 0 == some 0 && !u.cqParamsBad 0 (w.u16 6) (w.u16 8) (w.u16 10) && !(w.u8 4).testBit 0),
     acc cqQueryMeta (hosted.setCq 0 cqv) [] (fun w u => u.namedCq (w.u16 0) (w.u16 2) == some 0),
     acc qmSetParamsMeta live [f1 0 64, f1 1 1] (fun w _ => w.u8 0 == 64 && w.u8 1 != 0)].all id = true := by decide +kernel

/-- A half in service, one with a row under repair, one lost, one being copied, one being restored. -/
theorem test_witness_LedgerFaultsComplete :
    [!live.halfLost false && live.halfState false == 0,
     let s := { live with lg := { live.lg with rows := [⟨false, 5, 9⟩] } }.setHalf false 1; s.lg.rows.any (fun r => r.half == false && r.row == 5) &&
       s.halfState false == 1 && !(s.lg.rows.filter (fun r => !(r.half == false && r.row == 5))).any (fun r => r.half == false),
     ({ live with lg := { live.lg with copying := some true } } : State).lg.copying == some true,
     let s := live.setLost true true; s.halfLost true && s.lg.restoring.isNone && s.pdOn 43 && !s.halfLost false,
     ({ live with lg := { live.lg with restoring := some false } } : State).lg.restoring == some false].all id = true := by decide +kernel

/-! Hypotheses of the statements about drives and storage (15) -/

/-- The storage unit, a DRAM channel and the traffic manager in service; drive port 2 in a state, with this drive; a command of each kind. -/
def stor : State := serve [8, 14, 15] hosted
def port2 (st : Nat) (d : Drive) : State := (((stor.setFld (Reg.DP_PORT_STAT 2) 31 29 7).setDrvSt 2 st).setFld (Reg.DP_PORT_CTRL 2) 30 30 1).setDrive 2 d
def io5 (remote : Bool) (op : Nat) (tries : Nat) : Io :=
  { id := 5, g := 0, idx := 0, part := 0, owner := 0, vbf := 0, extent := 0, op := op, remote := remote, port := 2, nsid := 1, lba := 0, vlba := 0,
    blocks := 1, bs := 512, off := 0, stage := 4096, len := 512, st := .issued, tries := tries }
def withIo (x : Io) (s : State) : State := { s with dp := { s.dp with ios := [x], tgts := SMap.put s.dp.tgts 2 { st := 2, info := ⟨2, 0, 4096, []⟩ } } }

/-- A block entry of each opcode, and one with a fragment table. -/
theorem test_witness_BlockEntriesComplete :
    [[0x21, 0x22, 0x23, 0x24, 0x25].all (fun op => let s := serve [14] (queued (wqv 2 [{ entry op 0 with acc := true }]));
      (s.wq? 0).any (fun x => x.kind == 2 && s.fnServes x.fn && s.inService 14 && (x.canStart 0 op).any (fun e => e.acc && !e.indirect))),
     [0x21, 0x22].all (fun op => let s := serve [14] (queued (wqv 2 [{ entry op 1 with acc := true }]));
      (s.wq? 0).any (fun x => (x.canStart 0 op).any (fun e => e.acc && e.indirect)))].all id = true := by decide +kernel

/-- An empty port, each start step, a blink, a quiescing drive, a command and a reset running. -/
theorem test_witness_DrivePortEventsComplete :
    [stor.portOk 3 && !stor.flag (Reg.DP_PORT_STAT 3) 31,
     [1, 2, 3, 4, 5].all (fun k => let s := port2 2 { step := k }; s.portOk 2 && s.drvSt 2 == 2 && (s.drive 2).step == k),
     let s := port2 3 {}; s.flag (Reg.DP_PORT_STAT 2) 31 && s.flag (Reg.DP_PORT_STAT 2) 30 && s.flag (Reg.DP_PORT_STAT 2) 29 &&
       s.flag (Reg.DP_PORT_CTRL 2) 30 && (s.drive 2).blink.isNone && s.drvSt 2 == 3,
     let s := port2 1 {}; (s.drive 2).blink.isNone && s.drvSt 2 == 1,
     ((port2 1 { blink := some (.start, 5) }).drive 2).blink == some (.start, 5), ((port2 3 { blink := some (.remove, 5) }).drive 2).blink == some (.remove, 5),
     (port2 4 {}).drvSt 2 == 4,
     let s := withIo (io5 false 0x21 0) (port2 3 {}); (s.io? 5).any (fun x => s.portOk 2 && !x.remote && x.port == 2 && x.st == .issued && s.drvSt 2 == 3),
     ((port2 3 { resetting := some 7 }).drive 2).resetting == some 7].all id = true := by decide +kernel

/-- An admin command, commands of a drive and of a target, requests into and outside their data. -/
theorem test_witness_StorageCommandEventsComplete :
    [let s := port2 3 { adm := some 9 }; s.portOk 2 && (s.drive 2).adm == some 9,
     let s := withIo (io5 false 0x21 0) (port2 3 {}); (s.io? 5).any (fun x => !x.remote && x.port == 2 && x.st == .issued) && (s.drive 2).resetting.isNone,
     let s := withIo (io5 true 0x21 0) stor; (s.io? 5).any (fun x => s.inService 14 && x.remote && x.port == 2 && x.st == .issued && x.op == 0x21 &&
       decide (256 + 256 ≤ x.len) && decide (x.tries < 2)) && (s.tgt 2).st == 2 && decide (2 ≤ (s.tgt 2).info.conns),
     let s := withIo (io5 false 0x21 0) (port2 3 {}); (s.dp.ios.find? (fun x => !x.remote && x.port == 2 && x.st == .issued && x.len != 0 &&
       decide (x.stage ≤ 4096) && decide (4096 + 512 ≤ x.stage + x.len))).isSome && !(s.dramFetch 4096 512).2.1,
     let s := withIo (io5 false 0x21 0) (port2 3 {}); (s.dp.ios.find? (fun x => !x.remote && x.port == 2 && x.st == .issued && x.len != 0 &&
       decide (x.stage ≤ 4097) && decide (4097 + 512 ≤ x.stage + x.len))).isNone,
     let s := withIo (io5 true 0x22 0) stor; (s.io? 5).any (fun x => x.nvmeOp == 1 && decide (0 + 512 ≤ x.len)) &&
       !((s.setTgt 2 { s.tgt 2 with rto := [] }).dramFetch 4096 512).2.1,
     let s := withIo (io5 true 0x21 2) stor; (s.io? 5).any (fun x => x.tries == 2),
     let s := withIo (io5 true 0x21 0) stor; let t := s.setTgt 2 { s.tgt 2 with rto := [(1, 7)] }; decide (8 ≤ SMap.getD (t.tgt 2).rto 1 0 + 1) &&
       decide (SMap.getD (s.tgt 2).rto 1 0 + 1 < 8),
     ((stor.setTgt 2 { st := 1 }).tgt 2).st == 1, ((stor.setTgt 2 { st := 1, again := true }).tgt 2).again].all id = true := by decide +kernel

/-- A VBF of two extents of which the second is unused, and its record as a parameter. -/
def vbf7 : State := { stor with dp := { stor.dp with vbfs := [{ owner := 0, num := 7, blockSize := 512, key := none, extents := [leBytes 1 1 ++ zeros 3 ++
  leBytes 4 1 ++ zeros 8 ++ leBytes 8 8 ++ zeros 24] }] } }

/-- Each opcode of 0x0B00, at the ends of the ranges it checks. -/
theorem test_witness_StorageOpcodesComplete :
    [acc drvQueryMeta stor [f1 0 3] (fun w _ => w.u8 0 == 3),
     acc drvPowerMeta (port2 3 {}) [f1 0 2] (fun w u => w.u8 1 == 0 && u.drvSt 2 == 3), acc drvPowerMeta (port2 1 {}) [f1 0 2] (fun w u => w.u8 1 == 0 && u.drvSt 2 == 1),
     acc drvPowerMeta (port2 1 {}) [f1 0 2, f1 1 1] (fun w u => w.u8 1 == 1 && u.drvSt 2 == 1),
     acc drvPowerMeta (port2 3 {}) [f1 0 2, f1 1 1] (fun w u => w.u8 1 == 1 && u.drvSt 2 == 3),
     acc drvPowerMeta (port2 3 {}) [f1 0 2, f1 1 2] (fun w u => w.u8 1 == 2 && u.drvSt 2 == 3),
     acc drvPowerMeta stor [f1 0 3, f1 1 2] (fun w u => w.u8 1 == 2 && u.drvSt 3 == 0),
     acc drvAdminMeta (port2 3 {}) [f1 0 2, f1 1 2, f1 8 6] (fun w u => w.u8 1 == 2 && !adminRefused.contains (w.u8 8) && u.drvSt 2 == 3 && (u.drive 2).adm.isNone &&
       (u.drive 2).resetting.isNone) 72,
     acc tgtConnectMeta stor [f1 0 2, f1 1 16] (fun w u => w.u8 1 == 16 && (u.tmq? (w.u16 22)).any (fun q => q.owner == 0 && !q.destroying) &&
       (u.tgt 2).st == 0 && (u.wqOf 0 0xFF02).isNone),
     acc tgtDisconnectMeta (stor.setTgt 2 { st := 2 }) [f1 0 2] (fun _ u => (u.tgt 2).st != 0),
     acc tgtQueryMeta (stor.setTgt 2 { st := 2 }) [f1 0 2] (fun _ u => (SMap.get? u.dp.tgts 2).isSome),
     acc dpSetParamsMeta stor [] (fun w u => let st := w.u32 4 &&& 0x001F00FF; !u.stageBad st && u.dp.vbfs.isEmpty &&
       !u.poolShort ((u.setRegN Reg.DP_STAGE st).cfgWritten 14)),
     acc drvPortSetMeta stor [f1 0 3] (fun w _ => w.u8 0 == 3),
     acc vbfCreateMeta (stor.setRegN Reg.DP_STAGE 0x10000) [f1 2 7, f1 6 1, f1 8 1, f8 24 8] (fun w u => (u.vbfOf (w.u16 0) (w.u8 2)).isNone && w.u8 6 == 1 &&
       !((List.range (w.u8 6)).map (fun i => w.bytes (8 + 48 * i) 48)).any (fun x => extKind x == 0 || extBad x) && u.fld Reg.DP_STAGE 20 16 != 0 && u.dramUp &&
       !u.extentsOver (w.u16 0) (w.u8 6)),
     acc vbfDestroyMeta vbf7 [f1 2 7] (fun w u => (u.vbfOf (w.u16 0) (w.u8 2)).any (fun v => !u.vbfBusy v.owner v.num)),
     acc extentSetMeta vbf7 [f1 2 7, f1 3 63] (fun w u => (u.vbfOf (w.u16 0) (w.u8 2)).any (fun v => let i := w.u8 3; let x := extRec (w.bytes 8 48)
       let all := (v.extents ++ List.replicate (i + 1 - v.extents.length) (zeros 48)).set i x
       i == 63 && !extBad (w.bytes 8 48) && !all.all (fun y => extKind y == 0) && extKind x == 0)),
     acc vbfQueryMeta vbf7 [f1 2 7] (fun w u => (u.vbfOf (w.u16 0) (w.u8 2)).isSome)].all id = true := by decide +kernel

/-! Hypotheses of the statements about frames and the parser (07, 18) -/

/-- Port 3 up, parser, classifier and cipher in service; frame 5 in a stage. -/
def net : State := (serve [5, 6, 7, 8, 9, 10, 20] hosted).setFld (npBase 3 + 4) 31 31 1
def frame (st : Stage) : Frame := { bytes := zeros 60, tx := false, src := 3, stage := st }
def flight (f : Frame) : State := net.setFrame 5 f

/-- The packet of the IEEE 802.1AE example (GCM-AES-128, confidentiality), and its slot: the example's nonce is its SCI and PN. -/
def secPacket : List Byte :=
  beBytes 28 0xD609B1F056637A0D46DF998D88E52E00B2C2846512153524C0895E81
    ++ beBytes 48 0x701AFA1CC039C0D765128A665DAB69243899BF7318CCDC81C9931DA17FBE8EDD7D17CB8B4C26FC81E3284F2B7FBA713D
    ++ beBytes 16 0x4F8D55E7D3F06FD5A13C0C29B9D5B880
def secSlot (seq : Nat) : KeySlot :=
  { st := 2, key := beBytes 16 0xAD7A2BD03EAC835A6F620FDCB506B345,
    rcd := patch (patch (patch (zeros 64) 2 [5]) 16 (beBytes 12 0x12153524C0895E8100000000)) 32 (leBytes 8 seq) }
def secured (b : List Byte) (k : KeySlot) : State :=
  let s := flight { frame .macsec with bytes := b }
  { s with cx := { s.cx with slots := SMap.put [] 9 k,
                             rxsc := SMap.put [] 0 ([1, 0x83, 0, 0] ++ leBytes 8 0x12153524C0895E81 ++ leBytes 4 0xFFFFFFFF ++ leBytes 2 9 ++ leBytes 2 0xFFFF) } }

/-- Frames at and past each length, MACsec frames of each outcome, a pass, an exception, a lock, an engine. -/
theorem test_witness_FramePathCompletes :
    [net.portUp 3 && !net.looped 3 && decide ((zeros 59).length < 60) && decide (net.maxFrame 3 < (zeros 16385).length) &&
       decide ((zeros 60).length ≤ net.maxFrame 3) && be16 (zeros 60) 12 != 0x8808,
     let s := flight (frame .macsec); (s.frame? 5).any (fun f => f.stage == .macsec && !f.tail && (s.rxSlot f.src f.bytes).isNone),
     let s := secured secPacket {}; (s.frame? 5).any (fun f => (s.rxSlot f.src f.bytes) == some 9 && (s.keySlot 9).st != 2),
     let s := secured secPacket (secSlot 0); (s.frame? 5).any (fun f => (s.rxSlot f.src f.bytes) == some 9 && (s.keySlot 9).st == 2 &&
       (s.keySlot 9).framing == 5 && (macsecIn (s.keySlot 9) f.bytes).1 == .ok),
     let s := secured secPacket (secSlot 0xB2C28465); (s.frame? 5).any (fun f => (macsecIn (s.keySlot 9) f.bytes).1 == .replay),
     let s := flight (frame (.parse 0 0 false false)); s.inService 5 && s.inService 6 && (s.frame? 5).isSome,
     let s := live.setFrame 5 (frame (.parse 0 0 false false)); !s.inService 5 && (s.frame? 5).isSome,
     let s := { net with parser := { net.parser with exc := [(0, zeros 64)] } }; s.ctlUp && s.parser.exc == [(0, zeros 64)],
     let s := (queued (wqv 1 [])).pf0RxQueue 0; s && (queued (wqv 1 [])).rxCanTake 0 && !live.pf0RxQueue 0,
     ((net.setPdir true { net.pdir true with lock := some 9 }).pdir true).lock == some 9,
     ((flight (frame (.engine 2))).frame? 5).any (fun f => f.stage == .engine 2),
     ((flight (frame (.thread 2 7))).frame? 5).any (fun f => f.stage == .thread 2 7)].all id = true := by decide +kernel

/-- The receive graph's first node accepts every frame, or a header of 61 bytes with EXC_ON_ERR; its inactive bank holds graph 1. -/
def node0 : List Byte := patch (zeros 64) 0 [1]
def longNode : List Byte := patch (zeros 64) 0 [5, 0, 61]
def accepting (f : Frame) : State :=
  let s := flight f; s.setPdir false { s.pdir false with bank0 := [(0, node0)], bank1 := [(0, node0)] }
def graph : State := net.setPdir false { net.pdir false with bank1 := [(0, node0)], id1 := 1 }

/-- The three ways a pass ends: an exception; a caravan port's frame; the classifier. -/
theorem test_witness_parse_pass_ends :
    [let f := frame (.parse 0 0 false false); let s := (flight f).setPdir false { net.pdir false with bank0 := [(0, longNode)] };
       (s.passDone 5 f 0 0 false false []).1.ps.exc,
     let f := { frame (.parse 0 0 false false) with src := 8 }; let s := accepting f; !(s.passDone 5 f 0 0 false false []).1.ps.exc,
     let f := frame (.parse 0 0 false false); let s := accepting f; !(s.passDone 5 f 0 0 false false []).1.ps.exc].all id = true := by decide +kernel

/-- Each opcode of 0x0400, at the ends of its ranges. -/
theorem test_witness_ParserOpcodesComplete :
    [acc parseGraphLoadMeta live [f1 2 255, f1 3 1] (fun w u => w.u8 2 + w.u8 3 == 256 && !u.bankLocked false) 72,
     acc parseGraphActivateMeta graph [f4 4 1] (fun w u => let d := u.pdir false; d.id 1 == w.u32 4 && (u8 (SMap.getD (d.nodes 1) 0 (zeros 64)) 0).testBit 0 &&
       !(w.u8 1).testBit 0 && !u.bankLocked false),
     acc parseGraphReadMeta live [f1 0 1, f1 1 1, f1 2 193, f1 3 63] (fun w _ => w.u8 3 == 63 && w.u8 2 + w.u8 3 == 256),
     acc parseSetDepthMeta live [f1 0 1, f1 1 8, f1 2 1] (fun w _ => w.u8 0 == 1 && w.u8 1 == 8),
     acc parseSetExcMeta live [f2 0 0xFFFF, f1 2 64, f4 4 1000000, f2 8 1, f2 10 4095, f4 12 0] (fun w _ => w.u16 0 == 0xFFFF && w.u8 2 == 64 &&
       w.u32 4 == 1000000 && w.u16 8 == 1 && w.u16 10 == 4095),
     acc parseSetGeneveMeta live, acc parseQueryMeta live, acc parseTestMeta live [f2 6 14] (fun w _ => w.u16 6 == 14) 22].all id = true := by decide +kernel

/-! Hypotheses of the statements about the classifier (08) -/

/-- Group 0 on for both directions with one care byte; rule 3 valid on the key of zeros; PF0's receive queue 0. -/
def classed : State :=
  let s := queued (wqv 1 [])
  { s with cl := { s.cl with groups := [(0, patch (zeros 72) 0 [0xFF] ++ [])].map (fun x => (x.1, patch (patch x.2 64 [7]) 65 [1])),
                             rules := [(3, patch (patch (zeros 16) 2 [0, 0x80]) 8 [5])],
                             entries := [(40, zeros 24 ++ [0x80, 0] ++ leBytes 2 0x8003 ++ zeros 4)] } }

/-- Each opcode of 0x0500, at the ends of its ranges. -/
theorem test_witness_ClassifierOpcodesComplete :
    [acc clQueryMeta live,
     acc groupSetMeta live [f1 0 47, (4, List.replicate 24 255)] (fun w u => w.u8 0 == 47 && ((w.bytes 4 64).filter (· != 0)).length == 24 && u.groupEntries 47 == 0),
     acc groupReadMeta live [f1 0 47] (fun w _ => w.u8 0 == 47),
     acc tollAllocMeta live [f1 2 15, f2 4 80, f2 6 80] (fun w u => w.u16 4 == w.u16 6 && w.u8 2 == 15 && u.ownerExists (w.u16 0) &&
       (u.tollPick (w.u16 0) (w.u8 2) (w.u16 4) (w.u16 6)).isSome),
     acc tollAllocMeta hosted [f2 0 1] (fun w u => w.u16 0 == 1 && u.ownerExists 1 && (u.tollPick 1 0 0 0).isNone),
     acc tollFreeMeta (live.setHeld 95 0 2) [f1 2 95] (fun w u => w.u8 2 == 95 && u.tollHeld 95 0 == 2),
     acc tollFreeMeta (live.setHeld 0 0 1) [] (fun w u => u.tollHeld (w.u8 2) 0 == 1 && !u.tollUsed 0 0),
     acc tollQueryMeta live [f2 0 0xFFFF] (fun w _ => w.u16 0 == 0xFFFF),
     acc actionSetMeta live [f2 0 8191] (fun w u => w.u16 0 == 8191 && !u.listBad (w.u16 0) (w.bytes 4 72)), acc actionReadMeta live [f2 0 8191],
     acc clSetParamsMeta live [f2 8 64, f2 10 0xFFFF] (fun w _ => w.u16 8 % 128 == 64 && w.u16 10 == 0xFFFF),
     acc engineSetDefineMeta live [f1 0 15] (fun w _ => w.u8 0 == 15),
     acc mirrorSetMeta classed [f1 0 15, f2 4 0x8000] (fun w u => let v := setBits (w.u32 4) 14 8 0; w.u8 0 == 15 && v.testBit 15 && u.pf0RxQueue (bits v 31 16)),
     acc templateSetMeta live [f2 0 2047, f2 2 4095] (fun w _ => w.u16 0 == 2047 && w.u16 2 == 4095),
     acc clTestMeta classed [f1 0 1] (fun w u => w.u8 0 == 1 &&
       ((u.classView []).classify (w.u8 0 == 1) (w.bytes 4 64) (w.bytes 68 64) (w.u16 2)).1 == some (3, 0) && noGroup != 0),
     acc clClearMeta live, ({ live with cl := { live.cl with clearing := true } } : State).cl.clearing,
     acc ruleAddMeta classed [f2 0 32767, f1 3 1, f1 24 1] (fun w u => let i := w.u16 0; let rc := ruleRecord (w.bytes 4 16); let keys := u.ruleKeys w
       i == 32767 && w.u8 3 == 1 && !ruleValid (u.rule i) && keys.all (fun k => u.groupOn k.1) && u.tollRefOk 0 (u8 rc 4) && u.tollRefOk 0 (u8 rc 5) &&
       listOwner (u.actList (ruleList rc)) == 0 && !hasDup keys) 88,
     acc ruleDeleteMeta classed [f2 0 3] (fun w u => ruleValid (u.rule (w.u16 0))),
     acc ruleModifyMeta classed [f2 0 3, f2 2 8191] (fun w u => let old := u.rule (w.u16 0); ruleValid old && listOwner (u.actList (w.u16 2 % 8192)) == 0 &&
       u.tollRefOk 0 (u8 old 4) && u.tollRefOk 0 (u8 old 5)),
     acc ruleQueryMeta live [f2 0 32767] (fun w _ => w.u16 0 == 32767)].all id = true := by decide +kernel

/-- A rule finds a place in a set without entries whatever the hashes, and none on a key with three rules. -/
theorem test_witness_rule_placement :
    [(({ classed with cl := { classed.cl with entries := [] } } : State).addKeys 9 [(0, zeros 24)] []).isSome,
     (classed.addKeys 9 [(0, zeros 24)] [(40, zeros 24 ++ [0x80, 0] ++ leBytes 2 0x8001 ++ leBytes 2 0x8002 ++ leBytes 2 0x8003)]).isNone].all id = true := by
  decide +kernel

/-! Hypotheses of the statements about the forwarding tables (09) -/

/-- Narrow table 2 of 64 buckets with keys of 6 bytes; a profile and a learn profile that name it; a static entry of the key of zeros. -/
def desc2 : List Byte := [2, 0, 6, 6, 0, 0, 0, 90] ++ zeros 2 ++ [1] ++ zeros 21
def table2 : Table := { desc := desc2, act := { sizeLog2 := 6, seed := 0 } }
def entry2 : List Byte := zeros 12 ++ [1] ++ zeros 19
def lookup2 (t : Table) : State :=
  let s := serve [5, 6, 7, 8, 15] hosted
  { s with lk := { s.lk with tables := [(2, t)], profiles := [(4, [0x82, 0, 6] ++ zeros 5)], learns := [(4, zeros 32)] } }
/-- Table 2 with the entry in a candidate way. -/
def held2 : Table :=
  let b := (table2.act.cands (zeros 6)).headD 0
  { table2 with act := table2.act.put b entry2 }

/-- Commands on a port, a lookup, a rebuild's steps, a flip, bulk commands, a learned record, a sweep. -/
theorem test_witness_TableEventsComplete :
    [[1, 2, 3, 4, 5, 6, 7].all (fun op => let s := ((lookup2 table2).setFld (Reg.TB_STAT 1) 31 31 1).setRegN (Reg.TB_CMD 1) (op * 2 ^ 28 + 2 * 2 ^ 20);
       s.flag (Reg.TB_STAT 1) 31 && bits (s.regN (Reg.TB_CMD 1)) 31 28 == op),
     let s := (lookup2 table2).setFrame 5 { frame .lookup with cont := { acts := [[0x0D, 4, 0, 0, 0, 0, 0, 0]] } }; (s.frame? 5).any (fun f => f.stage == .lookup &&
       f.cont.acts.any (fun a => (s.profileKey (u8 a 1) f.ps.key).isSome)),
     let t : Table := { table2 with shadow := some { sizeLog2 := 6, seed := 1, tag := 1 }, rebuild := 1, copied := 63 }; let s := lookup2 t; (s.table? 2).any (fun t =>
       t.shadow.any (fun sh => t.rebuild == 1 && (t.shadowAll sh [] false).isSome && decide (2 ^ t.act.sizeLog2 ≤ t.copied + 1))),
     let s := lookup2 { table2 with old := some { sizeLog2 := 6, seed := 1, tag := 1 } }; (s.table? 2).any (fun x => x.old.any (fun g => !s.oldLookups 2 g.tag)),
     ((lookup2 { table2 with bulk := some (3, 0) }).table? 2).any (fun x => x.bulk == some (3, 0)),
     ((lookup2 { table2 with bulk := some (2, 1) }).table? 2).any (fun x => x.bulk == some (2, 1)),
     let s := lookup2 table2; let q : State := { s with lk := { s.lk with queue := [⟨4, patch (zeros 64) 2 [2]⟩] } }; q.ctlUp &&
       (s.table? 2).any (fun t => (s.command (if (u8 (s.learnProfile 4) 6).testBit 1 then 3 else 1) 2 (learnEntry t (s.learnProfile 4) (zeros 64)) false 0 false true).result == rOk),
     (live.table? 2).isNone,
     let s := (lookup2 { table2 with desc := patch desc2 8 [10] }).setFld Reg.LK_CTRL 1 1 1; (s.table? 2).any (fun t => s.flag Reg.LK_CTRL 1 && t.agePeriod == 10 &&
       t.rebuild == 0)].all id = true := by decide +kernel

/-- Each opcode of 0x0600 on table 2, at the ends of its ranges. -/
theorem test_witness_TableOpcodesComplete :
    [acc tblQueryMeta (lookup2 table2) [f1 0 2] (fun w u => (u.table? (w.u8 0)).isSome),
     [0x0603, 0x0604, 0x0605].all (fun op => acc (tblMeta op entryLen 4 false) (lookup2 table2) [f1 0 2] (fun w u =>
       (u.table? (w.u8 0)).any (fun t => w.params.length == 4 + t.entrySize)) 36),
     acc (tblMeta 0x0606 keyLens 4 false) (lookup2 table2) [f1 0 2] (fun w u => (u.table? (w.u8 0)).any (fun t => w.params.length == 4 + t.keySize)) 16,
     acc tblReadMeta (lookup2 held2) [f1 0 2] (fun w u => (u.command 5 (w.u8 0) (fit 64 (w.params.drop 4)) false 0 false true).result == rOk) 16,
     acc tblWalkMeta (lookup2 table2) [f1 0 2, f2 2 63, f4 4 63] (fun w u => (u.table? (w.u8 0)).any (fun t => w.u8 1 == 0 && w.u16 2 == 63 && !t.wide &&
       decide (w.u32 4 < 2 ^ t.act.sizeLog2))),
     acc lkTestMeta (lookup2 table2) [f1 0 4] (fun w u => (u.profileKey (w.u8 0) (w.bytes 4 64)).isSome),
     acc tblCreateMeta (lookup2 table2) [(0, patch desc2 0 [63])] (fun w u => let d := descOf (w.bytes 0 32); descOk d && (u.table? (u8 d 0)).isNone &&
       u.poolHas (genBytes d (u8 d 3)) && !u.residentBad (({ table2 with desc := d } : Table).kib table2.act)),
     acc tblDestroyMeta (let s := lookup2 table2; { s with lk := { s.lk with profiles := [], learns := [] } }) [f1 0 2] (fun w u =>
       !u.profileNames (w.u8 0) && (((u.freeShadow 2).completeWait (.tblRehash 2) .aborted []).table? 2).isSome),
     acc (tblMeta 0x0609 (len 8) 0 true) (lookup2 table2) [f1 0 2, f1 1 6] (fun w u => (u.table? 2).any (fun t => w.u8 1 == 6 && t.rebuild == 0 && t.bulk.isNone &&
       t.old.isNone && u.poolHas (genBytes t.desc 6) && !u.residentBad (t.kib { sizeLog2 := 6, seed := 0, tag := 1 }))),
     acc (tblMeta 0x060A (len 4) 4 true) (lookup2 { table2 with shadow := some { sizeLog2 := 6, seed := 1, tag := 1 }, rebuild := 2 }) [f1 0 2] (fun _ u =>
       (u.table? 2).any (fun t => t.shadow.isSome && t.rebuild == 2)),
     acc (tblMeta 0x060B (len 4) 0 false) (lookup2 { table2 with shadow := some { sizeLog2 := 6, seed := 1, tag := 1 }, rebuild := 1 }) [f1 0 2] (fun _ u =>
       (u.table? 2).any (fun t => t.rebuild != 0)),
     acc (tblMeta 0x060C (len 4) 4 true) (lookup2 table2) [f1 0 2, f1 1 2] (fun w u => (u.table? 2).any (fun t => w.u8 1 == 2 && t.rebuild == 0)),
     acc tblSetParamsMeta (lookup2 table2) [f1 0 2] (fun w u => (u.table? 2).any (fun t => let t1 := t.withParams w u.now; descOk t1.desc &&
       !u.residentBad (t1.allKib - t.allKib))),
     acc lookupProfileSetMeta (lookup2 table2) [f1 4 2, f1 5 58, f1 6 6] (fun w u => !u.profileBad (w.u8 4 % 64) (w.u8 5) (w.u8 6)),
     acc learnProfileSetMeta (lookup2 table2) [f1 4 2, f1 5 1, f1 8 58, f1 9 6] (fun w u => let r := w.bytes 4 32; u8 r 1 == 1 && !u.profileBad (u8 r 0 % 64) (u8 r 4) (u8 r 5)),
     acc lkSetParamsMeta live].all id = true := by decide +kernel


/-! Hypotheses of the statements about the traffic manager (10) -/

/-- Ports 2 and 3 up, every unit in service, frame 5 to port 2 or in its queue. -/
def managed (f : Frame) : State :=
  let s := ((serve [8, 15] net).setFld (npBase 2 + 4) 31 31 1).setRegN Reg.TM_OCC 200
  s.setFrame 5 f
def out2 : Frame := { frame .enqueue with dest := some (.port 2), bytes := zeros 100 }
def queue2 : TmQ := { rcd := defaultQueueRec 2, frames := [5], cells := 1 }

/-- A frame without destination, to a port without a route, admitted, refused; departures; a read-back; samples. -/
theorem test_witness_TmEventsComplete :
    [let s := managed (frame .enqueue); (s.frame? 5).any (fun f => f.stage == .enqueue && !s.outOfTurn 5 f && s.destGone f),
     let s := managed { out2 with dest := some (.remotePort 2 1) }; (s.frame? 5).any (fun f => !s.destGone f && (f.dest.bind s.destPort).isNone),
     let s := managed out2; (s.frame? 5).any (fun f => !s.destGone f && f.dest.bind s.destPort == some 2 && !f.tail && !f.back &&
       (s.admitFrame 5 f (s.pickQueue f 2).1 2).1),
     let s := managed { out2 with tail := true, src := 3 }; (s.frame? 5).any (fun f => f.dest.bind s.destPort == some 2 && s.cutThrough f 2 (s.pickQueue f 2).1),
     let s := (managed out2).setFld (npBase 2 + 4) 31 31 0; (s.frame? 5).any (fun f => !(s.admitFrame 5 f (s.pickQueue f 2).1 2).1),
     let s := (managed { out2 with stage := .queued 2, spilled := true, cells := 1 }).setTmq 2 queue2; (s.frame? 5).any (fun f => f.stage == .queued 2 && f.spilled &&
       s.dramUp && decide (s.bytesAhead queue2.frames 5 < 65536 && s.regN Reg.TM_OCC + f.cells ≤ s.bufferCells) && (s.tmq? 2).isSome),
     let s := (managed out2).setFld Reg.TM_CTRL 30 30 1; let t := s.setTmq 2 { queue2 with rcd := patch queue2.rcd 7 [1] };
       (t.tmq? 2).any (fun x => x.periodNs != 0) && t.flag Reg.TM_CTRL 30,
     ((managed out2).setTmq 2 { queue2 with destroying := true, cells := 0, frames := [] }).tmq? 2 |>.any (fun x => x.destroying && x.cells == 0),
     let s := managed out2; let t : State := { s with tm := { s.tm with sampleBuf := SMap.put [] 2 [zeros 32] } };
       SMap.get? t.tm.sampleBuf 2 == some [zeros 32]].all id = true := by decide +kernel

/-- Each opcode of 0x0700 at the ends of its ranges. -/
theorem test_witness_TmOpcodesComplete :
    let s := managed out2
    let q : Nat × List Byte := (4, defaultQueueRec 2)
    let n : Nat × List Byte := (4, defaultNodeRec 3)
    [acc tmQueryMeta s,
     acc tmqCreateMeta s [f2 0 32767, q] (fun w u => let r := w.bytes 4 32; decide (w.u16 0 < 32768) && (u.tmq? (w.u16 0)).isNone &&
       !u.nodeBad (u16 r 0 % 4096) (u16 r 2) && !u.queueBad r && !u.minFull (w.u16 0) (u16 r 12 * 8)),
     [0, 1].all (fun c => acc tmqDestroyMeta (s.setTmq 20 { rcd := defaultQueueRec 2, cells := c }) [f2 0 20] (fun w u => !u.tmqBound (w.u16 0) &&
       (u.tmq? (w.u16 0)).any (fun x => ((u.setTmq 20 { x with destroying := true, dropped := x.frames.length }).tmq? 20).any (fun y => y.cells == c)))),
     acc tmqModifyMeta (s.setTmq 20 { rcd := defaultQueueRec 2 }) [f2 0 20, f2 2 0x7F, q] (fun w u => (u.tmq? (w.u16 0)).any (fun x => !x.destroying &&
       let m := queueNorm (mergeRec x.rcd (w.bytes 4 32) (w.u16 2) [(0, 2, 2), (1, 4, 2), (2, 6, 1), (3, 7, 3), (4, 10, 2), (5, 12, 4), (6, 16, 16)])
       !u.nodeBad (u16 m 0 % 4096) (u16 m 2) && (u.tmNode? (u16 m 2)).any (fun a => (u.tmNode? x.node).any (fun b => a.port == b.port)) && !u.queueBad m &&
         !u.minFull 20 (u16 m 12 * 8))),
     acc tmqQueryMeta s [f2 0 11] (fun w u => (u.tmq? (w.u16 0)).isSome),
     acc nodeCreateMeta s [f2 0 8191, n] (fun w u => let r := nodeNorm (w.bytes 4 32); decide (w.u16 0 < 8192) && (u.tmNode? (w.u16 0)).isNone &&
       u.ownerExists (u16 r 0 % 4096) && decide (u8 r 2 < 12) && !weightBad (u16 r 4) && !shaperBad r),
     acc nodeDestroyMeta (s.setTmNode 12 { rcd := defaultNodeRec 3 }) [f2 0 12] (fun w u => (u.tmNode? (w.u16 0)).isSome && decide (12 ≤ w.u16 0) &&
       !u.tm.queues.any (fun x => x.2.node == w.u16 0)),
     acc nodeModifyMeta s [f2 0 3, f2 2 7, n] (fun w u => (u.tmNode? (w.u16 0)).any (fun x => u8 (w.bytes 4 32) 2 % 16 == x.port &&
       let m := nodeNorm (mergeRec x.rcd (w.bytes 4 32) (w.u16 2) [(0, 4, 2), (1, 16, 16), (2, 3, 1)]); !weightBad (u16 m 4) && !shaperBad m)),
     acc classSetMeta s [f1 0 11, f1 1 7, (4, defaultClassRec)] (fun w _ => let r := w.bytes 4 32;
       let m := leBytes 1 (u8 r 0 % 2) ++ [0] ++ slice r 2 2 ++ zeros 12 ++ shaperNorm r
       decide (w.u8 0 < 12 && w.u8 1 < 8) && !weightBad (u16 m 2) && !shaperBad m),
     acc portSetMeta s [f1 0 11, (4, defaultPortRec 3)] (fun w _ => let r := w.bytes 4 32; let m := slice r 0 1 ++ zeros 15 ++ shaperNorm r
       decide (w.u8 0 < 12) && !overheadBad (u8 m 0) && !shaperBad m),
     acc policerSetMeta s [f2 0 16383] (fun w u => let r := policerNorm (w.bytes 4 32); decide (w.u16 0 < 16384 && u8 r 0 ≤ 2) && !overheadBad (u8 r 2) &&
       u.ownerExists (u16 r 4 % 4096)),
     acc policerSetMeta s [f1 4 2, f4 12 5, f4 16 5] (fun w u => let r := policerNorm (w.bytes 4 32); u8 r 0 == 2 && decide (u32 r 8 ≤ u32 r 12) &&
       u.ownerExists (u16 r 4 % 4096)),
     acc policerSetMeta s [f1 4 1, f4 12 5] (fun w u => let r := policerNorm (w.bytes 4 32); u8 r 0 == 1 && u32 r 12 == 0 && u.ownerExists (u16 r 4 % 4096)),
     acc policerQueryMeta s [f2 0 16383] (fun w _ => decide (w.u16 0 < 16384)),
     acc tmSetBufferMeta s [f4 0 2, f4 4 1, f4 8 2, f4 12 1] (fun w u =>
       !thresholdsBad (w.u32 0 % 2 ^ 18) (w.u32 4 % 2 ^ 18) (w.u32 8 % 2 ^ 18) (w.u32 12 % 2 ^ 18) &&
       let area := setBits (w.u32 16 % 2 ^ 24) 15 8 0
       (area == u.regN Reg.TM_SPILL_AREA || !u.spillAreaBad area && u.regN Reg.TM_SPILLED == 0) && !u.poolShort (u.setRegN Reg.TM_SPILL_AREA area))].all id = true := by
  decide +kernel

/-! Hypotheses of the statements about the cipher complexes and random numbers (11) -/

/-- The key store, the complexes and the clock manager's entropy in service; slot 9 as given; the random-number generator in state n. -/
def keyed (k : KeySlot) (n : Nat) : State :=
  let s := ((serve [11, 15] net).setRng n 1).setRegN (Reg.CX_LANE_ACTIVE 0) 3
  { s with cx := { s.cx with slots := SMap.put [] 9 k } }
def slotOf (r : List Byte) : KeySlot := { st := 2, owner := 0, rcd := r, key := zeros 32 }
def rec0 : List Byte := patch (zeros 64) 4 [2, 16]
/-- A complex with a BULK request of thread 1 for slot 9. -/
def bulked (s : State) : State := s.bulkSubmit 0 (.engine 2 1) 9 1 16

/-- A request that fails at dispatch, one that does not; segments of both kinds; faults; reseeds, health tests and restarts; drains. -/
theorem test_witness_CipherEventsComplete :
    [(bulked (keyed {} 1)).laneTake 0 1 |>.1.isSome, (bulked (keyed (slotOf rec0) 1)).laneTake 0 1 |>.1.isNone,
     [LaneWork.net 5, .bulk (.engine 2 1)].all (fun w => let s := bulked (keyed (slotOf rec0) 1);
       SMap.get? ((s.setComplex 0 { s.complex 0 with lanes := [(1, w)] }).complex 0).lanes 1 == some w),
     let f := (keyed {} 1).faultOf { kind := 2, index := 1 } 9 3; f.1 == false,
     let s := keyed {} 1; let f := ({ s with tally := { s.tally with faults := [({ kind := 2, index := 1 }, 0), ({ kind := 2, index := 1 }, 0)] } }).faultOf { kind := 2, index := 1 } 9 3;
       f.1,
     (keyed {} 1).inService 9 && (keyed {} 1).rngState == 1,
     let s := keyed {} 0; s.inService 10 && s.rngState != 1 && !(s.complex 1).stale,
     (keyed {} 1).rngState == 1,
     [0, 1].all (fun n => (keyed {} n).keysOn && (keyed {} n).rngState == n),
     (keyed {} 2).keysOn && (keyed {} 2).rngState == 2 && (keyed {} 2).rngAttempt == 1, ((keyed {} 2).setRng 2 3).rngState == 2 && ((keyed {} 2).setRng 2 3).rngAttempt == 3,
     let s := keyed { slotOf rec0 with st := 3 } 1; (s.keySlot 9).st == 3 && !s.slotBusy 9,
     (keyed {} 1).keysOn].all id = true := by decide +kernel

/-- Each opcode of 0x0800 at the ends of its ranges and in each state of the random-number generator. -/
theorem test_witness_CipherOpcodesComplete :
    let s := keyed (slotOf rec0) 1
    let load (fl : Nat) : List (Nat × List Byte) := [f2 0 9, f1 2 fl, (4, rec0)]
    let loads (fl n : Nat) (k : KeySlot) (st : Nat) := acc keyLoadMeta (keyed k st) (load fl) (fun w u => let r := loadRec w; !slotBad r &&
      ((u.keySlot (w.u16 0)).st == 1 || (u.keySlot (w.u16 0)).st == 2) && u16 r 0 % 4096 == (u.keySlot (w.u16 0)).owner && (issuerFlask w.inst).isNone &&
      u.rngState == st && (w.u8 2).testBit 0 == (fl == 1) && !((w.params.drop 68).drop (keyBytes r)).any (· != 0)) n
    let kat (m n dir : Nat) (kl aad : Nat) := acc cxKatMeta s [f1 1 m, f1 2 kl, f1 3 dir, f2 4 n, f2 6 aad] (fun w _ => decide (w.u8 0 ≤ 1 && w.u8 2 ≤ 2 && w.u8 3 ≤ 1 &&
      16 ≤ w.u16 4 && w.u16 4 ≤ 3968 && w.u16 6 ≤ w.u16 4) && w.u8 1 == m) (88 + n)
    [acc cxQueryMeta s,
     acc keyAllocMeta s [] (fun w u => u.ownerExists (w.u16 0 % 4096) && u.freeSlot == some 0),
     acc keyAllocMeta (s.setFn 1 { s.fn 1 with quota := patch (s.fn 1).quota 8 [1] }) [f2 0 1] (fun w u => let o := w.u16 0 % 4096; u.ownerExists o &&
       u.freeSlot.isSome && o == 1 && decide (u.keysHeld o < u32 (u.fn o).quota 8)),
     loads 0 100 (slotOf rec0) 1, loads 0 100 { slotOf rec0 with st := 1 } 1, loads 1 68 (slotOf rec0) 1, loads 1 68 (slotOf rec0) 3, loads 1 68 (slotOf rec0) 0,
     loads 1 68 (slotOf rec0) 2,
     acc keyUpdateMeta s [f2 0 9, f1 2 7] (fun w u => (u.keySlot (w.u16 0)).st == 2 && !slotBad (u.keySlot 9).rcd),
     [keyFreeMeta, keyZeroizeMeta].all (fun m => acc m s [f2 0 9] (fun w u => (u.keySlot (w.u16 0)).st != 0 && !u.slotBusy 9)),
     acc keyFreeMeta (let t := bulked s; { t with cx := { t.cx with in_ := (t.cx.in_).mapReq (.engine 2 1) (fun r => { r with snap := some (slotOf rec0) }) } }) [f2 0 9]
       (fun w u => (u.keySlot (w.u16 0)).st != 0 && u.slotBusy 9),
     acc keyQueryMeta s [f2 0 16383] (fun w _ => decide (w.u16 0 < 16384)),
     acc tlsResyncMeta (keyed (slotOf (patch rec0 2 [3])) 1) [f2 0 9] (fun w u => (u.keySlot (w.u16 0)).st == 2 && (u.keySlot (w.u16 0)).framing == 3),
     acc macsecRxscSetMeta (keyed (slotOf (patch rec0 2 [5])) 1) [f2 12 9, f2 14 0xFFFF, f2 16 9, f2 18 9] (fun w u => (List.range 4).all (fun a =>
       w.u16 (12 + 2 * a) == 0xFFFF || (decide (w.u16 (12 + 2 * a) < 16384) && (u.keySlot (w.u16 (12 + 2 * a))).st == 2 &&
         (u.keySlot (w.u16 (12 + 2 * a))).framing == 5))),
     acc cxSetParamsMeta s, kat 0 16 1 0 0, kat 3 3968 0 1 0, kat 4 16 1 2 16, kat 4 17 0 0 17, kat 5 32 1 2 0,
     [0, 1, 2, 3].all (fun st => acc rngGetMeta (keyed {} st) [f2 0 4080] (fun w u => decide (1 ≤ w.u16 0 && w.u16 0 ≤ 4080 && u.cx.rng.held.length < 1024) &&
       u.rngState == st)),
     acc rngQueryMeta s, acc rngSetParamsMeta s [f2 0 1000] (fun w _ => decide (w.u16 0 ≤ 1000)),
     acc rngRestartMeta (keyed {} 3) [] (fun _ u => u.rngState == 3)].all id = true := by decide +kernel

/-- A key store whose every slot is in use has no free slot. -/
def fullStore : SMap KeySlot := (List.range' 0 16384).map (fun i => (i, { st := 1 }))
def stored : State := { live with cx := { live.cx with slots := fullStore } }
theorem get?_range' (k : KeySlot) (n a i : Nat) (h : i < n) : SMap.get? ((List.range' a n).map (fun i => (i, k))) (a + i) = some k := by
  induction n generalizing a i with
  | zero => omega
  | succ n ih =>
    cases i with
    | zero => simp [List.range'_succ, SMap.get?]
    | succ i =>
      simp only [List.range'_succ, List.map_cons, SMap.get?]
      rw [if_neg (by omega), show a + (i + 1) = a + 1 + i by omega]
      exact ih (a + 1) i (by omega)
theorem test_witness_KeyAllocExhausted : stored.ownerExists 0 = true ∧ stored.freeSlot = none := by
  refine ⟨by decide +kernel, ?_⟩
  unfold State.freeSlot
  match h : (List.range (stored.cx.slots.length + 1)).find? (fun i => (stored.keySlot i).st == 0) with
  | none => rfl
  | some i =>
    by_cases hi : i < stored.slotCount
    · have h1 := List.find?_some h
      have h2 := get?_range' { st := 1 } 16384 0 i (by unfold State.slotCount at hi; omega)
      rw [Nat.zero_add] at h2
      have h3 : stored.keySlot i = { st := 1 } := by
        show (SMap.get? fullStore i).getD {} = _
        unfold fullStore
        rw [h2]; rfl
      rw [h3] at h1
      exact absurd h1 (by decide)
    · simp [hi]

/-! Hypotheses of the statements about the packet engines (12) -/

/-- Cluster 2 in service with a program; its engine 0: supervisor 128, workers 129-135. -/
def engines : State :=
  let s := (serve [8, 11, 13, 23] ((lookup2 held2).setRng 1 1)).setFld (Reg.EC_CTRL 2) 31 31 1
  s.setFld (Reg.EC_STATE 2) 3 3 1
/-- Thread 129 of them (a worker) or another, in a run, holding frame 5. -/
def thread (h : Nat) (k : Hart) : State := (engines.setFrame 5 { frame (.thread 2 (h % 64)) with bytes := zeros 100 }).setHart h k
def running : Hart := { st := .running, pc := 0x100, run := .timer 0 0, frame := some 5 }
/-- A custom-0 word with rd x4, rs1 x5, rs2 x6 (R429), or the custom-1 word. -/
def xword (op f3 f7 : Nat) : Nat := op + 4 * 2 ^ 7 + f3 * 2 ^ 12 + 5 * 2 ^ 15 + 6 * 2 ^ 20 + f7 * 2 ^ 25
/-- Thread h about to run the word w, with a in x5 and b in x6. -/
def about (h w a b : Nat) : State :=
  let s := thread h { running with x := ((List.replicate 32 0).set 5 (BitVec.ofNat 64 a)).set 6 (BitVec.ofNat 64 b) }
  s.setCluster 2 { s.cluster 2 with bank0 := Mem.wrN [] 0x100 (leBytes 4 w) }
/-- The parts of atInstr that are not its existential. -/
def ready (s : State) (h : Nat) (op : EngOp) (w : Nat) : Bool :=
  decide (h < 2048) && (s.hart h).st == .running && (s.hart h).wait.isNone && s.inService (21 + hartCl h) && engOp w == op &&
    !s.trigHit h 2 (s.hart h).pc.toNat && (match s.fetch h with | .ok (_, v, _) => v == w | .error _ => false)
/-- A custom-0 instruction that thread 129 is about to run, and h of the state. -/
def xt (f3 f7 : Nat) (op : EngOp) (a b : Nat) (p : State → Bool := fun _ => true) (h : Nat := 129) (up : State → State := id) : Bool :=
  let s := up (about h (xword 0x0B f3 f7) a b)
  ready s h op (xword 0x0B f3 f7) && p s
def held5 (s : State) : Bool := (s.held 129).any (fun x => x.1 == 5)
def okRes {α : Type} (r : Res α) : Bool := match r.1 with | .ok _ => true | .error _ => false

/-- Each kind of work for an idle thread; timers, limits, lines, faults, samples, exchanges; each debug command. -/
theorem test_witness_EngineEventsComplete :
    let idle (k : Hart) : Bool := let s := engines.setHart 129 { k with st := .idle }; s.clusterServes 2 && (s.hart 129).st == .idle
    let g (u : Cluster → Cluster) : State := engines.setCluster 2 (u (engines.cluster 2))
    let lines : State := (g (fun c => { c with lines := [(3, 1)] })).setFld (Reg.EC_LINE_VEC 2 0) 31 24 0x85
    let dbg : State := thread 129 { running with st := .debug, x := List.replicate 32 0 }
    [idle { again := some (1, 2) }, idle { tctl := 1 } && decide (({ tctl := 1 } : Hart).tcmp ≤ engines.etime), !isSup 129,
     lines.nextLine 2 == some (3, 5), let s := g (fun c => { c with msgs := [⟨1, 0, zeros 32⟩] }); (s.nextLine 2).isNone && (s.cluster 2).exch.isNone,
     let s := (g (fun c => { c with queue := [5] })).setFrame 5 (frame (.engine 2)); (s.nextHandoff 2).any (fun x => x.1 == 5) && s.handoffHart 2 == some 129,
     ((thread 129 { running with st := .waiting }).hart 129).st == .waiting, ((thread 129 { running with tctl := 1 }).hart 129).tctl.testBit 0,
     (engines.setFld (Reg.EC_CTRL 2) 13 0 5).fld (Reg.EC_CTRL 2) 13 0 == 5,
     ((thread 128 running).hart 128).st == .running,
     let s := (thread 129 { running with samples := [(1, 0x40)] }).setEngine 16 { hpcCfg := [0, 0x20000 + 2 ^ 9 + 1, 0, 0] };
       let c := (s.engine (hartEng 129)).hpcCfg.getD 1 0; c.testBit 17 && c.testBit (8 + hartTh 129) && c % 256 != 6 && (s.hart 129).samples == [(1, 0x40)],
     ((thread 129 { running with resv := some (0, 1, 2) }).hart 129).resv == some (0, 1, 2), engines.inService 23,
     let s := (thread 128 { running with st := .faulted }).setEngine 16 { supAuto := some 5 }; (s.engine 16).supAuto == some 5 && (s.at 5).ctlUp &&
       ((s.at 5).hart 128).st == .faulted,
     ((g (fun c => { c with exch := some ⟨0, 5⟩ })).cluster 2).exch == some ⟨0, 5⟩,
     let k := (thread 129 running).hart 129; k.st != .debug && k.st != .unavailable && k.wait.isNone,
     ((thread 129 { running with wait := some (.rand 1) }).hart 129).wait == some (.rand 1), (dbg.hart 129).st == .debug,
     [0x00321005, 0x00331005].all (fun v => bits v 22 20 == 3 && v.testBit 17 && !v.testBit 18 && (dbg.dbgReg 129 (v % 65536)) == some 0 &&
       (!v.testBit 16 || (dbg.dbgSetReg 129 (v % 65536) 7).isSome)),
     (dbg.setDm { dbg.eng.dm with data := [0, 0, 0x10000000, 0] }).eng.dm.arg 1 == 0x10000000,
     let s := dbg.setDm { dbg.eng.dm with data := [0, 0, 0x10000000, 0] }; let v := 0x02230000; v.testBit 16 && !v.testBit 23 &&
       s.eng.dm.cmderr == 0 && decide (2 ^ bits v 22 20 ≤ 8) && s.eng.dm.arg 1 % 2 ^ bits v 22 20 == 0 && okRes (s.store 129 (s.eng.dm.arg 1) 4 0),
     let s := dbg.setDm { dbg.eng.dm with data := [0, 0, 0x10000000, 0] }; (s.peekAt 129 (s.eng.dm.arg 1) 8).1.isSome].all id = true := by decide +kernel

/-- Each Xtilna instruction as the next one of a thread, with operands at the ends of their ranges; ECALL, EBREAK, an RV64 instruction of each shape. -/
theorem test_witness_EngineInstructionsComplete :
    let cl (f : Cluster → Cluster) (s : State) : State := s.setCluster 2 (f (s.cluster 2))
    let ctOn (s : State) : State := s.setRegN (Reg.EC_CT_DESC 2 0) 0x82000008
    let ctHas (s : State) : State := ctOn (cl (fun k => { k with shared := (ctBucket (4, 0, 8) (zeros 8)).headD 0 |> (fun o => Mem.wrN k.shared (o + 32) [1]) }) s)
    let prof (s : State) : State := { s with lk := { s.lk with profiles := [(0, [0x82, 0, 6] ++ zeros 5)] } }
    let stop (st : ThSt) (s : State) : State := s.setHart 131 { running with st := st, frame := none }
    let plain (w a b : Nat) (op : EngOp) := ready (about 129 w a b) 129 op w
    [xt 0 0 (.hdrLd 1) 99 0 held5, xt 0 1 (.hdrLd 2) 98 0 held5, xt 0 2 (.hdrLd 4) 96 0 held5, xt 0 3 (.hdrLd 8) 92 0 held5,
     xt 0 8 (.hdrSt 1) 99 1 held5, xt 0 9 (.hdrSt 2) 98 1 held5, xt 0 10 (.hdrSt 4) 96 1 held5, xt 0 11 (.hdrSt 8) 92 1 held5,
     xt 0 16 .pktRd 0x10000000 (100 * 65536) (fun s => held5 s && okRes (s.addrWrite 129 0x10000000 (zeros 100))),
     xt 0 17 .pktWr 0x10000000 (1 * 65536 + 99) (fun s => held5 s && okRes (s.addrRead 129 0x10000000 1)),
     xt 0 18 .pktAdj 256 0 held5, xt 0 18 .pktAdj (2 ^ 64 - 86) 0 held5, xt 0 24 .metaRd 6 0 held5, xt 0 24 .metaRd 3 0 held5, xt 0 25 .metaWr 3 0x1F held5,
     xt 0 31 .dispose 0 255 held5, xt 0 31 .dispose 1 0 held5, xt 0 31 .dispose 4 3 held5,
     xt 1 0 .tlk 0x10000000 0 (fun s => let t := (s.addrRead 129 0x10000000 6).2; okRes (s.addrRead 129 0x10000000 6) && (t.table? 2).any (fun tb =>
       (u8 (s.lookupProfile 0) 0).testBit 7 && t.missingLines 2 tb tb.act (zeros 6) == [] && (t.lookupNow 2 tb (zeros 6) false (some tb.act.tag) []).1.isSome)) 129
       (fun s => prof { s with lk := { s.lk with tables := [(2, { held2 with desc := patch desc2 6 [1] })] } }),
     xt 1 0 .tlk 0x10000000 0 (fun s => (s.table? 2).any (fun tb => s.missingLines 2 tb tb.act (zeros 6) == [] &&
       (s.lookupNow 2 tb (zeros 6) false (some tb.act.tag) []).1.isNone)) 129
       (fun s => prof { s with lk := { s.lk with tables := [(2, { table2 with desc := patch desc2 6 [1] })] } }),
     xt 1 8 .ctFind 0x10000000 0 (fun s => okRes (s.ctKey 129 (xword 0x0B 1 8) 0)) 129 ctOn,
     xt 1 10 .ctDel 0x10000000 0 (fun s => okRes (s.ctKey 129 (xword 0x0B 1 10) 0) && (ctFindEntry (s.cluster 2).shared (4, 0, 8) (zeros 8)).isNone) 129 ctOn,
     xt 1 10 .ctDel 0x10000000 0 (fun s => okRes (s.ctKey 129 (xword 0x0B 1 10) 0) && (ctFindEntry (s.cluster 2).shared (4, 0, 8) (zeros 8)).isSome) 129 ctHas,
     xt 1 9 .ctIns 0x10000000 0 (fun s => okRes (s.ctKey 129 (xword 0x0B 1 9) 64) && (ctFindEntry (s.cluster 2).shared (4, 0, 8) (zeros 8)).isSome) 129 ctHas,
     xt 1 9 .ctIns 0x10000000 0 (fun s => okRes (s.ctKey 129 (xword 0x0B 1 9) 64) && (ctFindEntry (s.cluster 2).shared (4, 0, 8) (zeros 8)).isNone &&
       ((ctBucket (4, 0, 8) (zeros 8)).find? (fun o => !(u8 (Mem.rdN (s.cluster 2).shared (o + 32) 1) 0).testBit 0)).isSome) 129 ctOn,
     xt 2 0 .cntAdd 4095 1, xt 2 1 .enq 0x10000000 3 (fun s => okRes (s.addrRead 129 0x10000000 32)),
     xt 2 2 .rateSet 0x5000 1 (fun s => (s.tmq? 0x5000).isNone),
     xt 2 2 .rateSet 3 1 (fun s => (s.tmq? 3).any (fun x => x.flags.testBit 0 && (s.regN (Reg.CL_ENGINE_SET (u8 x.rcd 7 % 16))).testBit 2)) 129
       (fun s => (s.setTmq 3 { rcd := patch (defaultQueueRec 3) 6 [1] }).setRegN (Reg.CL_ENGINE_SET 0) 4),
     xt 2 8 .crypt 0x10000000 0 (fun s => okRes (s.addrRead 129 0x10000000 48) && !rawSlotOk (s.keySlot 0) 0 0),
     xt 2 9 .rand 0 0 (fun s => s.rngState == 1 && s.cx.rng.held.isEmpty), xt 3 0 .yield 0 0,
     xt 3 1 .waitT 0 0 (fun s => decide ((s.hart 129).tcmp ≤ s.etime)),
     xt 3 1 .waitT 0 0 (fun s => decide (s.etime < (s.hart 129).tcmp)) 129 (fun s => s.modHart 129 (fun k => { k with tcmp := 2 ^ 60 })),
     [0, 1, 2].all (fun b => xt 3 8 .tres 3 b (fun s => isSup 128 && s.halted 128 3 == some 131) 128 (stop .faulted)),
     xt 3 9 .tregR 3 95 (fun s => s.halted 128 3 == some 131 && ((s.hart 131).treg 95).isSome) 128 (stop .service),
     xt 3 10 .tregW (3 + 32 * 256) 0x40 (fun s => s.halted 128 3 == some 131 && ((s.hart 131).treg 32).isSome) 128 (stop .service),
     [0, 1, 2, 3, 4, 5].all (fun n => plain (xword 0x2B 0 n) 0 0 (.rate n)), plain (xword 0x2B 0 8) 0 0 .rcvtWu, plain (xword 0x2B 0 9) 1 0 .rcvtR,
     plain 0x73 0 0 .ecall, plain 0x100073 0 0 .ebreak && !((about 129 0x100073 0 0).hart 129).dcsr.testBit 12,
     (((about 129 0x100073 0 0).modHart 129 (fun k => { k with dcsr := 0x1000 })).hart 129).dcsr.testBit 12,
     plain 0x00728213 5 0 .rv && (rvOpImm 0x00728213 5) == some 12 && okRes ((about 129 0x00728213 5 0).rvExec 129 0x00728213 0x00728213 4),
     plain (xword 0x33 0 0) 5 6 .rv && rvOp 0 0 5 6 == some 11, plain (xword 0x63 0 0) 5 5 .rv && rvTaken 0 5 5 == some true,
     plain 0x0000 0 0 .rv || !okRes ((about 129 0xFFFFFFFB 0 0).rvExec 129 0xFFFFFFFB 0xFFFFFFFB 4)].all id = true := by decide +kernel

/-- Each rate operation about to run on the table's pairs and on NaNs; each case of RCVT.WU at its boundary; RCVT.R at 0, 2^24 - 1 and 2^32 - 1. -/
theorem test_witness_RateArithmeticAtTheExtremes :
    let at2 (f7 a b : Nat) (op : EngOp) : Bool :=
      let w := xword 0x2B 0 f7
      let s := (about 129 w b 0).modHart 129 (fun k => (k.wf 5 a).wf 6 b)
      ready s 129 op w && (s.hart 129).rf (rvRs1 w) == a && (s.hart 129).rf (rvRs2 w) == b
    (rateExtremes.all (fun x => at2 3 x.1 x.2.1 (.rate 3)) :: (List.range 6).all (fun n => at2 n 0x7FC00001 0x3F800000 (.rate n) && at2 n 0x3F800000 0xFFFFFFFF (.rate n)) ::
     [0x7F800001, 0x80000001, 0x80000000, 0x80800000, 0x7F800000, 0x4F800000, 0x4F7FFFFF, 0x00800000].map (fun v => at2 8 v 0 .rcvtWu) ++
     [0, 0xFFFFFF, 0xFFFFFFFF].map (fun n => ready (about 129 (xword 0x2B 0 9) n 0) 129 .rcvtR (xword 0x2B 0 9))).all id = true := by decide +kernel

/-! Hypotheses of the statements about the opcodes of the packet engines (12) -/

/-- Cluster 2's alternate bank holds a program of 64 bytes with ID 7. -/
def image7 : List Byte := leBytes 4 7 ++ leBytes 4 64 ++ zeros 8 ++ leBytes 8 0x40 ++ zeros 40
def loaded (st : Nat) : State :=
  let m := Mem.wrN (Mem.wrN [] 0 image7) 8 (leBytes 4 (bankImageCrc (Mem.wrN [] 0 image7) 64))
  let s := engines.setCluster 2 { engines.cluster 2 with bank1 := m, altEnd := 64 }
  (s.setRegN (Reg.EC_ALT_IMAGE_ID 2) 7).setFld (Reg.EC_STATE 2) 11 8 st

/-- Each opcode of 0x0900 at the ends of its ranges. -/
theorem test_witness_EngineOpcodesComplete :
    let s := engines
    let crc := bankImageCrc ((loaded 0).altBank 2) 64
    [acc engQueryMeta s [f1 0 31], acc engLoadMeta s [f4 0 4, f4 4 130988] (fun w u => maskClusters (w.u32 0) == [2] && !u.exchanging [2] && w.u32 4 % 4 == 0 &&
       decide (w.u32 4 + (w.params.length - 16) ≤ 131072)) 100,
     acc engSwapMeta (loaded 0) [f4 0 4, f4 4 7, f4 8 crc, f2 12 1000] (fun w u => u.imageOk 2 (w.u32 4) (w.u32 8) && !u.exchanging [2] && w.u16 12 == 1000 &&
       let s1 : State := { u with eng := { u.eng with swapSeq := 1, swaps := u.eng.swaps ++ [{ seq := 0, left := [2], prevId := 0 }] } }
       !(s1.startExchange 0 5 2).eng.swaps.any (fun x => x.seq == 0)),
     acc engSwapMeta ((loaded 0).setHart 129 running) [f4 0 4, f4 4 7, f4 8 crc, f2 12 1] (fun w u => u.imageOk 2 (w.u32 4) (w.u32 8) && w.u16 12 == 1 &&
       let s1 : State := { u with eng := { u.eng with swapSeq := 1, swaps := u.eng.swaps ++ [{ seq := 0, left := [2], prevId := 0 }] } }
       (s1.startExchange 0 5 2).eng.swaps.any (fun x => x.seq == 0)),
     acc engReadBankMeta s [f1 0 31, f1 1 1, f4 4 126992, f4 8 4080] (fun w _ => decide (w.u8 0 ≤ 31 ∧ w.u8 1 ≤ 1 ∧ 4 ≤ w.u32 8 ∧ w.u32 8 ≤ 4080 ∧
       w.u32 4 + w.u32 8 ≤ 131072)),
     acc engSetParamsMeta s [f4 0 0x80000001] (fun w _ => maskClusters (w.u32 0) == [0, 31]),
     acc engDramWinMeta s [f1 0 31, f1 1 3, f4 4 0x80000001, f4 8 1] (fun w u => decide (w.u8 0 ≤ 31 ∧ w.u8 1 ≤ 3) && !u.winBad (w.u32 4) (w.u32 8)),
     acc engLineSetMeta s [f1 0 31, f1 1 31] (fun w _ => decide (w.u8 0 ≤ 31 ∧ w.u8 1 ≤ 31)),
     acc engCtSetMeta s [f1 0 31, f1 1 7] (fun w _ => decide (w.u8 0 ≤ 31 ∧ w.u8 1 ≤ 7) && !(w.u32 4 &&& 0x8F0FFF3F).testBit 31),
     [0x82000001, 0x8C000020].all (fun v => acc engCtSetMeta s [f1 0 2, f4 4 v] (fun w u => let v := w.u32 4 &&& 0x8F0FFF3F; let a := ctArea v; v.testBit 31 &&
       decide (2 ≤ bits v 27 24 ∧ bits v 27 24 ≤ 12 ∧ 1 ≤ bits v 5 0 ∧ bits v 5 0 ≤ 32 ∧ a.1 + a.2 ≤ 2 ^ 20) &&
       !((List.range 8).filter (fun j => j != 0 && u.flag (Reg.EC_CT_DESC 2 j) 31)).any (fun j => areaHits a (ctArea (u.regN (Reg.EC_CT_DESC 2 j)))))),
     acc engThreadQueryMeta s [f1 0 31, f1 1 7, f1 2 7] (fun w _ => decide (w.u8 0 ≤ 31 ∧ w.u8 1 ≤ 7 ∧ w.u8 2 ≤ 7)),
     acc engCntReadMeta s [f1 0 31, f2 2 4095] (fun w _ => decide (w.u8 0 ≤ 31 ∧ w.u16 2 ≤ 4095)),
     acc engMemReadMeta s [f1 0 2, f1 1 7, f4 4 0x10000000, f4 8 4080] (fun w u => decide (w.u8 0 ≤ 31 ∧ w.u8 1 ≤ 7 ∧ 8 ≤ w.u32 8 ∧ w.u32 8 ≤ 4080) && w.u32 8 % 8 == 0 &&
       u.engMem (w.u8 0) (w.u32 4) (w.u32 8) false),
     acc engMemWriteMeta s [f1 0 2, f1 1 7, f4 4 0x20000000] (fun w u => decide (w.u8 0 ≤ 31 ∧ w.u8 1 ≤ 7) && u.engMem (w.u8 0) (w.u32 4) (w.params.length - 8) true),
     [ThSt.faulted, .debug].all (fun x => acc engRestartSupMeta (s.setHart 128 { st := x }) [f1 0 2] (fun w u => decide (w.u8 0 ≤ 31 ∧ w.u8 1 ≤ 7) &&
       (u.hart 128).st == x && u.flag (Reg.EC_STATE (w.u8 0)) 3))].all id = true := by decide +kernel

/-! Hypotheses of the statements about movers, mailboxes and DRAM (13, 14, 16) -/

/-- A descriptor: opcode, space byte, length; the channel 3 that runs it, from cluster 2's engine ring. -/
def desc (op sp len : Nat) : List Byte := patch (patch (zeros 64) 0 [BitVec.ofNat 8 op]) 24 (leBytes 4 len ++ [BitVec.ofNat 8 sp])
def jobOf (op sp : Nat) : MvJob := { org := .ring 2 0, raw := desc op sp 64, fn := 0 }
def mover (j : MvJob) : State :=
  let s := ((serve [12] engines).setRegN (Reg.MV_ERING 2) 0x84000010).setFld Reg.MV_CTRL 31 31 1
  (s.setFld (Reg.MV_CHAN_W0 3) 31 31 1).setMvChan 3 { job := some j }
def alive (j : MvJob) : Bool := let t := (mover j).mvDrop 3; (t.mvChan 3).job == some j && t.mvHostOk j && t.inService 12
def entry3 : Entry := { idx := 0, raw := desc 0x30 0 64, slot := 0, acc := true }
def moverQueue : State :=
  let q := { wqv 3 [entry3] with chan := 3 }
  (serve [12] (((queued q).setFld Reg.MV_CTRL 31 31 1).setFld (Reg.MV_CHAN_W0 3) 31 31 1))

/-- Each descriptor opcode taken, a queue's descriptor, chunks, barriers, faults, the ring's index, the opcodes of 0x0A00. -/
theorem test_witness_MoversComplete :
    let ringed (p : Nat) : State := let s := mover (jobOf 0x30 0); s.setCluster 2 { s.cluster 2 with shared := Mem.wrN [] (s.mvRingBase 2) (leBytes 4 p) }
    let prodOk (p : Nat) : Bool := let s := ringed p; s.flag (Reg.MV_ERING 2) 31 && u32 (Mem.rdN (s.cluster 2).shared (s.mvRingBase 2) 4) 0 == p
    [[0x33, 0x34, 0x35, 0x36, 0x37, 0x38].all (fun op => alive (jobOf op 5) && (jobOf op 5).op == op && !(jobOf op 5).indexed),
     let j := jobOf 0x30 5; alive j && !j.cipher && j.srcSp == j.dstSp && j.src == j.dst, let j := jobOf 0x30 1; alive j && j.srcSp != j.dstSp,
     [0x31, 0x32].all (fun op => alive (jobOf op 5) && (jobOf op 5).indexed),
     let t := moverQueue.mvDrop 3; (t.mvChan 3).job.isNone && t.inService 12 && t.flag Reg.MV_CTRL 31 && t.flag (Reg.MV_CHAN_W0 3) 31 &&
       (t.mvQueue 3).any (fun x => x.1 == 0) && (t.wq? 0).isSome,
     let j := { jobOf 0x38 5 with phase := .run, rnd := zeros 64 }; alive j && decide ((j.chunk j.k).2 ≤ j.rnd.length) && !j.cipher,
     let j := { jobOf 0x30 5 with phase := .run, buf := some (zeros 64) }; alive j && j.op != 0x38 && !j.cipher,
     [0, 1, 2].all (fun n => let j := { jobOf 0x30 5 with phase := .barrier n }; alive j),
     let s := moverQueue.setMvChan 3 { job := some { jobOf 0x30 5 with org := .queue 0 0, phase := .run } }; ((s.mvDrop 3).mvChan 3).job.any (fun j => j.phase == .run &&
       j.org == .queue 0 0),
     prodOk 16, prodOk (2 ^ 32 - 1),
     acc mvQueryMeta (mover (jobOf 0x30 0)), acc mvBindMeta moverQueue [f1 2 95] (fun w u => (u.wq? (w.u16 0)).any (fun q => q.kind == 3) && w.u8 2 == 95),
     acc mvChanSetMeta moverQueue [f1 0 127] (fun w _ => w.u8 0 == 127), acc mvSetParamsMeta moverQueue,
     [4, 8].all (fun z => acc mvEngRingMeta (serve [12] engines) [f1 0 2, f4 4 (0x80000000 + z * 2 ^ 24)] (fun w u => let v := w.u32 4; let a := ringArea v
       decide (w.u8 0 ≤ 31 ∧ 4 ≤ bits v 27 24 ∧ bits v 27 24 ≤ 8 ∧ a.1 + a.2 ≤ 2 ^ 20) && (SMap.getD u.mv.rings 2 {}).cons == (SMap.getD u.mv.rings 2 {}).prod &&
         !((List.range 8).filter (fun j => u.flag (Reg.EC_CT_DESC 2 j) 31)).any (fun j => areaHits a (ctArea (u.regN (Reg.EC_CT_DESC 2 j)))))),
     acc mvChanQueryMeta moverQueue [f1 0 127] (fun w _ => w.u8 0 == 127)].all id = true := by decide +kernel

/-- Every kind of user with its side; locks held and free; timers and wakes; MB_ASSIGN and the routes at the ends of their ranges. -/
theorem test_witness_MailboxesComplete :
    let s := serve [13] engines
    let side (f : MbSide → MbSide) : State := s.modSide 35 false f
    [s.mbTakes (.host .debugger) 35 false, s.mbTakes (.core 0) 35 true, s.mbTakes (.thread 129) 2 false, s.mbTakes (.host (.flask 1)) 65 false,
     s.mbTakes (.host .aoc) 34 false, s.mbTakes (.host (.pf0 0)) 32 false, s.mbTakes (.host (.pf0 1)) 33 false,
     !((s.mbPair 35).side false).lockedFor 1, (((side (fun x => { x with lock := some 2 })).mbPair 35).side false).lockedFor 1,
     (((side (fun x => { x with timer := some 2 })).mbPair 35).side false).timer == some 2,
     let t := side (fun x => { x with held := true }); ((t.mbPair 35).side false).held && t.mbInService (t.mbOwner 35 false),
     (((side (fun x => { x with wake := some 2 })).mbPair 35).side false).wake == some 2,
     [36, 63].all (fun k => acc mbAssignMeta s [f1 0 k, f1 1 3, f1 2 31] (fun w u => let p := u.mbPair (w.u8 0); w.u8 0 == k && w.u8 2 == 31 && p.ab.isEmpty && p.ba.isEmpty &&
       p.a.lock.isNone && p.b.lock.isNone && decide (((List.range 28).filter (fun i => 36 + i != k && u.mbOwner (36 + i) true == .cluster 31)).length < 7))),
     [(0, 0, 0), (53, 0, 1), (0, 2, 1)].all (fun x => acc efRouteSetMeta s [f1 0 x.1, f1 1 x.2.1, f1 2 x.2.2, f4 4 0x2000001F] (fun w _ => decide (w.u8 0 ≤ 54 ∧ w.u8 2 ≤ 1 ∧
       w.u8 1 < (unitStatusRegs (w.u8 0)).length) && routeIndexOk (w.u32 4))),
     acc efSetSampleVecMeta s [f1 0 63] (fun w _ => w.u8 0 == 63)].all id = true := by decide +kernel

/-- DRAM on channels 0 and 1 of 1 GiB, ranks 0 and 1 of channel 0 active. -/
def memory : State :=
  let s := (serve [8, 15, 16] hosted).setRank 0 0 1
  { s with dr := { s.dr with used := [0, 1], span := 2 ^ 30, down := false, ch := [(0, { map := [(0, (0, 0))] })] } }

/-- A request, refreshes, temperatures, errors, scrubbing, retraining, migration, withdrawal; the opcodes of 0x0C00. -/
theorem test_witness_DramCompletes :
    let panic := memory.setFld Reg.TM_STATE 1 1 1
    let withdraws := memory.setChan 0 { memory.chan 0 with withdrawing := some 0 }
    [memory.dramServes 0 && (nextReq ([⟨1, 5, none⟩, ⟨6, 5, some (zeros 64)⟩] : List DramReq)).isSome,
     memory.dramServes 0 && memory.rankSt 0 0 != 0 && !memory.flag Reg.TM_STATE 1,
     memory.dramServes (memory.dramChannel (4 * 64)) && !memory.dr.down,
     let s := memory.setFld (Reg.DC_CTRL 0) 23 16 1; s.fld (Reg.DC_CTRL 0) 23 16 != 0 && !(s.chan 0).map.isEmpty && (s.chan 0).mig.isNone,
     (panic.at (panic.chan 0).retrainAt).flag Reg.TM_STATE 1 && decide ((panic.chan 0).deferred < 4),
     !(memory.at (memory.chan 0).retrainAt).flag Reg.TM_STATE 1, let s := panic.setChan 0 { panic.chan 0 with deferred := 4 }; decide (4 ≤ (s.chan 0).deferred),
     withdraws.dramServes 0 && !withdraws.dr.down && (withdraws.chan 0).withdrawing == some 0,
     acc dcQueryMeta memory [f1 0 3] (fun w _ => w.u8 0 == 3),
     acc dcSetParamsMeta memory [f4 0 0xF] (fun w _ => (List.range 4).filter (fun c => (w.u32 0).testBit c) == [0, 1, 2, 3]),
     acc dcRankRetireMeta memory [] (fun w u => decide (w.u8 0 ≤ 3 ∧ w.u8 1 ≤ 3) && u.rankSt (w.u8 0) (w.u8 1) == 1 && (u.rankRetire 0 0 3).dr.down),
     acc dcRankRetireMeta (memory.setRank 0 1 1) [] (fun w u => decide (w.u8 0 ≤ 3 ∧ w.u8 1 ≤ 3) && u.rankSt (w.u8 0) (w.u8 1) == 1 && !(u.rankRetire 0 0 3).dr.down),
     acc dcRetrainMeta memory [f4 0 3],
     [(1, 0), (2, 0), (2, 1)].all (fun x => acc dcErrInjectMeta memory [f4 0 (2 ^ 24 - 1), f1 4 x.1, f1 5 x.2] (fun w u => decide (1 ≤ w.u8 4 ∧ w.u8 4 ≤ 2) &&
       u.dramHas (w.u32 0 * 64)))].all id = true := by decide +kernel

/-- Bytes at the end of the DRAM, and beside them. -/
theorem test_witness_DramReadsWhatWasStored :
    [(List.range 2).all (fun i => memory.dramHas (2 ^ 30 - 2 + i)), !memory.dramHas (2 ^ 30), decide (2 ^ 30 - 3 < 2 ^ 30 - 2), Mem.wf memory.dram].all id = true := by
  decide +kernel

/-! Hypotheses of the statements about the convoy and the network ports (17, 18) -/

/-- Device 0 of a convoy of two, both caravan ports enabled and not up, or up. -/
def convoy : State := ((((serve [19] live).setFld Reg.CV_CTRL 2 0 2).setFld (Reg.CP_CTRL 0) 31 31 1).setFld (Reg.CP_CTRL 1) 31 31 1)
def linked : State := ((convoy.setFld (Reg.CP_STAT 0) 31 31 1).setFld (Reg.CP_STAT 1) 31 31 1).setFld Reg.CV_STATE 11 8 2
def cpOf (s : State) (c : Nat) (f : CpPort → CpPort) : State := s.setCp c (f (s.cp c))
def ident1 (c : Nat) : IdentInfo := { vendor := 0x1F1A, device := 0x8140, serial := 1, id := 1, port := 1 - c, size := 2, epoch := 3 }
/-- A flit of a type and sequence with its CRC. -/
def flitOf (type seq : Nat) : List Byte :=
  let b := patch (zeros 252) 0 (leBytes 2 (type * 4096 + seq))
  b ++ leBytes 4 (crc32c b)
def cvUp (s : State) (f : ConvoyState → ConvoyState) : State := { s with cv := f s.cv }

/-- Training, idents of each outcome, flits, faults, width, links, requests, digests, partitions. -/
theorem test_witness_ConvoyEventsComplete :
    let lone := convoy.setFld Reg.CV_CTRL 2 0 1
    let third : State := { convoy with pwr := { convoy.pwr with convoyId := 2 } }
    [convoy.cpEnabled 0 && !convoy.cpUp 0 && convoy.inService 19 && decide (convoy.cvId < convoy.cvSize) && !convoy.cvHeldDown,
     third.cpEnabled 1 && decide (third.cvSize ≤ third.cvId), lone.cvHeldDown,
     ((cpOf convoy 0 (fun x => { x with trained := true })).cp 0).trained,
     [0, 1].all (fun c => let i := ident1 c; i.id != convoy.cvId && i.size == convoy.cvSize && i.port == 1 - c &&
       i.id == (if c = 1 then (convoy.cvId + 1) % convoy.cvSize else (convoy.cvId + convoy.cvSize - 1) % convoy.cvSize)),
     (convoy.cp 0).downAt.isNone, ((cpOf convoy 0 (fun x => { x with downAt := some 5 })).cp 0).downAt == some 5 && decide (convoy.now ≤ 5),
     (convoy.setRegN (Reg.CP_EPOCH 0) 3).regN (Reg.CP_EPOCH 0) == (ident1 0).epoch,
     let s : State := { cpOf convoy 0 (fun x => { x with downAt := some 5 }) with now := 6 }; decide (5 < s.now),
     linked.cpUp 0 && (flitOf 1 0).length == 256 && u32 (flitOf 1 0) 252 == crc32c ((flitOf 1 0).take 252) && u16 (flitOf 1 0) 6 == linked.regN (Reg.CP_EPOCH 0),
     u32 (zeros 256) 252 != crc32c ((zeros 256).take 252),
     [(0, 0), (1, 0), (2, 0), (1, 7), (2, 7)].all (fun x => let b := flitOf x.1 x.2; u16 b 0 / 4096 == x.1 &&
       ((u16 b 0 % 4096 == (((linked.flitAck 0 (u16 b 2 % 4096)).cp 0).rx + 1) % 4096) == (x.2 == 0))),
     ((cpOf linked 0 (fun x => { x with retry := [⟨0, 1, [], 1⟩] })).cp 0).retry != [], !linked.isRetired { kind := 3, index := 12 },
     ((cpOf linked 0 (fun x => { x with proposal := some 15 })).cp 0).proposal == some 15 && (linked.cp 0).proposal.isNone,
     let s := cvUp linked (fun v => { v with routes := [(1, 0)] }); SMap.get? s.cv.routes 1 == some 0 && (s.bestRoute 1) == some 1 &&
       !(s.cp 0).retry.any (fun f => f.target == 1),
     linked.peers.contains 1, ((cpOf linked 0 (fun x => { x with frames := [zeros 4] })).cp 0).frames == [zeros 4],
     linked.inService 19 && linked.isHome, let s := linked.setRegN Reg.OWN_DROVER 0x30000001; !s.isHome && s.ownSt == 2 && s.peers.contains s.droverHome,
     let s := cvUp linked (fun v => { v with digests := [(1, ⟨0, 0, 0⟩)] }); s.isHome && decide (1 < s.cvSize) && 1 != s.cvId && (SMap.get? s.cv.digests 1).isSome,
     (cvUp linked (fun v => { v with acks := [1] })).cv.acks != [],
     let s := (lone.setFld Reg.CV_CTRL 31 31 1).setFld Reg.OWN_STATE 1 0 0; s.flag Reg.CV_CTRL 31 && s.ownSt == 0 && s.arbiter == s.cvId && s.quorum && s.fwServes].all id = true := by
  decide +kernel

/-- Each opcode of 0x0D00 at the ends of its ranges. -/
theorem test_witness_ConvoyOpcodesComplete :
    [acc cvQueryMeta linked, acc cvSetParamsMeta linked [f4 0 2] (fun w u => !u.sizeHeld (w.u32 0)), acc cpSetMeta linked [f1 0 1] (fun w _ => decide (w.u8 0 ≤ 1)),
     acc cpRetrainMeta linked [f1 0 1, f1 1 1] (fun w u => decide (w.u8 0 ≤ 1) && u.cpUp (w.u8 0) && (u.cp (w.u8 0)).proposal.isNone && (w.u8 1).testBit 0),
     [1, 31].all (fun m => acc cpRetrainMeta linked [f1 0 1, f1 2 m] (fun w u => let c := w.u8 0; u.cpUp c && !(w.u8 1).testBit 0 && decide (w.u8 2 < 32) &&
       w.u8 2 &&& u.cpRetired c == 0 && decide (u.minWidth c ≤ popCount 5 (w.u8 2)))),
     acc cvPortBackupMeta linked [f1 0 3, f1 1 7] (fun w _ => w.u8 0 == 3 && w.u8 1 == 7), acc cvSealQueryMeta linked,
     let p : List (Nat × List Byte) := [f1 0 1, f2 4 1]
     let w := msg linked 20 p
     acc (cvForwardMeta w) linked p (fun w u => u.peers.contains (w.u8 0)) 20,
     acc cvSealCommitMeta linked [] (fun _ u => !u.wb.pend.any (fun p => p.cls == .d))].all id = true := by decide +kernel

/-- Port 2 of mode 4 (100 Gb/s) administratively up, with the link in state l. -/
def wired (l : Nat) : State :=
  let s := (serve [8, 20] live).setRegN Reg.NP_LANE_CFG (4 * 2 ^ 8)
  (s.setFld (npBase 2) 31 31 1).setFld (npBase 2 + 4) 31 31 l
def sent (f : Frame) : State := (wired 1).setFrame 5 { f with stage := .wire 2, tail := false, wire := zeros 60, bytes := zeros 60 }

/-- Ports up and down, pauses, transmissions of each outcome, the PTP clock, host data; the opcodes of 0x0E00 at the ends of their ranges. -/
theorem test_witness_PortsComplete :
    let f : Frame := { bytes := [], tx := true, src := 10 }
    let np (g : NetState → NetState) : State := { wired 1 with np := g (wired 1).np }
    [(wired 0).hasPort 2 && (wired 0).adminUp 2 && !(wired 0).portUp 2 && !(wired 0).looped 2 && !(wired 0).flag (npBase 2) 30, (wired 1).portUp 2,
     SMap.get? (np (fun x => { x with anAt := [(2, 5)] })).np.anAt 2 == some 5, SMap.get? (np (fun x => { x with pauseEnd := [(23, 5)] })).np.pauseEnd 23 == some 5,
     SMap.get? (np (fun x => { x with refresh := [(23, 5)] })).np.refresh 23 == some 5,
     ((sent f).onWireOf 2).any (fun x => x.1 == 5 && !x.2.tail && !x.2.badFcs) && !(sent f).looped 2, ((sent { f with badFcs := true }).onWireOf 2).any (fun x => x.2.badFcs),
     let s := (sent f).setFld (npBase 2) 28 28 1; s.looped 2 && s.portUp 2,
     let s := sent { f with charge := some 2 }; (s.onWireOf 2).any (fun x => x.2.charge == some 2) && (s.tmq? 2).isSome,
     let s := (wired 1).setFld Reg.PTP_CTRL 31 30 3; s.flag Reg.PTP_CTRL 31 && s.flag Reg.PTP_CTRL 30 && s.pdOn 36,
     (np (fun x => { x with ppsEnd := some 5 })).np.ppsEnd == some 5, !(ringed.ring 0).stopped && ringed.flag (wbBase 0 + 8) 31,
     acc npQueryMeta (wired 1) [f1 0 7] (fun w _ => w.u8 0 == 7), acc npLaneSetMeta (wired 1) [f4 0 0x400] (fun w _ => !lanesBad (w.u32 0)),
     acc npPortSetMeta (wired 1) [f1 0 2, f1 1 7, f4 8 0x1000] (fun w u => u.hasPort (w.u8 0) && decide (bits (w.u32 8) 11 0 < bits (w.u32 8) 23 12)),
     acc npPortSetMeta (wired 1) [f1 0 2] (fun w u => u.hasPort (w.u8 0) && !(w.u8 1).testBit 1), acc npRetrainMeta (wired 1) [f1 0 2] (fun w u => u.hasPort (w.u8 0)),
     acc ptpGetMeta (wired 1), acc ptpAdjustMeta (wired 1) [f8 4 (2 ^ 63 - 1)] (fun w _ => w.u8 0 == 0 && decide (w.u64 4 < 2 ^ 63)),
     [500000000, 2 ^ 64 - 500000000].all (fun n => acc ptpAdjustMeta (wired 1) [f1 0 1, f8 4 n] (fun w _ => w.u8 0 == 1 && decide (-500000000 ≤ (word (w.u64 4)).toInt ∧
       (word (w.u64 4)).toInt ≤ 500000000))),
     acc ptpAdjustMeta (wired 1) [f1 0 2, f4 12 999999999] (fun w _ => w.u8 0 == 2 && decide (w.u32 12 ≤ 999999999)), acc ptpPpsSetMeta (wired 1)].all id = true := by
  decide +kernel

/-! Single commands -/

/-- The bytes of the CLAIM of 02's first worked example. -/
def claimBytes : List Byte := [1, 1, 5, 1, 4, 0, 0x31, 0, 0, 0, 0, 0, 0, 0, 0, 0, 0x80, 0, 0, 0]

/-- They are laid out and read as R47 says. -/
theorem test_claim_bytes :
    let x := waybillOf (.ring 0) 0 claimBytes
    [x.opcode == 0x0101, x.wb.flags == 5, x.wb.version == 1, x.wb.tag == 0x31, x.wb.issuer == 0, x.wb.epoch == 0, x.wb.params == [0x80, 0, 0, 0],
     waybillBytes x.opcode x.wb == claimBytes].all id = true := by decide +kernel

/-- The first reply to that CLAIM: FLAGS 0x80, status 0x0001, RESULT_LEN 0; the state becomes ELECTING (R80). -/
theorem test_claim_pending :
    (match step { ((ringed.setFld Reg.OWN_STATE 1 0 0).setFn 0 (hosted.fn 0)) with pending := [.claim (waybillOf (.ring 0) 0 claimBytes).wb] } with
     | .next t => t.ownSt == 1 && t.out.any (fun o => match o with
         | .hostWrite 0 _ d _ => u16 d 0 == 0x0101 && u8 d 2 == 0x80 && u16 d 4 == 0 && u16 d 6 == 0x31 && u16 d 8 == 1
         | _ => false)
     | _ => false) = true := by decide +kernel

/-- An empty queue idles (log entry 35); a command taken from the front leaves the rest. -/
theorem test_step_idle : step live = .next live := by rfl
theorem test_step_rest :
    (match step { live with pending := [.echo (msg live 3 []), .fetch] } with
     | .next t => t.pending == [.fetch] && t.out.any (fun o => match o with | .jtag b => u16 b 8 == 0 && u16 b 4 == 3 | _ => false)
     | _ => false) = true := by decide +kernel

/-- AES-128 of FIPS 197, appendix C.1, as a CBC block with a zero IV (R372). -/
theorem test_cx_kat :
    blockMode 0 true (beBytes 16 0x000102030405060708090A0B0C0D0E0F) (zeros 16) (beBytes 16 0x00112233445566778899AABBCCDDEEFF) =
      beBytes 16 0x69C4E0D86A7B0430D8CDB78070B4C55A := by decide +kernel

/-- The check value of CRC-32C: the CRC of the characters 1 to 9. -/
theorem test_crc32c : crc32c ([0x31, 0x32, 0x33, 0x34, 0x35, 0x36, 0x37, 0x38, 0x39] : List Byte) = 0xE3069283 := by decide +kernel

/-- HDR.LD.H reads two frame bytes in network order, at the last offset; one past it faults (R429, R436). -/
theorem test_hdr_ld_h :
    (match exec (.hdrLdH 129) ((about 129 (xword 0x0B 0 1) 98 0).setFrame 5 { frame (.thread 2 1) with bytes := zeros 98 ++ [0x12, 0x34] }) with
     | .next t => (t.hart 129).rx 4 == 0x1234 && (t.hart 129).pc == 0x104
     | _ => false) = true := by decide +kernel
theorem test_hdr_ld_h_past_the_end :
    (match exec (.hdrLdH 129) ((about 129 (xword 0x0B 0 1) 99 0).setFrame 5 { frame (.thread 2 1) with bytes := zeros 100 }) with
     | .next t => (t.hart 129).st == .faulted
     | _ => false) = true := by decide +kernel

/-- The table of R439: RADD, RSUB, RMUL, RDIV, RMIN, RMAX of each pair, with the flags. -/
theorem test_rate :
    ([(0x1, 0x3F800000, [(0x3F800000, 1), (0xBF800000, 1), (0x0, 1), (0x0, 1), (0x0, 1), (0x3F800000, 1)]),
      (0x3F800000, 0x1, [(0x3F800000, 1), (0x3F800000, 1), (0x0, 1), (0x7F7FFFFF, 3), (0x0, 1), (0x3F800000, 1)]),
      (0x1, 0x1, [(0x0, 1), (0x0, 1), (0x0, 1), (0x7FC00000, 5), (0x0, 1), (0x0, 1)]),
      (0x7F7FFFFF, 0x3F800000, [(0x7F7FFFFF, 0), (0x7F7FFFFF, 0), (0x7F7FFFFF, 0), (0x7F7FFFFF, 0), (0x3F800000, 0), (0x7F7FFFFF, 0)]),
      (0x3F800000, 0x7F7FFFFF, [(0x7F7FFFFF, 0), (0xFF7FFFFF, 0), (0x7F7FFFFF, 0), (0x0, 1), (0x3F800000, 0), (0x7F7FFFFF, 0)]),
      (0x7F7FFFFF, 0x7F7FFFFF, [(0x7F7FFFFF, 2), (0x0, 0), (0x7F7FFFFF, 2), (0x3F800000, 0), (0x7F7FFFFF, 0), (0x7F7FFFFF, 0)]),
      (0x7F7FFFFF, 0xFF7FFFFF, [(0x0, 0), (0x7F7FFFFF, 2), (0xFF7FFFFF, 2), (0xBF800000, 0), (0xFF7FFFFF, 0), (0x7F7FFFFF, 0)]),
      (0x0, 0x3F800000, [(0x3F800000, 0), (0xBF800000, 0), (0x0, 0), (0x0, 0), (0x0, 0), (0x3F800000, 0)]),
      (0x80000000, 0x3F800000, [(0x3F800000, 0), (0xBF800000, 0), (0x0, 0), (0x0, 0), (0x0, 0), (0x3F800000, 0)]),
      (0x3F800000, 0x80000000, [(0x3F800000, 0), (0x3F800000, 0), (0x0, 0), (0x7F7FFFFF, 2), (0x0, 0), (0x3F800000, 0)]),
      (0x80000000, 0x0, [(0x0, 0), (0x0, 0), (0x0, 0), (0x7FC00000, 4), (0x0, 0), (0x0, 0)]),
      (0x7FC00001, 0x3F800000, [(0x7FC00000, 4), (0x7FC00000, 4), (0x7FC00000, 4), (0x7FC00000, 4), (0x7FC00000, 4), (0x7FC00000, 4)]),
      (0x3F800000, 0x7FC00001, [(0x7FC00000, 4), (0x7FC00000, 4), (0x7FC00000, 4), (0x7FC00000, 4), (0x7FC00000, 4), (0x7FC00000, 4)])] : List (Nat × Nat × List (Nat × Nat))).all
      (fun x => (List.range 6).map (fun op => rateOp op x.1 x.2.1) == x.2.2) = true := by decide +kernel

/-- A word sent into a mailbox by the debugger is read back by a control core (R489). -/
theorem test_mailbox :
    (match exec (.mbTxEom (.host .debugger) 35 false 0x1234) (serve [13] live) with
     | .next t => (match exec (.mbRx (.core 0) 35 true) t with
        | .next u => u.out.any (fun o => o == .mbWord (.core 0) 35 0x1234)
        | _ => false)
     | _ => false) = true := by decide +kernel

/-- In SEQUENCE mode a write-back of one clears the status bit it names (R111). -/
theorem test_status_write_back :
    (match exec (.statusClear (.pf0 0) Reg.TM_EVENT 1) (((serve [8] hosted).setFld (unitHdr 8) 0 0 1).setRegN Reg.TM_EVENT 3) with
     | .next t => t.regN Reg.TM_EVENT == 2
     | _ => false) = true := by decide +kernel

/-! Well-formed and ill-formed commands -/

def w0 : Waybill := { inst := .jtag, flags := 5, version := 1, tag := 7, issuer := 0, epoch := 0, params := [], mtag := 0 }
def rq0 : McRequest := { binding := 0, srcEid := 9, tag := 0, instId := 0, data := [] }
def pk0 : McPacket := { binding := 0, srcEid := 9, som := true, eom := true, pktSeq := 0, tagOwner := true, tag := 0, payload := [] }
def id0 : IdentInfo := { vendor := 0, device := 0, serial := 0, id := 0, port := 0, size := 1, epoch := 0 }
def tg0 : TgtInfo := { conns := 1, digests := 0, maxH2c := 0, ns := [] }
def ns0 : NsInfo := { nsid := 1, size := 1, lba := 9, nguid := [], noMeta := true }
def pop0 : DramPop := { speed := 1, x4 := false, density := 0, ranks := 1, failed := [], checkOk := true }

/-- Each operand type: a value in range, then one past the end of each field. -/
theorem test_operand_checks :
    [w0.wf, !({ w0 with inst := .caravan 4 } : Waybill).wf, !({ w0 with params := List.replicate 4081 0 } : Waybill).wf, !({ w0 with mtag := 8 } : Waybill).wf,
     (Instance.ring 4096).wf, !(Instance.ring 4097).wf, !(Instance.mailbox 31).wf, !(Instance.mailbox 64).wf, !(Instance.flaskMailbox 0).wf, !(Instance.flaskMailbox 4096).wf,
     !(Instance.mctp 3 0).wf, !(Instance.mctp 0 256).wf, (Src.pf0 1).wf, !(Src.pf0 2).wf, !(Src.flask 0).wf, pk0.wf, !({ pk0 with binding := 3 } : McPacket).wf,
     !({ pk0 with srcEid := 256 } : McPacket).wf, !({ pk0 with pktSeq := 4 } : McPacket).wf, !({ pk0 with tag := 8 } : McPacket).wf,
     !({ pk0 with payload := zeros 65 } : McPacket).wf, rq0.wf, !({ rq0 with binding := 3 } : McRequest).wf, !({ rq0 with srcEid := 256 } : McRequest).wf,
     !({ rq0 with tag := 8 } : McRequest).wf, !({ rq0 with instId := 32 } : McRequest).wf, !(MbUser.host (.pf0 2)).wf, !(MbUser.thread 2048).wf, !(MbUser.core 5).wf,
     (⟨6, 0, some (zeros 64)⟩ : DramReq).wf, !(⟨0, 0, none⟩ : DramReq).wf, !(⟨7, 0, none⟩ : DramReq).wf, !(⟨1, 2 ^ 32, none⟩ : DramReq).wf, !(⟨1, 0, some []⟩ : DramReq).wf,
     pop0.wf, !({ pop0 with speed := 6 } : DramPop).wf, !({ pop0 with density := 4 } : DramPop).wf, !({ pop0 with ranks := 5 } : DramPop).wf,
     !({ pop0 with failed := [4] } : DramPop).wf, id0.wf, !({ id0 with vendor := 65536 } : IdentInfo).wf, !({ id0 with device := 65536 } : IdentInfo).wf,
     !({ id0 with serial := 2 ^ 64 } : IdentInfo).wf, !({ id0 with id := 4 } : IdentInfo).wf, !({ id0 with port := 2 } : IdentInfo).wf,
     !({ id0 with size := 5 } : IdentInfo).wf, !({ id0 with epoch := 2 ^ 32 } : IdentInfo).wf, ns0.wf, !({ ns0 with nsid := 2 ^ 32 } : NsInfo).wf,
     !({ ns0 with size := 2 ^ 64 } : NsInfo).wf, !({ ns0 with nguid := zeros 17 } : NsInfo).wf, !(DrvStep.linkUp 7 0).wf, !(DrvStep.linkUp 0 5).wf, !(DrvStep.waited 256).wf,
     !(DrvStep.identified (zeros 21) [] []).wf, !(DrvStep.identified [] (zeros 41) []).wf, !(DrvStep.identified [] [] [{ ns0 with nsid := 2 ^ 32 }]).wf,
     !(NvmeFrom.io 4).wf, !(NvmeFrom.admin 4).wf, !(NvmeFrom.target 64).wf, tg0.wf, !({ tg0 with conns := 17 } : TgtInfo).wf, !({ tg0 with digests := 4 } : TgtInfo).wf,
     !({ tg0 with maxH2c := 2 ^ 32 } : TgtInfo).wf, !({ tg0 with ns := [{ ns0 with nsid := 2 ^ 32 }] } : TgtInfo).wf, !(HostReadWho.mover 128).wf,
     !(HostReadWho.block 65536 0).wf, !(HostReadWho.block 0 65536).wf, !(HostReadWho.ring 4097).wf, !(Instr.bootStepDone true (List.replicate 5 pop0)).wf,
     !(Instr.bootStepDone true [{ pop0 with speed := 6 }]).wf, !(Instr.marginRead (List.replicate 53 0) []).wf, !(Instr.devInfo { w0 with mtag := 8 }).wf].all id = true := by
  decide +kernel

/-- Commands within every range. -/
theorem test_wellformed_1 : (
    [.waybillStart .jtag, .wbReqProd 1 0, .wbRspCons 1 0, .wbReqCtrl 1 0, .wbRspCtrl 1 0, .chainMemberTimeout .jtag, .pendingTimeout .jtag 0,
     .hbKick .debugger 0, .ownOverride .debugger 0, .mctpPacket pk0, .mctpReassemblyTimeout 1 1 1, .setEndpointId rq0, .getEndpointId rq0,
     .getEndpointUuid rq0, .getMctpVersionSupport rq0, .getMessageTypeSupport rq0, .getVendorDefinedMessageSupport rq0,
     .unsupportedControlCommand rq0 0, .sealSweep 1, .statusClear .debugger 1 0, .registerWrite .debugger 1 4 0,
     .accessError .debugger true 1 1 true, .domainOffAccess .debugger true 1 1, .guardValueWrite .debugger 1 0, .guardWindowExpiry 1,
     .complementWithoutGuard .debugger 1 0, .rstCtrlDevice .debugger 0, .rstCtrlUnit .debugger 0, .pdOff .debugger true 0, .revokeKey .debugger 0,
     .raiseSvn .debugger 0, .debugLock .debugger 0, .ksZeroize .debugger 0, .ksZeroizeAll .debugger 0, .mbLockFree .debugger 0,
     .rsvForce .debugger 0, .rsvForceRestore .debugger 0, .peek .debugger 0, .flr 1, .flaskResetDone 1, .hostReadError 1 1 true 1 none 1,
     .flaskCtrlRelease 1, .msixVectorUnmask 1 1, .msixEnable 1 true, .intxAck 1 1, .hostLinkUp 1 1 1 true, .hotReset 1, .hostLinkDown 1,
     .perstN true 1 1 true, .vfEnableSet 1 1, .vfEnableClear 1, .functionServiceStop 1 true, .functionServiceResume 1, .vfBar2SizeWrite 1 1,
     .bar2Access .debugger true 1 1 [], .wqDoorbell .debugger 1 4 0, .cqDoorbell .debugger 1 4 0, .fetchReturn 1 [], .acceptCommit 1,
     .payloadReadReturn 1 1 [], .fragmentTableReturn 1 1 [], .completionCommit 1 1, .completionWrite 1, .moderationTimer 1, .rxPrefetch 1,
     .rxDeliveryCheck 1, .rxHoldExpiry 1, .nop 1 1, .send 1 1, .recv 1 1, .blkRead 1 1, .blkWrite 1 1, .blkFlush 1 1, .blkDeallocate 1 1,
     .blkWriteZeroes 1 1, .wqPauseDone 1, .wqShutdownDone 1, .mirrorRowError true 1 true, .rowRepairDone true 1, .doubleFault 1 none] : List Instr).all (fun i => i.wf) = true := by decide +kernel

/-- Commands within every range. -/
theorem test_wellformed_2 : (
    [.frameReceived 1 .whole [] true, .insert 1, .update 1, .replace 1, .delete 1, .read 1, .readAt 1, .clearAt 1, .copierStep 1, .tblFlipDone 1,
     .tableBulkDone 1, .ageSweep 1, .tmDeparture 1, .tmSample 1, .sampleFrameTimer 1, .tmqDestroyDone 1, .segmentDispatch 1 1, .segmentDone 1 1,
     .blockParityError 1 1 1 true, .reserveLaneReady 1 true, .cmReseed 1, .healthTestFail 1, .keyDrainDone 1, .keyEccError 1 true,
     .threadDispatch 1, .timerCompare 1, .runLimitExpiry 1, .eventLineEdge 1 1, .workerFault 1 1 1 1, .sampleOverflow 1 1 1 1,
     .lrReservationExpiry 1, .engineHardwareFault 1 1 1 true [], .supervisorFault 1 1 1 1, .supervisorAutoRestart 1, .exchangeKillTimeout 1,
     .hdrLdB 1, .hdrLdH 1, .hdrLdW 1, .hdrLdD 1, .hdrStB 1, .hdrStH 1, .hdrStW 1, .hdrStD 1, .pktRd 1, .pktWr 1, .pktAdj 1, .metaRd 1, .metaWr 1,
     .dispose 1, .tlk 1, .ctFind 1, .ctIns 1, .ctDel 1, .cntAdd 1, .enq 1, .rateSet 1, .crypt 1, .rand 1, .yield 1, .waitT 1, .tres 1, .tregR 1,
     .tregW 1, .radd 1, .rsub 1, .rmul 1, .rdiv 1, .rmin 1, .rmax 1, .rcvtWu 1, .rcvtR 1, .ecall 1, .ebreak 1, .debugHalt 1, .debugResume 1,
     .hartreset 1, .abstractAccessRegister 1 0, .abstractAccessMemory 1 0, .mvCopy 1, .mvGather 1] : List Instr).all (fun i => i.wf) = true := by decide +kernel

/-- Commands within every range. -/
theorem test_wellformed_3 : (
    [.mvScatter 1, .mvInterleave 1, .mvDeinterleave 1, .mvBitplane 1, .mvBitplaneInv 1, .mvFill 1, .mvRandom 1, .moverDescriptorStart 1,
     .chunkWritten 1, .barrierReadReturn 1, .moverFault 1, .engineRingProd 1, .mbTx (.core 0) 1 true 0, .mbTxEom (.core 0) 1 true 0,
     .mbRx (.core 0) 1 true, .mbLockRead (.core 0) 1 true, .mbLockWrite (.core 0) 1 true, .mbSendTimeout 1 true, .mbWakeDone 1 true,
     .wakeFail 1 true, .driveInserted 1, .driveStartStepDone 1 .ready, .driveStartStepTimeout 1, .driveRemoved 1, .driveLinkDown 1,
     .drivePowerFault 1, .attentionButton 1, .blinkExpiry 1, .shutdownComplete 1, .driveCmdTimeout 1 1, .controllerFatal 1,
     .controllerResetDone 1 true, .nvmeCompletion (.io 0) 1 [] [], .driveDmaRequest 1 true 1 1 [], .c2hdata 1 1 1 [] true true,
     .readyToTransfer 1 1 1 1 1, .dataDigestError 1 1, .connectionClose 1 true, .tcpRto 1 1, .reconnectTimeout 1, .dramRequest 1 [], .refresh 1 1,
     .mr4Read 1 [], .dramCorrectableError 1, .dramUncorrectableError 1 .bytes, .patrolScrub 1, .retrainRound 1 [], .migrationStep 1, .withdrawal 1,
     .caravanTrainingAttempt 1 true, .ident 1 id0, .flit 1 [], .nak 1 1, .ackTimeout 1, .caravanLaneFault 1 1, .widthProposal 1 1 1 true,
     .caravanLinkDown 1, .retrainTimeout 1, .routeReturn 1, .seqSync 1 1 1, .void 1 1, .controlRequest 1 1 (.lost 0), .convoyFrame 1,
     .digestTimeout 1, .partitionChange 1, .cvForwardReply 1 1 [], .netLinkUp 1, .netLinkDown 1 .lock, .anRestart 1, .pause 1 1,
     .pfc 1 1 (List.replicate 8 0), .pauseExpiry 1 1, .pfcRefresh 1 1, .frameTxDone 1, .txFaultOnWire 1 1 true, .partFault 1 1 1,
     .controlCoreFault 1, .sramRowFault 1 1 [], .marginRead [] [], .bootStepDone true []] : List Instr).all (fun i => i.wf) = true := by decide +kernel

/-- Commands within every range. -/
theorem test_wellformed_4 : (
    [.domainSwitchDone 1, .pdSetDone 1, .unitResetDone 1, .temperatureRead [] 1, .jtagBar true 1 1 0, .jtagDmi true 1 0,
     .complementMismatch .debugger 1 0, .riscvInstruction 1, .hostDataReadReturn (.mover 0) [], .targetConnected 1 tg0, .voltageConfirmed 1,
     .setdasa 1, .entdaa 1] : List Instr).all (fun i => i.wf) = true := by decide +kernel

/-- Commands one past the end of a range, one for each check of each row. -/
theorem test_illformed_1 : (
    [.waybillStart (.caravan 4), .wbReqProd 4097 0, .wbRspCons 4097 0, .wbReqCtrl 4097 0, .wbRspCtrl 4097 0, .chainMemberTimeout (.caravan 4),
     .pendingTimeout (.caravan 4) 0, .hbKick (.pf0 2) 0, .ownOverride (.pf0 2) 0, .mctpPacket { pk0 with tag := 8 }, .mctpReassemblyTimeout 3 1 1,
     .mctpReassemblyTimeout 1 256 1, .mctpReassemblyTimeout 1 1 8, .setEndpointId { rq0 with instId := 32 },
     .getEndpointId { rq0 with instId := 32 }, .getEndpointUuid { rq0 with instId := 32 }, .getMctpVersionSupport { rq0 with instId := 32 },
     .getMessageTypeSupport { rq0 with instId := 32 }, .getVendorDefinedMessageSupport { rq0 with instId := 32 },
     .unsupportedControlCommand { rq0 with instId := 32 } 0, .sealSweep 55, .statusClear (.pf0 2) 1 0, .statusClear .debugger (2 ^ 26) 0,
     .registerWrite (.pf0 2) 1 4 0, .registerWrite .debugger (2 ^ 26) 4 0, .registerWrite .debugger 1 5 0, .accessError (.pf0 2) true 1 1 true,
     .accessError .debugger true (2 ^ 64) 1 true, .domainOffAccess (.pf0 2) true 1 1, .domainOffAccess .debugger true (2 ^ 64) 1,
     .guardValueWrite (.pf0 2) 1 0, .guardValueWrite .debugger (2 ^ 26) 0, .guardWindowExpiry 55, .complementWithoutGuard (.pf0 2) 1 0,
     .complementWithoutGuard .debugger (2 ^ 26) 0, .rstCtrlDevice (.pf0 2) 0, .rstCtrlUnit (.pf0 2) 0, .pdOff (.pf0 2) true 0,
     .revokeKey (.pf0 2) 0, .raiseSvn (.pf0 2) 0, .debugLock (.pf0 2) 0, .ksZeroize (.pf0 2) 0, .ksZeroizeAll (.pf0 2) 0, .mbLockFree (.pf0 2) 0,
     .rsvForce (.pf0 2) 0, .rsvForceRestore (.pf0 2) 0, .peek (.pf0 2) 0, .flr 4097, .flaskResetDone 4097, .hostReadError 4097 1 true 1 none 1,
     .hostReadError 1 0 true 1 none 1, .hostReadError 1 1 true 1 none (2 ^ 64), .flaskCtrlRelease 4096, .msixVectorUnmask 4097 1,
     .msixVectorUnmask 1 2048, .msixEnable 4097 true, .intxAck 2 1, .intxAck 1 2048, .hostLinkUp 2 1 1 true, .hostLinkUp 1 7 1 true,
     .hostLinkUp 1 1 17 true, .hotReset 2, .hostLinkDown 2, .perstN true 4 1 true, .perstN true 1 4 true, .vfEnableSet 2 1, .vfEnableSet 1 4096,
     .vfEnableClear 2, .functionServiceStop 4097 true, .functionServiceResume 4097, .vfBar2SizeWrite 2 1, .vfBar2SizeWrite 1 64,
     .bar2Access (.pf0 2) true 1 1 [], .bar2Access .debugger true (2 ^ 32) 1 [], .wqDoorbell (.pf0 2) 1 4 0, .wqDoorbell .debugger 4096 4 0,
     .wqDoorbell .debugger 1 5 0, .cqDoorbell (.pf0 2) 1 4 0, .cqDoorbell .debugger 4096 4 0, .cqDoorbell .debugger 1 5 0] : List Instr).all (fun i => !i.wf) = true := by decide +kernel

/-- Commands one past the end of a range, one for each check of each row. -/
theorem test_illformed_2 : (
    [.fetchReturn 65536 [], .acceptCommit 65536, .payloadReadReturn 65536 1 [], .payloadReadReturn 1 65536 [], .fragmentTableReturn 65536 1 [],
     .fragmentTableReturn 1 65536 [], .completionCommit 65536 1, .completionCommit 1 65536, .completionWrite 65536, .moderationTimer 65536,
     .rxPrefetch 65536, .rxDeliveryCheck 65536, .rxHoldExpiry 65536, .nop 65536 1, .nop 1 65536, .send 65536 1, .send 1 65536, .recv 65536 1,
     .recv 1 65536, .blkRead 65536 1, .blkRead 1 65536, .blkWrite 65536 1, .blkWrite 1 65536, .blkFlush 65536 1, .blkFlush 1 65536,
     .blkDeallocate 65536 1, .blkDeallocate 1 65536, .blkWriteZeroes 65536 1, .blkWriteZeroes 1 65536, .wqPauseDone 65536, .wqShutdownDone 65536,
     .mirrorRowError true 65536 true, .rowRepairDone true 65536, .doubleFault 65536 none, .frameReceived 8 .whole [] true,
     .frameReceived 1 .whole (List.replicate 16385 0) true, .insert 2, .update 2, .replace 2, .delete 2, .read 2, .readAt 2, .clearAt 2,
     .copierStep 64, .tblFlipDone 64, .tableBulkDone 64, .ageSweep 64, .tmDeparture 12, .tmSample 65536, .sampleFrameTimer 65536,
     .tmqDestroyDone 65536, .segmentDispatch 2 1, .segmentDispatch 1 32, .segmentDone 2 1, .segmentDone 1 32, .blockParityError 2 1 1 true,
     .blockParityError 1 32 1 true, .blockParityError 1 1 16 true, .reserveLaneReady 2 true, .cmReseed 2, .healthTestFail 3, .keyDrainDone 16384,
     .keyEccError 16384 true, .threadDispatch 2048, .timerCompare 2048, .runLimitExpiry 2048, .eventLineEdge 32 1, .eventLineEdge 1 32,
     .workerFault 2048 1 1 1, .workerFault 1 256 1 1, .workerFault 1 1 256 1, .workerFault 1 1 1 (2 ^ 64), .sampleOverflow 2048 1 1 1,
     .sampleOverflow 1 16 1 1, .sampleOverflow 1 1 (2 ^ 64) 1, .sampleOverflow 1 1 1 (2 ^ 64), .lrReservationExpiry 2048,
     .engineHardwareFault 32 1 1 true [], .engineHardwareFault 1 9 1 true [], .engineHardwareFault 1 1 256 true []] : List Instr).all (fun i => !i.wf) = true := by decide +kernel

/-- Commands one past the end of a range, one for each check of each row. -/
theorem test_illformed_3 : (
    [.supervisorFault 256 1 1 1, .supervisorFault 1 256 1 1, .supervisorFault 1 1 256 1, .supervisorFault 1 1 1 (2 ^ 64),
     .supervisorAutoRestart 256, .exchangeKillTimeout 32, .hdrLdB 2048, .hdrLdH 2048, .hdrLdW 2048, .hdrLdD 2048, .hdrStB 2048, .hdrStH 2048,
     .hdrStW 2048, .hdrStD 2048, .pktRd 2048, .pktWr 2048, .pktAdj 2048, .metaRd 2048, .metaWr 2048, .dispose 2048, .tlk 2048, .ctFind 2048,
     .ctIns 2048, .ctDel 2048, .cntAdd 2048, .enq 2048, .rateSet 2048, .crypt 2048, .rand 2048, .yield 2048, .waitT 2048, .tres 2048, .tregR 2048,
     .tregW 2048, .radd 2048, .rsub 2048, .rmul 2048, .rdiv 2048, .rmin 2048, .rmax 2048, .rcvtWu 2048, .rcvtR 2048, .ecall 2048, .ebreak 2048,
     .debugHalt 2048, .debugResume 2048, .hartreset 2048, .abstractAccessRegister 2048 0, .abstractAccessMemory 2048 0, .mvCopy 128, .mvGather 128,
     .mvScatter 128, .mvInterleave 128, .mvDeinterleave 128, .mvBitplane 128, .mvBitplaneInv 128, .mvFill 128, .mvRandom 128,
     .moverDescriptorStart 128, .chunkWritten 128, .barrierReadReturn 128, .moverFault 128, .engineRingProd 32, .mbTx (.core 5) 1 true 0,
     .mbTx (.core 0) 64 true 0, .mbTxEom (.core 5) 1 true 0, .mbTxEom (.core 0) 64 true 0, .mbRx (.core 5) 1 true, .mbRx (.core 0) 64 true,
     .mbLockRead (.core 5) 1 true, .mbLockRead (.core 0) 64 true, .mbLockWrite (.core 5) 1 true, .mbLockWrite (.core 0) 64 true,
     .mbSendTimeout 64 true, .mbWakeDone 64 true, .wakeFail 64 true, .driveInserted 4, .driveStartStepDone 4 .ready,
     .driveStartStepDone 1 (.linkUp 7 4), .driveStartStepTimeout 4] : List Instr).all (fun i => !i.wf) = true := by decide +kernel

/-- Commands one past the end of a range, one for each check of each row. -/
theorem test_illformed_4 : (
    [.driveRemoved 4, .driveLinkDown 4, .drivePowerFault 4, .attentionButton 4, .blinkExpiry 4, .shutdownComplete 4, .driveCmdTimeout 4 1,
     .driveCmdTimeout 1 65536, .controllerFatal 4, .controllerResetDone 4 true, .nvmeCompletion (.io 4) 1 [] [],
     .nvmeCompletion (.io 0) 65536 [] [], .driveDmaRequest 4 true 1 1 [], .driveDmaRequest 1 true (2 ^ 64) 1 [], .c2hdata 64 1 1 [] true true,
     .c2hdata 1 65536 1 [] true true, .c2hdata 1 1 (2 ^ 32) [] true true, .readyToTransfer 64 1 1 1 1, .readyToTransfer 1 65536 1 1 1,
     .readyToTransfer 1 1 65536 1 1, .readyToTransfer 1 1 1 (2 ^ 32) 1, .dataDigestError 64 1, .dataDigestError 1 65536, .connectionClose 64 true,
     .tcpRto 64 1, .tcpRto 1 17, .reconnectTimeout 64, .dramRequest 4 [], .dramRequest 1 [⟨0, 0, none⟩], .refresh 4 1, .refresh 1 4, .mr4Read 4 [],
     .dramCorrectableError (2 ^ 32), .dramUncorrectableError (2 ^ 32) .bytes, .patrolScrub 4, .retrainRound 4 [], .retrainRound 1 [4],
     .migrationStep 4, .withdrawal 4, .caravanTrainingAttempt 2 true, .ident 2 id0, .ident 1 { id0 with size := 5 }, .flit 2 [],
     .flit 1 (List.replicate 16385 0), .nak 2 1, .nak 1 4096, .ackTimeout 2, .caravanLaneFault 2 1, .caravanLaneFault 1 5,
     .widthProposal 2 1 1 true, .widthProposal 1 32 1 true, .widthProposal 1 1 4 true, .caravanLinkDown 2, .retrainTimeout 2, .routeReturn 4,
     .seqSync 4 1 1, .seqSync 1 (2 ^ 32) 1, .seqSync 1 1 (2 ^ 32), .void 4 1, .void 1 (2 ^ 32), .controlRequest 4 1 (.lost 0),
     .controlRequest 1 (2 ^ 32) (.lost 0), .convoyFrame 2, .digestTimeout 4, .partitionChange 16, .cvForwardReply 4 1 [],
     .cvForwardReply 1 (2 ^ 32) [], .cvForwardReply 1 1 (List.replicate 16385 0), .netLinkUp 8, .netLinkDown 8 .lock, .anRestart 8, .pause 8 1,
     .pause 1 65536, .pfc 8 1 (List.replicate 8 0), .pfc 1 256 (List.replicate 8 0), .pfc 1 1 [0], .pauseExpiry 8 1, .pauseExpiry 1 8,
     .pfcRefresh 8 1, .pfcRefresh 1 8] : List Instr).all (fun i => !i.wf) = true := by decide +kernel

/-- Commands one past the end of a range, one for each check of each row. -/
theorem test_illformed_5 : (
    [.frameTxDone 8, .txFaultOnWire 8 1 true, .txFaultOnWire 1 65536 true, .partFault 7 1 1, .partFault 1 (2 ^ 32) 1, .partFault 1 1 256,
     .controlCoreFault 5, .sramRowFault 256 1 [], .sramRowFault 1 65536 [], .domainSwitchDone 44, .pdSetDone 44, .unitResetDone 55,
     .temperatureRead [] 65536, .jtagBar true 4096 1 0, .jtagBar true 1 (2 ^ 26) 0, .jtagDmi true 128 0, .complementMismatch (.pf0 2) 1 0,
     .complementMismatch .debugger (2 ^ 26) 0, .riscvInstruction 2048, .hostDataReadReturn (.mover 128) [], .targetConnected 64 tg0,
     .targetConnected 1 { tg0 with conns := 17 }, .voltageConfirmed 65536, .setdasa 128, .entdaa 128] : List Instr).all (fun i => !i.wf) = true := by decide +kernel
end Sys2Proof.Tests
end

/-! SUPPORT and CLAIM. Write-backs to status registers (03 R111, 14 R486): the value a write-back leaves, bit by bit; which state a
STATUS_CLEAR reaches; and from both the statement O21. -/

namespace Sys2Proof.Machine

open Sys2Proof

/-! The value a write-back leaves -/

/-- The status bits of a register lie below SEQ. -/
theorem statusBits_lt {a rs : Nat} (h : statusBits a = some rs) : rs < 2 ^ 24 := by
  unfold statusBits at h
  split at h
  · cases h; decide
  · cases h
  · split at h
    · cases h
    · split at h
      · cases h; exact Nat.mod_lt _ (by decide)
      · cases h

/-- STALE_SEQ of a register lies in the word. -/
theorem staleBit_lt {rs : Nat} (h : rs < 2 ^ 32) : staleBit rs < 32 := by
  rcases Nat.eq_zero_or_pos rs with rfl | hpos
  · decide
  · exact (Nat.log2_lt hpos.ne').2 h

/-- A write-back leaves a word. -/
theorem clearedStatus_lt {rs cur : Nat} (v : Nat) (hrs : rs < 2 ^ 32) (hcur : cur < 2 ^ 32) : clearedStatus rs cur v < 2 ^ 32 := by
  unfold clearedStatus
  split
  · exact Nat.xor_lt_two_pow hcur (Nat.and_lt_two_pow _ hrs)
  · exact Nat.or_lt_two_pow hcur (Nat.pow_lt_pow_right (by decide) (staleBit_lt hrs))

/-- With the current SEQ the RS bits written as 1 clear, and no other bit moves (R111). -/
theorem testBit_clearedStatus_of_seq_eq {rs cur v : Nat} (h : bits v 31 24 = bits cur 31 24) (i : Nat) :
    (clearedStatus rs cur v).testBit i = (cur.testBit i && !(v.testBit i && rs.testBit i)) := by
  rw [clearedStatus, if_pos h, Nat.testBit_xor, Nat.testBit_and, Nat.testBit_and]
  cases cur.testBit i <;> simp

/-- With another SEQ STALE_SEQ sets, and no other bit moves (R111). -/
theorem testBit_clearedStatus_of_seq_ne {rs cur v : Nat} (h : bits v 31 24 ≠ bits cur 31 24) (i : Nat) :
    (clearedStatus rs cur v).testBit i = (cur.testBit i || decide (i = Nat.log2 rs)) := by
  rw [clearedStatus, if_neg h, Nat.testBit_or, Nat.testBit_two_pow, staleBit]
  simp only [eq_comm]

/-- A register's value is a word. -/
theorem State.regN_lt (s : State) (a : Nat) : s.regN a < 2 ^ 32 := (s.reg a).isLt

/-- The register that a write-back's value is stored in holds that value. -/
theorem State.regN_setRegN_clearedStatus (s : State) (a v : Nat) {rs : Nat} (hrs : rs < 2 ^ 32) :
    (s.setRegN a (clearedStatus rs (s.regN a) v)).regN a = clearedStatus rs (s.regN a) v := by
  rw [State.regN_setRegN_self, Nat.mod_eq_of_lt (clearedStatus_lt v hrs (s.regN_lt a))]

/-! Changing one side of a mailbox pair -/

/-- The side stored is read back. -/
@[simp] theorem MbPair.side_setSide_self (p : MbPair) (b : Bool) (x : MbSide) : (p.setSide b x).side b = x := by
  cases b <;> rfl

/-- A mailbox side whose MB_STAT is written back with v in SEQUENCE mode (R486; 03 R111): its RS bits are bits 7:0. -/
def MbSide.clearStat (v : Nat) (x : MbSide) : MbSide := { x with stat := word (clearedStatus 0xFF x.stat.toNat v) }

/-- MB_STAT after a write-back, as a number. -/
theorem MbSide.toNat_stat_clearStat (v : Nat) (x : MbSide) :
    (x.clearStat v).stat.toNat = clearedStatus 0xFF x.stat.toNat v := by
  rw [MbSide.clearStat, word, BitVec.toNat_ofNat, Nat.mod_eq_of_lt (clearedStatus_lt v (by decide) x.stat.isLt)]

/-- Settling the pins leaves the mailbox pairs. -/
@[simp] theorem State.mbPair_settle (s : State) (k : Nat) : s.settle.mbPair k = s.mbPair k := rfl

/-- What modSide leaves of its own pair. -/
@[simp] theorem State.mbPair_modSide_self (s : State) (k : Nat) (b : Bool) (f : MbSide → MbSide) :
    (s.modSide k b f).mbPair k = (s.mbPair k).setSide b (f ((s.mbPair k).side b)) :=
  State.mbPair_setMbPair_self s k _

/-- Changing a side leaves every other pair. -/
theorem State.mbPair_modSide_ne (s : State) {k j : Nat} (b : Bool) (f : MbSide → MbSide) (h : j ≠ k) :
    (s.modSide k b f).mbPair j = s.mbPair j :=
  SMap.getD_put_ne _ _ _ h

/-! The state a write-back reaches -/

/-- An aligned write of 4 bytes that reaches a powered unit and no doorbell writes its word (R98). -/
theorem State.busWrite_word {s : State} {src : Src} {off : Nat} (v : DWord) (hopen : s.busOpen src off = true) (hal : off % 4 = 0)
    (hon : s.unitOn (unitOfReg (srcAddr src off)) = true) (hdb : doorbellSlot (srcAddr src off) = none) :
    s.busWrite src off 4 v = s.wordWrite src off (v.setWidth 32) := by
  simp [State.busWrite, hopen, hal, hon, hdb]

/-- STATUS_CLEAR of an address that is a status register or MB_STAT writes the word there. -/
theorem exec_statusClear_eq_wordWrite {s : State} {src : Src} {off : Nat} (v : Word) (hopen : s.busOpen src off = true)
    (hal : off % 4 = 0) (hon : s.unitOn (unitOfReg (srcAddr src off)) = true) (hdb : doorbellSlot (srcAddr src off) = none)
    (hst : (statusBits (srcAddr src off)).isSome = true ∨ ∃ key b, mbReg (srcAddr src off) = some (key, b, 0x0C)) :
    exec (.statusClear src off v) s = .next (s.wordWrite src off v).settle := by
  have hw : s.busWrite src off 4 (v.setWidth 64) = s.wordWrite src off v := by
    rw [State.busWrite_word _ hopen hal hon hdb, BitVec.setWidth_setWidth_of_le _ (by decide), BitVec.setWidth_eq]
  show finish _ = _
  rcases hst with hst | ⟨key, b, hmb⟩
  · simp [finish, hst, hw]
  · simp [finish, hmb, hw]

/-- A word written to a status register that no other view decodes first is a write-back. -/
theorem State.wordWrite_statusReg {src : Src} {off : Nat} (s : State) (v : Word)
    (hst : (statusBits (srcAddr src off)).isSome = true)
    (hring : ∀ x, ringReg (srcAddr src off) = some x → x.2 = 0x28 ∧ wbBase x.1 + 0x28 = srcAddr src off)
    (hmb : mbReg (srcAddr src off) = none) (hmsix : msixReg (srcAddr src off) = none)
    (hdm : srcAddr src off < 0x1901000 ∨ 0x1901200 ≤ srcAddr src off) (hg : srcAddr src off ∉ guardedRegs)
    (hc : srcAddr src off < 4 ∨ srcAddr src off - 4 ∉ guardedRegs) :
    s.wordWrite src off v = s.statusClear (srcAddr src off) v.toNat := by
  unfold State.wordWrite
  cases hr : ringReg (srcAddr src off) with
  | some x =>
    obtain ⟨fn, o⟩ := x
    obtain ⟨rfl, hbase⟩ : o = 0x28 ∧ wbBase fn + 0x28 = srcAddr src off := hring _ hr
    simp [hr, State.ringWrite, hbase]
  | none =>
    have hdm' : ¬(0x1901000 ≤ srcAddr src off ∧ srcAddr src off < 0x1901200) := by omega
    have hc' : ¬(guardedRegs.contains (srcAddr src off - 4) = true ∧ 4 ≤ srcAddr src off) := by
      rw [List.contains_iff_mem]
      rintro ⟨hmem, hle⟩
      exact hc.elim (fun hlt => by omega) (fun hn => hn hmem)
    simp only [hr, hmb, hmsix]
    rw [if_neg hdm', if_neg (by rwa [List.contains_iff_mem]), if_neg hc', if_pos hst]

/-- A write-back in SEQUENCE mode stores the cleared value (R111). -/
theorem State.statusClear_of_seqMode {s : State} {a rs : Nat} (v : Nat) (hrs : statusBits a = some rs)
    (hm : s.seqMode (unitOfReg a) = true) : s.statusClear a v = s.setRegN a (clearedStatus rs (s.regN a) v) := by
  simp [State.statusClear, hrs, hm]

/-- A clear of MB_STAT by the side's user in SEQUENCE mode (R486). -/
theorem State.mbClear_of_seqMode {s : State} {user : MbUser} {key : Nat} {b : Bool} (v : Nat) (htakes : s.mbTakes user key b = true)
    (hm : s.seqMode 13 = true) : s.mbClear user key b v = s.modSide key b (MbSide.clearStat v) := by
  rw [State.mbClear, htakes, hm]; rfl

/-- A word written to MB_STAT of the user's own side in SEQUENCE mode stores the cleared value with that side (R486). -/
theorem State.wordWrite_mbStat {s : State} {src : Src} {off key : Nat} {b : Bool} (v : Word) (hring : ringReg (srcAddr src off) = none)
    (hmb : mbReg (srcAddr src off) = some (key, b, 0x0C)) (htakes : s.mbTakes (.host src) key b = true) (hm : s.seqMode 13 = true) :
    s.wordWrite src off v = s.modSide key b (MbSide.clearStat v.toNat) := by
  simp only [State.wordWrite, hring, hmb]
  simp [State.mbRegWrite, State.mbClear_of_seqMode v.toNat htakes hm]

/-- Settles O21: a write-back stores `clearedStatus` of the old value in its register, or with its mailbox side, and moves nothing else;
the bits of that value are those R111 names. -/
theorem statusWriteBack : Obligations.StatusWriteBack := by
  intro src off v s a n hopen hal hon hdb
  refine ⟨fun rs hrs hring hmb hmsix hdm hg hc hm => ?_, fun key b hmb hring htakes hm => ?_⟩
  · have hstep : exec (.statusClear src off v) s = .next (s.setRegN a (clearedStatus rs (s.regN a) n)).settle := by
      rw [exec_statusClear_eq_wordWrite v hopen hal hon hdb (.inl (by rw [hrs]; rfl)),
        State.wordWrite_statusReg s v (by rw [hrs]; rfl) hring hmb hmsix hdm hg hc, State.statusClear_of_seqMode _ hrs hm]
    have hval : (s.setRegN a (clearedStatus rs (s.regN a) n)).settle.regN a = clearedStatus rs (s.regN a) n :=
      State.regN_setRegN_clearedStatus s a n (Nat.lt_trans (statusBits_lt hrs) (by decide))
    refine ⟨_, hstep, rfl, fun b hb => State.reg_setReg_ne s _ hb, fun hseq i => ?_, fun hseq i => ?_⟩
    · rw [hval]; exact testBit_clearedStatus_of_seq_eq hseq i
    · rw [hval]; exact testBit_clearedStatus_of_seq_ne hseq i
  · have hstep : exec (.statusClear src off v) s = .next (s.modSide key b (MbSide.clearStat n)).settle := by
      rw [exec_statusClear_eq_wordWrite v hopen hal hon hdb (.inr ⟨key, b, hmb⟩), State.wordWrite_mbStat v hring hmb htakes hm]
    have hpair : (s.modSide key b (MbSide.clearStat n)).settle.mbPair key =
        (s.mbPair key).setSide b (((s.mbPair key).side b).clearStat n) := by simp
    refine ⟨_, hstep, rfl, ?_, fun k hk => State.mbPair_modSide_ne s b (MbSide.clearStat n) hk, fun hseq i => ?_, fun hseq i => ?_⟩ <;>
      rw [hpair, MbPair.side_setSide_self]
    · rfl
    · rw [MbSide.toNat_stat_clearStat]; exact testBit_clearedStatus_of_seq_eq hseq i
    · rw [MbSide.toNat_stat_clearStat]; exact testBit_clearedStatus_of_seq_ne hseq i

end Sys2Proof.Machine

/-! SUPPORT and CLAIM. Rate arithmetic of the packet engines (12 R438-R440): what an instruction about to run ends in, the table of R439 with
its NaN rows, RCVT.WU case by case, RCVT.R through one rounding to 24 bits, and from these the statement O51. -/

namespace Sys2Proof.Machine

open Sys2Proof

/-! An instruction about to run -/

/-- A thread at an instruction of a kind that p names runs it next. -/
theorem State.nextInstr_of_atInstr {s : State} {h w : Nat} {op : EngOp} {p : EngOp → Bool} (hat : s.atInstr h op w) (hp : p op = true) :
    ∃ raw n, s.nextInstr h p = some (raw, w, n) := by
  obtain ⟨hh, hst, hwait, hsvc, hop, -, raw, n, hf⟩ := hat
  exact ⟨raw, n, by simp [State.nextInstr, hst, hwait, hsvc, hf, hop, hp, Nat.not_le.2 hh]⟩

/-- A thread at an instruction of the row's kind does what the row says: no trigger stops it. -/
theorem State.runInstr_of_atInstr {s : State} {h w : Nat} {op : EngOp} {p : EngOp → Bool} (hat : s.atInstr h op w) (hp : p op = true)
    (f : Nat → Res Next) : s.runInstr h p f = finishInstr h (f w) := by
  obtain ⟨raw, n, hnext⟩ := State.nextInstr_of_atInstr hat hp
  obtain ⟨-, -, -, -, -, htrig, -⟩ := hat
  simp [State.runInstr, hnext, htrig]

/-- An instruction that only changes its own thread retires with that change. -/
theorem finishInstr_go (s : State) (h : Nat) (k : Hart) (pc : DWord) (ev : List Nat) :
    finishInstr h (s.go h k pc ev) = (s.setHart h k).retired h pc ev := rfl

/-- The command of each rate operation runs its own operation (R438). -/
theorem exec_rate {op : Nat} (hop : op < 6) (h : Nat) (s : State) :
    exec (([.radd h, .rsub h, .rmul h, .rdiv h, .rmin h, .rmax h] : List Instr).getD op (.radd h)) s =
      finish (s.runInstr h (· == .rate op) (fun w => s.xRate h w op)) := by
  match op, hop with
  | 0, _ | 1, _ | 2, _ | 3, _ | 4, _ | 5, _ => rfl

/-- A rate operation about to run ends with `rateOp`'s value in fd and its flags in RFLAGS (R438). -/
theorem ends_rate {s : State} {h w op : Nat} {r : Nat × Nat} (hop : op < 6) (hat : s.atInstr h (.rate op) w)
    (hr : rateOp op ((s.hart h).rf (rvRs1 w)) ((s.hart h).rf (rvRs2 w)) = r) :
    let k := s.hart h
    Ends (([.radd h, .rsub h, .rmul h, .rdiv h, .rmin h, .rmax h] : List Instr).getD op (.radd h)) s
      ((s.setHart h { k.wf (rvRd w) r.1 with rflags := k.rflags ||| r.2 }).retired h (k.pc + 4) []) := by
  subst hr
  rw [Ends, exec_rate hop, finish, State.runInstr_of_atInstr hat (by simp), State.xRate, finishInstr_go]

/-- RCVT.WU about to run ends with `rateToWord`'s value in xd and its flags in RFLAGS (R440). -/
theorem ends_rcvtWu {s : State} {h w n fl : Nat} (hat : s.atInstr h .rcvtWu w)
    (hr : rateToWord ((s.hart h).rf (rvRs1 w)) = (n, fl)) :
    let k := s.hart h
    Ends (.rcvtWu h) s
      ((s.setHart h { k.wx (rvRd w) (BitVec.ofNat 64 n) with rflags := k.rflags ||| fl }).retired h (k.pc + 4) []) := by
  show finish _ = _
  rw [finish, State.runInstr_of_atInstr hat (by simp), State.xRcvtWu, finishInstr_go, hr]

/-- Only the low word is converted (R440). -/
theorem rateOfWord_mod (n : Nat) : rateOfWord (n % 2 ^ 32) = rateOfWord n := by rw [rateOfWord, Nat.mod_mod, rateOfWord]

/-- RCVT.R about to run ends with `rateOfWord`'s value of the low word in fd, and no flag changes (R440). -/
theorem ends_rcvtR {s : State} {h w f : Nat} (hat : s.atInstr h .rcvtR w)
    (hf : rateOfWord ((s.xr h (rvRs1 w)).toNat % 2 ^ 32) = f) :
    let k := s.hart h
    Ends (.rcvtR h) s ((s.setHart h (k.wf (rvRd w) f)).retired h (k.pc + 4) []) := by
  rw [rateOfWord_mod, State.xr] at hf
  show finish _ = _
  rw [finish, State.runInstr_of_atInstr hat (by simp), State.xRcvtR, finishInstr_go, hf]

/-! The kinds of operand, read off the magnitude -/

theorem fIsNan_eq_true {w : Nat} : fIsNan w = true ↔ 0x7F800000 < w % 2 ^ 31 := decide_eq_true_iff
theorem fIsInf_eq_true {w : Nat} : fIsInf w = true ↔ w % 2 ^ 31 = 0x7F800000 := by simp [fIsInf, fInf, fMag]
theorem fIsZero_eq_true {w : Nat} : fIsZero w = true ↔ w % 2 ^ 31 = 0 := by simp [fIsZero, fMag]
theorem fIsSub_eq_true {w : Nat} : fIsSub w = true ↔ 0 < w % 2 ^ 31 ∧ w % 2 ^ 31 < 2 ^ 23 := by
  rw [fIsSub, Bool.and_eq_true, bne_iff_ne, decide_eq_true_iff, Nat.pos_iff_ne_zero, fMag]

/-! The table of R439 -/

/-- The rows of R439 without a NaN. -/
theorem rateOp_rateExtremes : ∀ x ∈ rateExtremes, ∀ op < 6, rateOp op x.1 x.2.1 = x.2.2.getD op (0, 0) := by decide +kernel

/-- Every NaN is read as the canonical one, with INVALID (R438 item 4). -/
theorem rateIn_of_isNan {w : Nat} (h : fIsNan w = true) : rateIn w = (fNan, 4) := by simp [rateIn, h]

/-- A NaN first operand gives the canonical NaN. -/
theorem rateOp_of_isNan_left {a : Nat} (h : fIsNan a = true) (op b : Nat) : rateOp op a b = (fNan, 4 ||| (rateIn b).2) := by
  simp [rateOp, rateIn_of_isNan h, show fIsNan fNan = true by decide]

/-- A NaN second operand gives the canonical NaN. -/
theorem rateOp_of_isNan_right {b : Nat} (h : fIsNan b = true) (op a : Nat) : rateOp op a b = (fNan, (rateIn a).2 ||| 4) := by
  simp [rateOp, rateIn_of_isNan h, show fIsNan fNan = true by decide]

/-- 1.0 is read as it is. -/
theorem rateIn_one : rateIn 0x3F800000 = (0x3F800000, 0) := by decide

/-! RCVT.WU -/

/-- The exponent field of a value. -/
theorem bits_exponent (v : Nat) : bits v 30 23 = v % 2 ^ 31 / 2 ^ 23 := by
  rw [bits, Nat.shiftRight_eq_div_pow]; omega

/-- A normal value cut to an integer: its mantissa with the hidden bit, scaled by its exponent. -/
theorem fQuant_truncate_of_normal {v : Nat} (h : 2 ^ 23 ≤ v % 2 ^ 31) :
    (fQuant 1 false (fMan v) (fExp v) 0).1 =
      if 150 ≤ v % 2 ^ 31 / 2 ^ 23 then (v % 2 ^ 23 + 2 ^ 23) * 2 ^ (v % 2 ^ 31 / 2 ^ 23 - 150)
      else (v % 2 ^ 23 + 2 ^ 23) / 2 ^ (150 - v % 2 ^ 31 / 2 ^ 23) := by
  have hman : fMan v = v % 2 ^ 23 + 2 ^ 23 := if_neg (Nat.not_lt.2 h)
  have hexp : fExp v = (v % 2 ^ 31 / 2 ^ 23 : Nat) - 150 := by
    rw [← bits_exponent]; exact if_neg (Nat.not_lt.2 h)
  generalize v % 2 ^ 31 / 2 ^ 23 = x at hexp ⊢
  by_cases hx : 150 ≤ x
  · have hsh : (fExp v - 0).toNat = x - 150 := by omega
    rw [fQuant, if_pos (by omega), if_pos hx, hman, hsh]
  · have hsh : (0 - fExp v).toNat = 150 - x := by omega
    rw [fQuant, if_neg (by omega), if_neg hx, hman, hsh]
    simp [fUp]

/-- A NaN (R440). -/
theorem rateToWord_of_nan {v : Nat} (h : 0x7F800000 < v % 2 ^ 31) : rateToWord v = (0, 4) :=
  if_pos (fIsNan_eq_true.2 h)

/-- A subnormal of either sign (R440). -/
theorem rateToWord_of_subnormal {v : Nat} (h0 : 0 < v % 2 ^ 31) (h : v % 2 ^ 31 < 2 ^ 23) : rateToWord v = (0, 1) := by
  rw [rateToWord, if_neg (by rw [fIsNan_eq_true]; omega), if_pos (fIsSub_eq_true.2 ⟨h0, h⟩)]

/-- A zero of either sign. -/
theorem rateToWord_of_zero {v : Nat} (h : v % 2 ^ 31 = 0) : rateToWord v = (0, 0) := by
  rw [rateToWord, if_neg (by rw [fIsNan_eq_true]; omega), if_neg (by rw [fIsSub_eq_true]; omega), if_pos (fIsZero_eq_true.2 h)]

/-- From the smallest normal value to an infinity, only the sign and the size of the integer part matter. -/
theorem rateToWord_of_normal_or_inf {v : Nat} (h : 2 ^ 23 ≤ v % 2 ^ 31) (hinf : v % 2 ^ 31 ≤ 0x7F800000) :
    rateToWord v =
      if fNeg v then (0, 2)
      else if fIsInf v then (0xFFFFFFFF, 2)
      else
        let q := (fQuant 1 false (fMan v) (fExp v) 0).1
        if 0xFFFFFFFF < q then (0xFFFFFFFF, 2) else (q, 0) := by
  rw [rateToWord, if_neg (by rw [fIsNan_eq_true]; omega), if_neg (by rw [fIsSub_eq_true]; omega),
    if_neg (by rw [fIsZero_eq_true]; omega)]

/-- A negative value of at least the smallest normal magnitude (R440). -/
theorem rateToWord_of_neg {v : Nat} (hneg : v.testBit 31 = true) (h : 2 ^ 23 ≤ v % 2 ^ 31) (hinf : v % 2 ^ 31 ≤ 0x7F800000) :
    rateToWord v = (0, 2) := by
  rw [rateToWord_of_normal_or_inf h hinf]
  exact if_pos hneg

/-- +infinity (R440). -/
theorem rateToWord_of_posInf {v : Nat} (hpos : v.testBit 31 = false) (hinf : v % 2 ^ 31 = 0x7F800000) :
    rateToWord v = (0xFFFFFFFF, 2) := by
  rw [rateToWord_of_normal_or_inf (by omega) hinf.le, fNeg, hpos, if_neg Bool.false_ne_true, if_pos (fIsInf_eq_true.2 hinf)]

/-- A positive normal value gives its integer part, or the largest word with SAT when that does not fit (R440). -/
theorem rateToWord_of_posNormal {v : Nat} (hpos : v.testBit 31 = false) (h : 2 ^ 23 ≤ v % 2 ^ 31) (hinf : v % 2 ^ 31 < 0x7F800000) :
    rateToWord v =
      let q := (fQuant 1 false (fMan v) (fExp v) 0).1
      if 0xFFFFFFFF < q then (0xFFFFFFFF, 2) else (q, 0) := by
  rw [rateToWord_of_normal_or_inf h hinf.le, fNeg, hpos, if_neg Bool.false_ne_true, if_neg (by rw [fIsInf_eq_true]; omega)]

/-! RCVT.R -/

/-- Zero converts to +0. -/
theorem rateOfWord_zero : rateOfWord 0 = 0 := by decide

/-- An integer of at most 24 bits is exact: it moves up to bit 23. -/
theorem fQuant_of_log2_le {n : Nat} (h : n.log2 ≤ 23) : (fQuant 0 false n 0 (n.log2 - 23)).1 = n * 2 ^ (23 - n.log2) := by
  have hsh : (0 - ((n.log2 : Int) - 23)).toNat = 23 - n.log2 := by omega
  rw [fQuant, if_pos (by omega), hsh]

/-- Rounding to nearest even moves up past the half of a unit, and at the half when the quotient is odd. -/
theorem fUp_nearestEven {sh : Nat} (hsh : 0 < sh) (neg : Bool) (q r : Nat) :
    fUp 0 neg q r (2 ^ (sh - 1)) = true ↔ 2 ^ sh < 2 * r ∨ 2 * r = 2 ^ sh ∧ q % 2 = 1 := by
  obtain ⟨k, rfl⟩ := Nat.exists_eq_succ_of_ne_zero hsh.ne'
  simp [fUp, Nat.pow_succ]
  omega

/-- A longer integer is cut to 24 bits and rounded. -/
theorem fQuant_of_lt_log2 {n : Nat} (h : 23 < n.log2) :
    let sh := n.log2 - 23
    (fQuant 0 false n 0 (n.log2 - 23)).1 =
      n / 2 ^ sh + if 2 ^ sh < 2 * (n % 2 ^ sh) ∨ 2 * (n % 2 ^ sh) = 2 ^ sh ∧ n / 2 ^ sh % 2 = 1 then 1 else 0 := by
  intro sh
  have hsh : ((n.log2 : Int) - 23 - 0).toNat = sh := by omega
  rw [fQuant, if_neg (by omega), hsh]
  simp only [fUp_nearestEven (show 0 < sh by omega)]
  split <;> rfl

/-- The rounded mantissa is at most 2^24. -/
theorem fQuant_log2_le {n : Nat} : (fQuant 0 false n 0 (n.log2 - 23)).1 ≤ 2 ^ 24 := by
  have hn : n < 2 ^ (n.log2 + 1) := Nat.lt_log2_self
  rcases le_or_gt n.log2 23 with h | h
  · rw [fQuant_of_log2_le h]
    calc n * 2 ^ (23 - n.log2) ≤ 2 ^ (n.log2 + 1) * 2 ^ (23 - n.log2) := Nat.mul_le_mul_right _ hn.le
      _ = 2 ^ 24 := by rw [← Nat.pow_add]; congr 1; omega
  · rw [fQuant_of_lt_log2 h]
    have hq : n / 2 ^ (n.log2 - 23) < 2 ^ 24 := by
      rw [Nat.div_lt_iff_lt_mul (Nat.two_pow_pos _), ← Nat.pow_add]
      exact hn.trans_eq (by congr 1; omega)
    split <;> omega

/-- A word other than zero converts to its exponent and its mantissa rounded to 24 bits: a word cannot overflow. -/
theorem rateOfWord_of_pos {n : Nat} (h0 : 0 < n) (hn : n < 2 ^ 32) :
    rateOfWord n = (n.log2 + 126) * 2 ^ 23 + (fQuant 0 false n 0 (n.log2 - 23)).1 := by
  have hlog : n.log2 < 32 := (Nat.log2_lt h0.ne').2 hn
  have hle := fQuant_log2_le (n := n)
  have hlsb : max (0 + ((n.log2 + 1 : Nat) : Int) - 24) (-149) = n.log2 - 23 := by omega
  have hexp : ((n.log2 : Int) - 23 + 149).toNat = n.log2 + 126 := by omega
  rw [rateOfWord, Nat.mod_eq_of_lt hn, fRound, if_neg h0.ne']
  simp only [hlsb, hexp]
  rw [if_neg (by unfold fInf; omega)]
  simp [fSigned]

/-! The statement -/

/-- Settles O51: each clause is what its instruction ends in, with the value and flags of `rateOp`, `rateToWord` and `rateOfWord` above. -/
theorem rateArithmeticAtTheExtremes : Obligations.RateArithmeticAtTheExtremes := by
  refine ⟨?_, ?_, ?_⟩
  · intro h w op a b s res k hrow hop hat ha hb
    have hval : rateOp op a b = res.getD op (0, 0) := by
      rcases hrow with hmem | ⟨rfl, ⟨hnan, -, rfl⟩ | ⟨rfl, hnan, -⟩⟩
      · exact rateOp_rateExtremes _ hmem op hop
      · rw [rateOp_of_isNan_left (fIsNan_eq_true.2 hnan), rateIn_one, List.getD_replicate _ hop]; rfl
      · rw [rateOp_of_isNan_right (fIsNan_eq_true.2 hnan), rateIn_one, List.getD_replicate _ hop]; rfl
    exact ends_rate hop hat (by rw [ha, hb, hval])
  · intro h w s hat k v m man x q gives
    have hgives : ∀ {n fl}, rateToWord v = (n, fl) → gives n fl := ends_rcvtWu hat
    have hq : 2 ^ 23 ≤ m → (fQuant 1 false (fMan v) (fExp v) 0).1 = q := fQuant_truncate_of_normal
    refine ⟨fun hnan => hgives (rateToWord_of_nan hnan), fun h0 hsub => hgives (rateToWord_of_subnormal h0 hsub),
      fun h0 => hgives (rateToWord_of_zero h0), fun hneg hle hinf => hgives (rateToWord_of_neg hneg hle hinf),
      fun hpos hinf => hgives (rateToWord_of_posInf hpos hinf), fun hpos hle hinf hbig => hgives ?_,
      fun hpos hle hinf hfit => hgives ?_⟩
    · rw [rateToWord_of_posNormal hpos hle hinf, hq hle]; exact if_pos hbig
    · rw [rateToWord_of_posNormal hpos hle hinf, hq hle]; exact if_neg hfit.not_gt
  · intro h w s hat k n e sh u r up gives
    have hgives : ∀ {f}, rateOfWord n = f → gives f := ends_rcvtR hat
    have hn : n < 2 ^ 32 := Nat.mod_lt _ (by decide)
    refine ⟨fun h0 => hgives (h0 ▸ rateOfWord_zero), fun h0 he => hgives ?_, fun he => hgives ?_⟩
    · rw [rateOfWord_of_pos h0 hn, fQuant_of_log2_le he]
    · have h0 : 0 < n := Nat.pos_of_ne_zero fun h0 => by simp [e, h0] at he
      rw [rateOfWord_of_pos h0 hn, fQuant_of_lt_log2 he, Nat.add_assoc]

end Sys2Proof.Machine

/-! CLAIM. Every command ends in a next state whose pins are settled; the statements O1 to O4 of the queue of commands. -/

namespace Sys2Proof.Machine

open Sys2Proof

/-- Every command's meaning is `finish` of the state it leaves. -/
theorem exec_finishes (i : Instr) (s : State) : ∃ t, exec i s = finish t := by
  cases i <;> exact ⟨_, rfl⟩

/-- Settling the pins settles them: no pin's level depends on another pin. -/
theorem pinsSettled_settle (s : State) : PinsSettled s.settle := rfl

/-- A command leaves settled pins, whatever it starts from. -/
theorem pinsSettled_of_exec {i : Instr} {s t : State} (h : exec i s = .next t) : PinsSettled t := by
  obtain ⟨u, hu⟩ := exec_finishes i s
  obtain rfl : u.settle = t := by simpa [hu, finish] using h
  exact pinsSettled_settle u

/-- Settles O1: both cases of the queue. -/
theorem stepRunsTheFrontCommand : Obligations.StepRunsTheFrontCommand :=
  ⟨fun s c rest h => by rw [step, h], fun s h => by rw [step, h]⟩

/-- Settles O2, from `exec_finishes`. -/
theorem everyCommandEndsInANextState : Obligations.EveryCommandEndsInANextState := fun i s =>
  let ⟨t, ht⟩ := exec_finishes i s
  ⟨t.settle, ht⟩

/-- Settles O3: an empty queue leaves the state, and every command settles the pins. -/
theorem pinsFollowTheStateAtEveryStep : Obligations.PinsFollowTheStateAtEveryStep := by
  intro s t hs hstep
  cases hq : s.pending with
  | nil =>
    obtain rfl : s = t := by simpa [step, hq] using hstep
    exact hs
  | cons c rest =>
    rw [step, hq] at hstep
    exact pinsSettled_of_exec hstep

/-- Settles O4: the reset state has no register listed, so each is read at its reset value. -/
theorem resetLeaves : Obligations.ResetLeaves := by
  have hpins : State.reset.pins = State.reset.pinsOf := by decide +kernel
  exact ⟨hpins, rfl, rfl, rfl, rfl, rfl, by decide +kernel, by decide +kernel, by decide +kernel, by decide +kernel⟩

end Sys2Proof.Machine

/-! SUPPORT and CLAIM. Byte layouts (02 R47, R51): reading a field of a header back, and from that the statements O5 and O9. -/

namespace Sys2Proof.Machine

open Sys2Proof

/-! A field of a byte structure -/

/-- A field that lies in the first part of a structure. -/
theorem field_append_left {a : List Byte} {o n : Nat} (h : o + n ≤ a.length) (b : List Byte) :
    ((a ++ b).drop o).take n = (a.drop o).take n := by
  rw [List.drop_append_of_le_length (by omega), List.take_append_of_le_length (by rw [List.length_drop]; omega)]

/-- The first field of a structure, read as a number. -/
theorem leNat_take_leBytes (n v : Nat) : leNat ((leBytes n v).take n) = v % 256 ^ n := by
  rw [List.take_of_length_le (leBytes_length n v).le, leNat_leBytes]

/-- A field that a structure's first n bytes hold is read from them. -/
theorem field_take {o k n : Nat} (h : o + k ≤ n) (b : List Byte) : ((b.take n).drop o).take k = (b.drop o).take k := by
  rw [List.drop_take, List.take_take, min_eq_left (by omega)]

/-! The waybill (R47) -/

/-- A waybill's header takes 16 bytes. -/
theorem waybillBytes_length (opcode : Half) (w : Waybill) : (waybillBytes opcode w).length = 16 + w.params.length := by
  simp only [waybillBytes, List.length_append, leBytes_length]

/-- The fields of a waybill's header, each at its offset. -/
theorem waybillBytes_fields (opcode : Half) (w : Waybill) (h : w.params.length ≤ 4080) :
    let b := waybillBytes opcode w
    u16 b 0 = opcode.toNat ∧ u8 b 2 = w.flags.toNat ∧ u8 b 3 = w.version.toNat ∧ u16 b 4 = w.params.length ∧
    u16 b 6 = w.tag.toNat ∧ u32 b 8 = w.issuer.toNat ∧ u32 b 12 = w.epoch.toNat ∧ b.drop 16 = w.params := by
  have hop := opcode.isLt
  have hflags := w.flags.isLt
  have hversion := w.version.isLt
  have htag := w.tag.isLt
  have hissuer := w.issuer.isLt
  have hepoch := w.epoch.isLt
  refine ⟨?_, ?_, ?_, ?_, ?_, ?_, ?_, List.drop_left' (by simp)⟩
  all_goals
    simp [waybillBytes, u8, u16, u32, field_append_left, leNat_take_leBytes, leNat_leBytes,
      List.take_append_of_le_length, -List.append_assoc]
    omega

/-- Reading the bytes of a waybill gives its fields; it is marked when the bytes are fewer than its parameters need. -/
theorem waybillOf_waybillBytes (opcode : Half) (w : Waybill) (h : w.params.length ≤ 4080) :
    waybillOf w.inst w.mtag (waybillBytes opcode w) = { inst := w.inst, opcode := opcode, wb := w, badLen := false } := by
  obtain ⟨hop, hflags, hversion, hlen, htag, hissuer, hepoch, hparams⟩ := waybillBytes_fields opcode w h
  simp [waybillOf, hop, hflags, hversion, hlen, htag, hissuer, hepoch, hparams, waybillBytes_length, word, h]

/-- PARAM_LEN is read from a waybill cut after its header. -/
theorem u16_take_waybillBytes (opcode : Half) {w : Waybill} {n : Nat} (h : w.params.length ≤ 4080) (hn : 16 ≤ n) :
    u16 ((waybillBytes opcode w).take n) 4 = w.params.length := by
  obtain ⟨-, -, -, hlen, -⟩ := waybillBytes_fields opcode w h
  rw [u16, field_take (by omega)]
  exact hlen

/-- Settles O5: each field of the header is read back at its offset (R47), and a cut list is shorter than PARAM_LEN says. -/
theorem waybillLayoutRoundTrip : Obligations.WaybillLayoutRoundTrip := by
  refine ⟨waybillOf_waybillBytes, fun opcode w n hlen h16 hn => ?_⟩
  have hshort : ((waybillBytes opcode w).take n).length = n := by
    rw [List.length_take, waybillBytes_length]; omega
  simp only [waybillOf, u16_take_waybillBytes opcode hlen h16, hshort, Bool.or_eq_true, decide_eq_true_eq]
  exact .inr hn

/-! The reply (R51) -/

/-- Settles O9: each field of the reply's header is read back at its offset. -/
theorem replyHeaderLayout : Obligations.ReplyHeaderLayout := by
  intro opcode flags len tag status failTag epoch res hop hflags hlen htag hstatus hfail hepoch b
  refine ⟨?_, ?_, ?_, ?_, ?_, ?_, ?_, ?_, List.drop_left' (by simp)⟩
  all_goals
    simp [b, replyBytes, u8, u16, u32, field_append_left, leNat_take_leBytes, leNat_leBytes,
      List.take_append_of_le_length, -List.append_assoc]
  all_goals omega

end Sys2Proof.Machine

/-! SUPPORT and CLAIM. The waybill framework (00 R17; 02 R53, R57, R62): what starting and accepting a waybill leave, the failing
checks, and the statements O6, O7, O8 and O10. -/

namespace Sys2Proof.Machine

open Sys2Proof

/-! What starting a waybill leaves -/

/-- The parts of the waybill state that starting, reserving and noting an endpoint leave. -/
def SameWaybills (s u : State) : Prop :=
  u = { s with wb := u.wb } ∧ u.wb.arrived = s.wb.arrived ∧ u.wb.pend = s.wb.pend ∧ u.wb.held = s.wb.held ∧
  u.wb.eids = s.wb.eids ∧ u.wb.reasm = s.wb.reasm

theorem SameWaybills.trans {s t u : State} (h : SameWaybills s t) (k : SameWaybills t u) : SameWaybills s u := by
  obtain ⟨ht, ha, hp, hh, he, hr⟩ := h
  obtain ⟨hu, ka, kp, kh, ke, kr⟩ := k
  exact ⟨hu.trans (by rw [ht]), ka.trans ha, kp.trans hp, kh.trans hh, ke.trans he, kr.trans hr⟩

theorem sameWaybills_noteBmc (s : State) (i : Instance) : SameWaybills s (s.noteBmc i) := by
  cases i <;> exact ⟨rfl, rfl, rfl, rfl, rfl, rfl⟩

theorem sameWaybills_setChain (s : State) (i : Instance) (c : Option Chain) : SameWaybills s (s.setChain i c) :=
  ⟨rfl, rfl, rfl, rfl, rfl, rfl⟩

theorem sameWaybills_reserve (s : State) (i : Instance) (n : Nat) : SameWaybills s (s.reserve i n) := by
  cases i <;> exact ⟨rfl, rfl, rfl, rfl, rfl, rfl⟩

/-- A waybill that starts leaves the state with its endpoint noted and, in a chain, its chain moved on. -/
theorem starts_eq {m : OpMeta} {w : Waybill} {s x : State} {c i : Bool} (h : starts m w s = some (x, c, i)) :
    x = s.noteBmc w.inst ∨ ∃ ch, x = (s.noteBmc w.inst).setChain w.inst ch := by
  unfold starts at h
  dsimp only at h
  split at h
  · split at h
    · exact .inl (by cases h; rfl)
    · cases h
  · split at h
    · cases h
    · split at h
      · split at h
        · exact .inr ⟨_, by cases h; rfl⟩
        · exact .inl (by cases h; rfl)
      · split at h
        · split at h
          · cases h
          · exact .inr ⟨_, by cases h; rfl⟩
        · cases h

theorem sameWaybills_of_starts {m : OpMeta} {w : Waybill} {s x : State} {c i : Bool} (h : starts m w s = some (x, c, i)) :
    SameWaybills s x := by
  rcases starts_eq h with rfl | ⟨ch, rfl⟩
  · exact sameWaybills_noteBmc s w.inst
  · exact (sameWaybills_noteBmc s w.inst).trans (sameWaybills_setChain _ w.inst ch)

/-- A waybill begins in the state it starts in, with its reply slots reserved. -/
theorem begins_eq_some {m : OpMeta} {w : Waybill} {s u : State} {c i : Bool} (h : begins m w s = some (u, c, i)) :
    ∃ x, starts m w s = some (x, c, i) ∧ u = x.reserve w.inst (slotsOf m w x) := by
  obtain ⟨⟨x, c', i'⟩, hx, he⟩ := Option.map_eq_some_iff.1 h
  cases he
  exact ⟨x, hx, rfl⟩

/-- An accepted waybill begins. -/
theorem begins_of_accepted {m : OpMeta} {w : Waybill} {s u : State} {c i : Bool} (h : accepted m w s = some (u, c, i)) :
    begins m w s = some (u, c, i) := by
  unfold accepted at h
  split at h
  next x hx =>
    split at h
    · rw [hx, h]
    · cases h
  next => cases h

/-- Settles O8: noting the endpoint, moving the chain on and reserving reply slots touch nothing else. -/
theorem acceptanceTouchesOnlyWaybillState : Obligations.AcceptanceTouchesOnlyWaybillState := by
  intro m w s u c i h
  obtain ⟨x, hx, rfl⟩ := begins_eq_some (begins_of_accepted h)
  exact (sameWaybills_of_starts hx).trans (sameWaybills_reserve x w.inst _)

/-! The failing checks (R17) -/

/-- A waybill that begins and fails a check is answered with that check's status, and its opcode does not run. -/
theorem waybillCmd_of_checks {m : OpMeta} {w : Waybill} {s u : State} {c i : Bool} {st : Status} (body : WbBody)
    (h : begins m w s = some (u, c, i)) (hc : checks m u w = some st) :
    waybillCmd m body w s = .next (answered m w u c st [] u) := by
  obtain ⟨x, hx, rfl⟩ := begins_eq_some h
  rw [slotsOf] at hc
  rw [waybillCmd, finish, runWb_starts body hx, carryOut]
  simp only [hc, answered, slotsOf, reservation_reserve]

/-- A waybill of the right size and version: its opcode's lengths and the later checks decide. -/
theorem checks_of_header {m : OpMeta} {w : Waybill} (u : State) (hp : w.params.length ≤ maxParams w.inst) (hv : w.version = 1) :
    checks m u w =
      if (m.lenOk w.params.length && m.lenW w) = false then some .badLength
      else if epochFails m u w then some .staleEpoch
      else if m.cls != .r && ownerFails m u w then some .notOwner
      else if containedFails m u w then some .contained
      else if tagFails u w then some .badParam
      else match flaskStateCheck m u w with
        | some st => some st
        | none =>
          if flaskScopeFails m u w then some .badParam
          else if heldByOther m u w then some .busy
          else none := by
  rw [checks, if_neg hp.not_gt, if_neg (by simp [hv]), ← Bool.not_and]
  cases m.lenOk w.params.length && m.lenW w <;> rfl

/-- The ownership check passes when the opcode's class has none or its test does not fail. -/
theorem owner_passes {m : OpMeta} {u : State} {w : Waybill} (h : m.cls = .r ∨ ownerFails m u w = false) :
    ¬ (m.cls != .r && ownerFails m u w) = true := by
  rcases h with h | h <;> simp [h]

/-- Settles O6: the first clause from `waybillCmd_of_checks`; the others by walking down `checks` as far as the failing one. -/
theorem firstFailingCheckDecides : Obligations.FirstFailingCheckDecides := by
  refine ⟨fun m body w s u c i st => waybillCmd_of_checks body, ?_, ?_, ?_, ?_, ?_, ?_, ?_⟩
  · intro m w u hp
    rw [checks, if_pos hp]
  · intro m w u hp hv
    rw [checks, if_neg hp.not_gt, if_pos (bne_iff_ne.2 hv)]
  · intro m w u hp hv hlen
    rw [checks_of_header u hp hv, if_pos hlen]
  · intro m w u hp hv hlen he
    rw [checks_of_header u hp hv, if_neg (by simp [hlen]), if_pos he]
  · intro m w u hp hv hlen he hcls ho
    rw [checks_of_header u hp hv, if_neg (by simp [hlen]), if_neg (by simp [he]), if_pos (by simp [hcls, ho])]
  · intro m w u hp hv hlen he ho hcont
    rw [checks_of_header u hp hv, if_neg (by simp [hlen]), if_neg (by simp [he]), if_neg (owner_passes ho), if_pos hcont]
  · intro m w u hp hv hlen he ho hcont ht
    rw [checks_of_header u hp hv, if_neg (by simp [hlen]), if_neg (by simp [he]), if_neg (owner_passes ho),
      if_neg (by simp [hcont]), if_pos ht]

/-- A D-class waybill of another issuer than the drover, which the opcode does not exempt, fails the ownership check (R57). -/
theorem ownerFails_of_not_drover {m : OpMeta} {u : State} {w : Waybill} (hcls : m.cls = .d)
    (hdrover : u.regN Reg.OWN_DROVER ≠ derivedIssuer w.inst) (hexempt : m.ownerExempt (derivedIssuer w.inst) = false) :
    ownerFails m u w = true := by
  have heff : effCls m u w = .d := by simp [effCls, hcls]
  simp [ownerFails, heff, hdrover, hexempt]

/-- Settles O7: the ownership check is the first to fail. -/
theorem onlyTheDroverCarriesOutDClass : Obligations.OnlyTheDroverCarriesOutDClass := by
  intro m body w s u c i hb hcls hp hv hlen he hdrover hexempt
  refine waybillCmd_of_checks body hb ?_
  rw [checks_of_header u hp hv, if_neg (by simp [hlen]), if_neg (by simp [he]),
    if_pos (by simp [hcls, ownerFails_of_not_drover hcls hdrover hexempt])]

/-! Suppressed replies (R53) -/

/-- Settles O10. -/
theorem suppressedReplies : Obligations.SuppressedReplies := by
  intro cls flags st
  simp [suppressed, and_assoc]

end Sys2Proof.Machine

/-! CLAIM. The election (02 R80), the event log and the last-word file (19 R607-R610), device DRAM (16 R526): the statements O17, O26
and O56. -/

namespace Sys2Proof.Machine

open Sys2Proof

/-! The winner of an election -/

/-- Claim c beats or is claim d: higher priority, or the same and no higher issuer ID (R80). -/
def Claim.Wins (c d : Claim) : Prop := d.prio < c.prio ∨ (d.prio = c.prio ∧ c.issuer.toNat ≤ d.issuer.toNat)

theorem Claim.wins_refl (c : Claim) : c.Wins c := .inr ⟨rfl, le_rfl⟩

theorem Claim.Wins.trans {c d e : Claim} (h : c.Wins d) (k : d.Wins e) : c.Wins e := by
  unfold Claim.Wins at *; omega

/-- Some claim wins when there is one. -/
theorem bestClaim_isSome {l : List Claim} (h : l ≠ []) : (bestClaim l).isSome = true := by
  cases l with
  | nil => exact absurd rfl h
  | cons c r => rw [bestClaim]; split <;> [rfl; (split <;> rfl)]

/-- The winner is one of the claims and wins against each. -/
theorem bestClaim_wins {l : List Claim} {c : Claim} (h : bestClaim l = some c) : c ∈ l ∧ ∀ d ∈ l, c.Wins d := by
  induction l generalizing c with
  | nil => cases h
  | cons a r ih =>
    rw [bestClaim] at h
    cases hr : bestClaim r with
    | none =>
      obtain rfl : r = [] := by_contra fun hne => by simpa [hr] using bestClaim_isSome hne
      obtain rfl : a = c := by simpa [hr] using h
      simp [Claim.wins_refl]
    | some b =>
      obtain ⟨hb, hbest⟩ := ih hr
      simp only [hr] at h
      split at h
      next hwin =>
        obtain rfl : a = c := by simpa using h
        have hab : a.Wins b := by
          simp only [Bool.or_eq_true, Bool.and_eq_true, decide_eq_true_eq, beq_iff_eq] at hwin
          unfold Claim.Wins; omega
        exact ⟨List.mem_cons_self, List.forall_mem_cons.2 ⟨a.wins_refl, fun d hd => hab.trans (hbest d hd)⟩⟩
      next hlose =>
        obtain rfl : b = c := by simpa using h
        have hba : b.Wins a := by
          simp only [Bool.or_eq_true, Bool.and_eq_true, decide_eq_true_eq, beq_iff_eq] at hlose
          unfold Claim.Wins; omega
        exact ⟨List.mem_cons_of_mem _ hb, List.forall_mem_cons.2 ⟨hba, hbest⟩⟩

/-- Settles O17. -/
theorem electionWinner : Obligations.ElectionWinner := fun _ => ⟨bestClaim_isSome, fun _ => bestClaim_wins⟩

/-! The event log -/

/-- A 64-bit pair is read from the registers alone. -/
theorem State.reg64_congr {s t : State} (h : t.regs = s.regs) (a : Nat) : t.reg64 a = s.reg64 a := by
  simp only [State.reg64, State.regN, State.reg, h]

/-- The two halves of a 64-bit pair are different registers, so the pair stored is read back. -/
theorem State.reg64_setReg64_self (s : State) (a n : Nat) : (s.setReg64 a n).reg64 a = n % 2 ^ 64 := by
  rw [State.reg64, State.setReg64, State.regN_setRegN_self, State.regN_setRegN_ne _ _ (by omega), State.regN_setRegN_self]
  omega

/-- Storing a register outside a 64-bit pair leaves the pair. -/
theorem State.reg64_setRegN_ne (s : State) {a b : Nat} (n : Nat) (h : b ≠ a) (h4 : b + 4 ≠ a) :
    (s.setRegN a n).reg64 b = s.reg64 b := by
  rw [State.reg64, State.regN_setRegN_ne s n h, State.regN_setRegN_ne s n h4, State.reg64]

/-- The overwrite counter is not the entry counter (R607). -/
theorem State.reg64_evWritten_bump_evOverwritten (s : State) :
    (s.bump Reg.EV_OVERWRITTEN).reg64 Reg.EV_WRITTEN = s.reg64 Reg.EV_WRITTEN :=
  State.reg64_setRegN_ne s _ (by decide) (by decide)

/-- Storing a 64-bit pair changes the registers alone. -/
theorem State.setReg64_frame (s : State) (a n : Nat) : s.setReg64 a n = { s with regs := (s.setReg64 a n).regs } := by
  have h : ∀ x y, (s.setRegN a x).setRegN (a + 4) y = { s with regs := ((s.setRegN a x).setRegN (a + 4) y).regs } :=
    fun _ _ => rfl
  exact h _ _

/-- What writing a log entry changes: registers, among them EV_WRITTEN, which counts up, and the slot of the entry's number (R607). -/
theorem State.logWrite_eq (s : State) (e : LogEntry) :
    ∃ r : SMap Word, (∀ t : State, t.regs = r → t.reg64 Reg.EV_WRITTEN = (s.reg64 Reg.EV_WRITTEN + 1) % 2 ^ 64) ∧
      s.logWrite e = { s with
        regs := r
        tally := { s.tally with log := SMap.put s.tally.log (logSlot s.tally.skipped (s.reg64 Reg.EV_WRITTEN)) e } } := by
  generalize hs1 : (if (SMap.get? s.tally.log (logSlot s.tally.skipped (s.reg64 Reg.EV_WRITTEN))).isSome = true
    then s.bump Reg.EV_OVERWRITTEN else s) = s1
  have hcount : s1.reg64 Reg.EV_WRITTEN = s.reg64 Reg.EV_WRITTEN := by
    subst hs1; split <;> [exact s.reg64_evWritten_bump_evOverwritten; rfl]
  have hframe : ∃ r, s1 = { s with regs := r } := by
    subst hs1; split <;> exact ⟨_, rfl⟩
  refine ⟨(s1.setReg64 Reg.EV_WRITTEN (s1.reg64 Reg.EV_WRITTEN + 1)).regs, fun t ht => ?_, ?_⟩
  · rw [State.reg64_congr ht, State.reg64_setReg64_self, hcount]
  · rw [State.logWrite]
    dsimp only
    rw [hs1, State.bump64]
    generalize s1.reg64 Reg.EV_WRITTEN + 1 = n
    rw [State.setReg64_frame]
    generalize (s1.setReg64 Reg.EV_WRITTEN n).regs = r'
    obtain ⟨r, rfl⟩ := hframe
    rfl

/-! The last-word file -/

/-- An entry added to a file of at most 16 entries leaves at most 16 (R610). -/
theorem lastWordAdd_length_le {l : List LastWord} (h : l.length ≤ 16) (e : LastWord) : (lastWordAdd l e).length ≤ 16 := by
  unfold lastWordAdd
  split
  · simp; omega
  · split
    next i hi =>
      have hlt : i < l.length := (List.findIdx?_eq_some_iff_getElem.1 hi).1
      simp [List.length_eraseIdx_of_lt hlt]; omega
    next => simp; omega

/-- An entry added is the file's last. -/
theorem lastWordAdd_getLast? (l : List LastWord) (e : LastWord) : (lastWordAdd l e).getLast? = some e := by
  unfold lastWordAdd
  split
  · simp
  · split <;> simp

/-- A loss counted leaves at most 16 entries (R609, R610). -/
theorem lastWordLoss_length_le {l : List LastWord} (h : l.length ≤ 16) (t code : Nat) : (lastWordLoss l t code).length ≤ 16 := by
  unfold lastWordLoss
  split
  · rwa [List.length_map]
  · exact lastWordAdd_length_le h _

/-- Settles O26. -/
theorem eventLogKeepsItsEntries : Obligations.EventLogKeepsItsEntries := by
  refine ⟨?_, fun l e hl => ⟨lastWordAdd_length_le hl e, lastWordAdd_getLast? l e, lastWordLoss_length_le hl⟩⟩
  intro s e w hw
  obtain ⟨r, hr, heq⟩ := s.logWrite_eq e
  rw [heq]
  refine ⟨?_, SMap.get?_put_self _ _ _, fun k hk => SMap.get?_put_ne _ _ hk, rfl, rfl, rfl⟩
  rw [hr _ rfl, Nat.mod_eq_of_lt (by omega)]

/-! Device DRAM -/

/-- DRAM after bytes d are written at a: those that no memory stands behind are discarded. -/
def State.dramAfter (s : State) (a : Nat) (d : List Byte) : Mem :=
  if ((List.range d.length).filter (fun i => s.dramHas (a + i))).length = d.length then s.dram.wrN a d
  else d.zipIdx.foldl (fun (m : Mem) x => if s.dramHas (a + x.2) then m.wr (a + x.2) x.1 else m) s.dram

/-- The same bytes of DRAM, with memory behind the same offsets. -/
def SameDram (s t : State) : Prop := t.dram = s.dram ∧ ∀ b, t.dramHas b = s.dramHas b

theorem SameDram.trans {s t u : State} (h : SameDram s t) (k : SameDram t u) : SameDram s u :=
  ⟨k.1.trans h.1, fun b => (k.2 b).trans (h.2 b)⟩

/-- Storing a register moves no byte of DRAM. -/
theorem sameDram_setRegN (s : State) (a n : Nat) : SameDram s (s.setRegN a n) := ⟨rfl, fun _ => rfl⟩

/-- Counting on a register pair moves no byte of DRAM. -/
theorem sameDram_bump64 (s : State) (a n : Nat) : SameDram s (s.bump64 a n) :=
  (sameDram_setRegN s _ _).trans (sameDram_setRegN _ _ _)

/-- What a write finds out about a line moves no byte. -/
theorem sameDram_lineWritten (s : State) (l : Nat) (full : Bool) : SameDram s (s.lineWritten l full) := by
  unfold State.lineWritten
  dsimp only
  split <;> split <;> exact ⟨rfl, fun _ => rfl⟩

theorem sameDram_foldl_lineWritten (f : Nat → Nat × Bool) (ls : List Nat) (s : State) :
    SameDram s (ls.foldl (fun t i => t.lineWritten (f i).1 (f i).2) s) := by
  induction ls generalizing s with
  | nil => exact ⟨rfl, fun _ => rfl⟩
  | cons i r ih => exact (sameDram_lineWritten s _ _).trans (ih _)

/-- A store leaves `dramAfter`, and memory behind the same offsets. -/
theorem State.dramStore_dram (s : State) (a : Nat) (d : List Byte) :
    SameDram { s with dram := s.dramAfter a d } (s.dramStore a d) := by
  refine SameDram.trans ?_ (sameDram_bump64 _ _ _)
  rw [State.dramWrite]
  dsimp only
  split
  · exact ⟨rfl, fun _ => rfl⟩
  · exact sameDram_foldl_lineWritten (fun i => (a / 64 + i,
      decide (a ≤ (a / 64 + i) * 64) && decide ((a / 64 + i) * 64 + 64 ≤ a + d.length))) _ _

/-- Where memory stands behind every byte, all are written. -/
theorem State.dramAfter_of_has {s : State} {a : Nat} {d : List Byte} (h : ∀ i, i < d.length → s.dramHas (a + i) = true) :
    s.dramAfter a d = s.dram.wrN a d := by
  rw [State.dramAfter, if_pos]
  rw [List.filter_eq_self.2 (fun i hi => h i (List.mem_range.1 hi)), List.length_range]

/-- Writing some of the bytes at a leaves every byte outside them. -/
theorem rd_foldl_wr_ne (p : Nat → Bool) (d : List (Byte × Nat)) {a n b : Nat} (hd : ∀ x ∈ d, x.2 < n) (hb : b < a ∨ a + n ≤ b) (m : Mem) :
    Mem.rd (d.foldl (fun (m : Mem) x => if p (a + x.2) then m.wr (a + x.2) x.1 else m) m) b = Mem.rd m b := by
  induction d generalizing m with
  | nil => rfl
  | cons x r ih =>
    have hx := hd x List.mem_cons_self
    rw [List.foldl_cons, ih (fun y hy => hd y (List.mem_cons_of_mem _ hy))]
    split
    · exact Mem.rd_wr_ne m _ (by omega)
    · rfl

/-- Writing some of the bytes keeps the canonical form. -/
theorem wf_foldl_wr (p : Nat → Bool) (a : Nat) (d : List (Byte × Nat)) {m : Mem} (h : Mem.wf m = true) :
    Mem.wf (d.foldl (fun (m : Mem) x => if p (a + x.2) then m.wr (a + x.2) x.1 else m) m) = true := by
  induction d generalizing m with
  | nil => exact h
  | cons x r ih =>
    refine ih ?_
    dsimp only
    split
    · exact Mem.wf_wr _ _ h
    · exact h

/-- A store leaves every byte outside it. -/
theorem State.rd_dramAfter_ne (s : State) {a b : Nat} {d : List Byte} (hb : b < a ∨ a + d.length ≤ b) :
    Mem.rd (s.dramAfter a d) b = Mem.rd s.dram b := by
  rw [State.dramAfter]
  split
  · exact Mem.rd_wrN_ne _ _ _ _ hb
  · exact rd_foldl_wr_ne s.dramHas _ (fun x hx => by simpa using (List.mem_zipIdx' hx).1) hb _

/-- A store keeps the canonical form. -/
theorem State.wf_dramAfter {s : State} (a : Nat) (d : List Byte) (h : Mem.wf s.dram = true) : Mem.wf (s.dramAfter a d) = true := by
  rw [State.dramAfter]
  split
  · exact Mem.wf_wrN _ _ h
  · exact wf_foldl_wr s.dramHas _ _ h

/-- Settles O56. -/
theorem dramReadsWhatWasStored : Obligations.DramReadsWhatWasStored := by
  intro s a d
  obtain ⟨hdram, hhas⟩ := s.dramStore_dram a d
  have hhas' : ∀ b, (s.dramStore a d).dramHas b = s.dramHas b := hhas
  refine ⟨fun h => ?_, fun b hb => ?_, fun h => ?_⟩
  · apply List.ext_getElem (by simp [State.dramRead])
    intro i hi hi'
    simp [State.dramRead, hhas', h i hi', hdram, State.dramAfter_of_has h, Mem.rd_wrN _ _ _ i hi']
  · simp [State.dramRead, hhas', hdram, State.rd_dramAfter_ne s hb]
  · rw [hdram]
    exact State.wf_dramAfter a d h

end Sys2Proof.Machine

/-! CLAIM. The commands of 02 (R61-R77): the waybill ring registers, starting waybills and their time limits, MCTP. The statements O11 to
O14. -/

namespace Sys2Proof.Machine

open Sys2Proof

/-- A command whose meaning leaves t ends in t. -/
theorem ends_of_finish {i : Instr} {s t u : State} (h : exec i s = finish u) (hu : u = t) : Ends i s t := by
  rw [Ends, h, finish, hu]

/-! The ring registers -/

/-- Settles O11. -/
theorem ringRegistersComplete : Obligations.RingRegistersComplete := by
  refine ⟨?_, ?_, ?_, ?_, ?_, ?_, ?_, ?_⟩
  · intro fn v s ho
    exact ends_of_finish rfl (if_pos ho)
  · intro fn v s n ho hn hoff
    exact ends_of_finish rfl (by simp [ho, hn, hoff])
  · intro fn v s n ho s1 hn hon hle
    exact ends_of_finish rfl (by simp [-State.regN_setRegN_self, ho, s1, hn, hon, hle.not_gt])
  · intro fn v s ho hen hsz hold
    exact ends_of_finish rfl (by simp [ho, hen, hsz, hold])
  · intro fn v s ho hen hsz hold s1
    exact ends_of_finish rfl (by simp [ho, hen, hsz, hold, s1])
  · intro fn v s ho hen hold s1
    exact ends_of_finish rfl (by simp [ho, hen, hold, s1])
  · intro fn v s ho hen hsz
    exact ends_of_finish rfl (by simp [ho, hen, hsz])
  · intro fn v s ho hen hold
    exact ends_of_finish rfl (by simp [ho, hen, hold])

/-- Settles O12. -/
theorem badRingStops : Obligations.BadRingStops := by
  refine ⟨?_, ?_, ?_⟩
  · intro fn v s ho hen hsz hold s1
    exact ends_of_finish rfl (by simp [ho, hen, hsz, hold, s1])
  · intro fn v s ho hen hsz s1
    exact ends_of_finish rfl (by simp [ho, hen, hsz, s1])
  · intro fn v s n ho s1 hn hon hlt
    exact ends_of_finish rfl (by simp [-State.regN_setRegN_self, ho, s1, hn, hon, hlt])

/-! Starts and time limits -/

/-- An opcode that no chapter defines, or a version other than 1, runs as the undefined opcode (R48). -/
theorem exec_undefinedOpcode {opcode : Half} {w : Waybill} (s : State) (h : opOf opcode.toNat w = none ∨ w.version ≠ 1) :
    exec (.undefinedOpcode opcode w) s = waybillCmd (undefMeta opcode.toNat) undefBody { w with version := 0 } s := by
  have hno : ¬ ((opOf opcode.toNat w).isSome = true ∧ w.version = 1) := fun ⟨hop, hv⟩ =>
    h.elim (fun hnone => by simp [hnone] at hop) (fun hne => hne hv)
  exact congrArg finish (if_neg hno)

/-- Settles O13. -/
theorem startsAndTimeLimitsComplete : Obligations.StartsAndTimeLimitsComplete := by
  refine ⟨?_, ?_, ?_, ?_, ?_, ?_⟩
  · intro inst s s1 a hserved hturn ha hroom
    have hskip : (!s.fwServes && !aocInstance inst) = false := by rw [← Bool.not_or, hserved]; rfl
    exact ends_of_finish rfl (by simp [hskip, hturn, State.serve, ha, hroom])
  · intro fn s s1 hserves hturn ha
    exact ends_of_finish rfl (by simp [hserves, hturn, State.serve, ha])
  · intro opcode w s u c i hundef hlen hbegins
    rw [exec_undefinedOpcode s hundef]
    refine waybillCmd_of_checks undefBody hbegins ?_
    rw [checks, if_neg hlen.not_gt]
    rfl
  · intro inst tag s p hp
    exact ends_of_finish rfl (by rw [hp])
  · intro inst s c dl hc hdl hnone
    exact ends_of_finish rfl (by simp [hc, hdl, hnone])
  · intro s a d ha hd hlen r s1
    exact ends_of_finish rfl (by simp [ha, hd, hlen, r, s1])

/-! MCTP -/

/-- Settles O14. -/
theorem mctpComplete : Obligations.MctpComplete := by
  refine ⟨?_, ?_, ?_, ?_, ?_, ?_, ?_, ?_, ?_, ?_, ?_, ?_⟩
  · intro r s hup hlen hop h0 h255
    exact ends_of_finish rfl (by simp [hup, State.mctpSetEid, hlen, hop, h0, h255])
  · intro r s hup hdata
    exact ends_of_finish rfl (by simp [hup, State.mctpGetEid, hdata])
  · intro r s hup hdata
    exact ends_of_finish rfl (by simp [hup, State.mctpUuid, hdata])
  · intro r s hup hlen htype
    exact ends_of_finish rfl (by rcases htype with h | h | h <;> simp [hup, State.mctpVersion, hlen, h])
  · intro r s hup hdata
    exact ends_of_finish rfl (by simp [hup, State.mctpTypes, hdata])
  · intro r s hup hlen h0
    exact ends_of_finish rfl (by simp [hup, State.mctpVendor, hlen, h0])
  · intro r cmd s hup hcmd
    exact ends_of_finish rfl (if_neg (by simp [hup]; omega))
  · intro p s hup hlen htag hsom heom hslots
    exact ends_of_finish rfl (by simp [hup, hlen.not_gt, htag.not_gt, State.mctpPacket, hsom, heom, hslots.not_ge])
  · intro p s hup hlen htag hsom heom hslots
    exact ends_of_finish rfl (by simp [hup, hlen.not_gt, htag.not_gt, State.mctpPacket, hsom, heom, hslots.not_ge])
  · intro binding eid tag s r mine hr
    exact ends_of_finish rfl (by simp only [mine] at hr; simp [hr, mine])
  · intro addr s hon
    exact ends_of_finish rfl (if_pos hon)
  · intro addr s hon
    exact ends_of_finish rfl (if_pos hon)

end Sys2Proof.Machine

/-! CLAIM. The ownership commands (02 R80-R90): the statement O15. -/

namespace Sys2Proof.Machine

open Sys2Proof

/-- The arbiter carries out a request itself (17 R565). -/
theorem relayed_of_arbiter {s : State} (h : s.arbiter = s.cvId) (opcode : Nat) (body : WbBody) (w : Waybill) :
    relayed opcode body w s = body w s := if_pos (.inl h)

/-- A CLAIM within its issuer's priorities, decided with quorum (R78, R80, R81). -/
theorem claimBody_of_quorum {w : Waybill} {s : State} {lo hi : Nat} (hr : prioRange (derivedIssuer w.inst) = some (lo, hi))
    (hlo : lo ≤ w.u8 0) (hhi : w.u8 0 ≤ hi) (hq : s.quorum = true) :
    claimBody w s =
      if s.ownSt = 2 then
        if s.drover = derivedIssuer w.inst then
          .done .ok (s.setFld Reg.OWN_STATE 15 8 (w.u8 0)).claimResult (s.setFld Reg.OWN_STATE 15 8 (w.u8 0))
        else if s.fld Reg.OWN_STATE 15 8 < w.u8 0 then
          let s1 := (s.takeOwner (derivedIssuer w.inst) (w.u8 0)).raise Ev.own 1
          .done .ok s1.claimResult s1
        else .done .busy s.claimResult s
      else
        let s1 := if s.ownSt = 0 then s.openWindow.notify else s
        .pend .claim 11000000 none
          { s1 with own := { s1.own with claims := joinClaims s1.own.claims ⟨word (derivedIssuer w.inst), w.u8 0⟩ } } := by
  simp [claimBody, hr, hlo.not_gt, hhi.not_gt, hq]

/-- Settles O15. -/
theorem ownershipCompletes : Obligations.OwnershipCompletes := by
  refine ⟨?_, ?_, ?_, ?_, ?_, ?_, ?_, ?_, ?_, ?_, ?_, ?_, ?_, ?_⟩
  · intro w u lo hi harb hq hr hlo hhi hst u1
    exact pends_of_pend (fun _ => rfl) (by rw [relayed_of_arbiter harb, claimBody_of_quorum hr hlo hhi hq, if_neg hst])
  · intro w u lo hi harb hq hr hlo hhi hst hdrover
    exact carries_of_done (fun _ => rfl) (by rw [relayed_of_arbiter harb, claimBody_of_quorum hr hlo hhi hq, if_pos hst, if_pos hdrover])
  · intro w u lo hi harb hq hr hlo hhi hst hdrover hprio u1
    exact carries_of_done (fun _ => rfl)
      (by rw [relayed_of_arbiter harb, claimBody_of_quorum hr hlo hhi hq, if_pos hst, if_neg hdrover, if_pos hprio])
  · intro w u harb u1
    exact carries_of_done (fun _ => rfl) (relayed_of_arbiter harb _ _ _)
  · intro w u lo hi harb hr hcand hne hlo hhi u1
    exact carries_of_done (fun _ => rfl)
      (by rw [relayed_of_arbiter harb]; simp [grantBody, hr, hcand, hne, hlo.not_gt, hhi.not_gt, u1])
  · intro w u harb
    exact carries_of_done (fun _ => rfl) (relayed_of_arbiter harb _ _ _)
  · intro w u hlo hhi
    exact carries_of_done (fun _ => rfl) (if_neg (by simp [hlo.not_gt, hhi.not_gt]))
  · intro w u harb hkind hst
    have hk : ¬ (issuerKind (derivedIssuer w.inst) != 2 && issuerKind (derivedIssuer w.inst) != 5) = true := by
      rcases hkind with h | h <;> simp [h]
    exact carries_of_done (fun _ => rfl)
      (by rw [relayed_of_arbiter harb, revokeBody]; exact (if_neg hk).trans (if_neg (not_not.2 hst)))
  · exact fun w u => carries_of_done (fun _ => rfl) rfl
  · exact fun w u => carries_of_done (fun _ => rfl) rfl
  · exact fun w u => carries_of_done (fun _ => rfl) rfl
  · intro s t ht
    exact ends_of_finish rfl (by rw [ht])
  · intro s hst
    exact ends_of_finish rfl (if_pos hst)
  · intro l v s hst hdrover hepoch hdue
    exact ends_of_finish rfl (if_pos (by simp [hst, hdrover, srcIssuer, hepoch, hdue]))

end Sys2Proof.Machine

/-! CLAIM. Register accesses and guarded writes (03 R95-R128): the statements O18, O19 and O20. -/

namespace Sys2Proof.Machine

open Sys2Proof

/-! Register accesses -/

/-- An aligned write of 8 bytes that reaches a powered unit and no doorbell writes its words, the low one first (R98). -/
theorem State.busWrite_twoWords {s : State} {src : Src} {off : Nat} (v : DWord) (hopen : s.busOpen src off = true) (hal : off % 8 = 0)
    (hon : s.unitOn (unitOfReg (srcAddr src off)) = true) (hdb : doorbellSlot (srcAddr src off) = none) :
    s.busWrite src off 8 v =
      (s.wordWrite src off (v.setWidth 32)).wordWrite src (off + 4) ((v >>> 32).setWidth 32) := by
  simp [State.busWrite, hopen, hal, hon, hdb]

/-- What JTAG and the debugger's own mark of a unit leave open: DMI while the debug port is not locked and its unit is on (12 R448). -/
theorem not_dmiClosed {s : State} (hgood : s.pwr.pwrGoodAon = true) (hlock : s.debugLocked = false) (hon : s.unitOn 54 = true) :
    ¬ (s.pwr.pwrGoodAon = false ∨ s.debugLocked = true ∨ s.unitOn 54 = false) := by
  simp [hgood, hlock, hon]

/-- Settles O18. -/
theorem registerAccessesComplete : Obligations.RegisterAccessesComplete := by
  refine ⟨?_, ?_, ?_, ?_, ?_, ?_, ?_, ?_, ?_, ?_, ?_⟩
  · intro src off v s hopen hal hon hdb
    exact ends_of_finish rfl (State.busWrite_word v hopen hal hon hdb)
  · intro src off v s hopen hal hon hdb
    exact ends_of_finish rfl (State.busWrite_twoWords v hopen hal hon hdb)
  · intro src off v s rs a hrs hring hmb hmsix hdb hdm hg hc hopen hal hon hm
    have hst : (statusBits a).isSome = true := by rw [hrs]; rfl
    rw [Ends, exec_statusClear_eq_wordWrite v hopen hal hon hdb (.inl hst),
      State.wordWrite_statusReg s v hst (by simp [a] at hring; simp [hring]) hmb hmsix hdm hg hc, State.statusClear_of_seqMode _ hrs hm]
  · intro src write addr len be s hopen h4 h8
    exact ends_of_finish rfl (by simp [hopen, h4, h8])
  · intro src write addr len be s hopen hlen hbad
    have hsize : ¬ (len ≠ 4 ∧ len ≠ 8) := by omega
    exact ends_of_finish rfl ((if_neg (by simp [hopen])).trans ((if_neg hsize).trans (if_pos hbad)))
  · intro src write addr len s hopen hoff
    exact ends_of_finish rfl (if_neg (by simp [hopen, hoff]))
  · intro l v s hopen hon hgo
    exact ends_of_finish rfl (by simp [hopen, hon, State.peekCtrl, hgo])
  · intro addr v s hgood hal hon
    exact ends_of_finish rfl (by simp [hgood, hal, hon])
  · intro addr v s hgood hal hlock hg
    exact ends_of_finish rfl (by simp [hgood, hal, hlock, hg])
  · intro opcode w s hgood
    exact ends_of_finish rfl (if_pos hgood)
  · intro n v s hgood hlock hon
    exact ⟨ends_of_finish rfl (if_neg (not_dmiClosed hgood hlock hon)), ends_of_finish rfl (if_neg (not_dmiClosed hgood hlock hon))⟩

/-! Plain word writes -/

/-- A word written to a register that no other view decodes first, that is not guarded, not a status register and does not act by itself,
changes its writable bits: of a configuration register through the drover gate (R95, R98, R101). -/
theorem State.wordWrite_plain {l off : Nat} {d : RegDesc} (s : State) (v : Word) (hd : findReg off = some d) (hring : ringReg off = none)
    (hmb : mbReg off = none) (hmsix : msixReg off = none) (hst : statusBits off = none) (hdm : off < 0x1901000 ∨ 0x1901200 ≤ off)
    (htb : off < 0x601000 ∨ 0x601200 ≤ off) (hg : off ∉ guardedRegs) (hc : off < 4 ∨ off - 4 ∉ guardedRegs) (hkick : off ≠ Reg.HB_KICK)
    (hpeek : off ≠ Reg.PEEK_CTRL) (hack0 : off ≠ Reg.HE_INTX_ACK0) (hack1 : off ≠ Reg.HE_INTX_ACK1) :
    s.wordWrite (.pf0 l) off v =
      let new := s.regN off - (s.regN off &&& d.rw) + (v.toNat &&& d.rw)
      if d.cfg then (if d.rw = 0 then s else s.gatedWrite (.pf0 l) off off new) else s.setRegN off new := by
  have hdm' : ¬(0x1901000 ≤ off ∧ off < 0x1901200) := by omega
  have htb' : ¬(0x601000 ≤ off ∧ off < 0x601200) := by omega
  have hg' : ¬ guardedRegs.contains off = true := by rwa [List.contains_iff_mem]
  have hc' : ¬(guardedRegs.contains (off - 4) = true ∧ 4 ≤ off) := by
    rw [List.contains_iff_mem]
    rintro ⟨hmem, hle⟩
    exact hc.elim (fun hlt => by omega) (fun hn => hn hmem)
  unfold State.wordWrite
  simp only [show srcAddr (.pf0 l) off = off from rfl, hring, hmb, hmsix, hd]
  rw [if_neg hdm', if_neg hg', if_neg hc', if_neg (by simp [hst]), if_neg hkick, if_neg hpeek, if_neg hack0, if_neg hack1, if_neg htb']

/-- Settles O19. -/
theorem plainRegisterWrites : Obligations.PlainRegisterWrites := by
  intro l off v s d hd hring hmb hmsix hst hdm htb hg hc hkick hpeek hack0 hack1 new
  rw [State.wordWrite_plain s v hd hring hmb hmsix hst hdm htb hg hc hkick hpeek hack0 hack1]
  refine ⟨fun hcfg => ?_, fun hcfg hrw hheld hdrover => ?_, fun hcfg hrw hnot => ?_⟩
  · simp [hcfg, new]
  · simp [hcfg, hrw, State.gatedWrite, hheld, hdrover, srcIssuer, new]
  · have hgate : ¬ (s.ownSt = 2 ∧ s.drover = srcIssuer (.pf0 l)) := fun ⟨h1, h2⟩ => hnot.elim (· h1) (· h2)
    simp only [hcfg, if_true, if_neg hrw, State.gatedWrite, if_neg hgate]

/-! Guarded writes -/

/-- A command that carries a completed guarded write out ends in its register's effect. -/
theorem ends_of_completes {i : Instr} {s t : State} {src : Src} {addr : Nat} {c v : Word} {f : Nat → State → State}
    (hi : exec i s = finish (s.guarded src addr c f)) (h : Completes s src addr c v) (ht : f v.toNat (s.guardTaken src addr v) = t) :
    Ends i s t :=
  ends_of_finish hi ((State.guarded_completes f h).trans ht)

/-- FUSE_PROG with an operation that may run starts it (20 R652). -/
theorem State.fuseProg_of_ok {t : State} {v : Nat} (src : Src) (hfree : t.pwr.fuse = none)
    (hop : bits v 31 28 = 1 ∧ t.liveKeys ≠ [bits v 1 0] ∨ bits v 31 28 = 2 ∧ t.fusedSvn + 1 ≤ t.fld Reg.FW_SVN 6 0 ∨ bits v 31 28 = 3) :
    t.fuseProg src v =
      { t.setFld Reg.FUSE_STAT 31 31 1 with pwr := { t.pwr with fuse := some { op := bits v 31 28, key := bits v 1 0 } } } := by
  have hbad : ¬ (t.pwr.fuse.isSome || bits v 31 28 == 0 || decide (3 < bits v 31 28) || (bits v 31 28 == 1 && t.liveKeys == [bits v 1 0])
      || (bits v 31 28 == 2 && decide (t.fld Reg.FW_SVN 6 0 < t.fusedSvn + 1))) = true := by
    rcases hop with ⟨hop, hk⟩ | ⟨hop, hsvn⟩ | hop
    · simp [hfree, hop, hk]
    · simp [hfree, hop, hsvn.not_gt]
    · simp [hfree, hop]
  exact if_neg hbad

/-- Settles O20. -/
theorem guardedWritesComplete : Obligations.GuardedWritesComplete := by
  refine ⟨?_, ?_, ?_, ?_, ?_, ?_, ?_, ?_, ?_, ?_, ?_, ?_, ?_⟩
  · intro src addr v s u hsrc hopen hu hg hon hfree
    refine ends_of_finish rfl ?_
    cases src with
    | flask f => exact absurd rfl (hsrc f)
    | pf0 l | debugger | aoc => simp [hopen, State.armGuard, hu, hg, hon, hfree]
  · intro u g s hg
    exact ends_of_finish rfl (by rw [hg])
  · intro src addr v s u hat hu hon hfree
    exact ends_of_finish rfl (by simp [hat, State.complementWrite, hu, hon, hfree])
  · intro src addr v s u g hat hu hon hg hne
    exact ends_of_finish rfl (by simp only [hat, if_true, State.complementWrite, hu, hon, hg, Bool.not_true, Bool.false_eq_true,
      if_false, if_neg hne])
  · intro src c v s h
    exact ends_of_completes rfl h rfl
  · intro src c v s h hdev
    exact ends_of_completes rfl h (if_pos hdev)
  · intro src c v s h hdev hunit hfixed
    exact ends_of_completes rfl h (by simp [State.rstCtrl, hdev, hunit, hfixed])
  · intro src c v s
    exact ⟨fun h => ends_of_completes rfl h rfl, fun h => ends_of_completes rfl h rfl⟩
  · intro src c v s h t k p hfree
    refine ⟨fun hop hk => ?_, fun hop hsvn => ?_, fun hop => ?_⟩
    · exact ends_of_completes rfl h ((State.fuseProg_of_ok src hfree (.inl ⟨hop, hk⟩)).trans (by rw [hop]))
    · exact ends_of_completes rfl h ((State.fuseProg_of_ok src hfree (.inr (.inl ⟨hop, hsvn⟩))).trans (by rw [hop]))
    · exact ends_of_completes rfl h ((State.fuseProg_of_ok src hfree (.inr (.inr hop))).trans (by rw [hop]))
  · intro src c v s h
    exact ⟨fun _ => ends_of_completes rfl h rfl, fun _ => ends_of_completes rfl h rfl⟩
  · intro src c v s h
    exact ends_of_completes rfl h rfl
  · intro src c v s h t p
    refine ⟨fun hforce hnamed => ?_, fun hrestore hret hnew => ?_⟩
    · exact ends_of_completes rfl h (by simp [State.rsvForce, hforce, hnamed, t, p])
    · exact ends_of_completes rfl h (by simp [State.rsvForce, hrestore, hret, hnew, t, p])
  · intro s
    refine ⟨fun hz => ?_, fun _ => ends_of_finish rfl rfl⟩
    obtain ⟨z, hz⟩ := Option.isSome_iff_exists.1 hz
    exact ends_of_finish rfl (by rw [hz])

end Sys2Proof.Machine

/-! CLAIM. The seal (03 R117-R122), power, reset, start-up and clocks (20 R626-R655), tallies and faults (19 R594-R624): the statements
O22 to O25. -/

namespace Sys2Proof.Machine

open Sys2Proof

/-! The seal -/

/-- What a sweep stores in a unit's header beside its references is not SEALED (R105, R118). -/
theorem State.isSealed_setRegN_sweep (s : State) (n a b : Nat) :
    (((s.setRegN (unitHdr n + 0xC) a).setRegN (unitHdr n + 0x1C) b).isSealed n) = s.isSealed n := by
  simp only [State.isSealed, State.flag]
  rw [State.regN_setRegN_ne _ _ (by omega), State.regN_setRegN_ne _ _ (by omega)]

/-- A unit in service completes its sweep. -/
theorem not_sweepIdle {s : State} {n : Nat} (hn : n ≤ 54) (hon : s.unitOn n = true) (hst : s.unitState n ≠ 0) :
    ¬ (decide (54 < n) || !s.unitOn n || s.unitState n == 0) = true := by
  simp [hn, hon, hst]

/-- Settles O22. -/
theorem sealCompletes : Obligations.SealCompletes := by
  refine ⟨?_, ?_, ?_, ?_⟩
  · intro w u hfree
    exact pends_of_pend (fun _ => rfl) (if_neg (by simp [hfree]))
  · intro w u drift
    exact carries_of_done (fun _ => rfl) rfl
  · intro n s hn hon hst hsealed hcommit
    refine ends_of_finish rfl ?_
    have hsealed' : ∀ a b, ((s.draw.2.setRegN (unitHdr n + 0xC) a).setRegN (unitHdr n + 0x1C) b).isSealed n = false :=
      fun a b => (State.isSealed_setRegN_sweep s.draw.2 n a b).trans hsealed
    have hunit : ∀ a b, ((s.draw.2.setRegN (unitHdr n + 0xC) a).setRegN (unitHdr n + 0x1C) b).sealUnit n = s.sealUnit n := fun _ _ => rfl
    rw [State.sweep, if_neg (not_sweepIdle hn hon hst)]
    simp only [hsealed', Bool.false_eq_true, if_false, hunit, hcommit, Bool.not_false, Bool.true_or, if_true]
  · intro n s hn hon hst
    exact ends_of_finish rfl rfl

/-! Power, reset and start-up -/

/-- Settles O23. -/
theorem resetsAndStartUpComplete : Obligations.ResetsAndStartUpComplete := by
  refine ⟨⟨?_, ?_, ?_, ?_, ?_, ?_, ?_, ?_, ?_⟩, ?_, ?_, ?_, ?_, ?_, ?_, ?_⟩
  · exact fun s => ⟨ends_of_finish rfl rfl, ends_of_finish rfl rfl⟩
  · intro s hgood
    exact ends_of_finish rfl (if_neg (by simp [hgood]))
  · intro s hgood s1
    exact ends_of_finish rfl (if_neg (by simp [hgood]))
  · intro s hgood hrail hstep
    exact ends_of_finish rfl ((if_neg (by simp [hgood])).trans (if_neg (by simp [hrail, hstep])))
  · intro s hrail hgood hstep hpwr
    exact ends_of_finish rfl ((if_neg (by simp [hrail, hgood, hstep])).trans (if_pos hpwr))
  · exact fun s => ends_of_finish rfl rfl
  · intro b c hb s
    refine ⟨fun hperst => ?_, fun hperst => ?_⟩
    · exact ends_of_finish rfl (by simp [hperst])
    · exact ends_of_finish rfl (by simp [hperst])
  · intro s hbif
    refine ⟨fun hperst => ?_, fun hperst => ?_⟩
    · exact ends_of_finish rfl (by simp [hperst, hbif])
    · exact ends_of_finish rfl (by simp [hperst, hbif])
  · intro s hbif hperst
    exact ends_of_finish rfl (by simp [hperst, hbif])
  · exact fun ok train s => ends_of_finish rfl rfl
  · intro s t hwd hready
    refine ⟨fun hatt => ?_, fun hatt => ?_⟩
    · exact ends_of_finish rfl (by simp [hwd, hready, hatt])
    · exact ends_of_finish rfl (by simp [hwd, hready, hatt])
  · intro d s hramp htrip
    exact ends_of_finish rfl (if_pos (by simp [hramp, htrip]))
  · exact fun d s => ends_of_finish rfl rfl
  · exact fun u s => ends_of_finish rfl rfl
  · intro s t cause hreset
    exact ends_of_finish rfl (by rw [hreset])
  · exact fun s hop => ends_of_finish rfl rfl

/-! Temperature, clocks and the 0x10xx opcodes -/

/-- FT_CTRL is not a margin register. -/
theorem State.warnMv_setMargin (s : State) (i n : Nat) : (s.setRegN (Reg.AG_MARGIN i) n).warnMv = s.warnMv := by
  have hne : Reg.FT_CTRL ≠ Reg.AG_MARGIN i := by unfold Reg.FT_CTRL Reg.AG_MARGIN; omega
  rw [State.warnMv, State.fld, State.regN_setRegN_ne s n hne, ← State.fld, ← State.warnMv]

/-- A margin at or above WARN_MV is stored, with no warning and no step of the island's clock due (R617): s1 is the state with it stored. -/
theorem State.marginIsland_of_warnMv_le {s : State} {i mv : Nat} (h : s.warnMv ≤ mv) :
    ∃ s1 : State, s1.warnMv ≤ mv ∧ s1.fld (Reg.AG_MARGIN i) 15 0 = min mv 65535 ∧
      s.marginIsland i mv = { s1 with
        tally := { s.tally with warned := s.tally.warned.filter (· != i), stepping := s.tally.stepping.filter (· != i) } } := by
  generalize hw : (if s.tally.marginsRead then min mv (s.fld (Reg.AG_MARGIN i) 31 16) else mv) = worst
  generalize hv : min worst 65535 * 65536 + min mv 65535 = v
  refine ⟨s.setRegN (Reg.AG_MARGIN i) v, (State.warnMv_setMargin s i v).trans_le h, ?_, ?_⟩
  · rw [State.fld, State.regN_setRegN_self, ← hv, bits]
    omega
  · rw [State.marginIsland]
    dsimp only
    rw [hw, hv, if_neg (by rw [State.warnMv_setMargin]; exact h.not_gt)]
    rfl

/-- A margin at or above WARN_MV is not below RETIRE_MV (19 R621). -/
theorem State.not_lt_retireMv {s : State} {mv : Nat} (h : s.warnMv ≤ mv) : ¬ mv < s.retireMv := by
  unfold State.retireMv; omega

/-- One island's margin at or above WARN_MV, with no island stepping: its register is stored, nothing steps (R617). -/
theorem exec_marginRead_one {s : State} {mv : Nat} (h : s.warnMv ≤ mv) (hstep : s.tally.stepping = []) :
    ∃ t, exec (.marginRead [mv] []) s = .next t ∧ t.fld (Reg.AG_MARGIN 0) 15 0 = min mv 65535 ∧ t.tally.marginsRead = true := by
  obtain ⟨s1, hwarn, hfld, hm⟩ := State.marginIsland_of_warnMv_le (i := 0) h
  let u : State := { s1 with tally := { s.tally with warned := s.tally.warned.filter (· != 0), stepping := [], marginsRead := true } }
  have hret : ¬ mv < u.retireMv := State.not_lt_retireMv (s := u) hwarn
  have hm' : s.marginIsland 0 mv = { u with tally := { u.tally with marginsRead := s.tally.marginsRead } } := by
    rw [hm, hstep]; rfl
  have hexec : exec (.marginRead [mv] []) s = finish (if u.wantMv = u.pwr.vcoreTarget then u else u.sendMv u.wantMv) := by
    rw [show exec (.marginRead [mv] []) s = execMarginRead [mv] [] s from rfl, execMarginRead]
    simp only [List.take, List.zipIdx, List.foldl, hm']
    rw [if_neg hret]
    rfl
  refine ⟨_, hexec, ?_⟩
  generalize u.wantMv = mv'
  generalize Reg.AG_MARGIN 0 = a at hfld ⊢
  split
  · exact ⟨hfld, rfl⟩
  · exact ⟨hfld, rfl⟩

/-- Settles O24. -/
theorem thermalAndPowerComplete : Obligations.ThermalAndPowerComplete := by
  refine ⟨⟨?_, ?_, ?_, ?_, ?_, ?_, ?_⟩, ?_, ?_, ?_, ?_, ?_, ?_, ?_, ?_, ?_, ?_, ?_, ?_, ?_⟩
  · intro temps power s htemps hgood h s1 s2
    have hread : ¬ (temps.isEmpty = true ∨ s.pwr.pwrGoodAon = false) := by simp [htemps, hgood]
    refine ⟨fun hcool => ?_, fun hhot htrip => ?_⟩
    · exact ends_of_finish rfl ((if_neg hread).trans (if_neg (fun ⟨hhot, _⟩ => hcool.not_ge hhot)))
    · exact ends_of_finish rfl ((if_neg hread).trans (if_pos ⟨hhot, htrip⟩))
  · intro s hhot hfast
    exact ends_of_finish rfl ((if_pos hhot).trans (if_pos hfast))
  · intro s hcool hslow
    exact ends_of_finish rfl ((if_neg (by omega)).trans (if_pos ⟨hcool, hslow⟩))
  · intro s hlost hgood
    exact ends_of_finish rfl (if_neg (by simp [hlost, hgood]))
  · intro s hok
    exact ends_of_finish rfl (if_neg (by simp [hok]))
  · intro s hok
    exact ends_of_finish rfl (if_neg (by simp [hok]))
  · exact fun mv s hwarn hstep => exec_marginRead_one hwarn hstep
  · exact fun w u => carries_of_done (fun _ => rfl) (by simp [pwrQueryBody])
  · intro w u h1 h52
    exact carries_of_done (fun _ => rfl) (if_neg (by omega))
  · intro w u hd
    refine ⟨fun hon hpd => ?_, fun hon hpd hf => ?_, fun hon hpd hf => ?_, fun hoff hpd => ?_, fun hoff hpd hready => ?_⟩
    · exact carries_of_done (fun _ => rfl) (by simp [pdSetBody, hd, hon, hpd, zeros])
    · exact pends_of_pend (fun _ => rfl) (by simp [pdSetBody, hd, hon, hpd, hf])
    · exact pends_of_pend (fun _ => rfl) (by simp [pdSetBody, hd, hon, hpd, hf])
    · exact carries_of_done (fun _ => rfl) (by simp [pdSetBody, hd, hoff, hpd, zeros])
    · have hst : u.pdSt (w.u8 0) = .on := by simpa [State.pdOn] using hpd
      exact pends_of_pend (fun _ => rfl) (by simp [pdSetBody, hd, hoff, hpd, hst, hready])
  · intro w u h1 h43 hop t
    have hbad : ¬ (w.u8 0 = 0 ∨ 43 < w.u8 0 ∨ 1 < w.u8 1 ∨
        ((w.u8 1 == 0) = true ∧ u.forcedOff (w.u8 0) = false ∧ u.offIgnored (w.u8 0) = true)) := by
      rcases hop with hop | ⟨hop, hign⟩
      · simp [hop]; omega
      · simp [hop, hign]; omega
    exact carries_of_done (fun _ => rfl) (if_neg hbad)
  · intro w u hdelay htrip
    exact carries_of_done (fun _ => rfl) (by simp [deviceResetBody, hdelay.not_gt, htrip])
  · intro w u hdelay htrip hcool
    exact carries_of_done (fun _ => rfl) (by simp [deviceResetBody, hdelay.not_gt, htrip, hcool.not_ge])
  · intro w u hfixed
    exact pends_of_pend (fun _ => rfl) (if_neg (by simp [hfixed]))
  · intro w u slot
    exact carries_of_done (fun _ => rfl) (by simp [fwQueryBody, slot])
  · intro w u hslot hlen herase hrun hfree
    exact pends_of_pend (fun _ => rfl)
      ((if_neg (by simp only [not_or, not_and]; exact ⟨by omega, by omega, fun h => not_not.2 (herase h)⟩)).trans
        (if_neg (by simp [hrun, hfree])))
  · intro w u hslot
    refine ⟨fun hok => ?_, fun hbad => ?_⟩
    · exact pends_of_pend (fun _ => rfl) (if_neg (by simp [hok]; omega))
    · exact carries_of_done (fun _ => rfl) (if_pos (.inr hbad))
  · intro w u c cs hcs h500 h2000 h100
    exact carries_of_done (fun _ => rfl) (by simp [clkSetBody, hcs, mhzOk, h500, h2000, h100])
  · exact fun w u => carries_of_done (fun _ => rfl) rfl
  · exact fun w u => carries_of_done (fun _ => rfl) rfl

/-! Tallies, faults and the 0x0Fxx opcodes -/

/-- Settles O25. -/
theorem talliesComplete : Obligations.TalliesComplete := by
  refine ⟨⟨?_, ?_, ?_, ?_, ?_, ?_, ?_, ?_⟩, ?_, ?_, ?_, ?_, ?_, ?_, ?_, ?_, ?_, ?_, ?_, ?_⟩
  · exact fun s hon => ends_of_finish rfl (if_pos hon)
  · exact fun s hcan => ends_of_finish rfl (if_pos hcan)
  · intro kind index cause s hnamed h5 h1 p
    exact ends_of_finish rfl ((if_neg (by simp [hnamed, h5])).trans (if_neg h1))
  · intro index cause s hnamed
    exact ends_of_finish rfl ((if_neg (by simp [hnamed])).trans (if_pos rfl))
  · intro s p r hp
    exact ends_of_finish rfl (by rw [hp])
  · intro core s hcore
    exact ends_of_finish rfl (if_pos (List.contains_iff_mem.2 hcore))
  · exact fun pass s => ends_of_finish rfl rfl
  · intro array row lost s hnamed
    exact ends_of_finish rfl (if_neg (by simp [hnamed]))
  · exact fun w u => carries_of_done (fun _ => rfl) rfl
  · intro w u harea hpool
    exact carries_of_done (fun _ => rfl) (by simp [tallySetBody, harea, hpool])
  · exact fun w u => carries_of_done (fun _ => rfl) rfl
  · intro w u b h1 h31 hrange hpage
    exact carries_of_done (fun _ => rfl) ((if_neg (by omega)).trans (by rw [hpage]))
  · intro w u h1 h127 written first
    exact carries_of_done (fun _ => rfl) (if_neg (by omega))
  · exact fun w u => carries_of_done (fun _ => rfl) rfl
  · exact fun w u => carries_of_done (fun _ => rfl) rfl
  · intro w u h1 h52
    exact carries_of_done (fun _ => rfl) (if_neg (by omega))
  · exact fun w u => carries_of_done (fun _ => rfl) rfl
  · intro w u h1 h5
    exact carries_of_done (fun _ => rfl) ((if_neg (by omega)).trans (if_neg (by omega)))
  · intro w u h6
    exact carries_of_done (fun _ => rfl) ((if_neg (by omega)).trans (if_pos h6))
  · intro w u p t hforce hnamed hfree
    have hbad : ¬ ((w.u32 0).testBit 27 = true ∨ u.partNamed p = false) := by simp [hforce, hnamed]
    have hbusy : ¬ u.retiring (partHome p) = true := by simp [hfree]
    refine ⟨fun hnot => ?_, fun hrun => ?_⟩
    · exact carries_of_done (fun _ => rfl) ((if_neg hbad).trans ((if_neg hbusy).trans (if_neg (by simpa using hnot))))
    · exact pends_of_pend (fun _ => rfl) ((if_neg hbad).trans ((if_neg hbusy).trans (if_pos hrun)))

end Sys2Proof.Machine

/-! CLAIM. The host endpoint's events and the 0x02xx opcodes (04 R129-R166): the statements O27 to O29. -/

namespace Sys2Proof.Machine

open Sys2Proof

/-! Resets -/

/-- Settles O27. -/
theorem hostResetsComplete : Obligations.HostResetsComplete := by
  refine ⟨?_, ?_, ?_, ?_, ?_, ?_, ?_, ?_⟩
  · intro fn s hon hpf
    exact ends_of_finish rfl (by simp [hon, hpf])
  · intro fn s hon hpf hst
    exact ends_of_finish rfl (by simp [hon, hpf, hst])
  · intro fn s hst hready
    exact ends_of_finish rfl (if_pos (by simp [hst, hready]))
  · intro l s hl hup
    exact ends_of_finish rfl (if_pos (by simp [hl, hup]))
  · intro l s hl hup
    exact ends_of_finish rfl (if_pos (by simp [hl, hup]))
  · intro l speed width flit s hl hheld hunit h1 h6 hw
    have hwidth : ([1, 2, 4, 8].contains width || (width == 16 && !s.pwr.hostBif)) = true := by
      rcases hw with hw | ⟨hw, hbif⟩
      · simp_all
      · simp [hw, hbif]
    exact ends_of_finish rfl (if_pos (by simp only [hl, hheld, hunit, h1, h6, hwidth]; rfl))
  · intro l n s hl hvf hn s1
    refine ends_of_finish rfl (if_neg ?_)
    simp only [hl, hvf, hn.not_gt]
    decide
  · intro l s hvf s1
    exact ends_of_finish rfl (if_neg (by simp [hvf]))

/-! Containment, vectors, service, BAR2 -/

/-- The meaning of a failed host read with a cause of R151 of a function that is ACTIVE or CONTAINED (R150-R152). -/
theorem hostRead_fails {cause : Nat} {st : FlaskSt} {s t u v : State} (h1 : 1 ≤ cause) (h5 : cause ≤ 5)
    (hst : st = .active ∨ st = .contained) (h : v = t) :
    (if cause = 0 ∨ 5 < cause then s else if (st != .active && st != .contained) = true then u else v) = t := by
  have hcause : ¬ (cause = 0 ∨ 5 < cause) := by omega
  have hserved : ¬ (st != .active && st != .contained) = true := by rcases hst with h | h <;> simp [h]
  rw [if_neg hcause, if_neg hserved, h]

/-- Settles O28. -/
theorem hostEventsComplete : Obligations.HostEventsComplete := by
  refine ⟨?_, ?_, ?_, ?_, ?_, ?_, ?_, ?_, ?_, ?_, ?_⟩
  · intro fn cause queue addr idx s h1 h5 hst s1
    exact ends_of_finish rfl (hostRead_fails h1 h5 hst (if_pos rfl))
  · intro fn cause queue addr g i s h1 h5 hst hq s1 hwq
    exact ⟨ends_of_finish rfl (hostRead_fails h1 h5 hst ((if_neg Bool.false_ne_true).trans ((if_neg hq).trans (by simp only [hwq, s1])))),
      ends_of_finish rfl (hostRead_fails h1 h5 hst ((if_neg Bool.false_ne_true).trans ((if_neg hq).trans (by simp only [hwq, s1]))))⟩
  · intro fn cause addr n s h1 h5 hst
    exact ends_of_finish rfl (hostRead_fails h1 h5 hst ((if_neg Bool.false_ne_true).trans (if_pos rfl)))
  · intro f s hpf hf hst
    exact ends_of_finish rfl ((if_neg (by simp [hpf, hf])).trans (if_pos (by simp [hst])))
  · intro fn v s hon hv
    exact ends_of_finish rfl (if_neg (by simp [hon, hv]))
  · intro fn en s hon s1
    exact ends_of_finish rfl (if_neg (by simp [hon]))
  · intro l v s hl
    exact ends_of_finish rfl (if_pos hl)
  · intro fn s hon
    exact ⟨ends_of_finish rfl (if_neg (by simp [hon])), ends_of_finish rfl (if_neg (by simp [hon])),
      ends_of_finish rfl (if_neg (by simp [hon]))⟩
  · intro l s hl hvf
    exact ends_of_finish rfl (if_pos (by simp [hl, hvf]))
  · intro l off len data s a hl
    refine ⟨fun hend hdram => ends_of_finish rfl ?_, fun hend hdram => ends_of_finish rfl ?_⟩
    · exact (if_neg (by simp [hl, hend.not_gt])).trans ((if_pos rfl).trans
        (congrArg (fun t : State => t.dramWrite a data) (if_neg hdram.not_gt)))
    · exact (if_neg (by simp [hl, hend.not_gt])).trans ((if_neg Bool.false_ne_true).trans
        (congrArg (fun t : State => t.emit (.readData (.pf0 l) (t.dramRead a len))) (if_neg hdram.not_gt)))
  · intro f off len data s size hon
    refine ⟨fun hend => ends_of_finish rfl ?_, fun hend => ends_of_finish rfl ?_⟩
    · simp [hon, hend.not_gt, size]
    · simp [hon, hend.not_gt, size]

/-! The 0x02xx opcodes -/

/-- Settles O29. -/
theorem flaskOpcodesComplete : Obligations.FlaskOpcodesComplete := by
  refine ⟨?_, ?_, ?_, ?_, ?_, ?_, ?_, ?_, ?_, ?_⟩
  · intro w u f hf
    exact carries_of_done (fun _ => rfl) (by simp [flaskQueryBody, hf])
  · intro w u fn hf hfn
    exact carries_of_done (fun _ => rfl) (by simp [flaskQueryBody, hf, hfn])
  · intro w u t hf hf' hst hq hg f s1
    exact carries_of_done (fun _ => rfl) (by simp [flaskCreateBody, hf, hf'.not_ge, hst, hq, hg, f, s1])
  · intro w u hf hf' f
    subst f
    refine ⟨fun hst => ?_, fun hst => ?_, fun hst => ?_, ?_⟩
    · exact carries_of_done (fun _ => rfl) (by simp [flaskDestroyBody, hf, hf'.not_ge, hst])
    · exact carries_of_done (fun _ => rfl) (by simp [flaskDestroyBody, hf, hf'.not_ge, hst])
    · exact pends_of_pend (fun _ => rfl) (by simp [flaskDestroyBody, hf, hf'.not_ge, hst])
    · rintro (hst | hst) s1
      · exact pends_of_pend (fun _ => rfl) (by simp [flaskDestroyBody, hf, hf'.not_ge, hst, s1])
      · exact pends_of_pend (fun _ => rfl) (by simp [flaskDestroyBody, hf, hf'.not_ge, hst, s1])
  · intro w u t f q hf hf' hun hre hq hmsix hg
    have hvec : ¬ (u8 q 4 ≠ u8 (u.fn f).quota 4 ∧ (u.fn f).msixEn = true) := by
      rcases hmsix with h | h <;> simp [h]
    refine carries_of_done (fun _ => rfl) ?_
    simp only [flaskSetQuotaBody]
    rw [if_neg (by omega), if_neg hun, if_neg hre, if_neg (by rw [hq]; decide), if_neg hvec, hg]
  · intro w u fn hfn hst
    exact pends_of_pend (fun _ => rfl) (by simp [flaskResetBody, hfn, hst])
  · intro w u fn hfn
    exact ⟨fun hst => carries_of_done (fun _ => rfl) (by simp [flaskReleaseBody, hfn, hst]),
      fun hst => carries_of_done (fun _ => rfl) (by simp [flaskReleaseBody, hfn, hst])⟩
  · intro w u fn hfn
    refine ⟨fun hst => ?_, fun hst => ?_, ?_⟩
    · exact carries_of_done (fun _ => rfl) (by simp [flaskContainBody, hfn, hst])
    · exact carries_of_done (fun _ => rfl) (by simp [flaskContainBody, hfn, hst])
    · rintro (hst | hst)
      · exact carries_of_done (fun _ => rfl) (by simp [flaskContainBody, hfn, hst])
      · exact carries_of_done (fun _ => rfl) (by simp [flaskContainBody, hfn, hst])
  · intro w u ha hn hmax hend
    exact carries_of_done (fun _ => rfl) (if_neg (by omega))
  · intro w u hl
    exact carries_of_done (fun _ => rfl) (if_neg hl.not_gt)

end Sys2Proof.Machine

/-! CLAIM. Doorbells, the queue engine, the 0x03xx opcodes and the ledger's faults (05, 06): the statements O31 to O35. -/

namespace Sys2Proof.Machine

open Sys2Proof

/-! Doorbells -/

/-- A doorbell of a function that is neither UNPROVISIONED nor RESETTING reaches the queue engine while it has power (R183). -/
theorem doorbell_served {s : State} {fn : Nat} (hun : (s.fn fn).st ≠ .unprovisioned) (hre : (s.fn fn).st ≠ .resetting)
    (hon : s.pdOn 34 = true) :
    ((s.fn fn).st == .unprovisioned || (s.fn fn).st == .resetting || !s.pdOn 34) = false := by
  simp [hun, hre, hon]

/-- Settles O31. -/
theorem doorbellsComplete : Obligations.DoorbellsComplete := by
  refine ⟨?_, ?_⟩
  · intro src slot g v s q fn n hun hre hon hslot hcq hg hq hfn hst hroom hnew s1
    subst fn n
    refine ends_of_finish rfl ?_
    simp [State.doorbell, doorbell_served hun hre hon, hslot, hcq, hg, hq, hfn, hst, hroom.not_gt, hnew.not_gt, s1]
  · intro src slot c v s k fn n hun hre hon hslot hcq hc hk hfn hle k1
    subst fn n
    refine ⟨?_, ?_, ?_⟩
    · intro hrearm
      refine ends_of_finish rfl ?_
      rcases hrearm with h | h <;>
        simp [State.doorbell, doorbell_served hun hre hon, hslot, hcq, hc, hk, hfn, hle.not_gt, k1, h]
    · intro hre33 harm hsince
      refine ends_of_finish rfl ?_
      simp [State.doorbell, doorbell_served hun hre hon, hslot, hcq, hc, hk, hfn, hle.not_gt, k1, hre33, harm, hsince]
    · intro hre33 harm hsince
      refine ends_of_finish rfl ?_
      simp [State.doorbell, doorbell_served hun hre hon, hslot, hcq, hc, hk, hfn, hle.not_gt, k1, hre33, harm, hsince]

/-- Settles O32. -/
theorem badDoorbellsAreRecorded : Obligations.BadDoorbellsAreRecorded := by
  intro src slot len v s fn hun hre hon
  subst fn
  have hserved := doorbell_served hun hre hon
  refine ⟨fun hlen => ?_, fun hlen hslot => ?_, fun hlen hslot hcq hg => ?_, fun hlen hslot hcq hc => ?_⟩
  · exact ends_of_finish rfl (by simp [State.doorbell, hserved, hlen])
  · exact ends_of_finish rfl (by simp [State.doorbell, hserved, hlen, hslot])
  · exact ends_of_finish rfl (by simp [State.doorbell, hserved, hlen, hslot, hcq, hg])
  · exact ends_of_finish rfl (by simp [State.doorbell, hserved, hlen, hslot, hcq, hc])

/-! The queue engine -/

/-- Settles O33. -/
theorem queueEngineCompletes : Obligations.QueueEngineCompletes := by
  refine ⟨?_, ?_, ?_, ?_, ?_, ?_, ?_, ?_, ?_, ?_, ?_⟩
  · intro s s1 s2 g q q1 hnext hq1 s4
    subst s1 s2 s4
    exact ends_of_finish rfl (by simp only [hnext, hq1])
  · intro g data s x hx r rest hr
    exact ⟨fun hd => ends_of_finish rfl (by simp [hx, hr, hd]), fun hd => ends_of_finish rfl (by simp [hx, hr, hd])⟩
  · intro g s x e hx he hstop hst hre hcls hlim hfrag seq x1 s1
    refine ends_of_finish rfl ?_
    have hkeep : ¬ (x.kind = 3 ∧ e.reqs ≠ []) := fun ⟨h3, hr⟩ => hfrag.elim (· h3) hr
    simp only [hx, he, hcls, Bool.false_eq_true, if_false, if_neg hkeep]
    exact (if_neg (by simp [hstop, hst.not_gt, hre])).trans (if_neg (by simp [hlim]))
  · intro g i data s t e x hta hx
    refine ⟨fun hk => ends_of_finish rfl ?_, fun hk => ends_of_finish rfl ?_, fun hk => ends_of_finish rfl ?_⟩
    · simp [hta, hx, hk]
    · simp [hta, hx, hk]
    · simp [hta, hx, hk]
  · intro g i data s x e hx he hk hw hend hlen hf x1
    exact ends_of_finish rfl (by simp [hx, he, hk, hw, hend, hlen, hf, x1])
  · intro g i s
    exact ends_of_finish rfl rfl
  · intro g s x hx hs
    exact ends_of_finish rfl (by simp [hx, hs])
  · intro c s k hk harm hsince
    exact ends_of_finish rfl (by simp [hk, harm, hsince])
  · intro g s x hx hk hw
    exact ⟨fun hc => ends_of_finish rfl (by simp [hx, hk, hw, hc]), fun hc => ends_of_finish rfl (by simp [hx, hk, hw, hc])⟩
  · intro g s x hx
    exact ⟨ends_of_finish rfl (by simp [hx]), fun f r hr => ends_of_finish rfl (by simp [hx, hr])⟩
  · intro g i s x e hx
    refine ⟨fun he hacc hk => ?_, fun he hk hs => ?_, fun he hk hacc hs => ?_⟩
    · exact ends_of_finish rfl (by simp [hx, he, hacc, hk])
    · exact ends_of_finish rfl (by simp [hx, he, hs, hk])
    · refine ends_of_finish rfl ?_
      rcases hs with hs | hs <;> simp [hx, he, hk, hacc, hs]

/-! The 0x03xx opcodes -/

/-- What an opcode on a named work queue does when the queue exists (R204). -/
theorem onWq_of_named {f : Nat → WorkQ → WbBody} {w : Waybill} {u : State} {g : Nat} {q : WorkQ}
    (hg : u.namedWq (w.u16 0) (w.u16 2) = some g) (hq : u.wq? g = some q) : onWq f w u = f g q w u := by
  simp only [onWq, hg, hq]

/-- What an opcode on a named completion queue does when the queue exists (R204). -/
theorem onCq_of_named {f : Nat → CompQ → WbBody} {w : Waybill} {u : State} {g : Nat} {k : CompQ}
    (hg : u.namedCq (w.u16 0) (w.u16 2) = some g) (hk : u.cq? g = some k) : onCq f w u = f g k w u := by
  simp only [onCq, hg, hk]

/-- A function that has queues left by its quota, or PF0 with free queues, may create another (R204). -/
theorem queuesLeft {pf : Bool} {free quota n : Nat} (h : if pf then free ≠ 0 else n < quota) :
    (if pf then free == 0 else decide (quota ≤ n)) = false := by
  cases pf <;> simp_all

/-- Settles O34. -/
theorem queueOpcodesComplete : Obligations.QueueOpcodesComplete := by
  refine ⟨⟨?_, ?_, ?_, ?_⟩, ?_, ?_, ?_⟩
  · intro w u fn c k hfn hc hk hkfn hfields htmq mine hfree g n
    have hleft := queuesLeft hfree
    refine carries_of_done (fun _ => rfl) ?_
    simp only [wqCreateBody, hfn, hc, hk, hkfn, hfields, htmq, beq_self_eq_true]
    exact (if_neg Bool.false_ne_true).trans (if_neg (by rw [hleft]; exact Bool.false_ne_true))
  · intro w u g q hg hq
    refine ⟨fun hst => ?_, fun hm hw => ?_, fun hm hb hmax => ?_, ?_, fun hst hr => ?_, fun hst hr => ?_, fun hst => ?_,
      fun hst h6 h15 hal hroom => ?_, fun hst => ?_, fun hst => ?_⟩
    · exact carries_of_done (fun _ => rfl) ((onWq_of_named hg hq).trans (if_neg (not_not.mpr hst)))
    · exact carries_of_done (fun _ => rfl) ((onWq_of_named hg hq).trans (by simp +decide [hm, hw]))
    · exact carries_of_done (fun _ => rfl) ((onWq_of_named hg hq).trans (by simp +decide [hm, hb, hmax.not_gt]))
    · exact carries_of_done (fun _ => rfl) (onWq_of_named hg hq)
    · exact carries_of_done (fun _ => rfl) ((onWq_of_named hg hq).trans ((if_neg hst.not_ge).trans (if_pos (by rw [hr]; rfl))))
    · exact pends_of_pend (fun _ => rfl) ((onWq_of_named hg hq).trans ((if_neg hst.not_ge).trans (if_neg (by simp [hr]))))
    · exact carries_of_done (fun _ => rfl) ((onWq_of_named hg hq).trans (by rw [if_pos hst]))
    · exact carries_of_done (fun _ => rfl) ((onWq_of_named hg hq).trans ((if_neg (not_not.mpr hst)).trans (if_neg (by omega))))
    · exact pends_of_pend (fun _ => rfl) ((onWq_of_named hg hq).trans ((if_neg (by omega)).trans (by rw [if_neg (by omega)])))
    · exact carries_of_done (fun _ => rfl) ((onWq_of_named hg hq).trans (if_pos hst))
  · intro g s x hx hw
    exact ⟨fun hr => ends_of_finish rfl (by simp [hx, hw, hr]), fun hr => ends_of_finish rfl (by simp [hx, hw, hr])⟩
  · intro g s x y hx hst hstop hserve hall hy
    exact ends_of_finish rfl (by simp [hx, hst, hstop, hserve, hall, hy])
  · intro w u fn hfn h6 h15 hal hok mine hfree g n
    have hleft := queuesLeft hfree
    refine carries_of_done (fun _ => rfl) ?_
    simp only [cqCreateBody, hfn]
    exact (if_neg (by simp [hok]; omega)).trans (if_neg (by rw [hleft]; exact Bool.false_ne_true))
  · intro w u g k hg hk
    refine ⟨fun hb => ?_, fun hok harm => ?_, ?_⟩
    · exact carries_of_done (fun _ => rfl) ((onCq_of_named hg hk).trans (if_neg (not_not.mpr hb)))
    · exact carries_of_done (fun _ => rfl) ((onCq_of_named hg hk).trans (by simp [hok, harm]))
    · exact carries_of_done (fun _ => rfl) (onCq_of_named hg hk)
  · intro w u h1 h64 hh
    exact carries_of_done (fun _ => rfl) (if_neg (by omega))

/-! Faults of the ledger -/

/-- Settles O35. -/
theorem ledgerFaultsComplete : Obligations.LedgerFaultsComplete := by
  refine ⟨?_, ?_, ?_, ?_, ?_, ?_, ?_⟩
  · intro h row s hl
    refine ⟨ends_of_finish rfl ((if_neg (by simp [hl])).trans (if_pos rfl)), fun hst => ends_of_finish rfl ?_⟩
    exact (if_neg (by simp [hl])).trans ((if_neg nofun).trans (congrArg State.lgSync (if_pos hst)))
  · intro h row s hrow hst hrest
    refine ends_of_finish rfl ((if_neg (by simp [hrow])).trans (congrArg (fun t : State => t.lgSync.raise Ev.lg 1) (if_pos ?_)))
    exact Bool.and_eq_true_iff.mpr ⟨decide_eq_true hst, by rw [hrest]; rfl⟩
  · intro q i s
    exact ⟨ends_of_finish rfl rfl, ends_of_finish rfl rfl⟩
  · intro h s
    exact ends_of_finish rfl rfl
  · intro h s hc
    exact ends_of_finish rfl (by rw [hc])
  · intro h s hl hr hon hother
    exact ends_of_finish rfl (by simp [hl, hr, hon, hother])
  · intro h s hr
    exact ends_of_finish rfl (if_neg (not_not.mpr hr))

end Sys2Proof.Machine

/-! CLAIM. Drive ports, storage and NVMe/TCP (15): the statements O36 to O39. -/

namespace Sys2Proof.Machine

open Sys2Proof

/-! Block entries -/

/-- A block entry that may start, of a queue that serves: its buffer is asked for, or its parts start with the entry's own buffer or,
for an opcode without data, none (R512). -/
theorem State.blockStart_of_canStart {s : State} {q idx op : Nat} {x : WorkQ} {e : Entry} (hx : s.wq? q = some x) (hk : x.kind = 2)
    (hserve : s.fnServes x.fn = true) (hin : s.inService 14 = true) (he : x.canStart idx op = some e) (hacc : e.acc = true) :
    s.blockStart q idx op =
      if (op = 0x21 ∨ op = 0x22) ∧ e.indirect = true then s.askBuffer q x e false
      else
        let e1 := { e with started := true, frags := if op = 0x21 ∨ op = 0x22 then [(e.addr 2, e.lenField 2)] else [] }
        let x1 := x.mapEntry idx (fun _ => e1)
        (s.setWq q x1).startParts q x1 e1 := by
  simp only [State.blockStart, hx, he]
  exact if_neg (by simp [hk, hacc, hserve, hin])

/-- Settles O36. -/
theorem blockEntriesComplete : Obligations.BlockEntriesComplete := by
  intro q idx s x hx hk hserve hin
  have hstart {op : Nat} {e : Entry} := State.blockStart_of_canStart (op := op) (e := e) (idx := idx) hx hk hserve hin
  refine ⟨fun e he hacc => ⟨fun hi => ?_, fun hi => ?_⟩, fun e he hacc => ⟨fun hi => ?_, fun hi => ?_⟩, fun e he hacc => ?_,
    fun e he hacc => ?_, fun e he hacc => ?_⟩
  · exact ends_of_finish rfl ((hstart he hacc).trans (by simp [hi]))
  · exact ends_of_finish rfl ((hstart he hacc).trans (by simp [hi]))
  · exact ends_of_finish rfl ((hstart he hacc).trans (by simp [hi]))
  · exact ends_of_finish rfl ((hstart he hacc).trans (by simp [hi]))
  · exact ends_of_finish rfl ((hstart he hacc).trans (by simp))
  · exact ends_of_finish rfl ((hstart he hacc).trans (by simp))
  · exact ends_of_finish rfl ((hstart he hacc).trans (by simp))

/-! Drive ports -/

/-- Settles O37. -/
theorem drivePortEventsComplete : Obligations.DrivePortEventsComplete := by
  refine ⟨?_, ?_, ?_, ?_, ?_, ?_, ?_, ?_, ?_, ?_⟩
  · intro p s hp hoff s1
    exact ends_of_finish rfl (if_neg (by simp [hp, hoff]))
  · intro p s hp hst
    have hgo : ¬ (!s.portOk p || s.drvSt p != 2) = true := by simp [hp, hst]
    refine ⟨fun hstep => ?_, fun sp w hstep h1 h5 hw => ?_, ?_, fun hstep => ?_, ?_⟩
    · exact ends_of_finish rfl ((if_neg hgo).trans (by simp only [hstep]))
    · exact ends_of_finish rfl ((if_neg hgo).trans (by simp only [hstep]; exact if_neg (by omega)))
    · intro cap hstep t
      exact ends_of_finish rfl ((if_neg hgo).trans (by simp only [hstep, t]))
    · exact ends_of_finish rfl ((if_neg hgo).trans (by simp only [hstep]))
    · intro serial model ns hstep t
      exact ends_of_finish rfl ((if_neg hgo).trans (by simp only [hstep, t]))
  · intro p s hp hst h0 h3
    exact ends_of_finish rfl (if_neg (by simp [hp, hst, h0, h3]))
  · intro p s hp
    exact ⟨fun h => ends_of_finish rfl (if_neg (by simp [hp, h])), fun h => ends_of_finish rfl (if_neg (by simp [hp, h])),
      fun h => ends_of_finish rfl (if_neg (by simp [hp, h]))⟩
  · intro p s hp hen
    have hgo : ¬ (!s.portOk p || !s.flag (Reg.DP_PORT_CTRL p) 30) = true := by simp [hp, hen]
    refine ⟨fun hb => ?_, fun hb hst => ?_, fun hb hst => ?_⟩
    · exact ends_of_finish rfl ((if_neg hgo).trans (if_pos hb))
    · exact ends_of_finish rfl ((if_neg hgo).trans ((if_neg (by simp [hb])).trans (if_pos hst)))
    · exact ends_of_finish rfl ((if_neg hgo).trans ((if_neg (by simp [hb])).trans ((if_neg (by omega)).trans (if_pos hst))))
  · intro p t s hp
    exact ⟨fun hb => ends_of_finish rfl (by simp [hb, hp]), fun hb => ends_of_finish rfl (by simp [hb, hp])⟩
  · intro p s hp hst
    exact ends_of_finish rfl (if_neg (by simp [hp, hst]))
  · intro p cid s x hx hp hrem hport hst hdrv
    exact ends_of_finish rfl (by simp [hx, hp, hrem, hport, hst, hdrv])
  · intro p s hp hst
    exact ends_of_finish rfl (if_neg (by rcases hst with h | h <;> simp [hp, h]))
  · intro p t s hp hr
    exact ⟨ends_of_finish rfl (by simp [hr, hp]), ends_of_finish rfl (by simp [hr, hp])⟩

/-! Commands of drives and targets -/

/-- Settles O38. -/
theorem storageCommandEventsComplete : Obligations.StorageCommandEventsComplete := by
  refine ⟨?_, ?_, ?_, ?_, ?_, ?_, ?_, ?_, ?_, ?_, ?_⟩
  · intro p cid cqe data s hp hadm
    exact ends_of_finish rfl (if_neg (by simp [hp, hadm]))
  · intro p cid cqe data s x hx hp hrem hport hst hr
    exact ends_of_finish rfl (by simp [hx, hp, hrem, hport, hst, hr])
  · intro t cid cqe data s x hx hin hrem hport hst ht
    exact ends_of_finish rfl (by simp [hx, hin, hrem, hport, hst, ht])
  · intro p addr len data s x hp own
    subst own
    refine ⟨fun hown => ?_, fun hown hbad => ?_, fun hown => ?_⟩
    · exact ends_of_finish rfl ((if_neg (by simp [hp])).trans (by simp only [if_true, hown]))
    · exact ends_of_finish rfl ((if_neg (by simp [hp])).trans (by simp only [Bool.false_eq_true, if_false, hown]; simp [hbad]))
    · exact ends_of_finish rfl ((if_neg (by simp [hp])).trans (by simp only [Bool.false_eq_true, if_false, hown]))
  · intro t cid off data last success s x hx hin hrem hport hst ht hop hlen s1
    exact ends_of_finish rfl (by simp [hx, hin, hrem, hport, hst, ht, hop, hlen.not_gt, s1])
  · intro t cid ttag off len s x hx hin hrem hport hst ht hop hlen r hr
    have hgo : ¬ (!s.inService 14 || !x.remote || x.port != t || x.st != .issued || (s.tgt t).st != 2 || x.nvmeOp != 1
        || decide (x.len < off + len)) = true := by
      simp [hin, hrem, hport, hst, ht, hop, hlen]
    refine ends_of_finish rfl ?_
    simp only [hx]
    exact (if_neg hgo).trans (if_neg (ne_true_of_eq_false hr))
  · intro t cid s x hx hin hrem hport hst ht s1
    exact ⟨fun hn => ends_of_finish rfl (by simp [hx, hin, hrem, hport, hst, ht, hn, s1]),
      fun hn => ends_of_finish rfl (by simp [hx, hin, hrem, hport, hst, ht, hn.not_gt, s1])⟩
  · intro t s hin ht
    exact ⟨ends_of_finish rfl (if_neg (by simp [hin, ht])), ends_of_finish rfl (if_neg (by simp [hin, ht]))⟩
  · intro t conn s hin ht hconn n
    have hgo : ¬ (!s.inService 14 || (s.tgt t).st != 2 || decide ((s.tgt t).info.conns < conn)) = true := by
      simp [hin, ht, hconn]
    exact ⟨fun hn => ends_of_finish rfl ((if_neg hgo).trans (if_neg hn.not_ge)),
      fun hn => ends_of_finish rfl ((if_neg hgo).trans (if_pos hn))⟩
  · intro t info s hin ht y dig s1
    exact ends_of_finish rfl (if_neg (by simp [hin, ht]))
  · intro t s hin ht hagain
    exact ends_of_finish rfl (if_neg (by simp [hin, ht, hagain]))

/-! The 0x0Bxx opcodes -/

/-- Settles O39. -/
theorem storageOpcodesComplete : Obligations.StorageOpcodesComplete := by
  refine ⟨⟨?_, ?_, ?_, ?_, ?_, ?_, ?_, ?_⟩, ?_, ?_⟩
  · intro w u hp
    exact carries_of_done (fun _ => rfl) (if_neg hp.not_gt)
  · intro w u hp p wait now
    subst p wait now
    refine ⟨fun hop hst => ?_, fun hop hst => ?_, fun hop hst => ?_, fun hop hst => ?_, fun hop hst => ?_, fun hop hst => ?_⟩
    · exact pends_of_pend (fun _ => rfl) (by simp [drvPowerBody, hp.not_gt, hop, hst])
    · exact carries_of_done (fun _ => rfl) (by simp [drvPowerBody, hp.not_gt, hop, hst])
    · exact pends_of_pend (fun _ => rfl) (by simp [drvPowerBody, hp.not_gt, hop, hst])
    · exact carries_of_done (fun _ => rfl) (by simp [drvPowerBody, hp.not_gt, hop, hst])
    · exact carries_of_done (fun _ => rfl) (by simp [drvPowerBody, hp.not_gt, hop, hst])
    · exact carries_of_done (fun _ => rfl) (by simp [drvPowerBody, hp.not_gt, hop.not_gt, hst])
  · intro w u hp hdir hlen hop hst hadm hres s1
    refine pends_of_pend (fun _ => rfl) ((if_neg ?_).trans ((if_neg (by simp [hst])).trans (if_neg (by simp [hadm, hres]))))
    rw [hop]
    simp
    omega
  · intro w u q h1 h16 hq how hdes hst hwq y
    have htm : ¬ (w.u8 1 < 1 ∨ 16 < w.u8 1) := by omega
    refine pends_of_pend (fun _ => rfl) ?_
    simp only [tgtConnectBody, hq, how, hdes, hst, hwq]
    exact if_neg (by simp; omega)
  · intro w u hst t n
    exact carries_of_done (fun _ => rfl) (if_neg hst)
  · intro w u y hy n
    exact carries_of_done (fun _ => rfl) (by simp only [tgtQueryBody, hy, n])
  · intro w u st s1 hbad hst hpool
    refine carries_of_done (fun _ => rfl) ((if_neg (by rw [hbad]; exact Bool.false_ne_true)).trans ((if_neg ?_).trans (if_neg ?_)))
    · rintro ⟨hne, hv⟩
      rcases hst with h | h
      · exact hne h
      · simp [h] at hv
    · exact ne_true_of_eq_false hpool
  · intro w u hp
    exact carries_of_done (fun _ => rfl) (if_neg hp.not_gt)
  · intro w u ext how h1 h64 hbs hnone hext hstage hdram hlen hover v
    refine carries_of_done (fun _ => rfl) ((if_neg ?_).trans (if_neg ?_))
    · rw [hnone, hext]
      simp
      omega
    · rw [hdram, hover]
      simp [hstage, hlen]
  · intro w u v hv
    refine ⟨fun hbusy => ?_, ?_, ?_⟩
    · exact carries_of_done (fun _ => rfl) (by simp [vbfDestroyBody, hv, hbusy])
    · intro i x old all hi hbad hall hio hroom
      refine carries_of_done (fun _ => rfl) ?_
      simp only [extentSetBody, hv]
      refine (if_neg ?_).trans ((if_neg ?_).trans (if_neg ?_))
      · exact fun h => h.elim (fun h => absurd hi h.not_ge) (fun h => h.elim (fun h => by simp [hbad] at h) (ne_true_of_eq_false hall))
      · exact ne_true_of_eq_false hio
      · rintro ⟨h0, hx, hov⟩
        rcases hroom with h | h | h
        · exact h h0
        · exact hx h
        · exact ne_false_of_eq_true hov h
    · exact carries_of_done (fun _ => rfl) (by simp only [vbfQueryBody, hv] <;> rfl)

end Sys2Proof.Machine

/-! CLAIM. Frames received, the parser and the classifier (07, 08): the statements O40 to O42. -/

namespace Sys2Proof.Machine

open Sys2Proof

/-! The frame path -/

/-- Settles O40. -/
theorem framePathCompletes : Obligations.FramePathCompletes := by
  refine ⟨?_, ?_, ?_, ?_, ?_, ?_, ?_⟩
  · intro p b s hp hup hloop
    have hgo : ¬ (8 ≤ p ∨ s.portUp p = false ∨ s.looped p = true) := by simp [hp, hup, hloop]
    refine ⟨?_, fun hlen => ?_, fun hlen hmax => ?_, fun hlen hmax => ?_, fun ok hlen hmax hctl => ?_, fun h ok => ?_⟩
    · exact ends_of_finish rfl (if_neg hgo)
    · exact ends_of_finish rfl ((if_neg hgo).trans ((if_neg Bool.false_ne_true).trans (if_pos hlen)))
    · exact ends_of_finish rfl
        ((if_neg hgo).trans ((if_neg Bool.false_ne_true).trans ((if_neg hlen.not_gt).trans (if_pos hmax))))
    · exact ends_of_finish rfl
        ((if_neg hgo).trans ((if_neg Bool.false_ne_true).trans ((if_neg hlen.not_gt).trans (if_neg hmax.not_gt))))
    · exact ends_of_finish rfl ((if_neg hgo).trans (if_neg (by simp [hlen.not_gt, hmax.not_gt, hctl])))
    · exact ends_of_finish rfl (if_neg hgo)
  · intro h s f hf hst htail
    refine ⟨fun hslot => ?_, fun slot hslot hkey => ?_, ?_⟩
    · exact ends_of_finish rfl (by simp [hf, hst, htail, hslot])
    · exact ends_of_finish rfl (by simp [hf, hst, htail, hslot, hkey])
    · intro slot hslot hkey hfr s1 r
      exact ⟨fun hr => ends_of_finish rfl (by simp [hf, hst, htail, hslot, hkey, hfr, show (macsecIn _ _).1 = _ from hr, s1, r]),
        fun hr => ends_of_finish rfl (by simp [hf, hst, htail, hslot, hkey, hfr, show (macsecIn _ _).1 = _ from hr, s1])⟩
  · intro h node off keep bad pf s f hf hst
    refine ⟨fun hoff => ends_of_finish rfl (by simp [State.parsePass, hf, hst, hoff]), fun h5 h6 => ?_⟩
    intro r g s1
    have hon : ¬ (s.inService 5 = false ∨ s.inService 6 = false) := by simp [h5, h6]
    have hparse : s.parsePass h pf = if g.ps.exc then (s1.parseExc g g.ps).dropFrame h
        else if !g.tx && (g.src == 8 || g.src == 9) then s1.setFrame h { g with stage := .enqueue } else s1.classifyFrame h g pf := by
      simp only [State.parsePass, hf, hst]
      exact if_neg hon
    refine ⟨fun hexc => ?_, fun hexc htx hsrc => ?_, fun hexc hcl => ?_⟩
    · exact ends_of_finish rfl (hparse.trans (if_pos hexc))
    · have hcaravan : (!g.tx && (g.src == 8 || g.src == 9)) = true := by rcases hsrc with h | h <;> simp [htx, h]
      exact ends_of_finish rfl (hparse.trans ((if_neg (by simp [hexc])).trans (if_pos hcaravan)))
    · have hclassified : ¬ (!g.tx && (g.src == 8 || g.src == 9)) = true := by
        rcases hcl with h | ⟨h8, h9⟩
        · simp [h]
        · simp [h8, h9]
      exact ends_of_finish rfl (hparse.trans ((if_neg (by simp [hexc])).trans (if_neg hclassified)))
  · intro q d r s hctl hexc
    exact ends_of_finish rfl (by simp [hctl, hexc])
  · intro q d r s hctl hexc s1
    have hup : ¬ (!s.ctlUp) = true := by simp [hctl]
    refine ⟨fun hq ht => ends_of_finish rfl ((if_neg hup).trans ?_), fun hno => ends_of_finish rfl ((if_neg hup).trans ?_)⟩
    · simp only [hexc]
      exact if_pos (by simp [s1, hq, ht])
    · simp only [hexc]
      exact if_neg (by rcases hno with h | h <;> simp [s1, h])
  · intro tx t s hlock
    exact ends_of_finish rfl (by simp [hlock])
  · intro h s f hf late
    exact ⟨fun c hst => ends_of_finish rfl (by simp only [hf, hst, late]), fun c t hst => ends_of_finish rfl (by simp only [hf, hst, late])⟩

/-! The 0x04xx opcodes -/

/-- Settles O41. -/
theorem parserOpcodesComplete : Obligations.ParserOpcodesComplete := by
  refine ⟨?_, ?_, ?_, ?_, ?_, ?_, ?_, ?_⟩
  · intro w u hdir h1 h63 hlast tx d b clear new hlock
    exact carries_of_done (fun _ => rfl) ((if_neg (by omega)).trans (if_neg (by simp [hlock, tx])))
  · intro w u hdir tx d b hid hnode hcrc hlock
    refine carries_of_done (fun _ => rfl) ((if_neg ?_).trans (if_neg (by simp [hlock, tx])))
    rintro (h | h | h | ⟨hcheck, h⟩)
    · exact h.not_ge hdir
    · exact h hid
    · simp [hnode, d, b, tx] at h
    · exact h (hcrc hcheck)
  · intro w u hdir hbank h1 h63 hlast d b
    exact carries_of_done (fun _ => rfl) (if_neg (by omega))
  · intro w u hr1 hr8 ht1 ht8 hc old
    exact carries_of_done (fun _ => rfl) (if_neg (by omega))
  · intro w u hq hs1 hs64 hr ht hb1 hb hb1' hb' c r t
    refine carries_of_done (fun _ => rfl) (if_neg ?_)
    have hqueue : ¬ (w.u16 0 ≠ 0xFFFF ∧ u.pf0RxQueue (w.u16 0) = false) := fun ⟨hne, hno⟩ =>
      hq.elim hne (ne_true_of_eq_false hno)
    simp only [hqueue, false_or, Bool.or_eq_true, decide_eq_true_eq, beq_iff_eq]
    omega
  · intro w u
    exact carries_of_done (fun _ => rfl) rfl
  · intro w u r t
    exact carries_of_done (fun _ => rfl) rfl
  · intro w u hdir hbank h14 hmax tx b p
    exact carries_of_done (fun _ => rfl) (if_neg (by omega))

end Sys2Proof.Machine

/-! CLAIM. The classifier's opcodes, table commands and the 0x06xx opcodes (08, 09): the statements O42 to O44. -/

namespace Sys2Proof.Machine

open Sys2Proof

/-! The 0x05xx opcodes -/

/-- The queue that an exception setting names is none, or a PF0 RX queue. -/
theorem not_badQueue {q : Nat} {rx : Bool} (h : q = 0xFFFF ∨ rx = true) : ¬ (q ≠ 0xFFFF ∧ rx = false) :=
  fun ⟨hne, hno⟩ => h.elim hne (ne_true_of_eq_false hno)

/-- An action list of no owner, or of the rule's own owner, may serve the rule (R287). -/
theorem not_foreignList {lo o : Nat} (h : lo = 0 ∨ lo = o) : ¬ (lo ≠ 0 ∧ lo ≠ o) :=
  fun ⟨h0, ho⟩ => h.elim h0 ho

/-- Settles O42. -/
theorem classifierOpcodesComplete : Obligations.ClassifierOpcodesComplete := by
  refine ⟨⟨?_, ?_, ?_, ?_, ?_, ?_, ?_, ?_, ?_, ?_, ?_, ?_, ?_, ?_, ?_, ?_⟩, ?_, ?_, ?_, ?_⟩
  · intro w u
    exact carries_of_done (fun _ => rfl) rfl
  · intro w u hg g mask care hcare hmask r
    refine carries_of_done (fun _ => rfl) (if_neg ?_)
    rintro (h | h | ⟨hne, hentries⟩)
    · exact h.not_ge hg
    · exact h.not_ge hcare
    · exact hmask.elim hne hentries
  · intro w u hg
    exact carries_of_done (fun _ => rfl) (if_neg hg.not_gt)
  · intro w u t new hrange hfield howner hpick o s0 s1 s2 s3
    exact carries_of_done (fun _ => rfl) ((if_neg (by simp [howner]; omega)).trans (by rw [hpick]))
  · intro w u hrange hfield howner hpick s1
    exact carries_of_done (fun _ => rfl) ((if_neg (by simp [howner]; omega)).trans (by rw [hpick]))
  · intro w u ht o t n hn hused s1 s2
    refine carries_of_done (fun _ => rfl) ((if_neg (not_or.mpr ⟨ht.not_gt, hn⟩)).trans (if_neg ?_))
    rcases hused with h | h
    · exact fun hb => h (of_decide_eq_true (Bool.and_eq_true_iff.mp hb).1)
    · exact fun hb => Bool.false_ne_true (h.symm.trans (Bool.and_eq_true_iff.mp hb).2)
  · intro w u howner o held own
    refine carries_of_done (fun _ => rfl) (if_neg ?_)
    rcases howner with h | h <;> simp [h]
  · intro w u hl hbad
    exact carries_of_done (fun _ => rfl) (if_neg (by simp [hbad, hl]))
  · intro w u hl
    exact carries_of_done (fun _ => rfl) (if_neg hl.not_gt)
  · intro w u h1 h64 hq s1 s2 s3
    exact carries_of_done (fun _ => rfl) (if_neg (not_or.mpr ⟨by omega, not_or.mpr ⟨h64.not_gt, not_badQueue hq⟩⟩))
  · intro w u hs
    exact carries_of_done (fun _ => rfl) (if_neg hs.not_gt)
  · intro w u hs v hok
    refine carries_of_done (fun _ => rfl) (if_neg ?_)
    rintro (h | h)
    · exact h.not_ge hs
    · exact ne_false_of_eq_true hok h
  · intro w u ht ho
    exact carries_of_done (fun _ => rfl) (if_neg (by omega))
  · intro w u r g hdir hhit hg
    refine carries_of_done (fun _ => rfl) ((if_neg hdir.not_gt).trans ?_)
    simp only [hhit, if_neg hg]
  · intro w u s1
    exact pends_of_pend (fun _ => rfl) rfl
  · intro s hc
    exact ends_of_finish rfl (if_pos hc)
  · intro w u hi h1 h32 hfree i rc o keys lo hgroups htoll1 htoll2 hlist hdup s1
    have hok : ¬ (32767 < i ∨ w.u8 3 = 0 ∨ 32 < w.u8 3 ∨ ruleValid (u.rule i) = true ∨ keys.any (fun k => !u.groupOn k.1) = true
        ∨ u.tollRefOk o (u8 rc 4) = false ∨ u.tollRefOk o (u8 rc 5) = false ∨ (lo ≠ 0 ∧ lo ≠ o) ∨ hasDup keys = true) := by
      have hany : keys.any (fun k => !u.groupOn k.1) = false := by simpa using fun a b hk => hgroups (a, b) hk
      have hforeign := not_foreignList hlist
      rw [hany, htoll1, htoll2, hdup, show ruleValid (u.rule i) = false from hfree]
      simp only [hforeign, Bool.false_eq_true, Bool.true_eq_false, or_false]
      omega
    exact ⟨fun hnone => carries_of_done (fun _ => rfl) ((if_neg hok).trans (by rw [hnone]; rfl)),
      fun n es hsome => carries_of_done (fun _ => rfl) ((if_neg hok).trans (by rw [hsome]))⟩
  · intro w u hi hvalid i touched
    exact carries_of_done (fun _ => rfl) (if_neg (by simp [hvalid, hi]))
  · intro w u hi hvalid i old l o lo hlist htoll1 htoll2
    refine carries_of_done (fun _ => rfl) (if_neg ?_)
    rintro (h | h | h | h | h)
    · exact h.not_ge hi
    · exact ne_false_of_eq_true hvalid h
    · exact not_foreignList hlist h
    · exact ne_false_of_eq_true htoll1 h
    · exact ne_false_of_eq_true htoll2 h
  · intro w u hi h
    exact carries_of_done (fun _ => rfl) (if_neg hi.not_gt)

/-! Table commands and events -/

/-- A command of port p that its TB_CMD asks for and that is BUSY runs (R315, R316). -/
theorem State.portCommand_of_busy {s : State} {p op : Nat} (hp : p < 2) (hbusy : s.flag (Reg.TB_STAT p) 31 = true)
    (hop : bits (s.regN (Reg.TB_CMD p)) 31 28 = op) :
    s.portCommand p op =
      let c := s.regN (Reg.TB_CMD p)
      let may := s.ownSt == 2 && s.drover == SMap.getD s.lk.ports p 0xFFFFFFFF
      let r := s.command op (bits c 25 20) (s.tbImage p) (c.testBit 19) (s.fld (Reg.TB_BUCKET p) 25 0) (c.testBit 18) may
      let k := if op = 1 ∨ op = 3 then min 255 r.relocs else r.st.fld (Reg.TB_STAT p) 15 8
      (r.st.setRegN (Reg.TB_STAT p) (k * 256 + r.result)).setTbImage p (if r.result = rNotFound then zeros 64 else r.data) := by
  have hgo : ¬ (2 ≤ p ∨ (!s.flag (Reg.TB_STAT p) 31) = true ∨ bits (s.regN (Reg.TB_CMD p)) 31 28 ≠ op) := by
    simp [hp, hbusy, hop]
  exact (if_neg hgo).trans (apply_ite _ _ _ _).symm

/-- Settles O43. -/
theorem tableEventsComplete : Obligations.TableEventsComplete := by
  refine ⟨?_, ?_, ?_, ?_, ?_, ?_, ?_⟩
  · intro p s hp hbusy c may run out
    exact ⟨fun h => ends_of_finish rfl (State.portCommand_of_busy hp hbusy h), fun h => ends_of_finish rfl (State.portCommand_of_busy hp hbusy h),
      fun h => ends_of_finish rfl (State.portCommand_of_busy hp hbusy h), fun h => ends_of_finish rfl (State.portCommand_of_busy hp hbusy h),
      fun h => ends_of_finish rfl (State.portCommand_of_busy hp hbusy h), fun h => ends_of_finish rfl (State.portCommand_of_busy hp hbusy h),
      fun h => ends_of_finish rfl (State.portCommand_of_busy hp hbusy h)⟩
  · intro h pf s f a l n t key hf hst hacts hkey
    exact ends_of_finish rfl (by simp only [State.lookupRead, hf, hst, hacts, hkey])
  · intro n s t sh ht hsh hreb es
    have hstep : s.copierStep n = match t.shadowAll sh es false with
        | none => s.rebuildFail n
        | some g =>
          let t1 := { t with shadow := some g, copied := t.copied + 1 }
          if t1.copied < 2 ^ t.act.sizeLog2 then s.setTable n t1
          else ((s.setTable n { t1 with rebuild := 2 }).raise Ev.lk 4).completeWait (.tblRehash n) .ok [] := by
      simp only [State.copierStep, ht, hsh]
      exact if_neg (not_not.mpr hreb)
    refine ⟨fun hnone => ends_of_finish rfl (hstep.trans (by rw [hnone])), ?_⟩
    intro g hsome t1
    rw [hsome] at hstep
    exact ⟨fun hmore => ends_of_finish rfl (hstep.trans (if_pos hmore)), fun hlast => ends_of_finish rfl (hstep.trans (if_neg hlast.not_gt))⟩
  · intro n s x g hx hold hlook
    exact ends_of_finish rfl (by simp [hx, hold, hlook])
  · intro n o s x hx
    refine ⟨fun hb => ends_of_finish rfl (by simp only [hx, hb]), ?_⟩
    intro filter hf hb r
    have hflush : filter ≠ 3 := by omega
    exact ends_of_finish rfl (by simp only [hx, hb, r])
  · intro s x rest t hctl hq s1 p n
    subst s1 p n
    have hlearn (u : State) (h : s.learnInsert = u) : Ends .learnInsert s u := ends_of_finish rfl ((if_pos hctl).trans h)
    refine ⟨fun hnone => hlearn _ (by simp only [State.learnInsert, hq, hnone]), ?_⟩
    intro hsome r hr
    exact hlearn _ (by simp only [State.learnInsert, hq, hsome]; exact if_pos hr)
  · intro n s t ht hon hper hreb per s1 s2
    exact ends_of_finish rfl (by simp [State.ageSweep, ht, hon, hper, hreb, s2, s1, per])

/-! The 0x06xx opcodes -/

/-- An entry opcode of a table with a parameter list of its length carries out its command (R336). -/
theorem entryOp_of_table {op : Nat} {key : Bool} {w : Waybill} {u : State} {t : Table} (ht : u.table? (w.u8 0) = some t)
    (hlen : w.params.length = 4 + (if key then t.keySize else t.entrySize)) :
    entryOp op key w u =
      let r := u.command op (w.u8 0) (fit 64 (w.params.drop 4)) false 0 false true
      .done (resultStatus r.result) (leBytes 1 r.result ++ leBytes 1 r.relocs ++ zeros 2) r.st := by
  simp only [entryOp, ht]
  exact if_neg (not_not.mpr hlen)

/-- Settles O44. -/
theorem tableOpcodesComplete : Obligations.TableOpcodesComplete := by
  refine ⟨?_, ?_, ?_, ?_, ?_, ?_, ?_, ?_, ?_, ?_, ?_, ?_, ?_, ?_, ?_⟩
  · intro w u t ht
    exact carries_of_done (fun _ => rfl) (by simp only [tblQueryBody, ht] <;> rfl)
  · intro w u t ht hlen r ans
    exact ⟨carries_of_done (fun _ => rfl) (entryOp_of_table ht hlen), carries_of_done (fun _ => rfl) (entryOp_of_table ht hlen),
      carries_of_done (fun _ => rfl) (entryOp_of_table ht hlen)⟩
  · intro w u t ht hlen r
    refine ⟨carries_of_done (fun _ => rfl) (entryOp_of_table ht hlen), fun hr => carries_of_done (fun _ => rfl) ?_⟩
    simp only [tblReadBody, ht, if_neg (not_not.mpr hlen)]
    exact if_pos hr
  · intro w u t g ht hg h1 hmax hfirst k
    have hgen : (if w.u8 1 = 0 then some t.act else if w.u8 1 = 1 then t.shadow else none) = some g := by
      rcases hg with ⟨h, rfl⟩ | ⟨h, hs⟩ <;> simp [*]
    have hok : ¬ (w.u16 2 = 0 ∨ (if t.wide then 31 else 63) < w.u16 2 ∨ 2 ^ g.sizeLog2 ≤ w.u32 4) := by omega
    refine carries_of_done (fun _ => rfl) ?_
    simp only [tblWalkBody, ht, hgen]
    exact if_neg hok
  · intro w u hit
    exact carries_of_done (fun _ => rfl) rfl
  · intro w u d n t hd hfree hpool hres
    refine carries_of_done (fun _ => rfl) ((if_neg ?_).trans (if_neg ?_))
    · rintro (h | h)
      · exact ne_false_of_eq_true hd h
      · exact absurd (congrArg Option.isSome hfree) (by rw [h]; exact Bool.true_eq_false_eq_False)
    · rintro (h | h)
      · exact ne_false_of_eq_true hpool h
      · exact ne_true_of_eq_false hres h
  · intro w u t t1 ht hnames n s1 ht1
    subst n s1
    exact pends_of_pend (fun _ => rfl) (by simp only [tblDestroyBody, ht, hnames, ht1]; rfl)
  · intro w u t ht h6 h26 hreb hbulk hold n g hpool hres
    refine pends_of_pend (fun _ => rfl) ?_
    simp only [tblRehashBody, ht]
    refine (if_neg (by omega)).trans ((if_neg (by simp [hreb, hbulk, hold])).trans (if_neg ?_))
    rintro (h | h)
    · exact ne_false_of_eq_true hpool h
    · exact ne_true_of_eq_false hres h
  · intro w u t g ht hsh hreb n s1 s2
    exact pends_of_pend (fun _ => rfl) (by simp only [tblFlipBody, ht, hsh, if_neg (not_not.mpr hreb), s2, s1, n])
  · intro w u t ht hreb
    exact carries_of_done (fun _ => rfl) (by simp only [tblRehashCancelBody, ht, if_neg hreb])
  · intro w u t ht hf hreb
    exact pends_of_pend (fun _ => rfl) (by simp only [tblFlushBody, ht, if_neg hf.not_gt, if_neg (not_not.mpr hreb)])
  · intro w u t ht n t1 hd hres
    refine carries_of_done (fun _ => rfl) ?_
    simp only [tblSetParamsBody, ht]
    exact (if_neg (ne_false_of_eq_true hd)).trans (if_neg (ne_true_of_eq_false hres))
  · intro w u hbad v
    exact carries_of_done (fun _ => rfl) (if_neg (ne_true_of_eq_false hbad))
  · intro w u r h1 hbad rc
    refine carries_of_done (fun _ => rfl) (if_neg ?_)
    rintro (h | h)
    · exact h.not_ge h1
    · exact ne_true_of_eq_false hbad h
  · intro w u
    exact carries_of_done (fun _ => rfl) rfl

end Sys2Proof.Machine

/-! CLAIM. The traffic manager (10): the statements O45 and O46. -/

namespace Sys2Proof.Machine

open Sys2Proof

/-! Events -/

/-- TM_ENQUEUE of a frame whose turn it is and whose destination is in service, with a port to leave by: admission decides (R355). -/
theorem State.enqueue_of_port {s : State} {h p : Nat} {f : Frame} (hf : s.frame? h = some f) (hst : f.stage = .enqueue)
    (hturn : s.outOfTurn h f = false) (hgone : s.destGone f = false) (hp : f.dest.bind s.destPort = some p)
    (hcut : f.tail = false ∨ s.cutThrough f p (s.pickQueue f p).1 = true) :
    let r := s.pickQueue f p
    let s1 := (List.range r.2).foldl (fun t _ => (t.bump Reg.TM_QSEL_REJECT).raise Ev.tm 6) s
    let a := s1.admitFrame h f r.1 p
    (a.1 = false → s.enqueue h = a.2.dropFrame h) ∧ (a.1 = true → f.back = false → s.enqueue h = a.2) := by
  have hwhole : ¬ (f.tail && !s.cutThrough f p (s.pickQueue f p).1) = true := by rcases hcut with h | h <;> simp [h]
  have hgo : ¬ (f.stage != .enqueue || s.outOfTurn h f) = true := by simp [hst, hturn]
  intro r s1 a
  simp only [State.enqueue, hf, if_neg hgo, hgone, Bool.false_eq_true, if_false, hp, if_neg hwhole]
  exact ⟨fun ha => if_pos (by rw [show (State.admitFrame _ h f _ p).1 = false from ha]; rfl),
    fun ha hback => (if_neg (by rw [show (State.admitFrame _ h f _ p).1 = true from ha]; decide)).trans (if_neg (ne_true_of_eq_false hback))⟩

/-- Settles O45. -/
theorem tmEventsComplete : Obligations.TmEventsComplete := by
  refine ⟨?_, ?_, ?_, ?_, ?_, ?_⟩
  · intro h s f hf hst hturn
    refine ⟨fun hgone => ?_, fun hgone hp => ?_, ?_⟩
    · exact ends_of_finish rfl (by simp [State.enqueue, hf, hst, hturn, hgone])
    · exact ends_of_finish rfl (by simp [State.enqueue, hf, hst, hturn, hgone, hp])
    · intro p hgone hp hcut r s1 a
      have henq := State.enqueue_of_port hf hst hturn hgone hp hcut
      exact ⟨fun ha => ends_of_finish rfl (henq.1 ha), fun ha hback => ends_of_finish rfl (henq.2 ha hback)⟩
  · intro p s hp
    exact ends_of_finish rfl (if_pos hp)
  · intro h q s f x hf hst hx hsp hup hahead hroom s2 s3
    have hback : ¬ (!f.spilled || !s.dramUp || decide (65536 ≤ s.bytesAhead x.frames h)
        || decide (s.bufferCells < s.regN Reg.TM_OCC + f.cells)) = true := by
      simp [hsp, hup, hahead, hroom]
    subst s2 s3
    refine ends_of_finish rfl ?_
    simp only [hf, hst, hx, if_neg hback]
  · intro q s x hx hper hon s1 r
    exact ends_of_finish rfl (by simp [hx, hper, hon, s1, r])
  · intro q s l hl
    exact ends_of_finish rfl (by simp only [hl])
  · intro q s x hx hd hc
    exact ends_of_finish rfl (by simp [hx, hd, hc])

/-! The 0x07xx opcodes -/

/-- Settles O46. -/
theorem tmOpcodesComplete : Obligations.TmOpcodesComplete := by
  refine ⟨?_, ?_, ?_, ?_, ?_, ?_, ?_, ?_, ?_, ?_, ?_, ?_, ?_⟩
  · intro w u drops
    exact carries_of_done (fun _ => rfl) rfl
  · intro w u hq hfree q r hnode hbad hmin x
    refine carries_of_done (fun _ => rfl) ((if_neg ?_).trans (if_neg (ne_true_of_eq_false hmin)))
    rintro (h | h | h | h)
    · exact h.not_gt hq
    · simp [hfree] at h
    · exact ne_true_of_eq_false hnode h
    · exact ne_true_of_eq_false hbad h
  · intro w u x y hx hb q n s2 hy
    subst q n s2
    exact ⟨fun hc => carries_of_done (fun _ => rfl) (by simp only [tmqDestroyBody, hx, hb, hy, if_pos hc]; rfl),
      fun hc => pends_of_pend (fun _ => rfl) (by simp only [tmqDestroyBody, hx, hb, hy, if_neg hc]; rfl)⟩
  · intro w u x a b hx hd q mask n hnode ha hb hport hbad hmin y y1 y2 y3
    refine carries_of_done (fun _ => rfl) ?_
    simp only [tmqModifyBody, hx]
    refine (if_neg ?_).trans (if_neg (ne_true_of_eq_false hmin))
    rw [hd, hnode, hbad, ha, hb]
    simp [hport]
  · intro w u x hx
    exact carries_of_done (fun _ => rfl) (by simp only [tmqQueryBody, hx])
  · intro w u hn hfree r howner hport hweight hsh
    refine carries_of_done (fun _ => rfl) (if_neg ?_)
    rintro (h | h | h | h | h | h)
    · exact h.not_gt hn
    · simp [hfree] at h
    · exact ne_true_of_eq_false (congrArg (!·) howner) h
    · exact h.not_gt hport
    · exact ne_true_of_eq_false hweight h
    · exact ne_true_of_eq_false hsh h
  · intro w u x hx hn hfree
    exact carries_of_done (fun _ => rfl) ((if_neg (by simp [hx])).trans (if_neg (by simp [hn, hfree])))
  · intro w u x hx hport mask m hweight hsh y
    refine carries_of_done (fun _ => rfl) ?_
    simp only [nodeModifyBody, hx]
    refine if_neg ?_
    rintro (h | h | h)
    · exact h hport
    · exact ne_true_of_eq_false hweight h
    · exact ne_true_of_eq_false hsh h
  · intro w u hp hc r n i hweight hsh
    refine carries_of_done (fun _ => rfl) (if_neg ?_)
    rintro (h | h | h | h)
    · exact h.not_gt hp
    · exact h.not_gt hc
    · exact ne_true_of_eq_false hweight h
    · exact ne_true_of_eq_false hsh h
  · intro w u hp r n hov hsh
    refine carries_of_done (fun _ => rfl) (if_neg ?_)
    rintro (h | h | h)
    · exact h.not_gt hp
    · exact ne_true_of_eq_false hov h
    · exact ne_true_of_eq_false hsh h
  · intro w u hn r hmode hov howner h2 h1 full y
    refine carries_of_done (fun _ => rfl) (if_neg ?_)
    rintro (h | h | h | h | ⟨hm, h⟩ | ⟨hm, h⟩)
    · exact h.not_gt hn
    · exact h.not_ge hmode
    · exact ne_true_of_eq_false hov h
    · exact ne_true_of_eq_false (congrArg (!·) howner) h
    · exact h.not_ge (h2 hm)
    · exact h (h1 hm)
  · intro w u hn
    exact carries_of_done (fun _ => rfl) (if_neg hn.not_ge)
  · intro w u hth area harea hpool s1
    refine carries_of_done (fun _ => rfl) ((if_neg ?_).trans ((if_neg ?_).trans (if_neg (ne_true_of_eq_false hpool))))
    · have hplace : (area != u.regN Reg.TM_SPILL_AREA && u.spillAreaBad area) = false := by
        rcases harea with h | ⟨h, -⟩ <;> simp [h]
      rw [hth]
      exact ne_true_of_eq_false hplace
    · rintro ⟨hne, hsp⟩
      exact harea.elim hne (fun h => hsp h.2)

end Sys2Proof.Machine

/-! CLAIM. The cipher complexes, the key store and the random-number generator (11): the statements O47 and O48. -/

namespace Sys2Proof.Machine

open Sys2Proof

/-! Events -/

/-- Settles O47. -/
theorem cipherEventsComplete : Obligations.CipherEventsComplete := by
  refine ⟨?_, ?_, ?_, ?_, ?_, ?_, ?_, ?_, ?_, ?_, ?_⟩
  · intro c lane s hc
    exact ⟨fun who t ht => ends_of_finish rfl ((if_neg hc.not_ge).trans (by rw [ht])),
      fun t ht => ends_of_finish rfl ((if_neg hc.not_ge).trans (by rw [ht]))⟩
  · intro c lane s w hc hw s1
    exact ⟨fun h hk => ends_of_finish rfl ((if_neg hc.not_ge).trans (by simp only [hw, hk, s1])),
      fun who hk => ends_of_finish rfl ((if_neg hc.not_ge).trans (by simp only [hw, hk, s1]))⟩
  · intro c lane stage again s w hc hw s1 f
    refine ⟨fun hret => ends_of_finish rfl ((if_neg hc.not_ge).trans ?_), fun hf hagain => ends_of_finish rfl ((if_neg hc.not_ge).trans ?_)⟩
    · simp only [hw]
      exact if_pos (Bool.or_eq_true_iff.mpr hret)
    · simp only [hw]
      exact if_neg (ne_true_of_eq_false (Bool.or_eq_false_iff.mpr ⟨hf, hagain⟩))
  · intro c pass s hc
    exact ends_of_finish rfl (if_pos hc)
  · intro c s hc hin
    have hgo : ¬ (2 ≤ c ∨ s.inService (9 + c) = false) := by simp [hc, hin]
    exact ⟨fun hst => ends_of_finish rfl ((if_neg hgo).trans (if_pos hst)),
      fun hst hstale => ends_of_finish rfl ((if_neg hgo).trans ((if_neg hst).trans (if_neg (ne_true_of_eq_false hstale))))⟩
  · intro s hst s1
    exact ends_of_finish rfl (if_neg (not_not.mpr hst))
  · intro s hon hst
    exact ⟨ends_of_finish rfl (if_pos (by simp [hon, hst])), ends_of_finish rfl (if_pos (by simp [hon, hst]))⟩
  · intro s hon hst
    refine ⟨ends_of_finish rfl ?_, fun t ht => ends_of_finish rfl ?_⟩
    · simp [hon, hst]
    · simp [hon, hst, Nat.mod_eq_of_lt ht]
  · intro s hon hst n
    refine ⟨ends_of_finish rfl ?_, ?_⟩
    · simp [hon, hst]
    · intro t ht s0
      refine ⟨fun hn => ends_of_finish rfl ?_, ?_⟩
      · simp [hon, hst, Nat.mod_eq_of_lt ht, show s.rngAttempt < 3 from hn, s0, n]
      · intro hn s1
        exact ends_of_finish rfl (by simp [hon, hst, Nat.mod_eq_of_lt ht, show ¬ s.rngAttempt < 3 from hn.not_gt, s0, s1])
  · intro i s hst hbusy
    exact ends_of_finish rfl (if_pos ⟨hst, hbusy⟩)
  · intro i s hi hon
    have hgo : ¬ (!s.keysOn || decide (16384 ≤ i)) = true := by simp [hon, hi]
    exact ⟨ends_of_finish rfl ((if_neg hgo).trans (if_pos rfl)), ends_of_finish rfl ((if_neg hgo).trans (if_neg (by decide)))⟩

/-! The 0x08xx opcodes -/

/-- KEY_LOAD of a good record into a slot that is allocated or holds a key: a key given is installed, a key asked for is generated, waits
for the generator, or fails with it (R394). -/
theorem keyLoadBody_of_good {w : Waybill} {u : State} (hi : w.u16 0 < 16384)
    (hst : (u.keySlot (w.u16 0)).st = 1 ∨ (u.keySlot (w.u16 0)).st = 2) (hbad : slotBad (loadRec w) = false)
    (howner : u16 (loadRec w) 0 % 4096 = (u.keySlot (w.u16 0)).owner)
    (hflask : (issuerFlask w.inst).isSome = false ∨ u8 (loadRec w) 2 < 5) :
    keyLoadBody w u =
      let n := slotNorm (loadRec w)
      let nk := keyBytes (loadRec w)
      if !(w.u8 2).testBit 0 then
        if ((w.params.drop 68).drop nk).any (· != 0) then fail .badParam u
        else let x := u.keyInstall (w.u16 0) n ((w.params.drop 68).take nk) (issuerFlask w.inst).isSome
             .done .ok x.1 x.2
      else if u.rngState = 3 then .done .entropyFail [] (u.bump Reg.RNG_REQ_FAILED)
      else if u.rngState = 1 then
        let d := u.rngServe (nk + nonceBytes n)
        let g := generated n d.1
        let x := d.2.keyInstall (w.u16 0) g.1 g.2 (issuerFlask w.inst).isSome
        .done .ok x.1 x.2
      else .pend (.keyLoad (w.u16 0) n (issuerFlask w.inst).isSome) 12000000 (some ⟨.keySlot, w.u16 0⟩)
        (u.rngHold (.waybill w.inst w.tag) (nk + nonceBytes n)) := by
  refine (if_neg ?_).trans (if_neg (by omega))
  rintro (h | h | h | h | ⟨hf, h⟩)
  · exact h.not_gt hi
  · omega
  · exact ne_true_of_eq_false hbad h
  · exact h howner
  · rcases hflask with h0 | h5
    · exact ne_true_of_eq_false h0 hf
    · omega

/-- Settles O48. -/
theorem cipherOpcodesComplete : Obligations.CipherOpcodesComplete := by
  refine ⟨?_, ?_, ?_, ?_, ?_, ?_, ?_, ?_, ?_, ?_, ?_, ?_, ?_, ?_⟩
  · intro w u
    exact carries_of_done (fun _ => rfl) rfl
  · intro w u o howner
    have hgo : ¬ (!u.ownerExists o) = true := by simp [howner]
    refine ⟨fun hfree => carries_of_done (fun _ => rfl) ((if_neg hgo).trans (by rw [hfree])), ?_⟩
    intro i hfree hquota s1
    refine carries_of_done (fun _ => rfl) ((if_neg hgo).trans ?_)
    rw [hfree]
    exact if_neg (fun ⟨h0, hle⟩ => hquota.elim h0 hle.not_gt)
  · intro w u hi i r byFlask n nk field hst hbad howner hflask
    have hload := keyLoadBody_of_good hi hst hbad howner hflask
    refine ⟨fun hgen hrest => ?_, fun hgen => ⟨?_, fun hrng => ?_, fun hrng => ?_⟩⟩
    · exact carries_of_done (fun _ => rfl) (hload.trans ((if_pos (by rw [hgen]; rfl)).trans (if_neg (ne_true_of_eq_false hrest))))
    · intro hrng d g
      exact carries_of_done (fun _ => rfl) (hload.trans ((if_neg (by rw [hgen]; decide)).trans ((if_neg (by omega)).trans (if_pos hrng))))
    · exact carries_of_done (fun _ => rfl) (hload.trans ((if_neg (by rw [hgen]; decide)).trans (if_pos hrng)))
    · exact pends_of_pend (fun _ => rfl)
        (hload.trans ((if_neg (by rw [hgen]; decide)).trans ((if_neg (by omega)).trans (if_neg (by omega)))))
  · intro w u hst i mask k r1 r2 r3 hbad
    exact carries_of_done (fun _ => rfl) ((if_neg (not_not.mpr hst)).trans (if_neg (ne_true_of_eq_false hbad)))
  · intro w u hst i
    exact ⟨fun hb => carries_of_done (fun _ => rfl) ((if_neg hst).trans (if_neg (ne_true_of_eq_false hb))),
      fun hb => pends_of_pend (fun _ => rfl) ((if_neg hst).trans (if_pos hb)), carries_of_done (fun _ => rfl) (if_neg hst)⟩
  · intro w u hi k kc
    exact carries_of_done (fun _ => rfl) (if_neg hi.not_ge)
  · intro w u hst hfr
    exact carries_of_done (fun _ => rfl) (if_neg (by simp [hst, hfr]))
  · intro w u hslots i e
    refine carries_of_done (fun _ => rfl) (if_neg ?_)
    simp only [List.any_eq_true, List.mem_range, not_exists, not_and]
    intro a ha
    rcases hslots a ha with h | ⟨h1, h2, h3⟩
    · simp [h]
    · simp [h1, h2, h3]
  · intro w u v
    exact carries_of_done (fun _ => rfl) rfl
  · intro w u hc hkb hdir h16 hmax mode n d
    subst mode n d
    refine ⟨fun hm hblk => ?_, fun hm henc ha => ?_, fun hm henc ha => ?_, fun hm hkb2 hblk => ?_⟩
    · have h4 : w.u8 1 ≠ 4 := by omega
      have h5 : w.u8 1 ≠ 5 := by omega
      refine carries_of_done (fun _ => rfl) ((if_neg (by omega)).trans ?_)
      simp only [if_neg h4, if_neg h5]
    · refine carries_of_done (fun _ => rfl) ((if_neg (by omega)).trans ?_)
      simp [hm, henc]
    · refine carries_of_done (fun _ => rfl) ((if_neg (by omega)).trans ?_)
      simp [hm, henc]
    · refine carries_of_done (fun _ => rfl) ((if_neg (by omega)).trans ?_)
      simp [hm]
  · intro w u h1 hmax
    have hgo : ¬ (w.u16 0 = 0 ∨ 4080 < w.u16 0) := by omega
    refine ⟨fun hrng => ?_, fun hrng => ?_, fun hrng hheld => ?_⟩
    · exact carries_of_done (fun _ => rfl) ((if_neg hgo).trans ((if_neg (by omega)).trans (if_pos hrng)))
    · exact carries_of_done (fun _ => rfl) ((if_neg hgo).trans (if_pos hrng))
    · exact pends_of_pend (fun _ => rfl)
        ((if_neg hgo).trans ((if_neg (by omega)).trans ((if_neg (by omega)).trans (if_neg hheld.not_ge))))
  · intro w u
    exact carries_of_done (fun _ => rfl) rfl
  · intro w u hms
    exact carries_of_done (fun _ => rfl) (if_neg hms.not_gt)
  · intro w u hst
    exact pends_of_pend (fun _ => rfl) (if_neg (not_not.mpr hst))

end Sys2Proof.Machine

/-! CLAIM. The packet engines' events, their debug commands and the 0x09xx opcodes (12): the statements O49 and O52. -/

namespace Sys2Proof.Machine

open Sys2Proof

/-! Dispatch -/

/-- An idle thread of a cluster that serves may be dispatched (R415). -/
theorem State.threadDispatch_of_idle {s : State} {h : Nat} (hh : h < 2048) (hserve : s.clusterServes (hartCl h) = true)
    (hidle : (s.hart h).st = .idle) :
    ¬ (decide (2048 ≤ h) || !s.clusterServes (hartCl h) || (s.hart h).st != .idle) = true := by
  simp [hh, hserve, hidle]

/-- An idle worker whose timer has not come and whose cluster exchanges no image takes event lines, messages and hand-offs in this
order (R415). -/
theorem State.threadDispatch_of_noTimer {s : State} {h : Nat} (hgo : ¬ (decide (2048 ≤ h) || !s.clusterServes (hartCl h) ||
    (s.hart h).st != .idle) = true) (hagain : (s.hart h).again = none) (htimer : (s.hart h).tctl.testBit 0 = false)
    (hsup : isSup h = false) (hexch : (s.cluster (hartCl h)).exch = none) :
    s.threadDispatch h = match s.nextLine (hartCl h) with
      | some (l, v) =>
        (s.setCluster (hartCl h) { s.cluster (hartCl h) with
          lines := SMap.put (s.cluster (hartCl h)).lines l (SMap.getD (s.cluster (hartCl h)).lines l 0 - 1) }).dispatch h v 2 0
            (.line l) none l []
      | none => match (s.cluster (hartCl h)).msgs with
        | m :: r => (s.setCluster (hartCl h) { s.cluster (hartCl h) with msgs := r }).dispatch h m.vec 3 m.flask (.message m) none 0 m.bytes
        | [] => match s.nextHandoff (hartCl h) with
          | none => s
          | some (i, f) =>
            if s.handoffHart (hartCl h) ≠ some h then s
            else
              (s.setCluster (hartCl h) { s.cluster (hartCl h) with queue := (s.cluster (hartCl h)).queue.filter (· != i) }).dispatch h
                f.engVec 0 ((if f.tx then f.flask else f.owner) % 4096) (.handoff i f) (some (i, f)) 0 [] := by
  refine (if_neg hgo).trans ?_
  simp only [hagain, htimer, hsup, hexch]
  rfl

/-- An idle worker whose timer has come runs its timer's vector, and the timer is off (R415). -/
theorem State.threadDispatch_of_timer {s : State} {h : Nat} (hgo : ¬ (decide (2048 ≤ h) || !s.clusterServes (hartCl h) ||
    (s.hart h).st != .idle) = true) (hagain : (s.hart h).again = none)
    (htimer : ((s.hart h).tctl.testBit 0 && decide ((s.hart h).tcmp ≤ s.etime)) = true) (hsup : isSup h = false) :
    s.threadDispatch h = (s.setHart h { s.hart h with tctl := (s.hart h).tctl - 1 }).dispatch h (bits (s.hart h).tctl 13 8) 1
      (s.hart h).timerTag (.timer (bits (s.hart h).tctl 13 8) (s.hart h).timerTag) none 0 [] := by
  refine (if_neg hgo).trans ?_
  simp only [hagain, if_pos htimer, hsup, Bool.false_eq_true, if_false]

/-- A data word is its number (R448). -/
theorem toNat_word {v : Nat} (h : v < 2 ^ 32) : (word v).toNat = v := Nat.mod_eq_of_lt h

/-- A halted hart's 64-bit register is read into, or written from, the data registers (R448). -/
theorem State.accessRegister_of_transfer {s : State} {h v x : Nat} (herr : s.eng.dm.cmderr = 0) (hst : (s.hart h).st = .debug)
    (hsize : bits v 22 20 = 3) (hxfer : v.testBit 17 = true) (hpost : v.testBit 18 = false)
    (hint : ¬ (0x1020 ≤ v % 65536 ∧ v % 65536 < 0x1040)) (hx : s.dbgReg h (v % 65536) = some x) :
    s.accessRegister h v = if v.testBit 16 then (s.dbgSetReg h (v % 65536) (s.eng.dm.arg 0)).getD (s.cmdErr 3)
      else s.setDm (s.eng.dm.setArg 0 (x % 2 ^ 64)) := by
  have hxfer' : ¬ (!v.testBit 17) = true := by simp [hxfer]
  have hwide : ¬ ((3 : Nat) ≠ 2 ∧ ((3 : Nat) ≠ 3 ∨ (decide (0x1020 ≤ v % 65536) && decide (v % 65536 < 0x1040)) = true)) := by
    simpa using hint
  have hpost' : ∀ t : State, ¬ (v.testBit 18 && t.eng.dm.cmderr == 0) = true := by simp [hpost]
  unfold State.accessRegister
  simp only [if_neg (not_not.mpr herr), if_neg (not_not.mpr hst), if_neg hxfer', hsize, if_neg hwide, hx, if_neg (hpost' _),
    if_neg (show ¬ (3 : Nat) = 2 by decide)]
  cases s.dbgSetReg h (v % 65536) (s.eng.dm.arg 0) <;> rfl

/-- A halted hart's aligned write of at most 8 bytes stores the data registers (R448, R450). -/
theorem State.accessMemory_of_stored {s t : State} {h v n : Nat} (hsize : 2 ^ bits v 22 20 = n) (herr : s.eng.dm.cmderr = 0)
    (hst : (s.hart h).st = .debug) (hn : n ≤ 8) (h23 : v.testBit 23 = false) (hal : s.eng.dm.arg 1 % n = 0)
    (hw : v.testBit 16 = true) (hstore : s.store h (s.eng.dm.arg 1) n (s.eng.dm.arg 0) = (.ok (), t)) :
    s.accessMemory h v = if v.testBit 19 then t.setDm (t.eng.dm.setArg 1 ((s.eng.dm.arg 1 + n) % 2 ^ 64)) else t := by
  have hfits : ¬ (8 < n ∨ v.testBit 23 = true) := by simp [hn, h23]
  unfold State.accessMemory
  simp only [hsize, if_neg (not_not.mpr herr), if_neg (not_not.mpr hst), if_neg hfits, if_neg (not_not.mpr hal), if_pos hw, hstore]

/-- A halted hart's aligned read of at most 8 bytes goes by the peek path (R448, R450). -/
theorem State.accessMemory_of_read {s t : State} {h v n : Nat} {b : List Byte} (hsize : 2 ^ bits v 22 20 = n)
    (herr : s.eng.dm.cmderr = 0) (hst : (s.hart h).st = .debug) (hn : n ≤ 8) (h23 : v.testBit 23 = false)
    (hal : s.eng.dm.arg 1 % n = 0) (hw : v.testBit 16 = false) (hpeek : s.peekAt h (s.eng.dm.arg 1) n = (some b, t)) :
    let u := t.setDm (if n ≤ 4 then { t.eng.dm with data := t.eng.dm.data.set 0 (leNat b) } else t.eng.dm.setArg 0 (leNat b))
    s.accessMemory h v = if v.testBit 19 then u.setDm (u.eng.dm.setArg 1 ((s.eng.dm.arg 1 + n) % 2 ^ 64)) else u := by
  have hfits : ¬ (8 < n ∨ v.testBit 23 = true) := by simp [hn, h23]
  unfold State.accessMemory
  simp only [hsize, if_neg (not_not.mpr herr), if_neg (not_not.mpr hst), if_neg hfits, if_neg (not_not.mpr hal),
    if_neg (ne_true_of_eq_false hw), hpeek]

/-- Settles O49. -/
theorem engineEventsComplete : Obligations.EngineEventsComplete := by
  refine ⟨?_, ?_, ?_, ?_, ?_, ?_, ?_, ?_, ?_, ?_, ?_, ?_, ?_, ?_, ?_, ?_⟩
  · intro h s hh hserve hidle c k g
    have hgo := State.threadDispatch_of_idle hh hserve hidle
    refine ⟨fun v t hagain => ?_, fun hagain hbit hcmp hsup => ?_, fun hagain hbit hsup hexch => ?_⟩
    · exact ends_of_finish rfl ((if_neg hgo).trans (by simp only [show (s.hart h).again = _ from hagain, k]))
    · subst k
      exact ends_of_finish rfl (State.threadDispatch_of_timer hgo hagain (by simp [hbit, hcmp]) hsup)
    · subst c k g
      have hnext := State.threadDispatch_of_noTimer hgo hagain hbit hsup hexch
      refine ⟨fun l v hl => ?_, fun m r hl hm => ?_, fun i f hl hm hf hme => ?_⟩
      · exact ends_of_finish rfl (hnext.trans (by rw [hl]))
      · exact ends_of_finish rfl (hnext.trans (by rw [hl, hm]))
      · exact ends_of_finish rfl (hnext.trans (by simp only [hl, hm, hf, if_neg (not_not.mpr hme)]))
  · intro h s
    exact ⟨fun hst => ends_of_finish rfl (if_pos hst), fun hst hbit => ends_of_finish rfl ((if_neg hst).trans (if_pos hbit))⟩
  · intro h s hlim hst
    refine ends_of_finish rfl (if_neg ?_)
    rcases hst with hst | hst <;> simp [hst] <;> omega
  · intro c l s hc hl
    exact ends_of_finish rfl (if_pos ⟨hc, hl⟩)
  · intro h cause sub tval s hh hsup hst
    exact ends_of_finish rfl (if_pos ⟨hh, hsup, hst⟩)
  · intro e cause sub tval s he hst
    exact ends_of_finish rfl (if_pos ⟨he, hst⟩)
  · intro h i pc tp x s hh hi e cfg h17 hth hx hev s1
    have hgo : ¬ (!cfg.testBit 17 || !cfg.testBit (8 + hartTh h) || decide (2048 ≤ h) || decide (4 ≤ i)) = true := by
      simp [h17, hth, hh, hi]
    refine ends_of_finish rfl ((if_neg hgo).trans ?_)
    subst s1 cfg e
    simp only [hx, if_neg hev, Option.getD_some, Option.isSome_some]
  · intro h a b e s hr
    exact ends_of_finish rfl (by simp only [hr])
  · intro c p cause st lost s hc hp hin
    exact ends_of_finish rfl (if_pos ⟨hc, hp, hin⟩)
  · intro e t s ht s1 hup hst
    refine ends_of_finish rfl ?_
    simp only [ht]
    exact if_neg (by simp [show (s.at t).ctlUp = true from hup, show ((s.at t).hart (e * 8)).st = .faulted from hst])
  · intro c s x hx
    exact ends_of_finish rfl (by simp only [hx])
  · intro h s hh hdbg hun
    have hgo : ¬ (2048 ≤ h ∨ (s.hart h).st = .debug ∨ (s.hart h).st = .unavailable) := by simp [hh, hdbg, hun]
    exact ⟨fun hw => ends_of_finish rfl ((if_neg hgo).trans (if_neg (by simp [hw]))),
      fun w hw => ends_of_finish rfl ((if_neg hgo).trans (if_pos (by simp [hw])))⟩
  · intro h s hst s1
    exact ends_of_finish rfl (if_neg (not_not.mpr hst))
  · intro h s hh hun
    exact ends_of_finish rfl (if_neg (by simp [hh, hun]))
  · intro h v x s hv herr hst hsize hxfer hpost hf hx
    have hacc := State.accessRegister_of_transfer herr hst hsize hxfer hpost hf hx
    exact ⟨fun hw => ends_of_finish rfl ((toNat_word hv).symm ▸ hacc.trans (if_neg (ne_true_of_eq_false hw))),
      fun t hw ht => ends_of_finish rfl ((toNat_word hv).symm ▸ hacc.trans ((if_pos hw).trans (by rw [ht, Option.getD_some])))⟩
  · intro h v s hv herr hst n a up hn h23 hal
    exact ⟨fun t hw ht => ends_of_finish rfl ((toNat_word hv).symm ▸ State.accessMemory_of_stored rfl herr hst hn h23 hal hw ht),
      fun b t hw ht => ends_of_finish rfl ((toNat_word hv).symm ▸ State.accessMemory_of_read rfl herr hst hn h23 hal hw ht)⟩

/-! The 0x09xx opcodes -/

/-- ENG_CT_SET accepts a descriptor that is off, and one that is on whose size, key length and region are in range and whose region is clear of
the other tables (R433). -/
theorem not_badTable {v : Nat} {s : State} {c i : Nat} (h : v.testBit 31 = true → 2 ≤ bits v 27 24 ∧ bits v 27 24 ≤ 12 ∧
    1 ≤ bits v 5 0 ∧ bits v 5 0 ≤ 32 ∧ (ctArea v).1 + (ctArea v).2 ≤ 2 ^ 20 ∧
    ((List.range 8).filter (fun j => j != i && s.flag (Reg.EC_CT_DESC c j) 31)).any
      (fun j => areaHits (ctArea v) (ctArea (s.regN (Reg.EC_CT_DESC c j)))) = false) :
    (v.testBit 31 && (decide (bits v 27 24 < 2) || decide (12 < bits v 27 24) || decide (bits v 5 0 < 1) || decide (32 < bits v 5 0)
      || decide (2 ^ 20 < (ctArea v).1 + (ctArea v).2) || ((List.range 8).filter (fun j => j != i && s.flag (Reg.EC_CT_DESC c j) 31)).any
        (fun j => areaHits (ctArea v) (ctArea (s.regN (Reg.EC_CT_DESC c j)))))) = false := by
  cases hon : v.testBit 31
  · rfl
  · obtain ⟨hrec, hrec', hkey, hkey', harea, hclear⟩ := h hon
    rw [hclear]
    simp only [decide_eq_false hrec.not_gt, decide_eq_false hrec'.not_gt, decide_eq_false hkey.not_gt, decide_eq_false hkey'.not_gt,
      decide_eq_false harea.not_gt, Bool.or_self, Bool.and_false]

/-- Settles O52. -/
theorem engineOpcodesComplete : Obligations.EngineOpcodesComplete := by
  refine ⟨?_, ?_, ?_, ?_, ?_, ?_, ?_, ?_, ?_, ?_, ?_, ?_, ?_⟩
  · intro w u hc c
    exact carries_of_done (fun _ => rfl) (if_neg hc.not_gt)
  · intro w u c cs hcs off n hoff hn hex t
    refine carries_of_done (fun _ => rfl) ?_
    have hgo : ¬ (w.u32 4 % 4 ≠ 0 ∨ 131072 < w.u32 4 + (w.params.length - 16)) := not_or.mpr ⟨not_not.mpr hoff, hn.not_gt⟩
    simp only [engLoadBody, hcs, if_neg hgo, if_neg (ne_true_of_eq_false hex)]
    rfl
  · intro w u c cs hcs hlo hhi hok hex seq prev s1 s2
    have hgo : ¬ (w.u16 12 < 1 ∨ 1000 < w.u16 12 ∨ (c :: cs).all (fun c => u.imageOk c (w.u32 4) (w.u32 8)) = false) :=
      not_or.mpr ⟨hlo.not_gt, not_or.mpr ⟨hhi.not_gt, ne_false_of_eq_true hok⟩⟩
    have hbody : engSwapBody w u = if s2.eng.swaps.any (fun x => x.seq == seq) then
        .pend (.engSwap seq) ((w.u16 12 + 1) * 1000000) none s2 else .done .ok (leBytes 4 0 ++ leBytes 4 prev) s2 := by
      simp only [engSwapBody, hcs, if_neg hgo, if_neg (ne_true_of_eq_false hex)]
      rfl
    exact ⟨fun hleft => pends_of_pend (fun _ => rfl) (hbody.trans (if_pos hleft)),
      fun hleft => carries_of_done (fun _ => rfl) (hbody.trans (if_neg (ne_true_of_eq_false hleft)))⟩
  · intro w u hc hb hlo hhi hend
    exact carries_of_done (fun _ => rfl) (if_neg (by omega))
  · intro w u c cs hcs
    exact carries_of_done (fun _ => rfl) (by simp only [engSetParamsBody, hcs])
  · intro w u hc hi hwin
    exact carries_of_done (fun _ => rfl)
      (if_neg (not_or.mpr ⟨hc.not_gt, not_or.mpr ⟨hi.not_gt, ne_true_of_eq_false hwin⟩⟩))
  · intro w u hc hl c l a b
    exact carries_of_done (fun _ => rfl) (if_neg (by omega))
  · intro w u hc hi c i v a s1 k left k1
    refine ⟨fun hoff => ?_, fun hon hrec hrec' hkey hkey' harea hclear => ?_⟩
    · refine carries_of_done (fun _ => rfl) ((if_neg (not_or.mpr ⟨hc.not_gt, not_or.mpr ⟨hi.not_gt, ?_⟩⟩)).trans ?_)
      · exact ne_true_of_eq_false (not_badTable (fun hon => absurd hon (ne_true_of_eq_false hoff)))
      · exact congrArg (WbOut.done _ _) (if_neg (ne_true_of_eq_false hoff))
    · refine carries_of_done (fun _ => rfl) ((if_neg (not_or.mpr ⟨hc.not_gt, not_or.mpr ⟨hi.not_gt, ?_⟩⟩)).trans ?_)
      · exact ne_true_of_eq_false (not_badTable (fun _ => ⟨hrec, hrec', hkey, hkey', harea, hclear⟩))
      · exact congrArg (WbOut.done _ _) (if_pos hon)
  · intro w u hc he hth h k
    exact carries_of_done (fun _ => rfl) (if_neg (by omega))
  · intro w u hc hi
    exact carries_of_done (fun _ => rfl) (if_neg (by omega))
  · intro w u hc he hlo hhi h8 hmem r
    refine carries_of_done (fun _ => rfl) (if_neg ?_)
    rintro (h | h | h | h | h | h)
    exacts [hc.not_gt h, he.not_gt h, hlo.not_gt h, hhi.not_gt h, h h8, ne_false_of_eq_true hmem h]
  · intro w u hc he hmem
    exact carries_of_done (fun _ => rfl)
      (if_neg (not_or.mpr ⟨hc.not_gt, not_or.mpr ⟨he.not_gt, ne_false_of_eq_true hmem⟩⟩))
  · intro w u hc he i hst hprog t
    have hgo := not_or.mpr ⟨hc.not_gt, not_or.mpr ⟨he.not_gt, hst⟩⟩
    have hrun : ¬ (!u.flag (Reg.EC_STATE (w.u8 0)) 3) = true := by simp [hprog]
    exact ⟨fun hd => carries_of_done (fun _ => rfl) ((if_neg hgo).trans ((if_neg hrun).trans (congrArg (WbOut.done _ _) (if_neg hd)))),
      fun hd => carries_of_done (fun _ => rfl) ((if_neg hgo).trans ((if_neg hrun).trans (congrArg (WbOut.done _ _) (if_pos hd))))⟩

end Sys2Proof.Machine

/-! CLAIM. The instructions of the packet engines (12): the statement O50. Each instruction's result is a lemma of its own about its
`x…` function; `ends_of_retire` and `ends_of_trap` carry it to the command. -/

namespace Sys2Proof.Machine

open Sys2Proof

/-! From an instruction's result to its command -/

/-- An instruction about to run that gives a next PC and events retires with them (R449). -/
theorem ends_of_retire {i : Instr} {s t : State} {h w : Nat} {op : EngOp} {f : Nat → Res Next} {pc : DWord} {ev : List Nat}
    (hexec : exec i s = finish (s.runInstr h (· == op) f)) (hat : s.atInstr h op w) (hf : f w = (.ok (pc, ev), t)) :
    Ends i s (t.retired h pc ev) :=
  ends_of_finish hexec ((State.runInstr_of_atInstr hat (by simp) f).trans (by rw [hf]; rfl))

/-- An instruction about to run that traps takes its trap (R421). -/
theorem ends_of_trap {i : Instr} {s t : State} {h w : Nat} {op : EngOp} {f : Nat → Res Next} {e : Trap}
    (hexec : exec i s = finish (s.runInstr h (· == op) f)) (hat : s.atInstr h op w) (hf : f w = (.error e, t)) :
    Ends i s (t.trapped h e) :=
  ends_of_finish hexec ((State.runInstr_of_atInstr hat (by simp) f).trans (by rw [hf]; rfl))

/-! Frames and metadata (R429-R431) -/

theorem State.xHdrLd_of_fits {s : State} {h w n i : Nat} {f : Frame} (hheld : s.held h = some (i, f))
    (hfits : (s.xr h (rvRs1 w)).toNat + n ≤ f.bytes.length) :
    s.xHdrLd h w n = (.ok ((s.hart h).pc + 4, specEv),
      s.putX h (rvRd w) (beNat (slice f.bytes (s.xr h (rvRs1 w)).toNat n))) := by
  simp only [State.xHdrLd, hheld]
  exact if_neg hfits.not_gt

theorem State.xHdrSt_of_fits {s : State} {h w n i : Nat} {f : Frame} (hheld : s.held h = some (i, f))
    (hfits : (s.xr h (rvRs1 w)).toNat + n ≤ f.bytes.length) :
    s.xHdrSt h w n = (.ok ((s.hart h).pc + 4, retEv),
      s.setFrame i { f with bytes := patch f.bytes (s.xr h (rvRs1 w)).toNat (beBytes n (s.xr h (rvRs2 w)).toNat) }) := by
  simp only [State.xHdrSt, hheld]
  exact if_neg hfits.not_gt

theorem State.xPktRd_of_fits {s t : State} {h w i : Nat} {f : Frame} (hheld : s.held h = some (i, f)) :
    let sp := pktSpan (s.xr h (rvRs2 w)).toNat
    sp.1 + sp.2 ≤ f.bytes.length → sp.2 ≤ 4096 → s.addrWrite h (s.xr h (rvRs1 w)).toNat (slice f.bytes sp.1 sp.2) = (.ok (), t) →
    s.xPktRd h w = (.ok ((s.hart h).pc + 4, retEv), t.putX h (rvRd w) sp.2) := by
  intro sp hfits hlen hwrite
  have hgo : ¬ (f.bytes.length < sp.1 + sp.2 ∨ 4096 < sp.2) := by omega
  subst sp
  simp only [State.xr] at hgo hwrite ⊢
  simp only [State.xPktRd, hheld, if_neg hgo, hwrite]
  rfl

theorem State.xPktWr_of_fits {s t : State} {h w i : Nat} {f : Frame} {d : List Byte} (hheld : s.held h = some (i, f)) :
    let sp := pktSpan (s.xr h (rvRs2 w)).toNat
    sp.1 + sp.2 ≤ f.bytes.length → sp.2 ≤ 4096 → s.addrRead h (s.xr h (rvRs1 w)).toNat sp.2 = (.ok d, t) →
    s.xPktWr h w = (.ok ((s.hart h).pc + 4, retEv), t.setFrame i { f with bytes := patch f.bytes sp.1 d }) := by
  intro sp hfits hlen hread
  have hgo : ¬ (f.bytes.length < sp.1 + sp.2 ∨ 4096 < sp.2) := by omega
  subst sp
  simp only [State.xr] at hgo hread ⊢
  simp only [State.xPktWr, hheld, if_neg hgo, hread]

/-- PKT.ADJ in range prepends zero bytes or removes head bytes (R430). -/
theorem State.xPktAdj_of_fits {s : State} {h w i : Nat} {f : Frame} {d : Int} (hheld : s.held h = some (i, f))
    (hd : (s.xr h (rvRs1 w)).toInt = d) (hlo : -256 ≤ d) (hhi : d ≤ 256) (hmin : 14 ≤ (f.bytes.length : Int) + d)
    (hmax : (f.bytes.length : Int) + d ≤ 16384) :
    s.xPktAdj h w = (.ok ((s.hart h).pc + 4, retEv), s.setFrame i (if 0 ≤ d
      then { f.move (growOff 0 d.natAbs) with bytes := zeros d.natAbs ++ f.bytes }
      else { f.move (cutOff d.natAbs) with bytes := f.bytes.drop d.natAbs })) := by
  subst hd
  have hgo : ¬ ((s.xr h (rvRs1 w)).toInt < -256 ∨ 256 < (s.xr h (rvRs1 w)).toInt ∨
      (f.bytes.length : Int) + (s.xr h (rvRs1 w)).toInt < 14 ∨ 16384 < (f.bytes.length : Int) + (s.xr h (rvRs1 w)).toInt) := by omega
  simp only [State.xPktAdj, hheld]
  exact if_neg hgo

theorem State.xMetaRd_six {s : State} {h w i : Nat} {f : Frame} (hheld : s.held h = some (i, f)) (h6 : (s.xr h (rvRs1 w)).toNat = 6) :
    s.xMetaRd h w = (.ok ((s.hart h).pc + 4, specEv), s.putX h (rvRd w) f.bytes.length) := by
  simp only [State.xr] at h6
  simp only [State.xMetaRd, hheld, h6, if_neg (show ¬ 8 < 6 by decide)]
  rfl

theorem State.xMetaRd_three {s : State} {h w i : Nat} {f : Frame} (hheld : s.held h = some (i, f))
    (h3 : (s.xr h (rvRs1 w)).toNat = 3) :
    s.xMetaRd h w = (.ok ((s.hart h).pc + 4, specEv), s.putX h (rvRd w) (f.tc + f.color * 8)) := by
  simp only [State.xr] at h3
  simp only [State.xMetaRd, hheld, h3, if_neg (show ¬ 8 < 3 by decide)]
  rfl

theorem State.xMetaWr_three {s : State} {h w i : Nat} {f : Frame} (hheld : s.held h = some (i, f))
    (h3 : (s.xr h (rvRs1 w)).toNat = 3) :
    s.xMetaWr h w = (.ok ((s.hart h).pc + 4, retEv),
      s.setFrame i { f with tc := (s.xr h (rvRs2 w)).toNat % 8, color := min 2 (bits (s.xr h (rvRs2 w)).toNat 4 3) }) := by
  simp only [State.xr] at h3
  simp only [State.xMetaWr, hheld, h3]
  rfl

section Dispose

variable {s : State} {h w i : Nat} {f : Frame}

/-- The frame has left the thread, and the run's slots are charged (R431, R445). -/
def State.frameLeft (s : State) (h : Nat) : State := (s.modHart h (fun x => { x with frame := none, dest := none })).chargeRun h

theorem State.xDispose_drop (hheld : s.held h = some (i, f)) (hk : (s.xr h (rvRs1 w)).toNat % 16 = 0) :
    let s1 := s.frameLeft h
    let c := s1.cluster (hartCl h)
    let p := (s.xr h (rvRs2 w)).toNat
    s.xDispose h w = (.ok ((s.hart h).pc + 4, retEv),
      (s1.setCluster (hartCl h) { c with drops := SMap.put c.drops (p % 256) (SMap.getD c.drops (p % 256) 0 + 1) }).dropFrame i) := by
  simp only [State.xr] at hk
  simp only [State.xDispose, hheld, hk, if_neg (show ¬ 4 < 0 by decide)]
  rfl

theorem State.xDispose_endPass (hheld : s.held h = some (i, f)) (hk : (s.xr h (rvRs1 w)).toNat % 16 = 1) :
    s.xDispose h w = (.ok ((s.hart h).pc + 4, retEv), (s.frameLeft h).endPass i (s.takeDest f (s.hart h).dest)) := by
  simp only [State.xr] at hk
  simp only [State.xDispose, hheld, hk, if_neg (show ¬ 4 < 1 by decide)]
  rfl

theorem State.xDispose_exception (hheld : s.held h = some (i, f)) (hk : (s.xr h (rvRs1 w)).toNat % 16 = 4) :
    s.xDispose h w = (.ok ((s.hart h).pc + 4, retEv),
      ((s.frameLeft h).clExc (s.takeDest f (s.hart h).dest) false 3 ((s.xr h (rvRs2 w)).toNat % 256)).dropFrame i) := by
  simp only [State.xr] at hk
  simp only [State.xDispose, hheld, hk, if_neg (show ¬ 4 < 4 by decide)]
  rfl

end Dispose

/-! Tables (R432, R433) -/

/-- A second value of a key replaces the first. -/
theorem SMap.put_put {α : Type} (m : SMap α) (k : Nat) (u v : α) : SMap.put (SMap.put m k u) k v = SMap.put m k v := by
  induction m with
  | nil => simp [SMap.put]
  | cons c r ih =>
    obtain ⟨j, x⟩ := c
    simp only [SMap.put]
    split
    · simp [SMap.put]
    · split
      · simp [SMap.put]
      · rename_i hlt hne
        simp [SMap.put, hlt, hne, ih]

/-- Two registers written in turn are one write of the thread. -/
theorem State.putX_putX (s : State) (h a b u v : Nat) :
    (s.putX h a u).putX h b v = s.setHart h (((s.hart h).wx a (BitVec.ofNat 64 u)).wx b (BitVec.ofNat 64 v)) := by
  rw [State.putX, State.putX, State.hart_setHart_self, State.setHart, State.setHart, SMap.put_put]
  rfl

/-- TLK of a table in use whose lines are cached gives the entry found, marked valid, or zeros (R432). -/
theorem State.xTlk_of_cached {s t : State} {h w : Nat} {key : List Byte} {tb : Table} :
    let r := s.lookupProfile ((s.xr h (rvRs2 w)).toNat % 256)
    let n := u8 r 0 % 64
    s.addrRead h (s.xr h (rvRs1 w)).toNat (u8 r 2) = (.ok key, t) → t.table? n = some tb → (u8 r 0).testBit 7 = true →
    t.missingLines n tb tb.act key = [] →
    let x := t.lookupNow n tb key ((u8 r 0).testBit 6) (some tb.act.tag) []
    let e := match x.1 with
      | some e => patch (tb.result e) 0 [BitVec.ofNat 8 (setBits (u8 (tb.result e) 0) 7 7 1)]
      | none => zeros 16
    s.xTlk h w = (.ok ((s.hart h).pc + 4, specEv), (x.2.putX h (rvRd w) (u64 e 0)).putX h (rvRd w + 1) (u64 e 8)) := by
  intro r n hread htb hon hmiss x e
  have hused : ¬ (!(u8 r 0).testBit 7) = true := by simp [hon]
  subst x e n r
  rw [State.putX_putX]
  simp only [State.xr] at hread htb hused hmiss ⊢
  simp only [State.xTlk, hread, htb, if_neg hused, hmiss, List.isEmpty_nil, if_true, State.go]
  cases (t.lookupNow _ tb key _ _ []).1 <;> rfl

section ClusterTables

variable {s t : State} {h w : Nat} {d : Nat × Nat × Nat} {key img : List Byte}

theorem State.xCtFind_of_key (hkey : s.ctKey h w 0 = (.ok (d, key), t)) :
    s.xCtFind h w = (.ok ((s.hart h).pc + 4, specEv), t.putX h (rvRd w)
      (match ctFindEntry (t.cluster (hartCl h)).shared d key with | some o => o + 0x20000000 | none => 0)) := by
  simp only [State.xCtFind, hkey]
  rfl

theorem State.xCtDel_of_absent (hkey : s.ctKey h w 0 = (.ok (d, key), t))
    (hfind : ctFindEntry (t.cluster (hartCl h)).shared d key = none) :
    s.xCtDel h w = (.ok ((s.hart h).pc + 4, retEv), t.putX h (rvRd w) 0) := by
  simp only [State.xCtDel, hkey, hfind]
  rfl

theorem State.xCtDel_of_found {o : Nat} (hkey : s.ctKey h w 0 = (.ok (d, key), t))
    (hfind : ctFindEntry (t.cluster (hartCl h)).shared d key = some o) :
    let g := t.cluster (hartCl h)
    s.xCtDel h w = (.ok ((s.hart h).pc + 4, retEv),
      ((t.setCluster (hartCl h) { g with shared := Mem.wr g.shared (o + 32) (Mem.rd g.shared (o + 32) &&& 0xFE) }).breakResv
        (hartCl h) 0 (o + 32) 1).putX h (rvRd w) 1) := by
  simp only [State.xCtDel, hkey, hfind]
  rfl

theorem State.xCtIns_of_found {o : Nat} (hkey : s.ctKey h w 64 = (.ok (d, img), t))
    (hfind : ctFindEntry (t.cluster (hartCl h)).shared d (img.take d.2.2) = some o) :
    s.xCtIns h w = (.ok ((s.hart h).pc + 4, retEv), t.putX h (rvRd w) (o + 0x20000001)) := by
  simp only [State.xCtIns, hkey, hfind]
  rfl

theorem State.xCtIns_of_free {o : Nat} (hkey : s.ctKey h w 64 = (.ok (d, img), t)) :
    let key := img.take d.2.2
    let g := t.cluster (hartCl h)
    ctFindEntry g.shared d key = none →
    (ctBucket d key).find? (fun o => !(u8 (Mem.rdN g.shared (o + 32) 1) 0).testBit 0) = some o →
    let e := fit 32 key ++ leBytes 2 (setBits (u16 img 32) 0 0 1) ++ leBytes 2 (t.hart h).tag ++ slice img 36 28
    s.xCtIns h w = (.ok ((s.hart h).pc + 4, retEv),
      ((t.setCluster (hartCl h) { g with shared := Mem.wrN g.shared o e }).breakResv (hartCl h) 0 o 64).putX h (rvRd w)
        (o + 0x20000000)) := by
  intro key g hfind hfree e
  subst e g key
  simp only [State.xCtIns, hkey, hfind, hfree]
  rfl

end ClusterTables

/-! Counters, messages, rates, ciphers and random numbers (R351, R429, R434, R435) -/

theorem State.xCntAdd_of_le {s : State} {h w : Nat} (hi : (s.xr h (rvRs1 w)).toNat ≤ 4095) :
    s.xCntAdd h w = (.ok ((s.hart h).pc + 4, retEv),
      s.bump64 (Reg.CNT (hartCl h) (s.xr h (rvRs1 w)).toNat) (s.xr h (rvRs2 w)).toNat) :=
  if_neg hi.not_gt

theorem State.xEnq_of_read {s t : State} {h w : Nat} {m : List Byte}
    (hread : s.addrRead h (s.xr h (rvRs1 w)).toNat 32 = (.ok m, t)) :
    let b := s.xr h (rvRs2 w)
    let c := b.toNat % 32
    let ok := t.accepting (21 + c) && decide ((t.cluster c).msgs.length < 256)
    let t1 := t.postMsg c { vec := bits b.toNat 13 8, flask := (s.hart h).tag, bytes := m }
    s.xEnq h w = (.ok ((s.hart h).pc + 4, retEv), t1.setHart h ((t1.hart h).wx (rvRd w) (flagD (!ok)))) := by
  simp only [State.xr] at hread ⊢
  simp only [State.xEnq, hread]
  rfl

theorem State.xRateSet_of_none {s : State} {h w : Nat} (hq : s.tmq? ((s.xr h (rvRs1 w)).toNat % 65536) = none) :
    s.xRateSet h w = (.ok ((s.hart h).pc + 4, retEv), s.bump Reg.TM_RATE_REJECT) := by
  simp only [State.xr] at hq
  simp only [State.xRateSet, hq]

theorem State.xRateSet_of_member {s : State} {h w : Nat} {x : TmQ} (hq : s.tmq? ((s.xr h (rvRs1 w)).toNat % 65536) = some x)
    (hon : x.flags.testBit 0 = true) (hmem : (s.regN (Reg.CL_ENGINE_SET (u8 x.rcd 7 % 16))).testBit (hartCl h) = true) :
    s.xRateSet h w = (.ok ((s.hart h).pc + 4, retEv), s.setTmq ((s.xr h (rvRs1 w)).toNat % 65536)
      { x with sh := x.sh.fill x.rcd x.pir s.now, engRate := some ((s.xr h (rvRs2 w)).toNat % 2 ^ 32) }) := by
  simp only [State.xr] at hq ⊢
  simp only [State.xRateSet, hq, hon, hmem, Bool.and_self, if_true]

theorem State.xCrypt_of_badSlot {s t : State} {h w : Nat} {r : List Byte}
    (hread : s.addrRead h (s.xr h (rvRs1 w)).toNat 48 = (.ok r, t))
    (hslot : rawSlotOk (t.keySlot (crSlot r)) (s.hart h).tag (crMode r) = false) :
    s.xCrypt h w = (.ok ((s.hart h).pc + 4, retEv), t.putX h (rvRd w) cBadDescriptor) := by
  simp only [State.xr] at hread
  simp only [State.xCrypt, hread, hslot, Bool.not_false, Bool.true_or, if_true]
  rfl

theorem State.xRand_of_ready {s : State} {h w : Nat} (hst : s.rngState = 1) (hheld : s.cx.rng.held = []) :
    s.xRand h w = (.ok ((s.hart h).pc + 4, retEv), (s.rngServe 8).2.putX h (rvRd w) (leNat (s.rngServe 8).1)) :=
  (if_neg (by omega)).trans (if_pos ⟨hst, hheld⟩)

/-! Runs and the supervisor (R418, R420, R423) -/

theorem State.xYield_of_atInstr {s : State} {h w : Nat} (hat : s.atInstr h .yield w) :
    s.xYield h = (((s.retire h ((s.hart h).pc + 4) retEv).endRun h true).switchImage h).stepEnd h := by
  obtain ⟨raw, n, hnext⟩ := State.nextInstr_of_atInstr (p := (· == .yield)) hat (by simp)
  obtain ⟨-, -, -, -, -, htrig, -⟩ := hat
  simp only [State.xYield, hnext, htrig, Bool.false_eq_true, if_false]

theorem State.xWaitT_of_atInstr {s : State} {h w : Nat} (hat : s.atInstr h .waitT w) :
    let s1 := s.modHart h (fun x => { x with resv := none })
    s.xWaitT h = if (s.hart h).tcmp ≤ s.etime then s1.waitEnd h else s1.modHart h (fun x => { x with st := .waiting }) := by
  obtain ⟨raw, n, hnext⟩ := State.nextInstr_of_atInstr (p := (· == .waitT)) hat (by simp)
  obtain ⟨-, -, -, -, -, htrig, -⟩ := hat
  simp only [State.xWaitT, hnext, htrig, Bool.false_eq_true, if_false]

section Supervisor

variable {s : State} {h w v : Nat}

theorem State.xTres_of_halted (hsup : isSup h = true) (hv : s.halted h (s.xr h (rvRs1 w)).toNat = some v) :
    s.xTres h w = match (s.xr h (rvRs2 w)).toNat % 4 with
      | 0 => (.ok ((s.hart h).pc + 4, retEv), s.modHart v (fun x => { x with st := .running, posting := none }))
      | 1 => (.ok ((s.hart h).pc + 4, retEv),
          s.modHart v (fun x => { x with st := .running, posting := none, pc := x.pc + BitVec.ofNat 64 (s.instrLen v) }))
      | 2 => (.ok ((s.hart h).pc + 4, retEv), (s.killRun v).switchImage v)
      | _ => (.error (trapX 7), s) := by
  simp only [State.xr] at hv
  simp only [State.xTres, hsup, Bool.not_true, Bool.false_eq_true, if_false, hv]
  rfl

theorem State.xTregR_of_halted {x : Nat} (hsup : isSup h = true) (hv : s.halted h (s.xr h (rvRs1 w)).toNat = some v)
    (hx : (s.hart v).treg (s.xr h (rvRs2 w)).toNat = some x) :
    s.xTregR h w = (.ok ((s.hart h).pc + 4, specEv), s.putX h (rvRd w) x) := by
  simp only [State.xr] at hv hx
  simp only [State.xTregR, hsup, Bool.not_true, Bool.false_eq_true, if_false, hv, hx]
  rfl

theorem State.xTregW_of_halted (hsup : isSup h = true) (hv : s.halted h ((s.xr h (rvRs1 w)).toNat % 8) = some v)
    (hx : ((s.hart v).treg (bits (s.xr h (rvRs1 w)).toNat 15 8)).isSome = true) :
    s.xTregW h w = (.ok ((s.hart h).pc + 4, retEv),
      s.modHart v (fun x => x.setTreg (bits (s.xr h (rvRs1 w)).toNat 15 8) (s.xr h (rvRs2 w)).toNat)) := by
  have hsome : ¬ ((s.hart v).treg (bits ((s.hart h).rx (rvRs1 w)).toNat 15 8)).isNone = true := by
    rw [Option.isNone_iff_eq_none, ← Option.not_isSome_iff_eq_none, not_not]
    exact hx
  simp only [State.xr] at hv ⊢
  simp only [State.xTregW, hsup, Bool.not_true, Bool.false_eq_true, if_false, hv, if_neg hsome]

end Supervisor

/-! RISC-V (R406) -/

section Rv

variable {s : State} {h w raw n : Nat}

theorem State.rvInstr_of_fetch (hf : s.fetch h = .ok (raw, w, n)) : s.rvInstr h = s.rvExec h w raw n := by
  rw [State.rvInstr, hf]

theorem State.rvExec_opImm {v : DWord} (hop : w % 128 = 0x13) (hv : rvOpImm w (s.xr h (rvRs1 w)) = some v) :
    s.rvExec h w raw n = (.ok ((s.hart h).pc + BitVec.ofNat 64 n, []), s.setHart h ((s.hart h).wx (rvRd w) v)) := by
  simp only [State.xr] at hv
  simp only [State.rvExec, hop, hv]
  rfl

theorem State.rvExec_op {v : DWord} (hop : w % 128 = 0x33)
    (hv : rvOp (rvF7 w) (rvF3 w) (s.xr h (rvRs1 w)) (s.xr h (rvRs2 w)) = some v) :
    s.rvExec h w raw n = (.ok ((s.hart h).pc + BitVec.ofNat 64 n, []), s.setHart h ((s.hart h).wx (rvRd w) v)) := by
  simp only [State.xr] at hv
  simp only [State.rvExec, hop, hv]
  rfl

theorem State.rvExec_branch {tk : Bool} (hop : w % 128 = 0x63)
    (hv : rvTaken (rvF3 w) (s.xr h (rvRs1 w)) (s.xr h (rvRs2 w)) = some tk) :
    s.rvExec h w raw n =
      (.ok (if tk then (s.hart h).pc + immB w else (s.hart h).pc + BitVec.ofNat 64 n, []), s) := by
  simp only [State.xr] at hv
  simp only [State.rvExec, hop, hv]

end Rv

/-! The statement -/

/-- Settles O50. -/
theorem engineInstructionsComplete : Obligations.EngineInstructionsComplete := by
  intro h w s k a b rd nxt at_
  refine ⟨?_, ?_, ?_, ?_, ?_, ?_, ?_, ?_, ?_, ?_, ?_, ?_, ?_, ?_, ?_, ?_⟩
  · intro i f hheld ld st
    refine ⟨?_, ?_, ?_, ?_, ?_, ?_, ?_, ?_, ?_, ?_, ?_, ?_, ?_, ?_, ?_⟩
    · exact fun hat hfits => ends_of_retire rfl hat (State.xHdrLd_of_fits hheld hfits)
    · exact fun hat hfits => ends_of_retire rfl hat (State.xHdrLd_of_fits hheld hfits)
    · exact fun hat hfits => ends_of_retire rfl hat (State.xHdrLd_of_fits hheld hfits)
    · exact fun hat hfits => ends_of_retire rfl hat (State.xHdrLd_of_fits hheld hfits)
    · exact fun hat hfits => ends_of_retire rfl hat (State.xHdrSt_of_fits hheld hfits)
    · exact fun hat hfits => ends_of_retire rfl hat (State.xHdrSt_of_fits hheld hfits)
    · exact fun hat hfits => ends_of_retire rfl hat (State.xHdrSt_of_fits hheld hfits)
    · exact fun hat hfits => ends_of_retire rfl hat (State.xHdrSt_of_fits hheld hfits)
    · exact fun t hat hfits hlen hwrite => ends_of_retire rfl hat (State.xPktRd_of_fits hheld hfits hlen hwrite)
    · exact fun d t hat hfits hlen hread => ends_of_retire rfl hat (State.xPktWr_of_fits hheld hfits hlen hread)
    · intro hat hlo hhi hmin hmax
      have hadj := State.xPktAdj_of_fits hheld rfl hlo hhi hmin hmax
      exact ⟨fun hpos => ends_of_retire rfl hat (hadj.trans (by rw [if_pos hpos])),
        fun hneg => ends_of_retire rfl hat (hadj.trans (by rw [if_neg (Int.not_le.mpr hneg)]))⟩
    · exact fun hat h6 => ends_of_retire rfl hat (State.xMetaRd_six hheld h6)
    · exact fun hat h3 => ends_of_retire rfl hat (State.xMetaRd_three hheld h3)
    · exact fun hat h3 => ends_of_retire rfl hat (State.xMetaWr_three hheld h3)
    · intro hat g s1 c p
      exact ⟨fun hk => ends_of_retire rfl hat (State.xDispose_drop hheld hk),
        fun hk => ends_of_retire rfl hat (State.xDispose_endPass hheld hk),
        fun hk => ends_of_retire rfl hat (State.xDispose_exception hheld hk)⟩
  · intro key t tb hat p n hread htb hon hmiss x put
    have htlk := State.xTlk_of_cached hread htb hon hmiss
    exact ⟨fun e he => ends_of_retire rfl hat (htlk.trans (by rw [show (t.lookupNow _ tb key _ _ []).1 = _ from he])),
      fun he => ends_of_retire rfl hat (htlk.trans (by rw [show (t.lookupNow _ tb key _ _ []).1 = _ from he]))⟩
  · intro d key t hkey
    exact ⟨fun hat => ends_of_retire rfl hat (State.xCtFind_of_key hkey),
      fun hat hfind => ends_of_retire rfl hat (State.xCtDel_of_absent hkey hfind),
      fun o hat hfind => ends_of_retire rfl hat (State.xCtDel_of_found hkey hfind)⟩
  · intro d img t hat hkey key g
    exact ⟨fun o hfind => ends_of_retire rfl hat (State.xCtIns_of_found hkey hfind),
      fun o hfind hfree => ends_of_retire rfl hat (State.xCtIns_of_free hkey hfind hfree)⟩
  · exact fun hat hi => ends_of_retire rfl hat (State.xCntAdd_of_le hi)
  · exact fun m t hat hread => ends_of_retire rfl hat (State.xEnq_of_read hread)
  · exact fun hat => ⟨fun hq => ends_of_retire rfl hat (State.xRateSet_of_none hq),
      fun x hq hon hmem => ends_of_retire rfl hat (State.xRateSet_of_member hq hon hmem)⟩
  · exact fun r t hat hread hslot => ends_of_retire rfl hat (State.xCrypt_of_badSlot hread hslot)
  · exact fun hat hst hnone => ends_of_retire rfl hat (State.xRand_of_ready hst hnone)
  · exact fun hat => ends_of_finish rfl (State.xYield_of_atInstr hat)
  · intro hat s1
    exact ⟨fun hpast => ends_of_finish rfl ((State.xWaitT_of_atInstr hat).trans (if_pos hpast)),
      fun hahead => ends_of_finish rfl ((State.xWaitT_of_atInstr hat).trans (if_neg hahead.not_ge))⟩
  · intro v hsup
    refine ⟨fun hat hv => ?_, fun x hat hv hx => ends_of_retire rfl hat (State.xTregR_of_halted hsup hv hx),
      fun hat hv hx => ends_of_retire rfl hat (State.xTregW_of_halted hsup hv hx)⟩
    have htres := State.xTres_of_halted hsup hv
    exact ⟨fun hb => ends_of_retire rfl hat (htres.trans (by rw [hb]; rfl)),
      fun hb => ends_of_retire rfl hat (htres.trans (by rw [hb]; rfl)),
      fun hb => ends_of_retire rfl hat (htres.trans (by rw [hb]; rfl))⟩
  · intro fa fb arith
    exact ⟨fun hat => ends_rate (op := 0) (by decide) hat rfl, fun hat => ends_rate (op := 1) (by decide) hat rfl,
      fun hat => ends_rate (op := 2) (by decide) hat rfl, fun hat => ends_rate (op := 3) (by decide) hat rfl,
      fun hat => ends_rate (op := 4) (by decide) hat rfl, fun hat => ends_rate (op := 5) (by decide) hat rfl,
      fun hat => ends_rcvtWu hat rfl, fun hat => ends_of_retire rfl hat rfl⟩
  · exact fun hat => ends_of_trap rfl hat rfl
  · exact fun hat => ⟨fun hd => ends_of_trap rfl hat (congrArg (fun e => (Except.error e, s)) (if_pos hd)),
      fun hd => ends_of_trap rfl hat (congrArg (fun e => (Except.error e, s)) (if_neg (ne_true_of_eq_false hd)))⟩
  · intro raw n hat hf
    have hrv := State.rvInstr_of_fetch hf
    exact ⟨fun nx ev t hx => ends_of_retire rfl hat (hrv.trans hx), fun e t hx => ends_of_trap rfl hat (hrv.trans hx),
      fun hop v hv => ends_of_retire rfl hat (hrv.trans (State.rvExec_opImm hop hv)),
      fun hop v hv => ends_of_retire rfl hat (hrv.trans (State.rvExec_op hop hv)),
      fun hop tk hv => ends_of_retire rfl hat (hrv.trans (State.rvExec_branch hop hv))⟩

end Sys2Proof.Machine

/-! CLAIM. The bulk movers, the mailboxes and the DRAM channels (13, 14, 16): the statements O53, O54 and O55. -/

namespace Sys2Proof.Machine

open Sys2Proof

/-! Movers -/

section Descriptor

variable {s : State} {c op : Nat} {j : MvJob}

/-- The conditions under which a descriptor just taken begins its own work (R462). -/
theorem not_notBegun (hphase : j.phase = .taken) (hop : j.op = op) (hhost : (s.mvDrop c).mvHostOk j = true)
    (hon : (s.mvDrop c).inService 12 = true) :
    ¬ (j.phase ≠ .taken ∨ j.op ≠ op ∨ (s.mvDrop c).mvHostOk j = false ∨ (s.mvDrop c).inService 12 = false) := by
  simp [hphase, hop, hhost, hon]

/-- A descriptor with an index array asks for it (R462). -/
theorem State.mvBegin_of_indexed (hjob : ((s.mvDrop c).mvChan c).job = some j) (hphase : j.phase = .taken) (hop : j.op = op)
    (hhost : (s.mvDrop c).mvHostOk j = true) (hon : (s.mvDrop c).inService 12 = true) (hix : j.indexed = true) :
    let t := s.mvDrop c
    s.mvBegin c op = if j.idxSp = 0 then (t.emit (.hostRead j.fn j.index (j.count * 4))).setJob c { j with phase := .index }
      else
        let r := t.mvRead j j.idxSp j.index (j.count * 4)
        if r.2.1 then r.2.2.mvEcc c j else r.2.2.mvIndexed c j r.1 := by
  simp only [State.mvBegin, hjob, if_neg (not_notBegun hphase hop hhost hon), hix, if_true]

/-- Any other descriptor asks for its first chunk, unless it copies a range onto itself (R468). -/
theorem State.mvBegin_of_plain (hjob : ((s.mvDrop c).mvChan c).job = some j) (hphase : j.phase = .taken) (hop : j.op = op)
    (hhost : (s.mvDrop c).mvHostOk j = true) (hon : (s.mvDrop c).inService 12 = true) (hix : j.indexed = false) :
    s.mvBegin c op = if op = 0x30 ∧ j.cipher = false ∧ j.srcSp = j.dstSp ∧ j.src = j.dst then (s.mvDrop c).mvEnd c cOk j.len
      else (s.mvDrop c).mvAsk c j := by
  simp only [State.mvBegin, hjob, if_neg (not_notBegun hphase hop hhost hon), hix, Bool.false_eq_true, if_false]

/-- A descriptor that is not a copy asks for its first chunk. -/
theorem State.mvBegin_of_noCopy (hjob : ((s.mvDrop c).mvChan c).job = some j) (hphase : j.phase = .taken) (hop : j.op = op)
    (hhost : (s.mvDrop c).mvHostOk j = true) (hon : (s.mvDrop c).inService 12 = true) (hix : j.indexed = false) (hne : op ≠ 0x30) :
    s.mvBegin c op = (s.mvDrop c).mvAsk c j :=
  (State.mvBegin_of_plain hjob hphase hop hhost hon hix).trans (if_neg (fun h => hne h.1))

end Descriptor

/-- Settles O53. -/
theorem moversComplete : Obligations.MoversComplete := by
  refine ⟨?_, ?_, ?_, ?_, ?_, ?_, ?_, ?_, ?_, ?_, ?_, ?_⟩
  · intro c s j t hjob hphase hhost hon
    refine ⟨fun hix => ⟨?_, ?_, ?_, ?_, ?_, ?_, ?_, ?_⟩, fun hix => ?_⟩
    · exact fun hop hciph hsp haddr => ends_of_finish rfl ((State.mvBegin_of_plain hjob hphase hop hhost hon hix).trans
        (if_pos ⟨rfl, hciph, hsp, haddr⟩))
    · refine fun hop hdiff => ends_of_finish rfl ((State.mvBegin_of_plain hjob hphase hop hhost hon hix).trans (if_neg ?_))
      rintro ⟨-, hciph, hsp, haddr⟩
      rcases hdiff with h | h | h
      exacts [ne_true_of_eq_false hciph h, h hsp, h haddr]
    · exact fun hop => ends_of_finish rfl (State.mvBegin_of_noCopy hjob hphase hop hhost hon hix (by decide))
    · exact fun hop => ends_of_finish rfl (State.mvBegin_of_noCopy hjob hphase hop hhost hon hix (by decide))
    · exact fun hop => ends_of_finish rfl (State.mvBegin_of_noCopy hjob hphase hop hhost hon hix (by decide))
    · exact fun hop => ends_of_finish rfl (State.mvBegin_of_noCopy hjob hphase hop hhost hon hix (by decide))
    · exact fun hop => ends_of_finish rfl (State.mvBegin_of_noCopy hjob hphase hop hhost hon hix (by decide))
    · exact fun hop => ends_of_finish rfl (State.mvBegin_of_noCopy hjob hphase hop hhost hon hix (by decide))
    · exact ⟨fun hop => ends_of_finish rfl (State.mvBegin_of_indexed hjob hphase hop hhost hon hix),
        fun hop => ends_of_finish rfl (State.mvBegin_of_indexed hjob hphase hop hhost hon hix)⟩
  · intro c g e q s hc t hjob hon hctrl hchan hqueue hq s1
    have hgo : ¬ (((s.mvDrop c).mvChan c).job.isSome || !(s.mvDrop c).inService 12 || !(s.mvDrop c).flag Reg.MV_CTRL 31 ||
        !(s.mvDrop c).flag (Reg.MV_CHAN_W0 c) 31 || decide (128 ≤ c)) = true := by
      subst t
      simp [hjob, hon, hctrl, hchan]
      omega
    refine ends_of_finish rfl ((if_neg hgo).trans ((if_pos hc).trans ?_))
    subst s1 t
    simp only [hqueue, hq]
  · intro c s j d t hjob hphase hhost hon hciph n
    have hgo : ¬ (j.phase ≠ .run ∨ (s.mvDrop c).mvHostOk j = false ∨ (s.mvDrop c).inService 12 = false) := by
      subst t
      simp [hphase, hhost, hon]
    subst t n
    refine ⟨fun hop hn => ends_of_finish rfl ?_, fun hop hbuf => ends_of_finish rfl ?_⟩
    · simp only [State.mvChunk, hjob, if_neg hgo, if_pos hop, if_neg hn.not_gt]
    · simp only [State.mvChunk, hjob, if_neg hgo, if_neg hop, hbuf, hciph, Bool.false_eq_true, if_false]
  · intro c n s j t hjob
    subst t
    refine ⟨fun hphase => ends_of_finish rfl (by simp only [hjob, hphase]), ?_⟩
    rintro (hphase | hphase) <;> exact ends_of_finish rfl (by simp only [hjob, hphase])
  · intro c g i s j t hjob hphase horg
    subst t
    exact ends_of_finish rfl (by simp only [hjob, hphase, horg])
  · intro c s hc hen hon p r
    have hgo : ¬ (31 < c ∨ s.flag (Reg.MV_ERING c) 31 = false ∨ s.inService 12 = false) := by simp [hc, hen, hon]
    refine ⟨fun hback hfar => ends_of_finish rfl ((if_neg hgo).trans (if_neg ?_)),
      fun hback => ends_of_finish rfl ((if_neg hgo).trans (if_pos ?_))⟩
    · exact ne_true_of_eq_false (Bool.or_eq_false_iff.mpr ⟨decide_eq_false hback.not_ge, decide_eq_false hfar.not_gt⟩)
    · exact Bool.or_eq_true_iff.mpr (Or.inl (decide_eq_true hback))
  · intro w u
    exact carries_of_done (fun _ => rfl) rfl
  · intro w u q hq hkind hc
    refine carries_of_done (fun _ => rfl) ?_
    simp only [mvBindBody, hq, if_neg (show ¬ (q.kind ≠ 3 ∨ 95 < w.u8 2) by omega)]
  · intro w u hc
    exact carries_of_done (fun _ => rfl) (if_neg (by omega))
  · intro w u
    exact carries_of_done (fun _ => rfl) rfl
  · intro w u hc c v a r hlo hhi harea hclear hempty s1
    refine carries_of_done (fun _ => rfl) ((if_neg (not_or.mpr ⟨hc.not_gt, ne_true_of_eq_false ?_⟩)).trans (if_neg (not_not.mpr hempty)))
    exact Bool.or_eq_false_iff.mpr ⟨Bool.or_eq_false_iff.mpr ⟨Bool.or_eq_false_iff.mpr
      ⟨decide_eq_false hlo.not_gt, decide_eq_false hhi.not_gt⟩, decide_eq_false harea.not_gt⟩, hclear⟩
  · intro w u hc c
    exact carries_of_done (fun _ => rfl) (if_neg (by omega))

/-! Mailboxes -/

/-- Settles O54. -/
theorem mailboxesComplete : Obligations.MailboxesComplete := by
  refine ⟨?_, ?_, ?_, ?_, ?_, ?_, ?_⟩
  · intro user key b s htakes me ans
    have htakes' : ¬ (!s.mbTakes user key b) = true := by simp [htakes]
    refine ⟨fun w => ⟨ends_of_finish rfl (if_pos htakes), ends_of_finish rfl (if_pos htakes)⟩, ?_, ?_, fun hfree => ?_, fun hlocked => ?_⟩
    · exact ends_of_finish rfl (congrArg (State.mbAnswer · user key) (if_pos htakes))
    · exact ends_of_finish rfl (congrArg (State.mbAnswer · user key) (if_pos htakes))
    · exact ends_of_finish rfl ((if_neg htakes').trans (if_neg (ne_true_of_eq_false hfree)))
    · exact ends_of_finish rfl ((if_neg htakes').trans (if_pos hlocked))
  · intro key t b s ht
    exact ends_of_finish rfl (by simp only [ht])
  · intro key b s hheld hon
    exact ends_of_finish rfl (if_neg (by simp [hheld, hon]))
  · intro key t b s ht
    exact ends_of_finish rfl (by simp only [ht])
  · intro w u hlo hhi hc key en c p hab hba ha hb hroom
    have hidle : ¬ (!p.ab.isEmpty || !p.ba.isEmpty || p.a.lock.isSome || p.b.lock.isSome) = true := by simp [hab, hba, ha, hb]
    refine carries_of_done (fun _ => rfl) ((if_neg (by omega)).trans ((if_neg hidle).trans (if_neg ?_)))
    rcases hroom with hoff | hroom
    · exact ne_true_of_eq_false (Bool.and_eq_false_iff.mpr (Or.inl hoff))
    · exact ne_true_of_eq_false (Bool.and_eq_false_iff.mpr (Or.inr (decide_eq_false hroom.not_ge)))
  · intro w u hu hk hr hix a
    refine carries_of_done (fun _ => rfl) (if_neg ?_)
    exact not_or.mpr ⟨hu.not_gt, not_or.mpr ⟨hk.not_gt, not_or.mpr ⟨hr.not_ge, ne_false_of_eq_true hix⟩⟩⟩
  · intro w u hv
    exact carries_of_done (fun _ => rfl) (if_neg hv.not_gt)

/-! DRAM channels -/

/-- A refresh of a rank in use while the panic level is down is issued with every postponed one (R531). -/
theorem State.refresh_of_calm {s : State} {c r : Nat} (hserve : s.dramServes c = true) (hrank : s.rankSt c r ≠ 0)
    (hcalm : s.flag Reg.TM_STATE 1 = false) :
    let x := s.chan c
    let n := SMap.getD x.intervals r 0 + 1
    let fresh := decide (8192 ≤ n)
    let x1 := { x with intervals := SMap.put x.intervals r (if fresh then 0 else n),
                       acts := if fresh then x.acts.filter (fun e => e.1 / 32 != r) else x.acts,
                       owed := SMap.put x.owed r 0, opened := x.opened.filter (fun e => e.1 / 32 != r) }
    Ends (.refresh c r) s ((s.setChan c x1).emit (.dramCmd c r 0 (SMap.getD x.owed r 0 + 1))) := by
  have hgo : ¬ (!s.dramServes c || s.rankSt c r == 0) = true := by simp [hserve, hrank]
  refine ends_of_finish rfl ((if_neg hgo).trans ?_)
  simp only [hcalm, Bool.false_and, Bool.false_eq_true, if_false, Nat.sub_zero]

/-- A negated test swaps its branches. -/
theorem if_bnot {α : Type} (b : Bool) (x y : α) : (if (!b) = true then x else y) = if b = true then y else x := by
  cases b <;> rfl

/-- What a scrub writes of a channel leaves the offsets that memory stands behind. -/
theorem State.dramHas_scrubbed (s : State) (c : Nat) (last : Bool) (x : DramChan) (a : Nat) :
    (if last then (s.setChan c x).bump (Reg.DC_SCRUB_PASSES c) else s.setChan c x).dramHas a = s.dramHas a := by
  cases last
  · rfl
  · simp only [if_true, State.dramHas, State.segBytes, State.bump, State.bumpN, State.setRegN_dr]
    rfl

/-- A patrol scrub of a channel that moves no slice reads its next line (R538). -/
theorem State.patrolScrub_of_noMig {s : State} {c : Nat} (hserve : s.dramServes c = true) (hup : s.dr.down = false)
    (hrate : s.fld (Reg.DC_CTRL c) 23 16 ≠ 0) (hmap : (s.chan c).map ≠ []) (hmig : (s.chan c).mig = none) :
    let x := s.chan c
    let k := x.scrub
    let last := decide (x.map.length * 2 ^ 22 ≤ k + 1)
    let s1 := s.setChan c { x with scrub := if last then 0 else k + 1 }
    let s2 := if last then s1.bump (Reg.DC_SCRUB_PASSES c) else s1
    let line := s2.lineOf c k
    Ends (.patrolScrub c) s (if s2.dramHas (line * 64) then s2.lineFound line else s2) := by
  intro x k last s1 s2 line
  have hgo : ¬ (!s.dramServes c || s.dr.down || s.fld (Reg.DC_CTRL c) 23 16 == 0) = true := by simp [hserve, hup, hrate]
  have hlines : ¬ (s.chan c).map.length * 2 ^ 22 = 0 := by simpa using hmap
  refine ends_of_finish rfl ((if_neg hgo).trans ((if_neg hlines).trans ?_))
  have hhas : ∀ a, s2.dramHas a = s.dramHas a := State.dramHas_scrubbed s c last _
  rw [hhas]
  subst line s2 s1 last k x
  simp only [hmig, Bool.false_or, if_bnot]

/-- Settles O55. -/
theorem dramCompletes : Obligations.DramCompletes := by
  refine ⟨?_, fun c r s => State.refresh_of_calm, ?_, ?_, fun c s => State.patrolScrub_of_noMig, ?_, ?_, ?_, ?_, ?_, ?_, ?_, ?_⟩
  · intro c reqs q s hserve l hq
    have hgo : ¬ (!s.dramServes c) = true := by simp [hserve]
    refine ends_of_finish rfl ((if_neg hgo).trans ?_)
    subst l
    simp only [hq]
  · intro c temps s hserve rs x2 hot s2
    exact ends_of_finish rfl (if_neg (by simp [hserve]))
  · intro line s hserve
    exact ⟨fun hup => ends_of_finish rfl (if_pos (by simp [hserve, hup])), fun use => ends_of_finish rfl (if_pos hserve)⟩
  · intro c drifted s hserve x s1 next
    have hgo : ¬ (!s.dramServes c) = true := by simp [hserve]
    refine ⟨fun hpanic hroom => ends_of_finish rfl ((if_neg hgo).trans (if_pos ?_)),
      fun hrun => ends_of_finish rfl ((if_neg hgo).trans (if_neg ?_))⟩
    · exact Bool.and_eq_true_iff.mpr ⟨hpanic, decide_eq_true hroom⟩
    · refine ne_true_of_eq_false (Bool.and_eq_false_iff.mpr ?_)
      exact hrun.imp id (fun h => decide_eq_false h.not_gt)
  · intro c s hserve hup
    exact ends_of_finish rfl (if_pos (by simp [hserve, hup]))
  · intro c s hserve hup r hr
    exact ends_of_finish rfl (by simp only [hr, hserve, hup, Bool.not_false, Bool.and_self, if_true])
  · intro w u hc c
    exact carries_of_done (fun _ => rfl) (if_neg hc.not_gt)
  · intro w u c cs hcs
    exact carries_of_done (fun _ => rfl) (by simp only [dcSetParamsBody, hcs])
  · intro w u hc hr hrank c r t
    have hactive : ¬ (u.rankSt (w.u8 0) (w.u8 1) != 1) = true := by simp [hrank]
    exact ⟨fun hdown => carries_of_done (fun _ => rfl) ((if_neg (by omega)).trans ((if_neg hactive).trans (if_pos hdown))),
      fun hup => pends_of_pend (fun _ => rfl)
        ((if_neg (by omega)).trans ((if_neg hactive).trans (if_neg (ne_true_of_eq_false hup))))⟩
  · intro w u
    exact carries_of_done (fun _ => rfl) rfl
  · intro w u hlo hhi hhas code
    exact carries_of_done (fun _ => rfl)
      (if_neg (not_or.mpr ⟨hlo.not_gt, not_or.mpr ⟨hhi.not_gt, ne_false_of_eq_true hhas⟩⟩))

end Sys2Proof.Machine

/-! CLAIM. The convoy (17): the statements O57 and O58. -/

namespace Sys2Proof.Machine

open Sys2Proof

/-! Caravan links -/

section Flit

variable {c : Nat} {b : List Byte} {s : State}

/-- A flit of an up link that has its 256 bytes is looked at (R552). -/
theorem not_flitDropped (hc : c < 2) (hup : s.cpUp c = true) (hlen : b.length = 256) :
    ¬ (2 ≤ c ∨ s.cpUp c = false ∨ b.length ≠ 256) := by
  simp [hc, hup, hlen]

/-- The state after a flit of the link's epoch has returned its credits and acknowledged: a NAK sends again (R553, R554). -/
def State.flitCounted (s : State) (c : Nat) (b : List Byte) : State :=
  let s1 := ((s.bump64 (Reg.CP_FLITS_RX c) 1).credit c (u8 b 4) (u8 b 5)).flitAck c (u16 b 2 % 4096)
  if (u16 b 2).testBit 12 then s1.resend c none else s1

/-- What a good flit of the link's epoch does by its type (R552). -/
theorem ends_flit_of_good {type seq : Nat} {s2 : State} (hc : c < 2) (hup : s.cpUp c = true) (hlen : b.length = 256)
    (hcrc : u32 b 252 = crc32c (b.take 252)) (hepoch : u16 b 6 = s.regN (Reg.CP_EPOCH c)) (htype : u16 b 0 / 4096 = type)
    (hseq : u16 b 0 % 4096 = seq) (hcounted : s.flitCounted c b = s2) :
    Ends (.flit c b) s (if type = 1 ∨ type = 2 then
        if seq ≠ ((s2.cp c).rx + 1) % 4096 then s2.sendNak c
        else
          let s3 := s2.setCp c { s2.cp c with rx := seq, naked := false }
          (if type = 1 then s3.assemble c (slice b 8 244) else s3).sendFlit c 3 0 false (if type = 1 then 1 else 0)
            (if type = 2 then 1 else 0) []
      else s2) := by
  subst htype hseq hcounted
  exact ends_of_finish rfl ((if_neg (not_flitDropped hc hup hlen)).trans ((if_neg (not_not.mpr hcrc)).trans (if_neg (not_not.mpr hepoch))))

end Flit

/-- A width proposal with none of one's own out takes effect and is acknowledged (R556). -/
theorem ends_widthProposal_of_none {c m id : Nat} {s : State} (hc : c < 2) (hup : s.cpUp c = true)
    (hnone : (s.cp c).proposal = none) :
    let x := s.cp c
    let s1 := ((s.setCp c { x with proposal := none }).emit (.width c (m % 32) s.cvId true)).widthDone c (m % 32)
    Ends (.widthProposal c m id false) s
      (s1.setCp c { s1.cp c with unwanted := x.unwanted.filter (fun l => (m % 32).testBit l) }) := by
  have hgo : ¬ (2 ≤ c ∨ s.cpUp c = false) := by simp [hc, hup]
  refine ends_of_finish rfl ((if_neg hgo).trans ?_)
  simp only [hnone, Option.isSome_none, Bool.false_and, Bool.false_eq_true, if_false]

/-- Settles O57. -/
theorem convoyEventsComplete : Obligations.ConvoyEventsComplete := by
  refine ⟨?_, ?_, ?_, ?_, ?_, ?_, ?_, ?_, ?_, ?_, ?_, ?_, ?_, ?_, ?_, ?_, ?_⟩
  · intro c s hc hen hdown hon
    have hgo : ¬ (2 ≤ c ∨ s.cpEnabled c = false ∨ s.cpUp c = true ∨ s.inService 19 = false) := by simp [hc, hen, hdown, hon]
    refine ⟨fun hid ok => ends_of_finish rfl ((if_neg hgo).trans (if_pos hid)), fun hid hheld => ?_⟩
    have hheld' := ne_true_of_eq_false hheld
    exact ⟨ends_of_finish rfl ((if_neg hgo).trans ((if_neg hid.not_ge).trans ((if_neg hheld').trans (if_pos rfl)))),
      ends_of_finish rfl ((if_neg hgo).trans ((if_neg hid.not_ge).trans ((if_neg hheld').trans (if_neg (by decide)))))⟩
  · intro c info s hc htrained hdown hen
    have hgo : ¬ (2 ≤ c ∨ (s.cp c).trained = false ∨ s.cpUp c = true ∨ s.cpEnabled c = false) := by simp [hc, htrained, hdown, hen]
    refine ⟨fun hown => ends_of_finish rfl ((if_neg hgo).trans (if_pos hown)), fun hother hvendor hdevice hsize hport hid => ?_⟩
    have hfits : ¬ (info.vendor ≠ 0x1F1A ∨ info.device ≠ 0x8140 ∨ info.size ≠ s.cvSize ∨
        info.id ≠ (if c = 1 then (s.cvId + 1) % s.cvSize else (s.cvId + s.cvSize - 1) % s.cvSize) ∨ info.port ≠ 1 - c) := by
      simp only [hvendor, hdevice, hsize, hport, ← hid, ne_eq, not_true_eq_false, or_self, not_false_eq_true]
    refine ⟨fun hnew => ends_of_finish rfl ((if_neg hgo).trans ((if_neg hother).trans ((if_neg hfits).trans ?_))),
      fun t ht hin hep hep0 => ends_of_finish rfl ((if_neg hgo).trans ((if_neg hother).trans ((if_neg hfits).trans ?_))),
      fun t ht hlate => ends_of_finish rfl ((if_neg hgo).trans ((if_neg hother).trans ((if_neg hfits).trans ?_)))⟩
    · simp only [hnew]
    · simp only [ht]
      exact if_pos ⟨hin, hep, hep ▸ hep0⟩
    · simp only [ht]
      exact if_neg (fun h => hlate.not_ge h.1)
  · intro c b s hc hup hlen
    refine ⟨fun hcrc => ends_of_finish rfl ((if_neg (not_flitDropped hc hup hlen)).trans (if_pos hcrc)), fun hcrc hepoch => ?_⟩
    intro type seq s1 s2
    have hgood := ends_flit_of_good hc hup hlen hcrc hepoch (type := type) (seq := seq) (s2 := s2) rfl rfl rfl
    refine ⟨fun h1 h2 => ?_, fun htype hseq => ?_, fun hseq => ⟨fun htype => ?_, fun htype => ?_⟩⟩
    · rw [if_neg (not_or.mpr ⟨h1, h2⟩)] at hgood
      exact hgood
    · rw [if_pos htype, if_pos hseq] at hgood
      exact hgood
    · have h2 : ¬ type = 2 := fun h => absurd (htype.symm.trans h) (by decide)
      simp only [if_pos (Or.inl htype : type = 1 ∨ type = 2), if_neg (not_not.mpr hseq), if_pos htype, if_neg h2] at hgood
      exact hgood
    · have h1 : ¬ type = 1 := fun h => absurd (htype.symm.trans h) (by decide)
      simp only [if_pos (Or.inr htype : type = 1 ∨ type = 2), if_neg (not_not.mpr hseq), if_neg h1, if_pos htype] at hgood
      exact hgood
  · intro c last s hc hup
    exact ⟨ends_of_finish rfl (if_pos ⟨hc, hup⟩), fun hretry => ends_of_finish rfl (if_pos ⟨hc, hup, hretry⟩)⟩
  · intro c lane s hc hl hin r
    exact ends_of_finish rfl (if_neg (by simp [hc, hl, hin]))
  · intro c m id s hc hup x
    have hgo : ¬ (2 ≤ c ∨ s.cpUp c = false) := by simp [hc, hup]
    subst x
    exact ⟨fun k hk => ends_of_finish rfl ((if_neg hgo).trans (by simp only [hk])),
      fun hnone => ends_widthProposal_of_none hc hup hnone⟩
  · intro c s hc
    exact ends_of_finish rfl (if_pos hc)
  · intro c t s hc ht s1
    exact ends_of_finish rfl ((if_neg hc.not_ge).trans (by simp only [ht, s1]))
  · intro d b c s hroute hbest hne hacked
    refine ends_of_finish rfl ?_
    simp only [hroute, hbest, hacked]
    exact if_pos ⟨hne, rfl⟩
  · intro p e n s hp
    exact ⟨ends_of_finish rfl (if_pos hp), ends_of_finish rfl (if_pos hp), fun body => ends_of_finish rfl (if_pos hp)⟩
  · intro p q b s
    exact ends_of_finish rfl rfl
  · intro c d r s hc hframes
    exact ends_of_finish rfl ((if_neg hc.not_ge).trans (by simp only [hframes]))
  · intro s hon s1
    have hgo : ¬ s.inService 19 = false := by simp [hon]
    refine ⟨fun hhome => ends_of_finish rfl ((if_neg hgo).trans (if_pos hhome)),
      fun hhome hheld hpeer => ends_of_finish rfl ((if_neg hgo).trans ((if_neg (ne_true_of_eq_false hhome)).trans (if_pos ⟨hheld, hpeer⟩)))⟩
  · intro d x s hhome hd hne hx s1 s2
    have hgo : ¬ (!s.isHome || decide (s.cvSize ≤ d) || d == s.cvId) = true := by simp [hhome, hd, hne]
    exact ends_of_finish rfl ((if_neg hgo).trans (by simp only [hx, s1, s2]))
  · intro s hacks s1
    exact ends_of_finish rfl (if_neg (by simpa using hacks))
  · intro l s
    exact ends_of_finish rfl rfl
  · intro s hctrl hst harb hq hfw s1 cl
    exact ends_of_finish rfl (if_neg (by simp [hctrl, hst, harb, hq, hfw]))

/-! The 0x0Dxx opcodes -/

/-- Settles O58. -/
theorem convoyOpcodesComplete : Obligations.ConvoyOpcodesComplete := by
  refine ⟨?_, ?_, ?_, ?_, ?_, ?_, ?_, ?_⟩
  · intro w u
    exact carries_of_done (fun _ => rfl) rfl
  · intro w u hheld
    exact carries_of_done (fun _ => rfl) (if_neg (ne_true_of_eq_false hheld))
  · intro w u hc
    exact carries_of_done (fun _ => rfl) (if_neg hc.not_gt)
  · intro w u hc hup hnone c m
    have hfree : ¬ (u.cpUp (w.u8 0) = false ∨ (u.cp (w.u8 0)).proposal.isSome = true) := by simp [hup, hnone]
    refine ⟨fun hfull => pends_of_pend (fun _ => rfl) ((if_neg ?_).trans ((if_neg hfree).trans ?_)),
      fun hfull hm hret hwidth => pends_of_pend (fun _ => rfl) ((if_neg ?_).trans ((if_neg hfree).trans ?_))⟩
    · exact not_or.mpr ⟨hc.not_gt, fun h => ne_false_of_eq_true hfull h.1⟩
    · exact congrArg (WbOut.pend _ _ _) (if_pos hfull)
    · rintro (h | ⟨-, h | h | h⟩)
      exacts [hc.not_gt h, hm.not_ge h, h hret, hwidth.not_gt h]
    · exact congrArg (WbOut.pend _ _ _) (if_neg (ne_true_of_eq_false hfull))
  · intro w u hd hp k
    exact carries_of_done (fun _ => rfl) (if_neg (by omega))
  · intro w u d
    exact carries_of_done (fun _ => rfl) rfl
  · intro w u hpeer
    exact pends_of_pend (fun _ => rfl) (if_neg (ne_false_of_eq_true hpeer))
  · intro w u hidle s1 parts s2
    refine pends_of_pend (fun _ => rfl) ?_
    subst s2 parts s1
    simp only [cvSealCommitBody, if_neg (ne_true_of_eq_false hidle)]

end Sys2Proof.Machine

/-! CLAIM. The network ports, the PTP clock and the return of host data (18; 13 R463): the statement O59. -/

namespace Sys2Proof.Machine

open Sys2Proof

/-! Transmission -/

section Transmission

variable {p h : Nat} {f : Frame} {s : State}

/-- A whole frame with a bad FCS leaves a port and counts as an error (R586). -/
theorem ends_frameTxDone_of_badFcs (hp : p < 8) (hwire : s.onWireOf p = some (h, f)) (htail : f.tail = false)
    (hbad : f.badFcs = true) (hloop : s.looped p = false) :
    Ends (.frameTxDone p) s (((s.emit (.netFrame p (padded f.wire) true)).bump (Reg.NP_TX_ERR p)).endFrame h) := by
  refine ends_of_finish rfl ((if_neg hp.not_ge).trans ?_)
  simp only [hwire, htail, hbad, hloop, Bool.false_and, Bool.false_eq_true, if_false, if_true]

/-- A whole good frame leaves a port, is counted and completes its entry (R580, R586). -/
theorem ends_frameTxDone_of_good (hp : p < 8) (hwire : s.onWireOf p = some (h, f)) (htail : f.tail = false)
    (hbad : f.badFcs = false) (hloop : s.looped p = false) :
    Ends (.frameTxDone p) s (((((s.emit (.netFrame p (padded f.wire) false)).bump64 (Reg.NP_TX_FRAMES p) 1).bump64
      (Reg.NP_TX_BYTES p) (padded f.wire).length).txComplete f f.txTs).endFrame h) := by
  refine ends_of_finish rfl ((if_neg hp.not_ge).trans ?_)
  simp only [hwire, htail, hbad, hloop, Bool.false_and, Bool.false_eq_true, if_false]

/-- A looped port that is up receives the frame itself (R589). -/
theorem ends_frameTxDone_of_looped (hp : p < 8) (hwire : s.onWireOf p = some (h, f)) (htail : f.tail = false)
    (hbad : f.badFcs = false) (hloop : s.looped p = true) (hup : s.portUp p = true) :
    Ends (.frameTxDone p) s (((((s.bump64 (Reg.NP_TX_FRAMES p) 1).bump64 (Reg.NP_TX_BYTES p)
      (padded f.wire).length).txComplete f f.txTs).endFrame h).receive p (padded f.wire) true) := by
  refine ends_of_finish rfl ((if_neg hp.not_ge).trans ?_)
  simp only [hwire, htail, hbad, hloop, hup, Bool.and_self, Bool.false_eq_true, if_false, if_true]

/-- A fault on the wire ends the bytes sent so far in an inverted FCS, and the frame stands at the head of its queue again (R229). -/
theorem ends_txFaultOnWire_of_queued {sent q : Nat} {x : TmQ} (hp : p < 8) (hwire : s.onWireOf p = some (h, f))
    (hq : f.charge = some q) :
    let s2 := (((s.emit (.netFrame p (padded (f.wire.take sent)) true)).bump (Reg.NP_TX_ERR p)).bump Reg.LG_TX_RESTARTS).replayFrame f
    s2.tmq? q = some x →
    Ends (.txFaultOnWire p sent false) s ((s2.setTmq q { x with frames := h :: x.frames }).setFrame h
      { f with stage := .queued q, wire := [], txTs := none }) := by
  intro s2 hx
  subst s2
  refine ends_of_finish rfl ((if_neg hp.not_ge).trans ?_)
  simp only [hwire, hq, hx, Bool.false_eq_true, if_false]

end Transmission

/-! The PTP clock -/

/-- A step forward of less than 2^63 ns moves the clock by it (R592). -/
theorem ptpAdjustBody_of_step {w : Waybill} {u : State} (hop : w.u8 0 = 0) (hv : w.u64 4 < 2 ^ 63) :
    ptpAdjustBody w u = .done .ok (leBytes 4 (u.regN Reg.PTP_FREQ)) (u.ptpRebase (u.ptpNow + w.u64 4 * ptpUnit)) := by
  have hpos : ¬ ((u.ptpNow : Int) + (w.u64 4 : Int) * ptpUnit < 0) := not_lt.mpr (by positivity)
  simp only [ptpAdjustBody, hop, if_pos hv, if_neg hpos]
  norm_cast

/-- Settles O59. -/
theorem portsComplete : Obligations.PortsComplete := by
  refine ⟨?_, ?_, ?_, ?_, ?_, ?_, ?_, ?_, ?_, ?_, ?_, ?_, ?_, ?_, ?_, ?_, ?_⟩
  · intro p s hport
    refine ⟨fun hadmin hdown => ?_, fun hloop => ?_⟩
    · exact ends_of_finish rfl (if_neg (by simp [hport, hadmin, hdown]))
    · have hgo : ¬ (!s.hasPort p || s.looped p) = true := by simp [hport, hloop]
      refine ⟨ends_of_finish rfl (if_neg hgo), ends_of_finish rfl (if_neg hgo), ends_of_finish rfl (if_neg hgo),
        ends_of_finish rfl (if_neg hgo), fun hdown hforced => ?_⟩
      exact ends_of_finish rfl ((if_neg hgo).trans (if_neg (by simp [hdown, hforced])))
  · intro p t s ht s1
    exact ends_of_finish rfl (by simp only [ht, s1])
  · intro p q en l s hp hup
    exact ⟨ends_of_finish rfl (if_pos ⟨hp, hup⟩), ends_of_finish rfl (if_pos ⟨hp, hup⟩)⟩
  · intro p c t s hc
    have hmod := Nat.mod_eq_of_lt hc
    refine ⟨fun ht => ends_of_finish rfl (by simp only [hmod, ht]), fun ht => ?_⟩
    intro s1 pfc s2
    exact ends_of_finish rfl (by simp only [hmod, ht, s1, pfc, s2])
  · intro p h f s hp hwire htail
    exact ⟨ends_frameTxDone_of_badFcs hp hwire htail, ends_frameTxDone_of_good hp hwire htail,
      ends_frameTxDone_of_looped hp hwire htail⟩
  · intro p sent h q f x s hp hwire hq
    exact ends_txFaultOnWire_of_queued hp hwire hq
  · intro s hon hclk goal s1 n1
    exact ends_of_finish rfl (if_neg (by simp [hon, hclk]))
  · intro t s ht s1
    exact ends_of_finish rfl (by simp only [ht, s1])
  · intro s hon hclk
    exact ends_of_finish rfl (if_neg (by simp [hon, hclk]))
  · intro data s
    refine ⟨fun c => ends_of_finish rfl rfl, fun q i => ends_of_finish rfl rfl, fun fn hrun hen => ends_of_finish rfl ?_⟩
    exact if_neg (by simp [hrun, hen])
  · intro w u hp p
    exact carries_of_done (fun _ => rfl) (if_neg hp.not_gt)
  · intro w u hgood v old ch
    exact carries_of_done (fun _ => rfl) (if_neg (ne_true_of_eq_false hgood))
  · intro w u hport hflow p s1 s2 s3
    refine carries_of_done (fun _ => rfl) (if_neg ?_)
    cases hmask : (w.u8 1).testBit 1
    · simp [hport]
    · simp [hport, hflow hmask]
  · intro w u hport
    exact carries_of_done (fun _ => rfl) (if_neg (by simp [hport]))
  · intro w u
    exact carries_of_done (fun _ => rfl) rfl
  · intro w u old
    refine ⟨fun hop hv => carries_of_done (fun _ => rfl) (ptpAdjustBody_of_step hop hv),
      fun hop hlo hhi => carries_of_done (fun _ => rfl) ?_, fun hop hns => carries_of_done (fun _ => rfl) ?_⟩
    · simp only [ptpAdjustBody, hop, if_neg (not_or.mpr ⟨hlo.not_gt, hhi.not_gt⟩), old]
    · simp only [ptpAdjustBody, hop, if_neg hns.not_gt, old]
  · intro w u
    exact carries_of_done (fun _ => rfl) rfl

end Sys2Proof.Machine
